-- ==== Sys2Proof/Word.lean ====
section
/-!
DEFINITION. The plainest data of the engine: the 32-bit register word, the byte, a register field's place, and the
arithmetic functions of R2.
-/
namespace Sys2Proof

/-- A register: 32 bits wide (00_scope, Registers and how to read the maps). -/
abbrev Word := BitVec 32

/-- A byte of memory. -/
abbrev Byte := BitVec 8

namespace Machine

/-- A field NAME[msb:lsb] of the register at `addr`. -/
structure Fld where
  addr : Nat
  msb  : Nat
  lsb  : Nat
  deriving DecidableEq, Repr

end Machine

end Sys2Proof
end

