-- ==== Sys2Proof/Packet.lean ====
section
/-!
DEFINITION. What travels on the host link, as plain data: the ports, the opcodes and status codes of the command chapter,
a command as CMD receives it and a reply as CMD queues it (R257 to R259).
-/
namespace Sys2Proof.Machine

/-- The two host ports. -/
inductive Port where
  | a | b
  deriving DecidableEq, Repr

/-- Port number: 0 A, 1 B. -/
def Port.num : Port → Nat
  | .a => 0
  | .b => 1

/-- The other port. -/
def Port.other : Port → Port
  | .a => .b
  | .b => .a

/-- The port of a number. -/
def portOf (n : Nat) : Port := if n % 2 = 0 then .a else .b

/-- The opcodes of the command chapter. -/
inductive Opcode where
  | nop | ping | tack | readReg | writeReg | modifyReg
  | readBlock | fence | fenceGlobal | thimbleAcquire | thimbleRelease | thimbleQuery
  | surfWrite | surfRead | surfFill | surfCopy | tableLoad | tableRead
  | layerSet | layerEnable | layerDisable | commit | commitAt | retireQuery
  | safeMsg | spbLoad | safeStatus | safeTest | loopCfg | loopEnable
  | loopDisable | setpoint | loopHold | traceArm | traceRead | adcSeqCfg
  | adcStart | adcStop | tempMeasure | calRun | calRead | calWrite
  | powerEnter | powerQuery | vscale | faultRead | faultClear | faultCfg
  | healthRead | spareForce | proofReq | crcRun | linkTest | linkInject
  | chanCfg | chanQuery | fwPatchLoad | fwPatchActivate | stateRead | resync
  | deviceInfo
  /-- An opcode that the table does not have. -/
  | unknown (n : BitVec 8)
  deriving DecidableEq, Repr

/-- OPCODE[31:24] of payload word 0. -/
def Opcode.code : Opcode → Nat
  | .nop => 0x00
  | .ping => 0x01
  | .tack => 0x02
  | .readReg => 0x08
  | .writeReg => 0x09
  | .modifyReg => 0x0A
  | .readBlock => 0x0C
  | .fence => 0x10
  | .fenceGlobal => 0x11
  | .thimbleAcquire => 0x14
  | .thimbleRelease => 0x15
  | .thimbleQuery => 0x16
  | .surfWrite => 0x20
  | .surfRead => 0x21
  | .surfFill => 0x22
  | .surfCopy => 0x23
  | .tableLoad => 0x28
  | .tableRead => 0x29
  | .layerSet => 0x30
  | .layerEnable => 0x31
  | .layerDisable => 0x32
  | .commit => 0x34
  | .commitAt => 0x35
  | .retireQuery => 0x36
  | .safeMsg => 0x40
  | .spbLoad => 0x41
  | .safeStatus => 0x42
  | .safeTest => 0x43
  | .loopCfg => 0x48
  | .loopEnable => 0x49
  | .loopDisable => 0x4A
  | .setpoint => 0x4B
  | .loopHold => 0x4C
  | .traceArm => 0x4D
  | .traceRead => 0x4E
  | .adcSeqCfg => 0x50
  | .adcStart => 0x51
  | .adcStop => 0x52
  | .tempMeasure => 0x54
  | .calRun => 0x58
  | .calRead => 0x59
  | .calWrite => 0x5A
  | .powerEnter => 0x60
  | .powerQuery => 0x61
  | .vscale => 0x62
  | .faultRead => 0x68
  | .faultClear => 0x69
  | .faultCfg => 0x6A
  | .healthRead => 0x70
  | .spareForce => 0x71
  | .proofReq => 0x72
  | .crcRun => 0x78
  | .linkTest => 0x7C
  | .linkInject => 0x7D
  | .chanCfg => 0x80
  | .chanQuery => 0x81
  | .fwPatchLoad => 0x88
  | .fwPatchActivate => 0x89
  | .stateRead => 0x90
  | .resync => 0x91
  | .deviceInfo => 0xF0
  | .unknown n => n.toNat

/-- Every opcode. -/
def allOpcodes : List Opcode := [
  .nop, .ping, .tack, .readReg, .writeReg, .modifyReg, .readBlock, .fence,
  .fenceGlobal, .thimbleAcquire, .thimbleRelease, .thimbleQuery, .surfWrite, .surfRead, .surfFill, .surfCopy,
  .tableLoad, .tableRead, .layerSet, .layerEnable, .layerDisable, .commit, .commitAt, .retireQuery,
  .safeMsg, .spbLoad, .safeStatus, .safeTest, .loopCfg, .loopEnable, .loopDisable, .setpoint,
  .loopHold, .traceArm, .traceRead, .adcSeqCfg, .adcStart, .adcStop, .tempMeasure, .calRun,
  .calRead, .calWrite, .powerEnter, .powerQuery, .vscale, .faultRead, .faultClear, .faultCfg,
  .healthRead, .spareForce, .proofReq, .crcRun, .linkTest, .linkInject, .chanCfg, .chanQuery,
  .fwPatchLoad, .fwPatchActivate, .stateRead, .resync, .deviceInfo]

/-- The opcode of a code, if the table has it. -/
def opcodeOf (n : Nat) : Option Opcode := allOpcodes.find? (fun o => decide (o.code = n))

/-- The status codes. -/
inductive Status where
  | ok | acceptedPending | duplicate | badOpcode | badLength | badParam
  | badAddress | notPrivileged | thimbleHeld | blockOff | busy | stale
  | rateLimited | authFail | thimbleRequired | commitRejected | commitLate | tableRejected
  | sealMismatch | safeState | calDisagree | powerRefused | internalError
  deriving DecidableEq, Repr

/-- STATUS[31:24] of a reply word. -/
def Status.code : Status → Nat
  | .ok => 0x00
  | .acceptedPending => 0x01
  | .duplicate => 0x02
  | .badOpcode => 0x10
  | .badLength => 0x11
  | .badParam => 0x12
  | .badAddress => 0x13
  | .notPrivileged => 0x14
  | .thimbleHeld => 0x15
  | .blockOff => 0x16
  | .busy => 0x17
  | .stale => 0x18
  | .rateLimited => 0x19
  | .authFail => 0x1A
  | .thimbleRequired => 0x1B
  | .commitRejected => 0x20
  | .commitLate => 0x21
  | .tableRejected => 0x22
  | .sealMismatch => 0x23
  | .safeState => 0x24
  | .calDisagree => 0x30
  | .powerRefused => 0x31
  | .internalError => 0x3F

/-- An ECC error that a read of this step meets: the address of its 64-bit word, and whether it is uncorrectable
(R160, R167). It is an observation of the environment: the memory cells' condition is not the block's doing. -/
structure EccErr where
  addr : Nat
  ue   : Bool
  deriving DecidableEq, Repr

/-- A command packet as CMD receives it from a port (R257, R258). `words` are payload words 1 to LEN - 1; `ptype` is the
packet's PTYPE; `tagOk` is the port's report on the CMAC trailer (R234). The opcode is the command's own. -/
structure Cmd where
  port   : Port
  ptype  : BitVec 4
  chan   : BitVec 8
  f      : Bool
  a      : Bool
  d      : Bool
  seq    : BitVec 16
  claim  : BitVec 16
  tag    : BitVec 8
  param0 : BitVec 16
  words  : List Word
  tagOk  : Bool
  /-- The ECC errors that the memory reads of the command's execution meet. -/
  errs   : List EccErr
  /-- The command's execution falls into the clock cycle of what the block did last at this moment (R7, R210, R299). It is an
  observation; a command without it has a cycle of its own (DESIGN CHOICE, log entry 116). -/
  tie    : Bool
  /-- What the command's execution observes of the world, where its meaning says that it does: results of self-checks,
  of a signature check, and the like. -/
  obs    : List Nat
  deriving DecidableEq, Repr

/-- LEN of the command: payload word 0 and the words after it. -/
def Cmd.len (c : Cmd) : Nat := c.words.length + 1

/-- Payload word `i` of the command, `i` at least 1; 0 beyond LEN. -/
def Cmd.w (c : Cmd) (i : Nat) : Nat := (c.words.getD (i - 1) 0#32).toNat

/-- PARAM0. -/
def Cmd.p0 (c : Cmd) : Nat := c.param0.toNat

/-- The command's channel number. -/
def Cmd.ch (c : Cmd) : Nat := c.chan.toNat

/-- EPOCH of the claim (R287). -/
def Cmd.epoch (c : Cmd) : Nat := c.claim.toNat / 2

/-- ID of the claim (R287). -/
def Cmd.claimId (c : Cmd) : Nat := c.claim.toNat % 2

/-- A data packet as CMD receives it from a port (R261): its payload words, word 0 first; `dup` is FLAGS.D. -/
structure DataPkt where
  port  : Port
  chan  : BitVec 8
  f     : Bool
  a     : Bool
  dup   : Bool
  seq   : BitVec 16
  claim : BitVec 16
  words : List Word
  tagOk : Bool
  errs  : List EccErr
  deriving DecidableEq, Repr

/-- A reply as CMD queues it (R259): the port it leaves on, its header fields, and its payload. `key` is the CMAC slot of
the channel entry the command was admitted by (R234, R270). -/
structure Reply where
  port   : Port
  chan   : Nat
  seq    : Nat
  claim  : Nat
  status : Status
  tag    : Nat
  fnLow  : Nat
  words  : List Nat
  key    : Option Nat
  deriving DecidableEq, Repr

/-- One register write of a write group (R303). -/
structure RegWrite where
  addr  : Nat
  value : Word
  deriving DecidableEq, Repr

/-- The control characters of R228. -/
inductive Ctrl where
  | com | skp | ts1 | ts2 | idl | eie | sop | eop | edb
  deriving DecidableEq, Repr

/-- A symbol of a lane: a control character, a data byte, or a control character whose bit a is inverted (R228, R254). The ten bits
of the 8b/10b code are not spelled out (log entry 117). -/
inductive Sym where
  | k (c : Ctrl)
  | d (b : Nat)
  | hurt (c : Ctrl)
  deriving DecidableEq, Repr

/-- A training set as a lane receives it: TS1 or TS2, symbols 2 to 6, and the data character of symbols 7 to 15 (R228). -/
structure TrainSet where
  ts2   : Bool
  port  : BitVec 8
  lane  : BitVec 8
  rate  : BitVec 8
  flags : BitVec 8
  txeq  : BitVec 8
  rest  : BitVec 8
  deriving DecidableEq, Repr

/-- One conversion, as the converter reports it: its raw code, and whether its sample was over-range (R410): below the range
(false) or above it (true). It is an observation of the environment. -/
structure Conv where
  code : BitVec 12
  ovr  : Option Bool
  deriving DecidableEq, Repr

/-- What the readbacks of an off-pulse window show (R329). P0, by row: the kill before the pulse ends, at some time from 0.5 µs after
it, and throughout the window. P1, by zone: open before the pulse ends, closed from 0.5 µs after it, and open throughout. P2:
SAFE_SNS open before the pulse ends, and throughout. -/
structure OffObs where
  kill     : BitVec 640
  killLate : BitVec 640
  killHeld : BitVec 640
  opens    : BitVec 8
  closed   : BitVec 8
  openHeld : BitVec 8
  snsOpen  : Bool
  snsHeld  : Bool
  deriving DecidableEq, Repr

/-- One measurement of a column's four reference elements by CAL: the error of each in 0.05 % (R470). -/
structure ColErr where
  e0 : Int
  e1 : Int
  e2 : Int
  e3 : Int
  deriving DecidableEq, Repr

/-- The two measurements of one receiver slice: eye centres relative to the applied phase, and eye widths, in 1/64 UI (R472). -/
structure SliceMeas where
  c1 : Int
  w1 : Nat
  c2 : Int
  w2 : Nat
  deriving DecidableEq, Repr

/-- What a converter calibration measures (R473): the sums S0 and S1 of the two sets of a converter, or the two values of the
pair's skew. -/
inductive ConvMeas where
  | trim (s0 s1 r0 r1 : Nat)
  | skew (a b : Int)
  deriving DecidableEq, Repr

/-- The loop slots of R404 that convert. -/
inductive LoopSlot where
  | rail (a b : Conv)
  | hall (a b : Conv)
  | vbat (x : Conv)
  deriving DecidableEq, Repr

end Sys2Proof.Machine
end

