-- ==== Sys2Proof/Syntax.lean ====
section
/-!
DEFINITION. The commands and events of the block: one constructor per row of the opcode table, in its order. A command of a host
carries its packet; an event carries what it observes of the world outside the digital logic.
-/
namespace Sys2Proof

open Machine in
/-- The commands that the block takes (spec/opcode_table.json). -/
inductive Instr where
  /-- NOP (R506). Command that does nothing beyond admission and a reply, with PARAM0 required to be 0. -/
  | nop (c : Cmd)
  /-- PING (R259). Command that echoes its words back, with the current FN in APPLIED_FN_LOW. -/
  | ping (c : Cmd)
  /-- TACK (R291). Host heartbeat packet: admitted by steps 1, 2, 4 and 9 only, it beats the link path and is answered with DEV_GUARANTEE and DEV_LADDER. -/
  | tack (c : Cmd)
  /-- READ_REG (R10). Command that reads one register or SRAM word, subject to the address and access rules. -/
  | readReg (c : Cmd)
  /-- WRITE_REG (R10). Command that writes one register, using that register's own row where it has one and the general write row otherwise. -/
  | writeReg (c : Cmd)
  /-- MODIFY_REG (R282). Command that performs an indivisible read-mask-write of one register and returns the old value. -/
  | modifyReg (c : Cmd)
  /-- READ_BLOCK (R282). Command that reads up to 511 words within one block or SRAM region. -/
  | readBlock (c : Cmd)
  /-- FENCE (R274). Command answered once every earlier command of its channel is complete. -/
  | fence (c : Cmd)
  /-- FENCE_GLOBAL (R274). Command that holds all later commands on every channel until every earlier command is complete. -/
  | fenceGlobal (c : Cmd)
  /-- THIMBLE_ACQUIRE (R275). Command that grants, renews or waits for a Thimble lease for the port. -/
  | thimbleAcquire (c : Cmd)
  /-- THIMBLE_RELEASE (R277). Command that releases a Thimble held by the port and grants it to any waiting request. -/
  | thimbleRelease (c : Cmd)
  /-- THIMBLE_QUERY (R278). Command that returns CMD_THIMBLE_STAT and the eight Thimble states. -/
  | thimbleQuery (c : Cmd)
  /-- SURF_WRITE (R283). Command that opens a transfer writing host data into surface memory. -/
  | surfWrite (c : Cmd)
  /-- SURF_READ (R283). Command that reads up to 2,044 bytes of surface memory. -/
  | surfRead (c : Cmd)
  /-- SURF_FILL (R283). Command that fills a surface range with a 32-bit pattern. -/
  | surfFill (c : Cmd)
  /-- SURF_COPY (R283). Command that copies a surface range to a non-overlapping destination. -/
  | surfCopy (c : Cmd)
  /-- TABLE_LOAD (R284). Command that opens a transfer of a table image and validates it and installs it once the image is whole. -/
  | tableLoad (c : Cmd)
  /-- TABLE_READ (R512). Command that reads a range of a table's readable image. -/
  | tableRead (c : Cmd)
  /-- LAYER_SET (R118). Command that writes all eleven shadow registers of one layer in one cycle. -/
  | layerSet (c : Cmd)
  /-- LAYER_ENABLE (R119). Command that sets EN and FADE in a layer's shadow CTRL. -/
  | layerEnable (c : Cmd)
  /-- LAYER_DISABLE (R119). Command that clears EN and sets FADE in a layer's shadow CTRL. -/
  | layerDisable (c : Cmd)
  /-- COMMIT (R129). Command that arms a commit for the next composition-start latch. -/
  | commit (c : Cmd)
  /-- COMMIT_AT (R134). Command that arms a commit for a named future frame, or answers COMMIT_LATE. -/
  | commitAt (c : Cmd)
  /-- RETIRE_QUERY (R177). Command that reports whether a surface range is still in use, together with the latch token. -/
  | retireQuery (c : Cmd)
  /-- SAFE_MSG (R352). A safety message copy reaches the SMC and is sorted, compared with its twin or windowed, and decided. -/
  | safeMsg (c : Cmd)
  /-- SPB_LOAD (R338). Command that validates a safety parameter block, optionally seals it, and schedules it for the next tick. -/
  | spbLoad (c : Cmd)
  /-- SAFE_STATUS (R367). Command that returns eight SMC status words captured in one SAFE cycle. -/
  | safeStatus (c : Cmd)
  /-- SAFE_TEST (R368). Command that runs the checker test or self-checks, or forces the next off-pulse test of a path to fail. -/
  | safeTest (c : Cmd)
  /-- LOOP_CFG (R397). Command that writes one loop's configuration registers together. -/
  | loopCfg (c : Cmd)
  /-- LOOP_ENABLE (R279). Command that enables the rail, levelling or fan unit by the unit-state rules. -/
  | loopEnable (c : Cmd)
  /-- LOOP_DISABLE (R279). Command that disables the rail, levelling or fan unit by the unit-state rules. -/
  | loopDisable (c : Cmd)
  /-- SETPOINT (R389). Command that writes a new target for the rail, levelling or fan loop. -/
  | setpoint (c : Cmd)
  /-- LOOP_HOLD (R378). Command that starts or ends a hold of the rail loop's base current and integrator. -/
  | loopHold (c : Cmd)
  /-- TRACE_ARM (R399). Command that arms a loop engine's trace capture with its signals and trigger. -/
  | traceArm (c : Cmd)
  /-- TRACE_READ (R400). Command that reads captured trace records once a capture is done. -/
  | traceRead (c : Cmd)
  /-- ADC_SEQ_CFG (R417). Command that configures a converter sequence, its Bobbin and its entries. -/
  | adcSeqCfg (c : Cmd)
  /-- ADC_START (R416). Command that enables a sequence as a unit. -/
  | adcStart (c : Cmd)
  /-- ADC_STOP (R416). Command that disables a sequence as a unit. -/
  | adcStop (c : Cmd)
  /-- TEMP_MEASURE (R211). Command that demands a temperature measurement and is answered when it ends. -/
  | tempMeasure (c : Cmd)
  /-- CAL_RUN (R468). Command that enables or disables a calibration run, optionally waiting for its end. -/
  | calRun (c : Cmd)
  /-- CAL_READ (R475). Command that returns a target's calibration record. -/
  | calRead (c : Cmd)
  /-- CAL_WRITE (R475). Command that restores a calibration record to take effect at the target's next apply point. -/
  | calWrite (c : Cmd)
  /-- POWER_ENTER (R438). Command that evaluates the refusers and arms entry into D1 or D2, or leaves D1. -/
  | powerEnter (c : Cmd)
  /-- POWER_QUERY (R450). Command that returns the PMU state, operating point, wake, refusal and reset-cause registers. -/
  | powerQuery (c : Cmd)
  /-- VSCALE (R443). Command that changes the core operating point under the voltage interlock. -/
  | vscale (c : Cmd)
  /-- FAULT_READ (R431). Command that returns history entries, source settings or FCR status. -/
  | faultRead (c : Cmd)
  /-- FAULT_CLEAR (R432). Command that empties stored FNs or the history queue, releases the first-error record, or clears MAX_SEV. -/
  | faultClear (c : Cmd)
  /-- FAULT_CFG (R433). Command that rewrites a source's severity, window, thresholds and reactions, subject to the weakening rules. -/
  | faultCfg (c : Cmd)
  /-- HEALTH_READ (R202). Command that reads health nibbles, suspect-cache entries or PXH summary counts. -/
  | healthRead (c : Cmd)
  /-- SPARE_FORCE (R203). Command that forces a pixel's SPARE or DEAD bit and its health state. -/
  | spareForce (c : Cmd)
  /-- PROOF_REQ (R205). Command that sets AGE 3 on a range of pixels so that they are proven. -/
  | proofReq (c : Cmd)
  /-- CRC_RUN (R457). Command that initialises, feeds, runs over memory with, or reads a check-value unit. -/
  | crcRun (c : Cmd)
  /-- LINK_TEST (R253). Command that starts or stops a PRBS lane test on idle lanes. -/
  | linkTest (c : Cmd)
  /-- LINK_INJECT (R254). Command that arms error injection on a port for COUNT occasions. -/
  | linkInject (c : Cmd)
  /-- CHAN_CFG (R270). Command that rewrites a channel table entry. -/
  | chanCfg (c : Cmd)
  /-- CHAN_QUERY (R270). Command that returns a channel table entry. -/
  | chanQuery (c : Cmd)
  /-- FW_PATCH_LOAD (R448). Command that stages a chunk of a firmware patch and verifies the image on the last chunk. -/
  | fwPatchLoad (c : Cmd)
  /-- FW_PATCH_ACTIVATE (R449). Command that drains commands, checkpoints and restarts both cores with the staged patch. -/
  | fwPatchActivate (c : Cmd)
  /-- STATE_READ (R319). Command that returns the host, stream, journal and frame state for resynchronisation. -/
  | stateRead (c : Cmd)
  /-- RESYNC (R320). Command that makes a port's host PRESENT again or revives the duplicate stream. -/
  | resync (c : Cmd)
  /-- DEVICE_INFO (R30). Command that returns the nine DEV registers captured in one cycle. -/
  | deviceInfo (c : Cmd)
  /-- DATA_PACKET (R261). A data packet of an open transfer arrives and its data are taken, or a stray one is discarded. -/
  | dataPacket (d : DataPkt)
  /-- XFER_TIMEOUT (R262). No data packet arrives within XFER_TO, so the transfer is abandoned. -/
  | xferTimeout (p : Port) (ch : BitVec 8)
  /-- CHAN_TIMEOUT (R268). A channel sees no packet for TIMEOUT ticks, so CHAN_TIMEOUT is raised and its transfers are abandoned. -/
  | chanTimeout (ch : BitVec 8)
  /-- DUP_HOLD_EXPIRY (R295). A held first copy on a DUP channel is admitted alone after DUP_HOLD without a twin. -/
  | dupHoldExpiry (ch : BitVec 8)
  /-- THIMBLE_LEASE_EXPIRY (R277). A Thimble's lease expires, so it is released and THIMBLE_LEASE is raised. -/
  | thimbleLeaseExpiry (t : Fin 8)
  /-- THIMBLE_WAIT_EXPIRY (R275). A waiting acquire runs out of WAIT and is answered THIMBLE_HELD. -/
  | thimbleWaitExpiry (t : Fin 8)
  /-- FENCE_RELEASE (R274). Earlier commands of a channel complete, so a waiting fenced command, FENCE or F-flag COMMIT proceeds. -/
  | fenceRelease
  /-- WRITE_GROUP_APPLY (R304). The active core ends a write group, the output stage applies it whole, compares it with the stand-in group and releases the reply. -/
  | writeGroupApply (core : Fin 2) (epoch : BitVec 15) (jseq : Word) (writes : List RegWrite) (reply : Option Reply)
  /-- STALE_WRITE_REJECT (R303). A core write with a stale epoch gets a bus error and the core is demoted. -/
  | staleWriteReject (core : Fin 2) (epoch : BitVec 15)
  /-- CORE_BEAT (R305). A running core beats to CCX, restarting its age. -/
  | coreBeat (core : Fin 2)
  /-- CORE_HB_TIMEOUT (R305). A core's beat age reaches CC_HB_TIMEOUT, so the core is lost. -/
  | coreHbTimeout (core : Fin 2) (tie : Bool)
  /-- CORE_RESTART_DONE (R309). The first core to finish its restart becomes active and takes a checkpoint. -/
  | coreRestartDone (core : Fin 2)
  /-- RECOVERY_END (R306). Every command admitted before detection completes, so RECOVERING returns to 0 and CCX_RECOVERY is recorded. -/
  | recoveryEnd
  /-- CHECKPOINT_COMMIT (R316). The slot's MAGIC is written last, committing the checkpoint and moving JBASE. -/
  | checkpointCommit (body : List Word)
  /-- BASTE_START (R317). A demoted core begins basting by loading the newest committed slot. -/
  | basteStart (core : Fin 2) (errs : List EccErr)
  /-- BASTE_JOIN (R317). A basting core reaches the live journal head and becomes STANDBY. -/
  | basteJoin (core : Fin 2) (errs : List EccErr)
  /-- BASTE_TIMEOUT (R318). A baste has not reached the live head within BASTE_MAX, so it fails. -/
  | basteTimeout
  /-- HEARTBEAT_BEAT (R248). A qualified level change on HB_A or HB_B counts as a beat on the pin path. -/
  | heartbeatBeat (p : Port)
  /-- HOST_HB_TIMEOUT (R293). Neither path of a host has beaten for HOST_HB_TIMEOUT, so the host is LOST, its epoch bumped and its Thimbles released. -/
  | hostHbTimeout (p : Port)
  /-- LANE_SIGNAL_DETECT (R229). Both lanes of a port in DETECT receive signal, so the port goes to ALIGN. -/
  | laneSignalDetect (p : Port)
  /-- TRAINING_SET_RECEIVE (R229). Received TS1 or TS2 sets advance a port through ALIGN, TRAIN and CONFIG to L0. -/
  | trainingSetReceive (p : Port) (t0 t1 : TrainSet) (run sent skew : Nat)
  /-- TRAINING_TIMEOUT (R229). L0 is not reached within 10 ms of DETECT, so the port restarts at DETECT. -/
  | trainingTimeout (p : Port)
  /-- CODE_VIOLATION_LIMIT (R231). More than 8 code violations in 64 symbol times on a lane start a retrain. -/
  | codeViolationLimit (p : Port) (bad misplaced : Nat)
  /-- RETRAIN_TIMEOUT (R231). L0 is not regained within 1 ms of a retrain, so the link goes down and its queues are discarded. -/
  | retrainTimeout (p : Port)
  /-- LINK_PACKET_RECEIVE (R238). A whole link packet is received, checked for CRC, sequence and form, and handed to CMD or NAKed or discarded. -/
  | linkPacketReceive (p : Port) (l0 l1 : List Byte) (edb : Bool) (errs : List EccErr)
  /-- ACK_LATENCY_EXPIRY (R238). ACK_LAT passes since the oldest unacknowledged handoff, so an ACK is sent. -/
  | ackLatencyExpiry (p : Port)
  /-- ACK (R237). A received ACK frees acknowledged packets from the replay buffer. -/
  | ack (p : Port) (v : BitVec 16)
  /-- NAK (R239). A received NAK acknowledges earlier packets and triggers a resend from the named LSEQ. -/
  | nak (p : Port) (v : BitVec 16)
  /-- CREDIT (R240). A received CREDIT moves the transmit credit limit forward, or is ignored if it moves backward. -/
  | credit (p : Port) (v : BitVec 16)
  /-- REPLAY_TIMEOUT (R239). No acknowledgement progress within REPLAY_TO, so every unacknowledged packet is resent. -/
  | replayTimeout (p : Port)
  /-- CREDIT_ADVERTISE (R240). After 64 credits are freed, or 10 µs after any unadvertised credit is freed, a CREDIT is sent. -/
  | creditAdvertise (p : Port)
  /-- CREDIT_STALL_TIMEOUT (R241). A ready packet has waited STALL_TO for credit, so the link goes down. -/
  | creditStallTimeout (p : Port)
  /-- PACKET_TRANSMIT (R242). The engine sends the next link control packet, resend or new packet when credit and replay room allow. -/
  | packetTransmit (p : Port) (errs : List EccErr)
  /-- SKIP_SET_DUE (R227). 1,180 symbol times have passed, so a SKIP ordered set is sent on both lanes. -/
  | skipSetDue (p : Port)
  /-- L1_IDLE_EXPIRY (R243). No packet has crossed the link for L1_IDLE µs, so the engine sends L1_REQ. -/
  | l1IdleExpiry (p : Port)
  /-- L1_REQ (R243). A received L1_REQ is answered L1_ACK or L1_NAK. -/
  | l1Req (p : Port)
  /-- L1_ACK (R243). A received L1_ACK makes both sides send EIOS and enter L1. -/
  | l1Ack (p : Port)
  /-- L1_NAK (R243). A received L1_NAK withdraws the engine's L1 request. -/
  | l1Nak (p : Port)
  /-- L2_REQ (R246). A received L2_REQ is answered L2_ACK or L2_NAK. -/
  | l2Req (p : Port)
  /-- L2_ACK (R246). A received L2_ACK makes the port send EIOS, enter L2 and stop its lane PLL. -/
  | l2Ack (p : Port)
  /-- L2_NAK (R246). A received L2_NAK refuses the PMU's L2 request. -/
  | l2Nak (p : Port)
  /-- L1_EXIT (R245). Activity on a lane in L1 returns the port to L0 within 1 µs. -/
  | l1Exit (p : Port)
  /-- L2_WAKE (R247). A wake pattern qualified for 4 µs on both lanes starts the lane PLL and retraining from ALIGN. -/
  | l2Wake (p : Port)
  /-- ENGINE_L2_EXIT (R247). The engine has a packet for a port in L2, so it starts the lane PLL, sends the wake pattern and sets the WAKE cause. -/
  | engineL2Exit (p : Port)
  /-- WAKE_PATTERN_END (R247). After 8 µs of wake pattern the engine sends TS1 with L2EXIT set. -/
  | wakePatternEnd (p : Port)
  /-- PORT_STOP_COMPLETE (R250). A stopping port's queue drains or 1 ms passes, so it sends EIOS, reaches OFF and runs any pending enable. -/
  | portStopComplete (p : Port)
  /-- LINK_TEST_END (R253). A lane test's DURATION ends, so the test is answered and the ports return to OFF. -/
  | linkTestEnd (e0 : Nat) (e1 : Nat) (e2 : Nat) (e3 : Nat)
  /-- EYE_MEASURE (R255). Every EYE_INT the eye width of each L0 lane is measured, raising LNK_EYE_LOW below EYE_MIN. -/
  | eyeMeasure (lane : Fin 4) (width : BitVec 8)
  /-- PORT_ENABLE (R250). Write of HLx_CTRL.EN = 1 starts the port at DETECT or makes the enable pending. -/
  | portEnable (p : Port)
  /-- PORT_DISABLE (R250). Write of HLx_CTRL.EN = 0 stops the port or cancels a pending enable. -/
  | portDisable (p : Port)
  /-- PORT_RETRAIN (R231). Write of HLx_CTRL.RETRAIN = 1 retrains a port in L0. -/
  | portRetrain (p : Port)
  /-- ATTN_CLEAR (R249). W1C write to HLx_ATTN_STAT clears attention causes unless they recur in that cycle. -/
  | attnClear (p : Port) (mask : BitVec 4) (tie : Bool)
  /-- HLX_CNT_CLR (R256). Write of HLx_CTRL.CNT_CLR clears the port counters. -/
  | hlxCntClr (p : Port)
  /-- LME_CNT_CLR (R256). Write of LME_CTRL.CNT_CLR clears the lane error and sync-loss counters. -/
  | lmeCntClr
  /-- FSYNC_EDGE (R507). A rising edge on FSYNC is qualified or not and used, counted or ignored according to the PLL state. -/
  | fsyncEdge (rise : Nat) (high : Nat)
  /-- FSYNC_WINDOW_END (R38). An acceptance window ends, so the next period is set and a missed edge moves LOCKED or HOLDOVER toward FREERUN. -/
  | fsyncWindowEnd
  /-- ACQUIRE_TIMEOUT (R38). No qualifying edge pair arrives within HOLD_FRAMES nominal periods after RUN, so the PLL goes to FREERUN with tick 1. -/
  | acquireTimeout (at_ : Nat)
  /-- RELOCK_TIMEOUT (R38). No qualified edge arrives in RELOCK within the longest period, so the PLL returns to FREERUN. -/
  | relockTimeout
  /-- SCN_RUN_START (R38). Write of SCN_CTRL.RUN = 1 takes the frame PLL from OFF to ACQUIRE. -/
  | scnRunStart
  /-- SCN_RUN_STOP (R43). Write of SCN_CTRL.RUN = 0 turns the PLL OFF on rung DARK, else is answered BUSY. -/
  | scnRunStop
  /-- SO_EN (R45). Write of SCN_CTRL.SO_EN starts SYNC_OUT at a coming tick or drives it low at once. -/
  | soEn (on : Bool)
  /-- SCN_CNT_CLR (R56). Write of SCN_CTRL.CNT_CLR clears SCN_COUNT. -/
  | scnCntClr
  /-- SYNC_OUT_RISE (R44). SO_LEAD × 10 ns before a tick SYNC_OUT rises. -/
  | syncOutRise
  /-- SYNC_OUT_FALL (R44). SO_WIDTH stitches after the tick SYNC_OUT falls. -/
  | syncOutFall
  /-- TICK (R33). The stitch counter wraps to slot 0, starting a frame: FN increments and the frame-level state advances. -/
  | tick
  /-- THM_AUTO_DEMAND (R212). A result AGE reaches AUTO_FRAMES, so THM demands all sensors at the tick. -/
  | thmAutoDemand
  /-- SLOT_PERIOD_START (R108). A slot period starts: the source is chosen by rung and the derate factors and default Pattern are sampled. -/
  | slotPeriodStart (errs : List EccErr)
  /-- LOAD (R89). Schedule event that runs the code path for a block of rows and writes their back latches. -/
  | load (q : Fin 4) (errs : List EccErr)
  /-- TRANSFER (R91). Schedule event that copies every back latch to its front latch with the current guard and row veto applied. -/
  | transfer (q : Fin 4) (sns : Bool) (errs : List EccErr)
  /-- MEAS (R95). Schedule event that strobes the comparators of the sequencer's columns and judges the results. -/
  | meas (q : Fin 4) (hr : List Nat) (vf : List Nat) (errs : List EccErr)
  /-- PROOF (R96). Schedule event that opens a proof window in which admitted pixels are pulsed at A_PROOF. -/
  | proof (q : Fin 4) (errs : List EccErr)
  /-- PROOF_LIST_FIX (R197). At the end of stitch 1007 PXH fixes the proof list and the SMC screens it against the Selvage budget. -/
  | proofListFix (scan : Nat) (reach : Nat) (errs : List EccErr)
  /-- OFFPULSE (R329). Schedule event that gives the SMC a window to test the next blanking path. -/
  | offpulse (q : Fin 4) (b : OffObs) (errs : List EccErr)
  /-- DARKSCAN (R199). Schedule event that senses undriven emission per zone or band and confirms or localises stuck-on zones. -/
  | darkscan (q : Fin 4) (sense : BitVec 8) (errs : List EccErr)
  /-- TEMP_DEMAND (R210). Schedule event that demands a temperature measurement of one or all sensors. -/
  | tempDemand (q : Fin 4) (tie : Bool) (errs : List EccErr)
  /-- ADC_TRIG (R100). Schedule event that pulses a converter trigger line. -/
  | adcTrig (q : Fin 4) (errs : List EccErr)
  /-- CAL_WIN (R99). Schedule event that opens a window in which CAL measures column references. -/
  | calWin (q : Fin 4) (es : List ColErr) (errs : List EccErr)
  /-- LOOP_FF (R94). Schedule event that hands the slot's zone sums to LE0 for feed-forward. -/
  | loopFf (q : Fin 4) (errs : List EccErr)
  /-- FF_APPLY (R374). LE0 sets I_ff to the computed feed-forward current FF_LEAD before the next slot period. -/
  | ffApply
  /-- PATTERN_SEL (R93). Schedule event that sets the Pattern index for the sequencer's loads in the slot period. -/
  | patternSel (q : Fin 4) (errs : List EccErr)
  /-- STAGGER (R92). Schedule event that sets a column group's start stitch for the slot being loaded. -/
  | stagger (q : Fin 4) (errs : List EccErr)
  /-- END (R87). Schedule event that ends the walk of a slot list. -/
  | endList (q : Fin 4) (errs : List EccErr)
  /-- COMPOSITION_START (R129). The CS strobe latches armed commits, runs the commit checks and starts composing the next frame. -/
  | compositionStart
  /-- COMPOSITION_COMPLETE (R144). CMP finishes the frame, its verify pass, budget scale and write-back, and reports it complete and valid or invalid. -/
  | compositionComplete (errs : List EccErr)
  /-- SAFE_MSG_WINDOW_END (R353). A safety message's compare window ends without a twin, so the copy is acted or dropped. -/
  | safeMsgWindowEnd
  /-- SAFE_REQ_QUALIFY (R331). SAFE_REQ_N has been low for REQ_FILT, so all rows are killed and the engine goes to DARK. -/
  | safeReqQualify
  /-- SAFE_REQ_END (R331). SAFE_REQ_N has been high for REQ_FILT, so the request ends and its ceiling clears. -/
  | safeReqEnd
  /-- SAFE_OFF_TIMEOUT (R325). 50 µs after a DARK decision without LE0's report, SAFE_OFF is driven low. -/
  | safeOffTimeout
  /-- SAFE_SNS_TIMEOUT (R326). SAFE_SNS disagrees with SAFE_OFF beyond 20 µs or 1 ms, so P2 has failed. -/
  | safeSnsTimeout (sns : Bool)
  /-- STRAP_LATCH (R332). The SMC reads and latches the straps after the SAFE domain starts and selects the profile. -/
  | strapLatch (v0 v1 : BitVec 16)
  /-- STRAP_READ (R332). Every 1 ms the straps are re-read and compared with the latched levels. -/
  | strapRead (v0 v1 : BitVec 16)
  /-- SELF_CHECK (R365). A periodic SMC self-check runs and on failure hardware removes light and stops ALIVE. -/
  | selfCheck (code : Fin 6) (fails : Bool)
  /-- BOOT_SELF_CHECK_DONE (R363). The SMC's boot self-check pass ends and ALIVE starts toggling. -/
  | bootSelfCheckDone
  /-- ALIVE_TOGGLE (R363). Every ALIVE_HALF ALIVE toggles while its conditions hold. -/
  | aliveToggle
  /-- SPB_SEAL_DONE (R339). Seal-fuse programming ends and the sealing SPB_LOAD is answered. -/
  | spbSealDone
  /-- SMC_CNT_CLR (R369). Write of SMC_CTRL.CNT_CLR clears SMC_COUNT0 and SMC_COUNT1. -/
  | smcCntClr
  /-- RETIRE_WRITE (R194). At the next load boundary PXH writes a confirmed failure's trim record and nibble as spared or dead. -/
  | retireWrite (errs : List EccErr)
  /-- PXH_STUCK_CLEAR (R201). W1C write to PXH_STUCK clears confirmed stuck-on zone bits. -/
  | pxhStuckClear (mask : BitVec 8) (tie : Bool)
  /-- PXH_CNT_CLR (R207). Write of PXH_CTRL.CNT_CLR clears the PXH counters. -/
  | pxhCntClr
  /-- THM_CONVERSION (R213). A measurement window ends and the counts are converted, updating temperatures, broken sensors, derate, blanking and shutdown. -/
  | thmConversion (counts : List (Fin 72 × BitVec 20))
  /-- XCHK_RUN (R217). Write of THM_CTRL.XCHK_RUN starts a thermistor cross-check. -/
  | xchkRun
  /-- XCHK_END (R217). The cross-check ends with its result and may mark failing sensors broken. -/
  | xchkEnd (counts : List (Fin 72 × BitVec 20))
  /-- THM_BROKEN_CLEAR (R216). W1C write to THM_BROKENn clears broken bits so the sensors are judged afresh. -/
  | thmBrokenClear (n : Fin 3) (mask : Word) (tie : Bool)
  /-- THM_CNT_CLR (R224). Write of THM_CTRL.CNT_CLR clears THM_COUNT. -/
  | thmCntClr
  /-- LOOP_SLOT_CONVERSION (R404). A reserved loop-slot conversion of a rail, hall or battery sense completes and is delivered to its loop. -/
  | loopSlotConversion (x : LoopSlot)
  /-- PHASE_OC_TRIP (R372). A phase's overcurrent comparator trips and its high side turns off. -/
  | phaseOcTrip (k : Fin 6)
  /-- PHASE_OC_PERSIST (R372). A phase trips in 16 consecutive switching periods, so the rail is force-stopped. -/
  | phaseOcPersist (k : Fin 6)
  /-- RAIL_AUTO_START (R380). LE0 sets EN itself once the rung is not DARK and SAFE_SNS conducts. -/
  | railAutoStart (sns : Bool)
  /-- RAIL_ON (R380). The profile reaches its target and 100 samples within 100 mV make the rail ON. -/
  | railOn
  /-- RAIL_START_TIMEOUT (R380). The rail has not reached ON within 5 ms, so RAIL_UV is raised and the rail stops. -/
  | railStartTimeout
  /-- RAIL_STOP_COMPLETE (R381). Phase currents fall below 100 mA or 20 µs pass, so PH_EN goes low and the rail reaches OFF. -/
  | railStopComplete
  /-- RAIL_SENSE_LOST (R382). LOST_N implausible samples mark a rail sense lost and switch the loop to the other sense or stop it. -/
  | railSenseLost (b : Bool)
  /-- RAIL_SENSE_FROZEN (R383). FROZEN_N near-equal counting samples mark a rail sense frozen and switch or stop the loop. -/
  | railSenseFrozen (b : Bool)
  /-- LOOP_INT_SAT (R377). The integrator stays clamped for 10,000 samples, so LOOP_INT_SAT is raised. -/
  | loopIntSat
  /-- RAIL_OV (R386). OVUV_N samples above OV_MV stop switching and raise RAIL_OV. -/
  | railOv (b : Bool)
  /-- RAIL_UV (R386). OVUV_N samples below the undervoltage margin raise RAIL_UV. -/
  | railUv
  /-- LOOP_HOLD_EXPIRY (R378). A rail hold ends by itself after HOLD_TO. -/
  | loopHoldExpiry
  /-- PROFILE_TICK (R387). A profile generator advances its position and smoothed reference by one tick. -/
  | profileTick (lvl : Bool)
  /-- LVL_ON (R393). LOST_N plausible hall samples take the levelling unit to ON. -/
  | lvlOn
  /-- LVL_START_TIMEOUT (R393). Levelling has not reached ON within 1 ms, so LVL_FB_LOST is raised and the unit returns to OFF. -/
  | lvlStartTimeout
  /-- LVL_STOP_COMPLETE (R393). A braking actuator stops moving or 100 ms pass, so the levelling unit reaches OFF. -/
  | lvlStopComplete
  /-- LVL_FB_LOST (R394). LOST_N implausible hall samples mark the feedback lost, brake the actuator and clear AIM_VALID. -/
  | lvlFbLost
  /-- LVL_FB_FROZEN (R394). FROZEN_N near-equal driven samples mark the feedback frozen, brake and clear AIM_VALID. -/
  | lvlFbFrozen
  /-- LVL_LIMIT (R392). POS16 stays outside the permitted range for LOST_N samples, so drive away from it is blocked. -/
  | lvlLimit
  /-- FAN_TACH_EDGE (R395). A falling tach edge updates the measured fan speed and clears a stall. -/
  | fanTachEdge (us : Nat)
  /-- FAN_TACH_TIMEOUT (R396). No tach edge for 500 ms zeroes RPM and, in ON, declares a stall. -/
  | fanTachTimeout
  /-- FAN_DUTY_UPDATE (R395). Every 10 ms the fan duty is updated toward the target speed. -/
  | fanDutyUpdate
  /-- FAN_KICK_END (R396). The start kick ends and the fan unit reaches ON at D_min. -/
  | fanKickEnd
  /-- FAN_STOP_COMPLETE (R396). A stopping fan shows no tach edge for 500 ms or 2 s pass, so the unit reaches OFF. -/
  | fanStopComplete
  /-- LE0_EN (R380). Write of LE0_CTRL.EN acts as LOOP_ENABLE or LOOP_DISABLE of the rail. -/
  | le0En (on : Bool)
  /-- LVL_EN (R393). Write of LE1_CTRL.LVL_EN enables or disables the levelling unit. -/
  | lvlEn (on : Bool)
  /-- FAN_EN (R396). Write of LE1_CTRL.FAN_EN enables or disables the fan unit. -/
  | fanEn (on : Bool)
  /-- LE0_SET_SEL_WRITE (R376). Write of LE0_SET_SEL selects a coefficient set, refused while the rail runs unheld. -/
  | le0SetSelWrite (v : BitVec 3)
  /-- LE0_FB_CLEAR (R384). W1C write to LE0_FB clears a sense's lost or frozen bit pending LOST_N plausible samples. -/
  | le0FbClear (mask : BitVec 4) (tie : Bool)
  /-- LE1_FB_CLEAR (R394). W1C write to LE1_FB clears the levelling feedback fault bits. -/
  | le1FbClear (mask : BitVec 3) (tie : Bool)
  /-- LE0_CNT_CLR (R401). Write of LE0_CTRL.CNT_CLR clears LE0_COUNT. -/
  | le0CntClr
  /-- ADC_TIMER_TRIGGER (R405). A timer-triggered sequence's PERIOD elapses and a pass starts. -/
  | adcTimerTrigger (n : Fin 8)
  /-- ADC_ENTRY_COMPLETE (R407). An entry's conversions complete, are combined into a result word and written to its Bobbin and ADC_LAST. -/
  | adcEntryComplete (n : Fin 8) (convs : List Conv)
  /-- BOBBIN_BLOCK_ACCEPT (R414). The memory controller accepts a staged Bobbin block and WPTR advances by 16. -/
  | bobbinBlockAccept (n : Fin 8)
  /-- ADC_SEQ_ON (R416). A starting sequence reaches ON 2 µs after the start. -/
  | adcSeqOn (n : Fin 8)
  /-- ADC_SEQ_OFF (R416). A stopping sequence's last pass and block end, so it reaches OFF. -/
  | adcSeqOff (n : Fin 8)
  /-- ADC_SQ_EN (R416). Write of ADC_SQn_CTRL.EN acts as ADC_START or ADC_STOP. -/
  | adcSqEn (n : Fin 8) (on : Bool)
  /-- ADC_RPTR_WRITE (R415). Write of ADC_SQn_RPTR frees Bobbin words, refused if the fill would be invalid. -/
  | adcRptrWrite (n : Fin 8) (v : BitVec 24)
  /-- ADC_CNT_CLR (R418). Write of ADC_CTRL.CNT_CLR clears every ADC_SQn_COUNT. -/
  | adcCntClr
  /-- FAULT_EVENT (R423). A fault event reaches FCR and is counted, given its effective severity, reacted to and recorded in the history. -/
  | faultEvent (src : BitVec 8) (sev : BitVec 2) (detail : Word) (drop : Bool)
  /-- FCR_CNT_CLR (R435). Write of FCR_CTRL.CNT_CLR clears the source totals and LOST. -/
  | fcrCntClr
  /-- CMD_CNT_CLR (R286). Write of CMD_CTRL.CNT_CLR clears CMD_COUNT0 to CMD_COUNT2. -/
  | cmdCntClr
  /-- KEY_LOAD (R272). Write of CMD_KEY_CTRL.LOAD copies the staged key into a slot. -/
  | keyLoad (mask : BitVec 8)
  /-- KEY_CLR (R272). Write of CMD_KEY_CTRL.CLR unloads a key slot. -/
  | keyClr (mask : BitVec 8)
  /-- CCX_CKPT (R314). Write of CCX_CTRL.CKPT starts a checkpoint unless one is being written. -/
  | ccxCkpt
  /-- CCX_SWAP (R310). Write of CCX_CTRL.SWAP makes a planned handover of the core roles. -/
  | ccxSwap
  /-- CCX_RST_CORE (R308). Write of CCX_CTRL.RST_CCA or RST_CCB resets a non-active core, which returns DEMOTED. -/
  | ccxRstCore (core : Fin 2)
  /-- CCX_AUTO_BASTE (R308). Write of CCX_CTRL.AUTO_BASTE = 1 lets demoted cores start basting. -/
  | ccxAutoBaste
  /-- CCX_CNT_CLR (R323). Write of CCX_CTRL.CNT_CLR clears CCX_COUNT0 to CCX_COUNT3. -/
  | ccxCntClr
  /-- PXA_CNT_CLR (R86). Write of PXA_CTRL.CNT_CLR clears PXA_GUARD. -/
  | pxaCntClr
  /-- SEQ_CNT_CLR (R114). Write of SEQ_CTRL.CNT_CLR clears SEQ_COUNT. -/
  | seqCntClr (q : Fin 4)
  /-- CMP_CNT_CLR (R153). Write of CMP_CTRL.CNT_CLR clears CMP_COUNT. -/
  | cmpCntClr
  /-- SMEM_TRAIN (R156). Write of SMEM_CTRL.TRAIN = 1 starts training of the surface memory. -/
  | smemTrain
  /-- TRAINING_COMPLETE (R157). Training ends, setting TRAINED and the eye figures, or stops at a failing step. -/
  | trainingComplete (fail : Fin 8) (rdEye : BitVec 8) (wrEye : BitVec 8)
  /-- SMEM_CNT_CLR (R179). Write of SMEM_CTRL.CNT_CLR clears the ECC counters. -/
  | smemCntClr
  /-- MR4_READ (R163). Every 4 ms the controller reads MR4 and sets the refresh interval. -/
  | mr4Read (code : BitVec 3)
  /-- DQS_OSC_READ (R163). Every 64 ms the DQS oscillator is read and write timing re-centred if it drifted. -/
  | dqsOscRead (drift : Nat)
  /-- SELF_REFRESH_EXIT (R164). The SMEM clock restarts and the device leaves self-refresh, accepting accesses within 30 µs. -/
  | selfRefreshExit
  /-- CRC_MEM_RUN_END (R457). A CRC_RUN MEM run ends and is answered with its result. -/
  | crcMemRunEnd (n : Fin 3) (errs : List EccErr)
  /-- CRC_CFG_WRITE (R455). Write of CRC_Un_CFG selects the algorithm and initialises VALUE. -/
  | crcCfgWrite (n : Fin 4) (v : Word)
  /-- CRC_VALUE_WRITE (R455). Write of CRC_Un_VALUE restores a unit's running value. -/
  | crcValueWrite (n : Fin 4) (v : Word)
  /-- CRC_BIND_WRITE (R458). Write of CRC_Un_BIND binds or unbinds a unit to a channel and direction. -/
  | crcBindWrite (n : Fin 4) (v : Word)
  /-- CRC_SCAN_CTRL_WRITE (R464). Write of CRC_SCAN_CTRL enables or disables the SRAM and surface scans. -/
  | crcScanCtrlWrite (v : Word)
  /-- CRC_CNT_CLR (R476). Write of CRC_CTRL.CNT_CLR clears the scan counters and mismatch counts. -/
  | crcCntClr
  /-- SRAM_SCAN_READ (R462). The scan engine reads an SRAM word, scrubbing correctable errors. -/
  | sramScanRead (err : Option Bool) (raced : Bool)
  /-- REGION_CHECK_END (R463). U3 finishes a region's CRC in a pass and compares it with the reference, invalidating on mismatch. -/
  | regionCheckEnd (r : Fin 17) (crc : Word)
  /-- SURF_SCAN_READ (R464). The scan engine reads a surface word, scrubbing correctable errors. -/
  | surfScanRead (err : Option Bool) (raced : Bool)
  /-- CAL_LANE_MEASURE (R472). LME measures a lane's receiver slices, 500 µs apart, and chooses slice and phase. -/
  | calLaneMeasure (p : Port) (m0 : SliceMeas) (m1 : SliceMeas)
  /-- CAL_CONVERTER_SET (R473). A converter's reference conversions complete and its trim or the pair skew is computed. -/
  | calConverterSet (m : ConvMeas)
  /-- CAL_RUN_TIMEOUT (R467). A run has been ON for RUN_MAX, so it goes to STOPPING with RESULT timeout. -/
  | calRunTimeout (t : Fin 7)
  /-- CAL_RUN_OFF (R467). A stopping run applies its last step and reaches OFF, answering a held CAL_RUN. -/
  | calRunOff (t : Fin 7)
  /-- CAL_CNT_CLR (R477). Write of CAL_CTRL.CNT_CLR clears CAL_COUNT. -/
  | calCntClr
  /-- POWER_DOWN_START (R439). Once the POWER_ENTER reply is sent the cores execute WAIT and power-down begins. -/
  | powerDownStart
  /-- POWER_DOWN_COMPLETE (R439). Entry into D1 or D2 completes and PMU_STAT.STATE is set. -/
  | powerDownComplete
  /-- WAKE_SOURCE_FIRE (R441). An enabled wake source fires, aborting an entry, returning D1 to D0, or causing the wake reset from D2. -/
  | wakeSourceFire (n : Fin 8)
  /-- PMU_TIMER_EXPIRY (R441). The PMU wake timer expires and wakes the engine. -/
  | pmuTimerExpiry
  /-- PWR_EN_HIGH (R444). PWR_EN is qualified high, starting a boot from D3 or waking from D1 or D2. -/
  | pwrEnHigh
  /-- PWR_EN_LOW (R445). PWR_EN is qualified low and the engine goes to D3. -/
  | pwrEnLow
  /-- POWER_ON_RESET (R446). VDD18 rises or drops below 1.60 V, resetting everything with cause 0. -/
  | powerOnReset
  /-- RESET_N_LOW (R446). RESET_N low for 1 µs resets the engine with cause 2. -/
  | resetNLow
  /-- SWRST (R446). Write of PMU_CTRL.SWRST resets the engine with cause 3. -/
  | swrst
  /-- PMU_CNT_CLR (R450). Write of PMU_CTRL.CNT_CLR clears REFUSALS and ABORTS. -/
  | pmuCntClr
  /-- VCORE_PG_LOW (R444). VCORE_PG low longer than PG_FILT raises VCORE_PG and moves CORE to bypass. -/
  | vcorePgLow
  /-- VCORE_PG_RESET (R444). VCORE_PG stays low for 1 ms, so the engine resets with cause 4. -/
  | vcorePgReset
  /-- INTERNAL_RESET_RELEASE (R447). PWR_EN, RESET_N and a settled VCORE_PG release the internal reset unless TEST_MODE holds it. -/
  | internalResetRelease (testMode : Bool)
  /-- CORE_BOOT_DONE (R447). The cores check their ROM and boot, setting BOOT_DONE or BOOT_ERR, and RUN is set if AUTO_RUN. -/
  | coreBootDone (romOk : Bool)
  /-- VSCALE_SETTLED (R443). VCORE_PG holds high for VSETTLE after a raise, confirming the new operating point. -/
  | vscaleSettled
  /-- VSCALE_TIMEOUT (R443). VCORE_PG is not confirmed within 1 ms, so the old VSEL is restored and POWER_REFUSED answered. -/
  | vscaleTimeout
  /-- CORE_PLL_RELOCK (R443). The core PLL relocks at the new frequency and CORE leaves the bypass clock. -/
  | corePllRelock
  /-- PATCH_RESTART_DONE (R449). Both cores restart with the patch, load the checkpoint and admission resumes. -/
  | patchRestartDone
  /-- REF_LOSS (R452). REF shows no edge for 2 µs, so REF moves to the backup oscillator and both ports go down. -/
  | refLoss
  /-- REF_RESTORE (R452). REF has run for 1 ms, so the REF domain returns to it. -/
  | refRestore
  /-- CKU_GATE_WRITE (R451). Write of CKU_GATE stops or restarts CMP, SMEM or the converter pair, refused while users are active. -/
  | ckuGateWrite (v : Word)
  /-- CKU_MEAS_WRITE (R436). Write of CKU_MEAS starts a frequency measurement of a domain over 100 µs. -/
  | ckuMeasWrite (v : Word)
  /-- CKU_MEAS_DONE (R436). A domain frequency measurement ends and FREQ is updated. -/
  | ckuMeasDone (freq : BitVec 18)
  /-- REGISTER_WRITE (R5). A write to a register without its own row is checked and applied by its access type. -/
  | registerWrite (chan : BitVec 8) (addr : Word) (value : Word) (tie : Bool) (errs : List EccErr)
  /-- PHASE_THRESHOLD_CROSSING (R371). A switching phase's current rises above its high threshold or falls below its low threshold, and its high side turns off or on subject to the blanking and minimum on- and off-times. -/
  | phaseThresholdCrossing (k : Fin 6) (rise : Bool) (since : Nat)
  /-- CHECKER_IN_SYNC (R252). A lane test checker has seen 64 consecutive error-free bits, so it is in sync and starts counting bit errors. -/
  | checkerInSync (lane : Fin 4) (l : List Bool)
  /-- CHECKER_SYNC_LOSS (R252). A lane test checker counts more than 256 errors in 1,024 bits, so it loses sync, increments SYNC_LOSS and seeds itself again. -/
  | checkerSyncLoss (lane : Fin 4) (n : Nat)
  /-- RETURN_TO_D0 (R441). The wake from D1 completes within 200 µs: CMP restarts, SMEM leaves self-refresh, ADC2 and ADC3 are powered, the former operating point is restored and PMU_STAT.STATE reads D0. -/
  | returnToD0
  deriving DecidableEq, Repr

end Sys2Proof
end

