-- ==== Sys2Proof/Machine/RegMap.lean ====
section
/-!
DEFINITION. The register map of the engine: for every register of every block its address (R15), its fields, its
access type (R5), its reset value and the bits a write can reach, as the register tables of the chapters give them.
A name with a lower-case letter in it (CMP_Lk_CTRL, HLx_STAT, THM_RESn) is one of an indexed family, and takes the index.
-/
namespace Sys2Proof.Machine

/-- The access types of R5. -/
inductive Access where
  | rw | ro | wo | w1c | rws | rwl
  deriving DecidableEq, Repr

/-- One row of a register table: `n` registers from `lo`, `stride` bytes apart, their access type and reset value;
`wmask` marks the bits that a write stores, `cmask` the write-1-to-clear bits, `pmask` the write-only action bits. -/
structure RegInfo where
  lo     : Nat
  n      : Nat
  stride : Nat
  acc    : Access
  reset  : Nat
  wmask  : Nat
  cmask  : Nat
  pmask  : Nat
  deriving DecidableEq, Repr

/-- DEV_ID (01_light_engine, RO): part, family and vendor codes. -/
def DEV_ID : Nat := 0x0
def DEV_ID_PART : Fld := ⟨DEV_ID, 31, 16⟩
def DEV_ID_FAMILY : Fld := ⟨DEV_ID, 15, 8⟩
def DEV_ID_VENDOR : Fld := ⟨DEV_ID, 7, 0⟩
/-- DEV_STEPPING (01_light_engine, RO): silicon stepping. -/
def DEV_STEPPING : Nat := 0x4
def DEV_STEPPING_MAJOR : Fld := ⟨DEV_STEPPING, 7, 4⟩
def DEV_STEPPING_MINOR : Fld := ⟨DEV_STEPPING, 3, 0⟩
/-- DEV_UID_LO (01_light_engine, RO): unit identifier, bits [31:0]. -/
def DEV_UID_LO : Nat := 0x8
/-- DEV_UID_HI (01_light_engine, RO): unit identifier, bits [63:32]. -/
def DEV_UID_HI : Nat := 0xC
/-- DEV_CONFIG (01_light_engine, RO): memory sizes, seal and lock state. -/
def DEV_CONFIG : Nat := 0x10
def DEV_CONFIG_JTAG_LOCKED : Fld := ⟨DEV_CONFIG, 18, 18⟩
def DEV_CONFIG_SPB_SEALED : Fld := ⟨DEV_CONFIG, 17, 17⟩
def DEV_CONFIG_SMEM_TRAINED : Fld := ⟨DEV_CONFIG, 16, 16⟩
def DEV_CONFIG_SRAM_MIB : Fld := ⟨DEV_CONFIG, 15, 8⟩
def DEV_CONFIG_SMEM_SIZE : Fld := ⟨DEV_CONFIG, 2, 0⟩
/-- DEV_FW (01_light_engine, RO): command firmware version. -/
def DEV_FW : Nat := 0x14
def DEV_FW_ROM_VER : Fld := ⟨DEV_FW, 31, 16⟩
def DEV_FW_PATCH_LVL : Fld := ⟨DEV_FW, 15, 0⟩
/-- DEV_FN (01_light_engine, RO): current frame number. -/
def DEV_FN : Nat := 0x18
def DEV_FN_FN : Fld := ⟨DEV_FN, 31, 0⟩
/-- DEV_LADDER (01_light_engine, RO): current rung and blanked zones. -/
def DEV_LADDER : Nat := 0x1C
def DEV_LADDER_CAUSE : Fld := ⟨DEV_LADDER, 23, 16⟩
def DEV_LADDER_ZONES_OFF : Fld := ⟨DEV_LADDER, 15, 8⟩
def DEV_LADDER_RUNG : Fld := ⟨DEV_LADDER, 2, 0⟩
/-- DEV_GUARANTEE (01_light_engine, RO): state of the conditions of R21. -/
def DEV_GUARANTEE : Nat := 0x20
def DEV_GUARANTEE_HOLDS : Fld := ⟨DEV_GUARANTEE, 8, 8⟩
def DEV_GUARANTEE_RECOVERING : Fld := ⟨DEV_GUARANTEE, 6, 6⟩
def DEV_GUARANTEE_PORT_B_UP : Fld := ⟨DEV_GUARANTEE, 5, 5⟩
def DEV_GUARANTEE_PORT_A_UP : Fld := ⟨DEV_GUARANTEE, 4, 4⟩
def DEV_GUARANTEE_PAIR_READY : Fld := ⟨DEV_GUARANTEE, 3, 3⟩
def DEV_GUARANTEE_JOURNAL_UNBROKEN : Fld := ⟨DEV_GUARANTEE, 2, 2⟩
def DEV_GUARANTEE_CKPT_COMMITTED : Fld := ⟨DEV_GUARANTEE, 1, 1⟩
def DEV_GUARANTEE_SPB_SEALED : Fld := ⟨DEV_GUARANTEE, 0, 0⟩
/-- SCN_CTRL (02_frame_tick, RW): PLL run, SYNC_OUT enable, counter clear. -/
def SCN_CTRL : Nat := 0x70000
def SCN_CTRL_CNT_CLR : Fld := ⟨SCN_CTRL, 2, 2⟩
def SCN_CTRL_SO_EN : Fld := ⟨SCN_CTRL, 1, 1⟩
def SCN_CTRL_RUN : Fld := ⟨SCN_CTRL, 0, 0⟩
/-- SCN_CFG (02_frame_tick, RWS): slots per frame. -/
def SCN_CFG : Nat := 0x70004
def SCN_CFG_SLOTS_LOG2 : Fld := ⟨SCN_CFG, 2, 0⟩
/-- SCN_NOMINAL (02_frame_tick, RWS): nominal frame rate. -/
def SCN_NOMINAL : Nat := 0x70008
def SCN_NOMINAL_NOM_MHZ : Fld := ⟨SCN_NOMINAL, 17, 0⟩
/-- SCN_COMP_OFS (02_frame_tick, RWS): composition start offset. -/
def SCN_COMP_OFS : Nat := 0x7000C
def SCN_COMP_OFS_OFS_US : Fld := ⟨SCN_COMP_OFS, 15, 0⟩
/-- SCN_FSYNC_CTRL (02_frame_tick, RW): lock tolerance, holdover length. -/
def SCN_FSYNC_CTRL : Nat := 0x70010
def SCN_FSYNC_CTRL_HOLD_FRAMES : Fld := ⟨SCN_FSYNC_CTRL, 15, 8⟩
def SCN_FSYNC_CTRL_LOCK_TOL : Fld := ⟨SCN_FSYNC_CTRL, 3, 0⟩
/-- SCN_SYNC_OUT (02_frame_tick, RW): SYNC_OUT lead and width. -/
def SCN_SYNC_OUT : Nat := 0x70014
def SCN_SYNC_OUT_SO_LEAD : Fld := ⟨SCN_SYNC_OUT, 15, 8⟩
def SCN_SYNC_OUT_SO_WIDTH : Fld := ⟨SCN_SYNC_OUT, 7, 0⟩
/-- SCN_STAT (02_frame_tick, RO): PLL state, missed edges. -/
def SCN_STAT : Nat := 0x70018
def SCN_STAT_MISSED : Fld := ⟨SCN_STAT, 23, 16⟩
def SCN_STAT_STATE : Fld := ⟨SCN_STAT, 2, 0⟩
/-- SCN_PERIOD (02_frame_tick, RO): current frame period. -/
def SCN_PERIOD : Nat := 0x7001C
def SCN_PERIOD_PERIOD_NS : Fld := ⟨SCN_PERIOD, 31, 0⟩
/-- SCN_PHASE (02_frame_tick, RO): last edge phase error. -/
def SCN_PHASE : Nat := 0x70020
def SCN_PHASE_PHASE_NS : Fld := ⟨SCN_PHASE, 31, 0⟩
/-- SCN_TIMING (02_frame_tick, RO): S and M in effect. -/
def SCN_TIMING : Nat := 0x70024
def SCN_TIMING_SLOTS_LOG2 : Fld := ⟨SCN_TIMING, 18, 16⟩
def SCN_TIMING_M : Fld := ⟨SCN_TIMING, 11, 0⟩
/-- SCN_COUNT (02_frame_tick, RO): edge counters. -/
def SCN_COUNT : Nat := 0x70028
def SCN_COUNT_MISSED_TOTAL : Fld := ⟨SCN_COUNT, 31, 16⟩
def SCN_COUNT_BAD_EDGES : Fld := ⟨SCN_COUNT, 15, 0⟩
/-- SCN_CFG_ERR (02_frame_tick, RO): last refused combination. -/
def SCN_CFG_ERR : Nat := 0x7002C
def SCN_CFG_ERR_CODE : Fld := ⟨SCN_CFG_ERR, 7, 0⟩
/-- SCN_POS (02_frame_tick, RO): current slot and stitch. -/
def SCN_POS : Nat := 0x70030
def SCN_POS_STITCH : Fld := ⟨SCN_POS, 25, 16⟩
def SCN_POS_SLOT : Fld := ⟨SCN_POS, 3, 0⟩
/-- SCN_CFG_ACT (02_frame_tick, RO): SCN_CFG in effect. -/
def SCN_CFG_ACT : Nat := 0x70104
def SCN_CFG_ACT_SLOTS_LOG2 : Fld := ⟨SCN_CFG_ACT, 2, 0⟩
/-- SCN_NOMINAL_ACT (02_frame_tick, RO): SCN_NOMINAL in effect. -/
def SCN_NOMINAL_ACT : Nat := 0x70108
def SCN_NOMINAL_ACT_NOM_MHZ : Fld := ⟨SCN_NOMINAL_ACT, 17, 0⟩
/-- SCN_COMP_OFS_ACT (02_frame_tick, RO): SCN_COMP_OFS in effect. -/
def SCN_COMP_OFS_ACT : Nat := 0x7010C
def SCN_COMP_OFS_ACT_OFS_US : Fld := ⟨SCN_COMP_OFS_ACT, 15, 0⟩
/-- PXA_CTRL (03_pixel_drive, RW): default Pattern, counter clear. -/
def PXA_CTRL : Nat := 0x90000
def PXA_CTRL_CNT_CLR : Fld := ⟨PXA_CTRL, 3, 3⟩
def PXA_CTRL_PAT_DEFAULT : Fld := ⟨PXA_CTRL, 2, 0⟩
/-- PXA_STAT (03_pixel_drive, RO): table validity. -/
def PXA_STAT : Nat := 0x90004
def PXA_STAT_EST_LOADED : Fld := ⟨PXA_STAT, 10, 10⟩
def PXA_STAT_SPADJ_LOADED : Fld := ⟨PXA_STAT, 9, 9⟩
def PXA_STAT_TRIM_LOADED : Fld := ⟨PXA_STAT, 8, 8⟩
def PXA_STAT_PAT_VALID : Fld := ⟨PXA_STAT, 7, 0⟩
/-- PXA_RAIL_LIMIT (03_pixel_drive, RWS): rail current limit. -/
def PXA_RAIL_LIMIT : Nat := 0x90008
def PXA_RAIL_LIMIT_LIMIT_MA : Fld := ⟨PXA_RAIL_LIMIT, 14, 0⟩
/-- PXA_ZONE_LIMITn (03_pixel_drive, RWS): anode zone current limits, zone z at 0x00C + 4 × z. -/
def PXA_ZONE_LIMITn (n : Nat) : Nat := 0x9000C + 0x4 * n
def PXA_ZONE_LIMITn_LIMIT_MA (n : Nat) : Fld := ⟨PXA_ZONE_LIMITn n, 12, 0⟩
/-- PXA_BUDGET (03_pixel_drive, RO): budget scale in effect and next. -/
def PXA_BUDGET : Nat := 0x90030
def PXA_BUDGET_NEXT_B : Fld := ⟨PXA_BUDGET, 31, 16⟩
def PXA_BUDGET_B : Fld := ⟨PXA_BUDGET, 15, 0⟩
/-- PXA_EST_TOTAL (03_pixel_drive, RO): estimated current of the frame in play. -/
def PXA_EST_TOTAL : Nat := 0x90034
def PXA_EST_TOTAL_EST : Fld := ⟨PXA_EST_TOTAL, 26, 0⟩
/-- PXA_SUM_A (03_pixel_drive, RO): total SUM_A of the last slot loaded. -/
def PXA_SUM_A : Nat := 0x90038
def PXA_SUM_A_SUM_A : Fld := ⟨PXA_SUM_A, 26, 0⟩
/-- PXA_SUM_AT (03_pixel_drive, RO): mean current of the last slot loaded. -/
def PXA_SUM_AT : Nat := 0x9003C
def PXA_SUM_AT_AVG : Fld := ⟨PXA_SUM_AT, 26, 0⟩
/-- PXA_GUARD (03_pixel_drive, RO): current guard count and last zones. -/
def PXA_GUARD : Nat := 0x90040
def PXA_GUARD_GUARD_CNT : Fld := ⟨PXA_GUARD, 31, 16⟩
def PXA_GUARD_RAIL : Fld := ⟨PXA_GUARD, 8, 8⟩
def PXA_GUARD_ZONES : Fld := ⟨PXA_GUARD, 7, 0⟩
/-- PXA_LOAD_ERR (03_pixel_drive, RO): last rejected table load. -/
def PXA_LOAD_ERR : Nat := 0x90044
def PXA_LOAD_ERR_TABLE_ID : Fld := ⟨PXA_LOAD_ERR, 27, 24⟩
def PXA_LOAD_ERR_CODE : Fld := ⟨PXA_LOAD_ERR, 23, 16⟩
def PXA_LOAD_ERR_INDEX : Fld := ⟨PXA_LOAD_ERR, 15, 0⟩
/-- PXA_PLAIN (03_pixel_drive, RO): Plain beam level and lit count. -/
def PXA_PLAIN : Nat := 0x90048
def PXA_PLAIN_N_LIT : Fld := ⟨PXA_PLAIN, 26, 6⟩
def PXA_PLAIN_A_EFF : Fld := ⟨PXA_PLAIN, 5, 0⟩
/-- PXA_PATn_CRC (03_pixel_drive, RO): CRC-32 of Pattern n at 0x050 + 4 × n. -/
def PXA_PATn_CRC (n : Nat) : Nat := 0x90050 + 0x4 * n
def PXA_PATn_CRC_CRC (n : Nat) : Fld := ⟨PXA_PATn_CRC n, 31, 0⟩
/-- PXA_RAIL_LIMIT_ACT (03_pixel_drive, RO): PXA_RAIL_LIMIT in effect. -/
def PXA_RAIL_LIMIT_ACT : Nat := 0x90108
def PXA_RAIL_LIMIT_ACT_LIMIT_MA : Fld := ⟨PXA_RAIL_LIMIT_ACT, 14, 0⟩
/-- PXA_ZONE_LIMITn_ACT (03_pixel_drive, RO): PXA_ZONE_LIMITn in effect. -/
def PXA_ZONE_LIMITn_ACT (n : Nat) : Nat := 0x9010C + 0x4 * n
def PXA_ZONE_LIMITn_ACT_LIMIT_MA (n : Nat) : Fld := ⟨PXA_ZONE_LIMITn_ACT n, 12, 0⟩
/-- SEQ_CTRL (04_slot_schedules, RW): counter clear. -/
def SEQ_CTRL (q : Nat) : Nat := 0x80000 + 0x4000 * q
def SEQ_CTRL_CNT_CLR (q : Nat) : Fld := ⟨SEQ_CTRL q, 0, 0⟩
/-- SEQ_BUF_SEL (04_slot_schedules, RWS): buffer to activate at commit. -/
def SEQ_BUF_SEL (q : Nat) : Nat := 0x80004 + 0x4000 * q
def SEQ_BUF_SEL_BUF (q : Nat) : Fld := ⟨SEQ_BUF_SEL q, 0, 0⟩
/-- SEQ_STAT (04_slot_schedules, RO): mode, buffer validity and state. -/
def SEQ_STAT (q : Nat) : Nat := 0x80008 + 0x4000 * q
def SEQ_STAT_MODE (q : Nat) : Fld := ⟨SEQ_STAT q, 5, 4⟩
def SEQ_STAT_LATCHED (q : Nat) : Fld := ⟨SEQ_STAT q, 3, 3⟩
def SEQ_STAT_ACT_BUF (q : Nat) : Fld := ⟨SEQ_STAT q, 2, 2⟩
def SEQ_STAT_BUF_VALID (q : Nat) : Fld := ⟨SEQ_STAT q, 1, 0⟩
/-- SEQ_BUF0_HDR (04_slot_schedules, RO): header of BUF0. -/
def SEQ_BUF0_HDR (q : Nat) : Nat := 0x8000C + 0x4000 * q
def SEQ_BUF0_HDR_VER (q : Nat) : Fld := ⟨SEQ_BUF0_HDR q, 31, 24⟩
def SEQ_BUF0_HDR_SLOTS_LOG2 (q : Nat) : Fld := ⟨SEQ_BUF0_HDR q, 2, 0⟩
/-- SEQ_BUF0_ID (04_slot_schedules, RO): SCHED_ID of BUF0. -/
def SEQ_BUF0_ID (q : Nat) : Nat := 0x80010 + 0x4000 * q
def SEQ_BUF0_ID_SCHED_ID (q : Nat) : Fld := ⟨SEQ_BUF0_ID q, 31, 0⟩
/-- SEQ_BUF1_HDR (04_slot_schedules, RO): header of BUF1. -/
def SEQ_BUF1_HDR (q : Nat) : Nat := 0x80014 + 0x4000 * q
def SEQ_BUF1_HDR_VER (q : Nat) : Fld := ⟨SEQ_BUF1_HDR q, 31, 24⟩
def SEQ_BUF1_HDR_SLOTS_LOG2 (q : Nat) : Fld := ⟨SEQ_BUF1_HDR q, 2, 0⟩
/-- SEQ_BUF1_ID (04_slot_schedules, RO): SCHED_ID of BUF1. -/
def SEQ_BUF1_ID (q : Nat) : Nat := 0x80018 + 0x4000 * q
def SEQ_BUF1_ID_SCHED_ID (q : Nat) : Fld := ⟨SEQ_BUF1_ID q, 31, 0⟩
/-- SEQ_LOAD_ERR (04_slot_schedules, RO): last rejected schedule load. -/
def SEQ_LOAD_ERR (q : Nat) : Nat := 0x8001C + 0x4000 * q
def SEQ_LOAD_ERR_CODE (q : Nat) : Fld := ⟨SEQ_LOAD_ERR q, 31, 24⟩
def SEQ_LOAD_ERR_SLOT (q : Nat) : Fld := ⟨SEQ_LOAD_ERR q, 19, 16⟩
def SEQ_LOAD_ERR_WORD (q : Nat) : Fld := ⟨SEQ_LOAD_ERR q, 12, 0⟩
/-- SEQ_ACT_ERR (04_slot_schedules, RO): last rejected activation. -/
def SEQ_ACT_ERR (q : Nat) : Nat := 0x80020 + 0x4000 * q
def SEQ_ACT_ERR_CODE (q : Nat) : Fld := ⟨SEQ_ACT_ERR q, 15, 8⟩
def SEQ_ACT_ERR_SEQ (q : Nat) : Fld := ⟨SEQ_ACT_ERR q, 7, 6⟩
def SEQ_ACT_ERR_SLOT (q : Nat) : Fld := ⟨SEQ_ACT_ERR q, 3, 0⟩
/-- SEQ_POS (04_slot_schedules, RO): walk position. -/
def SEQ_POS (q : Nat) : Nat := 0x80024 + 0x4000 * q
def SEQ_POS_SRC (q : Nat) : Fld := ⟨SEQ_POS q, 12, 12⟩
def SEQ_POS_WORD (q : Nat) : Fld := ⟨SEQ_POS q, 7, 0⟩
/-- SEQ_COUNT (04_slot_schedules, RO): slot periods played from the built-in schedule. -/
def SEQ_COUNT (q : Nat) : Nat := 0x80028 + 0x4000 * q
def SEQ_COUNT_BUILTIN (q : Nat) : Fld := ⟨SEQ_COUNT q, 31, 0⟩
/-- SEQ_SUM_A_LO (04_slot_schedules, RO): SUM_A of zone AZ2q, last slot loaded. -/
def SEQ_SUM_A_LO (q : Nat) : Nat := 0x80030 + 0x4000 * q
def SEQ_SUM_A_LO_SUM_A (q : Nat) : Fld := ⟨SEQ_SUM_A_LO q, 23, 0⟩
/-- SEQ_SUM_A_HI (04_slot_schedules, RO): SUM_A of zone AZ2q+1, last slot loaded. -/
def SEQ_SUM_A_HI (q : Nat) : Nat := 0x80034 + 0x4000 * q
def SEQ_SUM_A_HI_SUM_A (q : Nat) : Fld := ⟨SEQ_SUM_A_HI q, 23, 0⟩
/-- SEQ_SUM_AT_LO (04_slot_schedules, RO): mean current of zone AZ2q, last slot loaded. -/
def SEQ_SUM_AT_LO (q : Nat) : Nat := 0x80038 + 0x4000 * q
def SEQ_SUM_AT_LO_AVG (q : Nat) : Fld := ⟨SEQ_SUM_AT_LO q, 23, 0⟩
/-- SEQ_SUM_AT_HI (04_slot_schedules, RO): mean current of zone AZ2q+1, last slot loaded. -/
def SEQ_SUM_AT_HI (q : Nat) : Nat := 0x8003C + 0x4000 * q
def SEQ_SUM_AT_HI_AVG (q : Nat) : Fld := ⟨SEQ_SUM_AT_HI q, 23, 0⟩
/-- SEQ_BUF_SEL_ACT (04_slot_schedules, RO): SEQ_BUF_SEL in effect. -/
def SEQ_BUF_SEL_ACT (q : Nat) : Nat := 0x80104 + 0x4000 * q
def SEQ_BUF_SEL_ACT_BUF (q : Nat) : Fld := ⟨SEQ_BUF_SEL_ACT q, 0, 0⟩
/-- CMP_CTRL (05_composition, RW): counter clear. -/
def CMP_CTRL : Nat := 0x60000
def CMP_CTRL_CNT_CLR : Fld := ⟨CMP_CTRL, 0, 0⟩
/-- CMP_STAT (05_composition, RO): commit, repeat and bank state. -/
def CMP_STAT : Nat := 0x60004
def CMP_STAT_MARKED : Fld := ⟨CMP_STAT, 11, 11⟩
def CMP_STAT_COMPOSING : Fld := ⟨CMP_STAT, 10, 10⟩
def CMP_STAT_ARMED : Fld := ⟨CMP_STAT, 9, 9⟩
def CMP_STAT_AT_RESULT : Fld := ⟨CMP_STAT, 8, 6⟩
def CMP_STAT_REPEAT_RUN : Fld := ⟨CMP_STAT, 1, 0⟩
/-- CMP_AT_FN (05_composition, RO): target of the last COMMIT_AT. -/
def CMP_AT_FN : Nat := 0x60008
def CMP_AT_FN_FN : Fld := ⟨CMP_AT_FN, 31, 0⟩
/-- CMP_COMMIT_ERR (05_composition, RO): last rejected commit. -/
def CMP_COMMIT_ERR : Nat := 0x6000C
def CMP_COMMIT_ERR_REASON : Fld := ⟨CMP_COMMIT_ERR, 31, 24⟩
def CMP_COMMIT_ERR_BLOCK : Fld := ⟨CMP_COMMIT_ERR, 23, 16⟩
def CMP_COMMIT_ERR_CODE : Fld := ⟨CMP_COMMIT_ERR, 15, 8⟩
def CMP_COMMIT_ERR_INDEX : Fld := ⟨CMP_COMMIT_ERR, 7, 0⟩
/-- CMP_BG (05_composition, RWS): background code. -/
def CMP_BG : Nat := 0x60010
def CMP_BG_CODE : Fld := ⟨CMP_BG, 15, 0⟩
/-- CMP_WB_CTRL (05_composition, RWS): write-back enable. -/
def CMP_WB_CTRL : Nat := 0x60014
def CMP_WB_CTRL_WB_EN : Fld := ⟨CMP_WB_CTRL, 0, 0⟩
/-- CMP_WB_BASE (05_composition, RWS): write-back address. -/
def CMP_WB_BASE : Nat := 0x60018
def CMP_WB_BASE_BASE : Fld := ⟨CMP_WB_BASE, 31, 6⟩
/-- CMP_BW_CFG (05_composition, RWS): bandwidth efficiency and host reserve. -/
def CMP_BW_CFG : Nat := 0x6001C
def CMP_BW_CFG_EFF : Fld := ⟨CMP_BW_CFG, 23, 16⟩
def CMP_BW_CFG_HOST_RES : Fld := ⟨CMP_BW_CFG, 7, 0⟩
/-- CMP_FRAME_CRC (05_composition, RO): CRC-32 of the frame shown. -/
def CMP_FRAME_CRC : Nat := 0x60020
/-- CMP_FRAME_FN (05_composition, RO): FN of that frame. -/
def CMP_FRAME_FN : Nat := 0x60024
/-- CMP_LINE_NEED (05_composition, RO): line memory of the last check, bytes. -/
def CMP_LINE_NEED : Nat := 0x60028
/-- CMP_TIME_NEED (05_composition, RO): T_need of the last check, ns. -/
def CMP_TIME_NEED : Nat := 0x6002C
/-- CMP_TIME_AVAIL (05_composition, RO): T_avail of the last check, ns. -/
def CMP_TIME_AVAIL : Nat := 0x60030
/-- CMP_BW_NEED (05_composition, RO): B_need of the last check, bytes. -/
def CMP_BW_NEED : Nat := 0x60034
/-- CMP_BW_AVAIL (05_composition, RO): B_avail of the last check, bytes. -/
def CMP_BW_AVAIL : Nat := 0x60038
/-- CMP_COUNT (05_composition, RO): repeats and tile errors. -/
def CMP_COUNT : Nat := 0x6003C
def CMP_COUNT_REPEATS : Fld := ⟨CMP_COUNT, 31, 16⟩
def CMP_COUNT_TILE_ERRS : Fld := ⟨CMP_COUNT, 15, 0⟩
/-- CMP_LUT_STAT (05_composition, RO): lookup validity. -/
def CMP_LUT_STAT : Nat := 0x60040
def CMP_LUT_STAT_LUT_ACT : Fld := ⟨CMP_LUT_STAT, 15, 8⟩
def CMP_LUT_STAT_LUT_SHADOW : Fld := ⟨CMP_LUT_STAT, 7, 0⟩
/-- CMP_BG_ACT (05_composition, RO): values in effect. -/
def CMP_BG_ACT : Nat := 0x60810
def CMP_BG_ACT_CODE : Fld := ⟨CMP_BG_ACT, 15, 0⟩
/-- CMP_WB_CTRL_ACT (05_composition, RO): values in effect. -/
def CMP_WB_CTRL_ACT : Nat := 0x60814
def CMP_WB_CTRL_ACT_WB_EN : Fld := ⟨CMP_WB_CTRL_ACT, 0, 0⟩
/-- CMP_WB_BASE_ACT (05_composition, RO): values in effect. -/
def CMP_WB_BASE_ACT : Nat := 0x60818
def CMP_WB_BASE_ACT_BASE : Fld := ⟨CMP_WB_BASE_ACT, 31, 6⟩
/-- CMP_BW_CFG_ACT (05_composition, RO): values in effect. -/
def CMP_BW_CFG_ACT : Nat := 0x6081C
def CMP_BW_CFG_ACT_EFF : Fld := ⟨CMP_BW_CFG_ACT, 23, 16⟩
def CMP_BW_CFG_ACT_HOST_RES : Fld := ⟨CMP_BW_CFG_ACT, 7, 0⟩
/-- CMP_Lk_CTRL (05_composition, RWS): enable, fade, format, blend, taps. -/
def CMP_Lk_CTRL (k : Nat) : Nat := 0x60400 + 0x40 * k
def CMP_Lk_CTRL_FADE (k : Nat) : Fld := ⟨CMP_Lk_CTRL k, 31, 24⟩
def CMP_Lk_CTRL_CRC_EN (k : Nat) : Fld := ⟨CMP_Lk_CTRL k, 19, 19⟩
def CMP_Lk_CTRL_EDGE (k : Nat) : Fld := ⟨CMP_Lk_CTRL k, 18, 18⟩
def CMP_Lk_CTRL_TAPS_V (k : Nat) : Fld := ⟨CMP_Lk_CTRL k, 17, 16⟩
def CMP_Lk_CTRL_TAPS_H (k : Nat) : Fld := ⟨CMP_Lk_CTRL k, 15, 14⟩
def CMP_Lk_CTRL_BLEND (k : Nat) : Fld := ⟨CMP_Lk_CTRL k, 13, 11⟩
def CMP_Lk_CTRL_FORMAT (k : Nat) : Fld := ⟨CMP_Lk_CTRL k, 7, 4⟩
def CMP_Lk_CTRL_EN (k : Nat) : Fld := ⟨CMP_Lk_CTRL k, 0, 0⟩
/-- CMP_Lk_CTRL_ACT (05_composition, RO): enable, fade, format, blend, taps. -/
def CMP_Lk_CTRL_ACT (k : Nat) : Nat := 0x60C00 + 0x40 * k
def CMP_Lk_CTRL_ACT_FADE (k : Nat) : Fld := ⟨CMP_Lk_CTRL_ACT k, 31, 24⟩
def CMP_Lk_CTRL_ACT_CRC_EN (k : Nat) : Fld := ⟨CMP_Lk_CTRL_ACT k, 19, 19⟩
def CMP_Lk_CTRL_ACT_EDGE (k : Nat) : Fld := ⟨CMP_Lk_CTRL_ACT k, 18, 18⟩
def CMP_Lk_CTRL_ACT_TAPS_V (k : Nat) : Fld := ⟨CMP_Lk_CTRL_ACT k, 17, 16⟩
def CMP_Lk_CTRL_ACT_TAPS_H (k : Nat) : Fld := ⟨CMP_Lk_CTRL_ACT k, 15, 14⟩
def CMP_Lk_CTRL_ACT_BLEND (k : Nat) : Fld := ⟨CMP_Lk_CTRL_ACT k, 13, 11⟩
def CMP_Lk_CTRL_ACT_FORMAT (k : Nat) : Fld := ⟨CMP_Lk_CTRL_ACT k, 7, 4⟩
def CMP_Lk_CTRL_ACT_EN (k : Nat) : Fld := ⟨CMP_Lk_CTRL_ACT k, 0, 0⟩
/-- CMP_Lk_BASE (05_composition, RWS): surface address. -/
def CMP_Lk_BASE (k : Nat) : Nat := 0x60404 + 0x40 * k
def CMP_Lk_BASE_BASE (k : Nat) : Fld := ⟨CMP_Lk_BASE k, 31, 6⟩
/-- CMP_Lk_BASE_ACT (05_composition, RO): surface address. -/
def CMP_Lk_BASE_ACT (k : Nat) : Nat := 0x60C04 + 0x40 * k
def CMP_Lk_BASE_ACT_BASE (k : Nat) : Fld := ⟨CMP_Lk_BASE_ACT k, 31, 6⟩
/-- CMP_Lk_STRIDE (05_composition, RWS): line pitch of raw formats. -/
def CMP_Lk_STRIDE (k : Nat) : Nat := 0x60408 + 0x40 * k
def CMP_Lk_STRIDE_STRIDE (k : Nat) : Fld := ⟨CMP_Lk_STRIDE k, 17, 6⟩
/-- CMP_Lk_STRIDE_ACT (05_composition, RO): line pitch of raw formats. -/
def CMP_Lk_STRIDE_ACT (k : Nat) : Nat := 0x60C08 + 0x40 * k
def CMP_Lk_STRIDE_ACT_STRIDE (k : Nat) : Fld := ⟨CMP_Lk_STRIDE_ACT k, 17, 6⟩
/-- CMP_Lk_SRC (05_composition, RWS): source size. -/
def CMP_Lk_SRC (k : Nat) : Nat := 0x6040C + 0x40 * k
def CMP_Lk_SRC_SRC_H (k : Nat) : Fld := ⟨CMP_Lk_SRC k, 27, 16⟩
def CMP_Lk_SRC_SRC_W (k : Nat) : Fld := ⟨CMP_Lk_SRC k, 12, 0⟩
/-- CMP_Lk_SRC_ACT (05_composition, RO): source size. -/
def CMP_Lk_SRC_ACT (k : Nat) : Nat := 0x60C0C + 0x40 * k
def CMP_Lk_SRC_ACT_SRC_H (k : Nat) : Fld := ⟨CMP_Lk_SRC_ACT k, 27, 16⟩
def CMP_Lk_SRC_ACT_SRC_W (k : Nat) : Fld := ⟨CMP_Lk_SRC_ACT k, 12, 0⟩
/-- CMP_Lk_DST_POS (05_composition, RWS): destination origin. -/
def CMP_Lk_DST_POS (k : Nat) : Nat := 0x60410 + 0x40 * k
def CMP_Lk_DST_POS_DST_Y (k : Nat) : Fld := ⟨CMP_Lk_DST_POS k, 27, 16⟩
def CMP_Lk_DST_POS_DST_X (k : Nat) : Fld := ⟨CMP_Lk_DST_POS k, 12, 0⟩
/-- CMP_Lk_DST_POS_ACT (05_composition, RO): destination origin. -/
def CMP_Lk_DST_POS_ACT (k : Nat) : Nat := 0x60C10 + 0x40 * k
def CMP_Lk_DST_POS_ACT_DST_Y (k : Nat) : Fld := ⟨CMP_Lk_DST_POS_ACT k, 27, 16⟩
def CMP_Lk_DST_POS_ACT_DST_X (k : Nat) : Fld := ⟨CMP_Lk_DST_POS_ACT k, 12, 0⟩
/-- CMP_Lk_DST_SIZE (05_composition, RWS): destination size. -/
def CMP_Lk_DST_SIZE (k : Nat) : Nat := 0x60414 + 0x40 * k
def CMP_Lk_DST_SIZE_DST_H (k : Nat) : Fld := ⟨CMP_Lk_DST_SIZE k, 25, 16⟩
def CMP_Lk_DST_SIZE_DST_W (k : Nat) : Fld := ⟨CMP_Lk_DST_SIZE k, 11, 0⟩
/-- CMP_Lk_DST_SIZE_ACT (05_composition, RO): destination size. -/
def CMP_Lk_DST_SIZE_ACT (k : Nat) : Nat := 0x60C14 + 0x40 * k
def CMP_Lk_DST_SIZE_ACT_DST_H (k : Nat) : Fld := ⟨CMP_Lk_DST_SIZE_ACT k, 25, 16⟩
def CMP_Lk_DST_SIZE_ACT_DST_W (k : Nat) : Fld := ⟨CMP_Lk_DST_SIZE_ACT k, 11, 0⟩
/-- CMP_Lk_PHASE (05_composition, RWS): scaler phase. -/
def CMP_Lk_PHASE (k : Nat) : Nat := 0x60418 + 0x40 * k
def CMP_Lk_PHASE_PHASE_Y (k : Nat) : Fld := ⟨CMP_Lk_PHASE k, 15, 8⟩
def CMP_Lk_PHASE_PHASE_X (k : Nat) : Fld := ⟨CMP_Lk_PHASE k, 7, 0⟩
/-- CMP_Lk_PHASE_ACT (05_composition, RO): scaler phase. -/
def CMP_Lk_PHASE_ACT (k : Nat) : Nat := 0x60C18 + 0x40 * k
def CMP_Lk_PHASE_ACT_PHASE_Y (k : Nat) : Fld := ⟨CMP_Lk_PHASE_ACT k, 15, 8⟩
def CMP_Lk_PHASE_ACT_PHASE_X (k : Nat) : Fld := ⟨CMP_Lk_PHASE_ACT k, 7, 0⟩
/-- CMP_Lk_ALPHA (05_composition, RWS): layer alpha. -/
def CMP_Lk_ALPHA (k : Nat) : Nat := 0x6041C + 0x40 * k
def CMP_Lk_ALPHA_GA (k : Nat) : Fld := ⟨CMP_Lk_ALPHA k, 8, 0⟩
/-- CMP_Lk_ALPHA_ACT (05_composition, RO): layer alpha. -/
def CMP_Lk_ALPHA_ACT (k : Nat) : Nat := 0x60C1C + 0x40 * k
def CMP_Lk_ALPHA_ACT_GA (k : Nat) : Fld := ⟨CMP_Lk_ALPHA_ACT k, 8, 0⟩
/-- CMP_Lk_CONST (05_composition, RWS): M1 code. -/
def CMP_Lk_CONST (k : Nat) : Nat := 0x60420 + 0x40 * k
def CMP_Lk_CONST_CODE (k : Nat) : Fld := ⟨CMP_Lk_CONST k, 15, 0⟩
/-- CMP_Lk_CONST_ACT (05_composition, RO): M1 code. -/
def CMP_Lk_CONST_ACT (k : Nat) : Nat := 0x60C20 + 0x40 * k
def CMP_Lk_CONST_ACT_CODE (k : Nat) : Fld := ⟨CMP_Lk_CONST_ACT k, 15, 0⟩
/-- CMP_Lk_SURF_LEN (05_composition, RWS): Pleat surface length. -/
def CMP_Lk_SURF_LEN (k : Nat) : Nat := 0x60424 + 0x40 * k
def CMP_Lk_SURF_LEN_LEN (k : Nat) : Fld := ⟨CMP_Lk_SURF_LEN k, 28, 6⟩
/-- CMP_Lk_SURF_LEN_ACT (05_composition, RO): Pleat surface length. -/
def CMP_Lk_SURF_LEN_ACT (k : Nat) : Nat := 0x60C24 + 0x40 * k
def CMP_Lk_SURF_LEN_ACT_LEN (k : Nat) : Fld := ⟨CMP_Lk_SURF_LEN_ACT k, 28, 6⟩
/-- CMP_Lk_CRC (05_composition, RWS): expected surface CRC. -/
def CMP_Lk_CRC (k : Nat) : Nat := 0x60428 + 0x40 * k
def CMP_Lk_CRC_CRC (k : Nat) : Fld := ⟨CMP_Lk_CRC k, 31, 0⟩
/-- CMP_Lk_CRC_ACT (05_composition, RO): expected surface CRC. -/
def CMP_Lk_CRC_ACT (k : Nat) : Nat := 0x60C28 + 0x40 * k
def CMP_Lk_CRC_ACT_CRC (k : Nat) : Fld := ⟨CMP_Lk_CRC_ACT k, 31, 0⟩
/-- CMP_Lk_OWNER (05_composition, RO): last writer and dirty flag. -/
def CMP_Lk_OWNER (k : Nat) : Nat := 0x6042C + 0x40 * k
def CMP_Lk_OWNER_DIRTY (k : Nat) : Fld := ⟨CMP_Lk_OWNER k, 8, 8⟩
def CMP_Lk_OWNER_CHAN (k : Nat) : Fld := ⟨CMP_Lk_OWNER k, 7, 0⟩
/-- CMP_Lk_STAT (05_composition, RO): fade level and tiles. -/
def CMP_Lk_STAT (k : Nat) : Nat := 0x60430 + 0x40 * k
def CMP_Lk_STAT_TILES (k : Nat) : Fld := ⟨CMP_Lk_STAT k, 26, 16⟩
def CMP_Lk_STAT_DIR (k : Nat) : Fld := ⟨CMP_Lk_STAT k, 10, 9⟩
def CMP_Lk_STAT_F (k : Nat) : Fld := ⟨CMP_Lk_STAT k, 8, 0⟩
/-- SMEM_CTRL (06_surfaces, RW): training start, write guard, counter clear. -/
def SMEM_CTRL : Nat := 0x140000
def SMEM_CTRL_CNT_CLR : Fld := ⟨SMEM_CTRL, 2, 2⟩
def SMEM_CTRL_GUARD : Fld := ⟨SMEM_CTRL, 1, 1⟩
def SMEM_CTRL_TRAIN : Fld := ⟨SMEM_CTRL, 0, 0⟩
/-- SMEM_CFG (06_surfaces, RW): device size and data rate. -/
def SMEM_CFG : Nat := 0x140004
def SMEM_CFG_RATE : Fld := ⟨SMEM_CFG, 6, 4⟩
def SMEM_CFG_SIZE : Fld := ⟨SMEM_CFG, 1, 0⟩
/-- SMEM_STAT (06_surfaces, RO): training, refresh and self-refresh state. -/
def SMEM_STAT : Nat := 0x140008
def SMEM_STAT_TRAIN_ERR : Fld := ⟨SMEM_STAT, 15, 8⟩
def SMEM_STAT_MR4_LIMIT : Fld := ⟨SMEM_STAT, 7, 7⟩
def SMEM_STAT_MR4_RATE : Fld := ⟨SMEM_STAT, 6, 4⟩
def SMEM_STAT_SR : Fld := ⟨SMEM_STAT, 2, 2⟩
def SMEM_STAT_TRAINING : Fld := ⟨SMEM_STAT, 1, 1⟩
def SMEM_STAT_TRAINED : Fld := ⟨SMEM_STAT, 0, 0⟩
/-- SMEM_EYE (06_surfaces, RO): smallest trained eyes. -/
def SMEM_EYE : Nat := 0x14000C
def SMEM_EYE_RD_EYE : Fld := ⟨SMEM_EYE, 15, 8⟩
def SMEM_EYE_WR_EYE : Fld := ⟨SMEM_EYE, 7, 0⟩
/-- SMEM_USABLE (06_surfaces, RO): usable bytes U. -/
def SMEM_USABLE : Nat := 0x140010
def SMEM_USABLE_BYTES : Fld := ⟨SMEM_USABLE, 31, 0⟩
/-- SMEM_ECC_CNT (06_surfaces, RO): surface ECC counters. -/
def SMEM_ECC_CNT : Nat := 0x140014
def SMEM_ECC_CNT_UE : Fld := ⟨SMEM_ECC_CNT, 31, 16⟩
def SMEM_ECC_CNT_CE : Fld := ⟨SMEM_ECC_CNT, 15, 0⟩
/-- SMEM_ECC_ADDR (06_surfaces, RO): last surface ECC error. -/
def SMEM_ECC_ADDR : Nat := 0x140018
def SMEM_ECC_ADDR_ADDR : Fld := ⟨SMEM_ECC_ADDR, 31, 3⟩
def SMEM_ECC_ADDR_UE : Fld := ⟨SMEM_ECC_ADDR, 0, 0⟩
/-- SMEM_SRAM_ECC_CNT (06_surfaces, RO): on-chip SRAM ECC counters. -/
def SMEM_SRAM_ECC_CNT : Nat := 0x14001C
def SMEM_SRAM_ECC_CNT_UE : Fld := ⟨SMEM_SRAM_ECC_CNT, 31, 16⟩
def SMEM_SRAM_ECC_CNT_CE : Fld := ⟨SMEM_SRAM_ECC_CNT, 15, 0⟩
/-- SMEM_SRAM_ECC_ADDR (06_surfaces, RO): last SRAM ECC error. -/
def SMEM_SRAM_ECC_ADDR : Nat := 0x140020
def SMEM_SRAM_ECC_ADDR_ADDR : Fld := ⟨SMEM_SRAM_ECC_ADDR, 31, 3⟩
def SMEM_SRAM_ECC_ADDR_UE : Fld := ⟨SMEM_SRAM_ECC_ADDR, 0, 0⟩
/-- SMEM_RETIRE (06_surfaces, RO): FN of the latest accepted latch. -/
def SMEM_RETIRE : Nat := 0x140024
def SMEM_RETIRE_FN : Fld := ⟨SMEM_RETIRE, 31, 0⟩
/-- PXH_CTRL (07_pixel_health, RW): enables, counter clear. -/
def PXH_CTRL : Nat := 0xA0000
def PXH_CTRL_CNT_CLR : Fld := ⟨PXH_CTRL, 4, 4⟩
def PXH_CTRL_AUTO_SPARE : Fld := ⟨PXH_CTRL, 3, 3⟩
def PXH_CTRL_PROOF_EN : Fld := ⟨PXH_CTRL, 2, 2⟩
def PXH_CTRL_AGE_EN : Fld := ⟨PXH_CTRL, 1, 1⟩
def PXH_CTRL_MEAS_EN : Fld := ⟨PXH_CTRL, 0, 0⟩
/-- PXH_VERIFY (07_pixel_health, RW): MEAS_MIN, A_PROOF, A_VERIFY. -/
def PXH_VERIFY : Nat := 0xA0004
def PXH_VERIFY_MEAS_MIN : Fld := ⟨PXH_VERIFY, 23, 16⟩
def PXH_VERIFY_A_PROOF : Fld := ⟨PXH_VERIFY, 13, 8⟩
def PXH_VERIFY_A_VERIFY : Fld := ⟨PXH_VERIFY, 5, 0⟩
/-- PXH_PERSIST (07_pixel_health, RW): PASS_N, FAIL_WIN, FAIL_N. -/
def PXH_PERSIST : Nat := 0xA0008
def PXH_PERSIST_PASS_N : Fld := ⟨PXH_PERSIST, 28, 24⟩
def PXH_PERSIST_FAIL_WIN : Fld := ⟨PXH_PERSIST, 23, 16⟩
def PXH_PERSIST_FAIL_N : Fld := ⟨PXH_PERSIST, 3, 0⟩
/-- PXH_PROOF (07_pixel_health, RW): PROOF_MAX. -/
def PXH_PROOF : Nat := 0xA000C
def PXH_PROOF_PROOF_MAX : Fld := ⟨PXH_PROOF, 11, 0⟩
/-- PXH_AGE (07_pixel_health, RW): age boundary period. -/
def PXH_AGE : Nat := 0xA0010
def PXH_AGE_PERIOD_LOG2 : Fld := ⟨PXH_AGE, 2, 0⟩
/-- PXH_THRESH (07_pixel_health, RW): zone headroom limit, dark and short thresholds. -/
def PXH_THRESH : Nat := 0xA0014
def PXH_THRESH_ZONE_HR_MAX : Fld := ⟨PXH_THRESH, 31, 24⟩
def PXH_THRESH_DARK_TH : Fld := ⟨PXH_THRESH, 23, 16⟩
def PXH_THRESH_VF_SHORT : Fld := ⟨PXH_THRESH, 7, 0⟩
/-- PXH_STAT (07_pixel_health, RO): cache fill, stuck-on candidates, localisation. -/
def PXH_STAT : Nat := 0xA0018
def PXH_STAT_CACHE_FILL : Fld := ⟨PXH_STAT, 27, 16⟩
def PXH_STAT_STUCK_CAND : Fld := ⟨PXH_STAT, 15, 8⟩
def PXH_STAT_LOCALISING : Fld := ⟨PXH_STAT, 0, 0⟩
/-- PXH_STUCK (07_pixel_health, W1C): confirmed stuck-on zones. -/
def PXH_STUCK : Nat := 0xA001C
def PXH_STUCK_ZONES : Fld := ⟨PXH_STUCK, 7, 0⟩
/-- PXH_STUCK_LOC (07_pixel_health, RO): last localised band. -/
def PXH_STUCK_LOC : Nat := 0xA0020
def PXH_STUCK_LOC_VALID : Fld := ⟨PXH_STUCK_LOC, 31, 31⟩
def PXH_STUCK_LOC_ZONE : Fld := ⟨PXH_STUCK_LOC, 18, 16⟩
def PXH_STUCK_LOC_BAND : Fld := ⟨PXH_STUCK_LOC, 5, 0⟩
/-- PXH_N_SUSPECT (07_pixel_health, RO): pixels in SUSPECT. -/
def PXH_N_SUSPECT : Nat := 0xA0024
def PXH_N_SUSPECT_N : Fld := ⟨PXH_N_SUSPECT, 20, 0⟩
/-- PXH_N_SPARED (07_pixel_health, RO): pixels in SPARED. -/
def PXH_N_SPARED : Nat := 0xA0028
def PXH_N_SPARED_N : Fld := ⟨PXH_N_SPARED, 20, 0⟩
/-- PXH_N_DEAD (07_pixel_health, RO): pixels in DEAD. -/
def PXH_N_DEAD : Nat := 0xA002C
def PXH_N_DEAD_N : Fld := ⟨PXH_N_DEAD, 20, 0⟩
/-- PXH_N_AGE3 (07_pixel_health, RO): non-DEAD pixels at AGE 3. -/
def PXH_N_AGE3 : Nat := 0xA0030
def PXH_N_AGE3_N : Fld := ⟨PXH_N_AGE3, 20, 0⟩
/-- PXH_COUNT_A (07_pixel_health, RO): retirements, deaths. -/
def PXH_COUNT_A : Nat := 0xA0034
def PXH_COUNT_A_RETIRED : Fld := ⟨PXH_COUNT_A, 31, 16⟩
def PXH_COUNT_A_DIED : Fld := ⟨PXH_COUNT_A, 15, 0⟩
/-- PXH_COUNT_B (07_pixel_health, RO): discarded headroom strobes, cache overflows. -/
def PXH_COUNT_B : Nat := 0xA0038
def PXH_COUNT_B_HR_DISCARD : Fld := ⟨PXH_COUNT_B, 31, 16⟩
def PXH_COUNT_B_OVF : Fld := ⟨PXH_COUNT_B, 15, 0⟩
/-- PXH_COUNT_C (07_pixel_health, RO): proofs counted, proofs refused. -/
def PXH_COUNT_C : Nat := 0xA003C
def PXH_COUNT_C_PROVEN : Fld := ⟨PXH_COUNT_C, 31, 16⟩
def PXH_COUNT_C_REFUSED : Fld := ⟨PXH_COUNT_C, 15, 0⟩
/-- PXH_LAST (07_pixel_health, RO): last pixel event. -/
def PXH_LAST : Nat := 0xA0040
def PXH_LAST_EVENT : Fld := ⟨PXH_LAST, 27, 24⟩
def PXH_LAST_PIXEL : Fld := ⟨PXH_LAST, 20, 0⟩
/-- THM_CTRL (08_thermal, RW): automatic demand, cross-check start, counter clear. -/
def THM_CTRL : Nat := 0xB0000
def THM_CTRL_CNT_CLR : Fld := ⟨THM_CTRL, 2, 2⟩
def THM_CTRL_XCHK_RUN : Fld := ⟨THM_CTRL, 1, 1⟩
def THM_CTRL_AUTO_EN : Fld := ⟨THM_CTRL, 0, 0⟩
/-- THM_CFG (08_thermal, RW): window, spread correction, automatic age. -/
def THM_CFG : Nat := 0xB0004
def THM_CFG_SSC_MEAN : Fld := ⟨THM_CFG, 31, 24⟩
def THM_CFG_WIN_LOG2 : Fld := ⟨THM_CFG, 9, 8⟩
def THM_CFG_AUTO_FRAMES : Fld := ⟨THM_CFG, 7, 0⟩
/-- THM_DERATE_CFG (08_thermal, RW): derate recovery rate, blank hysteresis. -/
def THM_DERATE_CFG : Nat := 0xB0008
def THM_DERATE_CFG_DR_UP_MAX : Fld := ⟨THM_DERATE_CFG, 15, 8⟩
def THM_DERATE_CFG_BLANK_HYST : Fld := ⟨THM_DERATE_CFG, 7, 0⟩
/-- THM_BROKEN_CFG (08_thermal, RW): neighbour deviation, persistence. -/
def THM_BROKEN_CFG : Nat := 0xB000C
def THM_BROKEN_CFG_NBR_DEV : Fld := ⟨THM_BROKEN_CFG, 15, 8⟩
def THM_BROKEN_CFG_BROKEN_N : Fld := ⟨THM_BROKEN_CFG, 3, 0⟩
/-- THM_SHUT (08_thermal, RWL): shutdown thresholds. -/
def THM_SHUT : Nat := 0xB0010
def THM_SHUT_SHUT_ZONES : Fld := ⟨THM_SHUT, 31, 24⟩
def THM_SHUT_T_ARRAY : Fld := ⟨THM_SHUT, 23, 16⟩
def THM_SHUT_T_LOGIC : Fld := ⟨THM_SHUT, 15, 8⟩
/-- THM_XCHK_CFG (08_thermal, RW): cross-check tolerance and inputs. -/
def THM_XCHK_CFG : Nat := 0xB0014
def THM_XCHK_CFG_XCHK_TOL : Fld := ⟨THM_XCHK_CFG, 23, 16⟩
def THM_XCHK_CFG_NTC_SEL : Fld := ⟨THM_XCHK_CFG, 1, 0⟩
/-- THM_STAT (08_thermal, RO): summary state. -/
def THM_STAT : Nat := 0xB0018
def THM_STAT_SHUT_HOLD : Fld := ⟨THM_STAT, 31, 31⟩
def THM_STAT_XCHK_RESULT : Fld := ⟨THM_STAT, 30, 28⟩
def THM_STAT_DER_LOADED : Fld := ⟨THM_STAT, 27, 27⟩
def THM_STAT_N_BROKEN : Fld := ⟨THM_STAT, 23, 16⟩
def THM_STAT_N_DERATED : Fld := ⟨THM_STAT, 15, 8⟩
def THM_STAT_N_BLANK : Fld := ⟨THM_STAT, 6, 0⟩
/-- THM_BLANK_LO (08_thermal, RO): blanked zones Z0 to Z31. -/
def THM_BLANK_LO : Nat := 0xB001C
/-- THM_BLANK_HI (08_thermal, RO): blanked zones Z32 to Z63. -/
def THM_BLANK_HI : Nat := 0xB0020
/-- THM_BROKEN0 (08_thermal, W1C): broken sensors S0 to S31. -/
def THM_BROKEN0 : Nat := 0xB0024
/-- THM_BROKEN1 (08_thermal, W1C): broken sensors S32 to S63. -/
def THM_BROKEN1 : Nat := 0xB0028
/-- THM_BROKEN2 (08_thermal, W1C): broken sensors S64 to S71. -/
def THM_BROKEN2 : Nat := 0xB002C
/-- THM_XCHK_FAIL0 (08_thermal, RO): cross-check failures S0 to S31. -/
def THM_XCHK_FAIL0 : Nat := 0xB0030
/-- THM_XCHK_FAIL1 (08_thermal, RO): cross-check failures S32 to S63. -/
def THM_XCHK_FAIL1 : Nat := 0xB0034
/-- THM_XCHK_NTC (08_thermal, RO): reference of the last cross-check. -/
def THM_XCHK_NTC : Nat := 0xB0038
def THM_XCHK_NTC_TEMP : Fld := ⟨THM_XCHK_NTC, 15, 0⟩
/-- THM_COUNT (08_thermal, RO): automatic and dropped demands. -/
def THM_COUNT : Nat := 0xB003C
def THM_COUNT_AUTO : Fld := ⟨THM_COUNT, 31, 16⟩
def THM_COUNT_DROPPED : Fld := ⟨THM_COUNT, 15, 0⟩
/-- THM_LOAD_ERR (08_thermal, RO): last rejected derate table. -/
def THM_LOAD_ERR : Nat := 0xB0040
def THM_LOAD_ERR_CODE : Fld := ⟨THM_LOAD_ERR, 23, 16⟩
def THM_LOAD_ERR_INDEX : Fld := ⟨THM_LOAD_ERR, 7, 0⟩
/-- THM_TCAL (08_thermal, RO): production temperatures. -/
def THM_TCAL : Nat := 0xB0044
def THM_TCAL_T_LO16 : Fld := ⟨THM_TCAL, 31, 16⟩
def THM_TCAL_T_HI16 : Fld := ⟨THM_TCAL, 15, 0⟩
/-- THM_NTC_PTn (08_thermal, RW): thermistor breakpoints, PTi at 0x050 + 4 × i. -/
def THM_NTC_PTn (n : Nat) : Nat := 0xB0050 + 0x4 * n
def THM_NTC_PTn_CODE (n : Nat) : Fld := ⟨THM_NTC_PTn n, 27, 16⟩
def THM_NTC_PTn_TEMP (n : Nat) : Fld := ⟨THM_NTC_PTn n, 15, 0⟩
/-- THM_RESn (08_thermal, RO): result of Sn at 0x100 + 4 × n. -/
def THM_RESn (n : Nat) : Nat := 0xB0100 + 0x4 * n
def THM_RESn_VALID (n : Nat) : Fld := ⟨THM_RESn n, 31, 31⟩
def THM_RESn_BROKEN (n : Nat) : Fld := ⟨THM_RESn n, 30, 30⟩
def THM_RESn_SUBST (n : Nat) : Fld := ⟨THM_RESn n, 29, 29⟩
def THM_RESn_AGE (n : Nat) : Fld := ⟨THM_RESn n, 23, 16⟩
def THM_RESn_TEMP (n : Nat) : Fld := ⟨THM_RESn n, 15, 0⟩
/-- THM_DRn (08_thermal, RO): DR_z of zones 4n to 4n + 3. -/
def THM_DRn (n : Nat) : Nat := 0xB0300 + 0x4 * n
def THM_DRn_DR3 (n : Nat) : Fld := ⟨THM_DRn n, 31, 24⟩
def THM_DRn_DR2 (n : Nat) : Fld := ⟨THM_DRn n, 23, 16⟩
def THM_DRn_DR1 (n : Nat) : Fld := ⟨THM_DRn n, 15, 8⟩
def THM_DRn_DR0 (n : Nat) : Fld := ⟨THM_DRn n, 7, 0⟩
/-- THM_RAWn (08_thermal, RO): last N_raw of Sn. -/
def THM_RAWn (n : Nat) : Nat := 0xB0400 + 0x4 * n
def THM_RAWn_COUNT (n : Nat) : Fld := ⟨THM_RAWn n, 19, 0⟩
/-- THM_CAL_LOn (08_thermal, RO): CAL_LO of Sn. -/
def THM_CAL_LOn (n : Nat) : Nat := 0xB0600 + 0x4 * n
def THM_CAL_LOn_COUNT (n : Nat) : Fld := ⟨THM_CAL_LOn n, 19, 0⟩
/-- THM_CAL_HIn (08_thermal, RO): CAL_HI of Sn. -/
def THM_CAL_HIn (n : Nat) : Nat := 0xB0800 + 0x4 * n
def THM_CAL_HIn_COUNT (n : Nat) : Fld := ⟨THM_CAL_HIn n, 19, 0⟩
/-- HLx_CTRL (09_host_link, RW): enable, retrain, counter clear. -/
def HLx_CTRL (p : Nat) : Nat := 0x10000 + 0x10000 * p
def HLx_CTRL_CNT_CLR (p : Nat) : Fld := ⟨HLx_CTRL p, 2, 2⟩
def HLx_CTRL_RETRAIN (p : Nat) : Fld := ⟨HLx_CTRL p, 1, 1⟩
def HLx_CTRL_EN (p : Nat) : Fld := ⟨HLx_CTRL p, 0, 0⟩
/-- HLx_CFG (09_host_link, RW): replay, acknowledgement and stall timing. -/
def HLx_CFG (p : Nat) : Nat := 0x10004 + 0x10000 * p
def HLx_CFG_REPLAY_TO (p : Nat) : Fld := ⟨HLx_CFG p, 31, 24⟩
def HLx_CFG_REPLAY_MAX (p : Nat) : Fld := ⟨HLx_CFG p, 23, 20⟩
def HLx_CFG_ACK_LAT (p : Nat) : Fld := ⟨HLx_CFG p, 15, 8⟩
def HLx_CFG_STALL_TO (p : Nat) : Fld := ⟨HLx_CFG p, 7, 0⟩
/-- HLx_PWR (09_host_link, RW): lane power state controls. -/
def HLx_PWR (p : Nat) : Nat := 0x10008 + 0x10000 * p
def HLx_PWR_L2_EN (p : Nat) : Fld := ⟨HLx_PWR p, 17, 17⟩
def HLx_PWR_L1_EN (p : Nat) : Fld := ⟨HLx_PWR p, 16, 16⟩
def HLx_PWR_L1_IDLE (p : Nat) : Fld := ⟨HLx_PWR p, 15, 0⟩
/-- HLx_STAT (09_host_link, RO): link and unit state. -/
def HLx_STAT (p : Nat) : Nat := 0x1000C + 0x10000 * p
def HLx_STAT_LAST_DOWN (p : Nat) : Fld := ⟨HLx_STAT p, 31, 24⟩
def HLx_STAT_UNIT (p : Nat) : Fld := ⟨HLx_STAT p, 13, 12⟩
def HLx_STAT_EN_PENDING (p : Nat) : Fld := ⟨HLx_STAT p, 11, 11⟩
def HLx_STAT_LANE_REV (p : Nat) : Fld := ⟨HLx_STAT p, 10, 10⟩
def HLx_STAT_POL_INV1 (p : Nat) : Fld := ⟨HLx_STAT p, 9, 9⟩
def HLx_STAT_POL_INV0 (p : Nat) : Fld := ⟨HLx_STAT p, 8, 8⟩
def HLx_STAT_LINK (p : Nat) : Fld := ⟨HLx_STAT p, 3, 0⟩
/-- HLx_SEQ (09_host_link, RO): link sequence counts. -/
def HLx_SEQ (p : Nat) : Nat := 0x10010 + 0x10000 * p
def HLx_SEQ_TX_NEXT (p : Nat) : Fld := ⟨HLx_SEQ p, 31, 16⟩
def HLx_SEQ_RX_EXP (p : Nat) : Fld := ⟨HLx_SEQ p, 15, 0⟩
/-- HLx_CRED (09_host_link, RO): credits and replay fill. -/
def HLx_CRED (p : Nat) : Nat := 0x10014 + 0x10000 * p
def HLx_CRED_RX_FREE (p : Nat) : Fld := ⟨HLx_CRED p, 31, 20⟩
def HLx_CRED_TX_AVAIL (p : Nat) : Fld := ⟨HLx_CRED p, 19, 8⟩
def HLx_CRED_OUTSTANDING (p : Nat) : Fld := ⟨HLx_CRED p, 4, 0⟩
/-- HLx_COUNT0 (09_host_link, RO): CRC errors, replays. -/
def HLx_COUNT0 (p : Nat) : Nat := 0x10018 + 0x10000 * p
def HLx_COUNT0_CRC_ERR (p : Nat) : Fld := ⟨HLx_COUNT0 p, 31, 16⟩
def HLx_COUNT0_REPLAYS (p : Nat) : Fld := ⟨HLx_COUNT0 p, 15, 0⟩
/-- HLx_COUNT1 (09_host_link, RO): malformed packets, retrains, link-down events. -/
def HLx_COUNT1 (p : Nat) : Nat := 0x1001C + 0x10000 * p
def HLx_COUNT1_MALFORMED (p : Nat) : Fld := ⟨HLx_COUNT1 p, 31, 16⟩
def HLx_COUNT1_RETRAINS (p : Nat) : Fld := ⟨HLx_COUNT1 p, 15, 8⟩
def HLx_COUNT1_DOWNS (p : Nat) : Fld := ⟨HLx_COUNT1 p, 7, 0⟩
/-- HLx_COUNT2 (09_host_link, RO): symbol errors, nullified packets. -/
def HLx_COUNT2 (p : Nat) : Nat := 0x10020 + 0x10000 * p
def HLx_COUNT2_SYM_ERR (p : Nat) : Fld := ⟨HLx_COUNT2 p, 31, 16⟩
def HLx_COUNT2_NULLIFIED (p : Nat) : Fld := ⟨HLx_COUNT2 p, 15, 0⟩
/-- HLx_HB (09_host_link, RO): heartbeat pin. -/
def HLx_HB (p : Nat) : Nat := 0x10024 + 0x10000 * p
def HLx_HB_LEVEL (p : Nat) : Fld := ⟨HLx_HB p, 31, 31⟩
def HLx_HB_BEATS (p : Nat) : Fld := ⟨HLx_HB p, 30, 24⟩
def HLx_HB_AGE_US (p : Nat) : Fld := ⟨HLx_HB p, 23, 0⟩
/-- HLx_ATTN_MASK (09_host_link, RW): attention causes enabled. -/
def HLx_ATTN_MASK (p : Nat) : Nat := 0x10028 + 0x10000 * p
def HLx_ATTN_MASK_SEV (p : Nat) : Fld := ⟨HLx_ATTN_MASK p, 9, 8⟩
def HLx_ATTN_MASK_MASK (p : Nat) : Fld := ⟨HLx_ATTN_MASK p, 3, 0⟩
/-- HLx_ATTN_STAT (09_host_link, W1C): attention causes pending. -/
def HLx_ATTN_STAT (p : Nat) : Nat := 0x1002C + 0x10000 * p
def HLx_ATTN_STAT_PEER_DOWN (p : Nat) : Fld := ⟨HLx_ATTN_STAT p, 3, 3⟩
def HLx_ATTN_STAT_LADDER (p : Nat) : Fld := ⟨HLx_ATTN_STAT p, 2, 2⟩
def HLx_ATTN_STAT_FAULT (p : Nat) : Fld := ⟨HLx_ATTN_STAT p, 1, 1⟩
def HLx_ATTN_STAT_WAKE (p : Nat) : Fld := ⟨HLx_ATTN_STAT p, 0, 0⟩
/-- LME_CTRL (09_host_link, RW): eye monitor enable, counter clear. -/
def LME_CTRL : Nat := 0x150000
def LME_CTRL_EYE_EN : Fld := ⟨LME_CTRL, 1, 1⟩
def LME_CTRL_CNT_CLR : Fld := ⟨LME_CTRL, 0, 0⟩
/-- LME_EYE_CFG (09_host_link, RW): eye limit and interval. -/
def LME_EYE_CFG : Nat := 0x150004
def LME_EYE_CFG_EYE_MIN : Fld := ⟨LME_EYE_CFG, 15, 8⟩
def LME_EYE_CFG_EYE_INT : Fld := ⟨LME_EYE_CFG, 7, 0⟩
/-- LME_TEST (09_host_link, RO): state of the lane test. -/
def LME_TEST : Nat := 0x150008
def LME_TEST_RUNNING : Fld := ⟨LME_TEST, 31, 31⟩
def LME_TEST_LANES : Fld := ⟨LME_TEST, 27, 24⟩
def LME_TEST_SYNC : Fld := ⟨LME_TEST, 23, 20⟩
def LME_TEST_MODE : Fld := ⟨LME_TEST, 17, 16⟩
def LME_TEST_PATTERN : Fld := ⟨LME_TEST, 13, 12⟩
/-- LME_TEST_TIME (09_host_link, RO): elapsed test time. -/
def LME_TEST_TIME : Nat := 0x15000C
def LME_TEST_TIME_ELAPSED_US : Fld := ⟨LME_TEST_TIME, 31, 0⟩
/-- LME_ERRn (09_host_link, RO): bit errors of A0, A1, B0, B1 at 0x010 + 4 × i. -/
def LME_ERRn (n : Nat) : Nat := 0x150010 + 0x4 * n
def LME_ERRn_ERRORS (n : Nat) : Fld := ⟨LME_ERRn n, 31, 0⟩
/-- LME_SYNC_LOSS (09_host_link, RO): checker sync losses per lane. -/
def LME_SYNC_LOSS : Nat := 0x150020
def LME_SYNC_LOSS_B1 : Fld := ⟨LME_SYNC_LOSS, 31, 24⟩
def LME_SYNC_LOSS_B0 : Fld := ⟨LME_SYNC_LOSS, 23, 16⟩
def LME_SYNC_LOSS_A1 : Fld := ⟨LME_SYNC_LOSS, 15, 8⟩
def LME_SYNC_LOSS_A0 : Fld := ⟨LME_SYNC_LOSS, 7, 0⟩
/-- LME_EYE (09_host_link, RO): eye widths per lane. -/
def LME_EYE : Nat := 0x150024
def LME_EYE_B1 : Fld := ⟨LME_EYE, 31, 24⟩
def LME_EYE_B0 : Fld := ⟨LME_EYE, 23, 16⟩
def LME_EYE_A1 : Fld := ⟨LME_EYE, 15, 8⟩
def LME_EYE_A0 : Fld := ⟨LME_EYE, 7, 0⟩
/-- LME_INJ (09_host_link, RO): pending injections. -/
def LME_INJ : Nat := 0x150028
def LME_INJ_KIND_B : Fld := ⟨LME_INJ, 26, 24⟩
def LME_INJ_PEND_B : Fld := ⟨LME_INJ, 23, 16⟩
def LME_INJ_KIND_A : Fld := ⟨LME_INJ, 10, 8⟩
def LME_INJ_PEND_A : Fld := ⟨LME_INJ, 7, 0⟩
/-- CMD_CTRL (10_commands, RW): counter clear. -/
def CMD_CTRL : Nat := 0x30000
def CMD_CTRL_CNT_CLR : Fld := ⟨CMD_CTRL, 0, 0⟩
/-- CMD_CFG (10_commands, RW): transfer timeout, refusal reply cap. -/
def CMD_CFG : Nat := 0x30004
def CMD_CFG_ERR_REPLY_MAX : Fld := ⟨CMD_CFG, 23, 16⟩
def CMD_CFG_XFER_TO : Fld := ⟨CMD_CFG, 7, 0⟩
/-- CMD_STAT (10_commands, RO): reply queues, transfers, global fence. -/
def CMD_STAT : Nat := 0x30008
def CMD_STAT_RQ_A : Fld := ⟨CMD_STAT, 31, 24⟩
def CMD_STAT_RQ_B : Fld := ⟨CMD_STAT, 23, 16⟩
def CMD_STAT_XFERS : Fld := ⟨CMD_STAT, 15, 8⟩
def CMD_STAT_GFENCE : Fld := ⟨CMD_STAT, 0, 0⟩
/-- CMD_THIMBLE_CFG (10_commands, RW): default lease. -/
def CMD_THIMBLE_CFG : Nat := 0x3000C
def CMD_THIMBLE_CFG_LEASE_DEF : Fld := ⟨CMD_THIMBLE_CFG, 13, 0⟩
/-- CMD_THIMBLE_STAT (10_commands, RO): contest priority, Thimbles held. -/
def CMD_THIMBLE_STAT : Nat := 0x30010
def CMD_THIMBLE_STAT_PRIO : Fld := ⟨CMD_THIMBLE_STAT, 8, 8⟩
def CMD_THIMBLE_STAT_HELD : Fld := ⟨CMD_THIMBLE_STAT, 7, 0⟩
/-- CMD_KEY_CTRL (10_commands, WO): key slot load and clear. -/
def CMD_KEY_CTRL : Nat := 0x30014
def CMD_KEY_CTRL_CLR : Fld := ⟨CMD_KEY_CTRL, 15, 8⟩
def CMD_KEY_CTRL_LOAD : Fld := ⟨CMD_KEY_CTRL, 7, 0⟩
/-- CMD_KEY_STAT (10_commands, RO): loaded key slots. -/
def CMD_KEY_STAT : Nat := 0x30018
def CMD_KEY_STAT_LOADED : Fld := ⟨CMD_KEY_STAT, 7, 0⟩
/-- CMD_LAST_REFUSED (10_commands, RO): last refused command. -/
def CMD_LAST_REFUSED : Nat := 0x3001C
def CMD_LAST_REFUSED_STATUS : Fld := ⟨CMD_LAST_REFUSED, 31, 24⟩
def CMD_LAST_REFUSED_CHAN : Fld := ⟨CMD_LAST_REFUSED, 23, 16⟩
def CMD_LAST_REFUSED_OPCODE : Fld := ⟨CMD_LAST_REFUSED, 15, 8⟩
def CMD_LAST_REFUSED_PORT : Fld := ⟨CMD_LAST_REFUSED, 0, 0⟩
/-- CMD_THIMBLEn (10_commands, RO): state of Tn at 0x020 + 4 × n. -/
def CMD_THIMBLEn (n : Nat) : Nat := 0x30020 + 0x4 * n
def CMD_THIMBLEn_HOLDER (n : Nat) : Fld := ⟨CMD_THIMBLEn n, 31, 30⟩
def CMD_THIMBLEn_WAITER (n : Nat) : Fld := ⟨CMD_THIMBLEn n, 29, 28⟩
def CMD_THIMBLEn_WAIT_REMAIN (n : Nat) : Fld := ⟨CMD_THIMBLEn n, 23, 16⟩
def CMD_THIMBLEn_LEASE_REMAIN (n : Nat) : Fld := ⟨CMD_THIMBLEn n, 13, 0⟩
/-- CMD_KEY_STAGEn (10_commands, WO): key staging words. -/
def CMD_KEY_STAGEn (n : Nat) : Nat := 0x30040 + 0x4 * n
/-- CMD_COUNT0 (10_commands, RO): privilege and authentication refusals. -/
def CMD_COUNT0 : Nat := 0x30050
def CMD_COUNT0_PRIV : Fld := ⟨CMD_COUNT0, 31, 16⟩
def CMD_COUNT0_AUTH : Fld := ⟨CMD_COUNT0, 15, 0⟩
/-- CMD_COUNT1 (10_commands, RO): rate refusals, dropped packets and replies. -/
def CMD_COUNT1 : Nat := 0x30054
def CMD_COUNT1_RATE : Fld := ⟨CMD_COUNT1, 31, 16⟩
def CMD_COUNT1_ERR_DROPPED : Fld := ⟨CMD_COUNT1, 15, 0⟩
/-- CMD_COUNT2 (10_commands, RO): duplicates, contested grants. -/
def CMD_COUNT2 : Nat := 0x30058
def CMD_COUNT2_DUPLICATE : Fld := ⟨CMD_COUNT2, 31, 16⟩
def CMD_COUNT2_CONTESTED : Fld := ⟨CMD_COUNT2, 15, 0⟩
/-- CMD_CHANn_W0 (10_commands, RO): channel n at 0x800 + 8 × n, W1 at + 4. -/
def CMD_CHANn_W0 (n : Nat) : Nat := 0x30800 + 0x8 * n
def CMD_CHANn_W0_CLASS (n : Nat) : Fld := ⟨CMD_CHANn_W0 n, 31, 16⟩
def CMD_CHANn_W0_LAYERS (n : Nat) : Fld := ⟨CMD_CHANn_W0 n, 15, 8⟩
def CMD_CHANn_W0_RATE (n : Nat) : Fld := ⟨CMD_CHANn_W0 n, 7, 0⟩
/-- CMD_CHANn_W1 (10_commands, RO): channel n at 0x800 + 8 × n, W1 at + 4. -/
def CMD_CHANn_W1 (n : Nat) : Nat := 0x30804 + 0x8 * n
def CMD_CHANn_W1_OPEN (n : Nat) : Fld := ⟨CMD_CHANn_W1 n, 31, 31⟩
def CMD_CHANn_W1_PORTS (n : Nat) : Fld := ⟨CMD_CHANn_W1 n, 30, 29⟩
def CMD_CHANn_W1_DUP (n : Nat) : Fld := ⟨CMD_CHANn_W1 n, 28, 28⟩
def CMD_CHANn_W1_PRIO (n : Nat) : Fld := ⟨CMD_CHANn_W1 n, 27, 26⟩
def CMD_CHANn_W1_KEY_EN (n : Nat) : Fld := ⟨CMD_CHANn_W1 n, 25, 25⟩
def CMD_CHANn_W1_KEY (n : Nat) : Fld := ⟨CMD_CHANn_W1 n, 24, 22⟩
def CMD_CHANn_W1_DUP_HOLD (n : Nat) : Fld := ⟨CMD_CHANn_W1 n, 17, 8⟩
def CMD_CHANn_W1_TIMEOUT (n : Nat) : Fld := ⟨CMD_CHANn_W1 n, 7, 0⟩
/-- CCX_CTRL (11_redundancy, RW): checkpoint, handover, core reset, basting, counter clear. -/
def CCX_CTRL : Nat := 0x40000
def CCX_CTRL_CNT_CLR : Fld := ⟨CCX_CTRL, 5, 5⟩
def CCX_CTRL_AUTO_BASTE : Fld := ⟨CCX_CTRL, 4, 4⟩
def CCX_CTRL_RST_CCB : Fld := ⟨CCX_CTRL, 3, 3⟩
def CCX_CTRL_RST_CCA : Fld := ⟨CCX_CTRL, 2, 2⟩
def CCX_CTRL_SWAP : Fld := ⟨CCX_CTRL, 1, 1⟩
def CCX_CTRL_CKPT : Fld := ⟨CCX_CTRL, 0, 0⟩
/-- CCX_CFG (11_redundancy, RWL): basting limit, core heartbeat timeout. -/
def CCX_CFG : Nat := 0x40004
def CCX_CFG_BASTE_MAX : Fld := ⟨CCX_CFG, 31, 16⟩
def CCX_CFG_CC_HB_TO : Fld := ⟨CCX_CFG, 7, 0⟩
/-- CCX_STAT (11_redundancy, RO): core epoch, roles and states. -/
def CCX_STAT : Nat := 0x40008
def CCX_STAT_CEPOCH : Fld := ⟨CCX_STAT, 31, 17⟩
def CCX_STAT_ACTIVE : Fld := ⟨CCX_STAT, 16, 16⟩
def CCX_STAT_CCB_STATE : Fld := ⟨CCX_STAT, 6, 4⟩
def CCX_STAT_CCA_STATE : Fld := ⟨CCX_STAT, 2, 0⟩
/-- CCX_CORE_HB (11_redundancy, RO): core beat ages. -/
def CCX_CORE_HB : Nat := 0x4000C
def CCX_CORE_HB_CCB_AGE : Fld := ⟨CCX_CORE_HB, 31, 16⟩
def CCX_CORE_HB_CCA_AGE : Fld := ⟨CCX_CORE_HB, 15, 0⟩
/-- CCX_HOST_A (11_redundancy, RO): host A state and HEPOCH. -/
def CCX_HOST_A : Nat := 0x40010
def CCX_HOST_A_STATE : Fld := ⟨CCX_HOST_A, 31, 30⟩
def CCX_HOST_A_LINK_OK : Fld := ⟨CCX_HOST_A, 29, 29⟩
def CCX_HOST_A_PIN_OK : Fld := ⟨CCX_HOST_A, 28, 28⟩
def CCX_HOST_A_EPOCH : Fld := ⟨CCX_HOST_A, 14, 0⟩
/-- CCX_HOST_B (11_redundancy, RO): host B state and HEPOCH. -/
def CCX_HOST_B : Nat := 0x40014
def CCX_HOST_B_STATE : Fld := ⟨CCX_HOST_B, 31, 30⟩
def CCX_HOST_B_LINK_OK : Fld := ⟨CCX_HOST_B, 29, 29⟩
def CCX_HOST_B_PIN_OK : Fld := ⟨CCX_HOST_B, 28, 28⟩
def CCX_HOST_B_EPOCH : Fld := ⟨CCX_HOST_B, 14, 0⟩
/-- CCX_HOST_TO (11_redundancy, RO): HOST_HB_TIMEOUT in effect. -/
def CCX_HOST_TO : Nat := 0x40018
def CCX_HOST_TO_TIMEOUT_MS : Fld := ⟨CCX_HOST_TO, 15, 0⟩
/-- CCX_DUP (11_redundancy, RW): stream state, SEPOCH, preferred port. -/
def CCX_DUP : Nat := 0x4001C
def CCX_DUP_LIVE : Fld := ⟨CCX_DUP, 31, 31⟩
def CCX_DUP_SEPOCH : Fld := ⟨CCX_DUP, 30, 16⟩
def CCX_DUP_PREF : Fld := ⟨CCX_DUP, 0, 0⟩
/-- CCX_JHEAD (11_redundancy, RO): JSEQ of the latest entry. -/
def CCX_JHEAD : Nat := 0x40020
/-- CCX_JBASE (11_redundancy, RO): J_ck of the newest committed checkpoint. -/
def CCX_JBASE : Nat := 0x40024
/-- CCX_JFILL (11_redundancy, RO): journal fill. -/
def CCX_JFILL : Nat := 0x40028
def CCX_JFILL_WORDS : Fld := ⟨CCX_JFILL, 16, 0⟩
/-- CCX_CKPT (11_redundancy, RO): checkpoint slots. -/
def CCX_CKPT : Nat := 0x4002C
def CCX_CKPT_WRITING : Fld := ⟨CCX_CKPT, 7, 7⟩
def CCX_CKPT_TARGET : Fld := ⟨CCX_CKPT, 6, 6⟩
def CCX_CKPT_NEWEST : Fld := ⟨CCX_CKPT, 5, 5⟩
def CCX_CKPT_VALID1 : Fld := ⟨CCX_CKPT, 1, 1⟩
def CCX_CKPT_VALID0 : Fld := ⟨CCX_CKPT, 0, 0⟩
/-- CCX_BASTE (11_redundancy, RO): basting progress. -/
def CCX_BASTE : Nat := 0x40030
def CCX_BASTE_RESULT : Fld := ⟨CCX_BASTE, 31, 30⟩
def CCX_BASTE_CORE : Fld := ⟨CCX_BASTE, 29, 29⟩
def CCX_BASTE_REASON : Fld := ⟨CCX_BASTE, 28, 25⟩
def CCX_BASTE_LEFT : Fld := ⟨CCX_BASTE, 23, 0⟩
/-- CCX_RECOVERY (11_redundancy, RO): last recovery. -/
def CCX_RECOVERY : Nat := 0x40034
def CCX_RECOVERY_CAUSE : Fld := ⟨CCX_RECOVERY, 31, 24⟩
def CCX_RECOVERY_DURATION_US : Fld := ⟨CCX_RECOVERY, 23, 0⟩
/-- CCX_COUNT0 (11_redundancy, RO): takeovers, stale rejects. -/
def CCX_COUNT0 : Nat := 0x40038
def CCX_COUNT0_TAKEOVERS : Fld := ⟨CCX_COUNT0, 31, 16⟩
def CCX_COUNT0_STALE_REJECT : Fld := ⟨CCX_COUNT0, 15, 0⟩
/-- CCX_COUNT1 (11_redundancy, RO): core divergences, failed bastes. -/
def CCX_COUNT1 : Nat := 0x4003C
def CCX_COUNT1_DIVERGE : Fld := ⟨CCX_COUNT1, 31, 16⟩
def CCX_COUNT1_BASTE_FAIL : Fld := ⟨CCX_COUNT1, 15, 0⟩
/-- CCX_COUNT2 (11_redundancy, RO): copy divergences, dropped replies. -/
def CCX_COUNT2 : Nat := 0x40040
def CCX_COUNT2_DUP_DIVERGE : Fld := ⟨CCX_COUNT2, 31, 16⟩
def CCX_COUNT2_REPLY_DROP : Fld := ⟨CCX_COUNT2, 15, 0⟩
/-- CCX_COUNT3 (11_redundancy, RO): solo and absorbed copies. -/
def CCX_COUNT3 : Nat := 0x40044
def CCX_COUNT3_SOLO : Fld := ⟨CCX_COUNT3, 31, 16⟩
def CCX_COUNT3_ABSORBED : Fld := ⟨CCX_COUNT3, 15, 0⟩
/-- SMC_CTRL (12_safety, RW): counter clear. -/
def SMC_CTRL : Nat := 0x50000
def SMC_CTRL_CNT_CLR : Fld := ⟨SMC_CTRL, 0, 0⟩
/-- SMC_STAT (12_safety, RO): ceiling, mode, paths and pins. -/
def SMC_STAT : Nat := 0x50004
def SMC_STAT_CEILING : Fld := ⟨SMC_STAT, 31, 29⟩
def SMC_STAT_MODE : Fld := ⟨SMC_STAT, 28, 28⟩
def SMC_STAT_SEAL_FUSED : Fld := ⟨SMC_STAT, 27, 27⟩
def SMC_STAT_FB_VALID : Fld := ⟨SMC_STAT, 26, 26⟩
def SMC_STAT_HEM_LOADED : Fld := ⟨SMC_STAT, 25, 25⟩
def SMC_STAT_ZONES_HW : Fld := ⟨SMC_STAT, 23, 16⟩
def SMC_STAT_KILL_ALL : Fld := ⟨SMC_STAT, 8, 8⟩
def SMC_STAT_SELF_FAIL : Fld := ⟨SMC_STAT, 7, 7⟩
def SMC_STAT_ALIVE_RUN : Fld := ⟨SMC_STAT, 6, 6⟩
def SMC_STAT_LIMP_REQ : Fld := ⟨SMC_STAT, 5, 5⟩
def SMC_STAT_SAFE_OFF : Fld := ⟨SMC_STAT, 4, 4⟩
def SMC_STAT_SAFE_SNS : Fld := ⟨SMC_STAT, 3, 3⟩
def SMC_STAT_SAFE_REQ : Fld := ⟨SMC_STAT, 2, 2⟩
/-- SMC_STRAPS (12_safety, RO): strap levels. -/
def SMC_STRAPS : Nat := 0x50008
def SMC_STRAPS_VALID : Fld := ⟨SMC_STRAPS, 31, 31⟩
def SMC_STRAPS_CHANGED : Fld := ⟨SMC_STRAPS, 30, 30⟩
def SMC_STRAPS_NOW1 : Fld := ⟨SMC_STRAPS, 14, 12⟩
def SMC_STRAPS_NOW0 : Fld := ⟨SMC_STRAPS, 10, 8⟩
def SMC_STRAPS_LEVEL1 : Fld := ⟨SMC_STRAPS, 6, 4⟩
def SMC_STRAPS_LEVEL0 : Fld := ⟨SMC_STRAPS, 2, 0⟩
/-- SMC_PROFILE (12_safety, RO): profile in effect. -/
def SMC_PROFILE : Nat := 0x5000C
def SMC_PROFILE_SRC : Fld := ⟨SMC_PROFILE, 31, 30⟩
def SMC_PROFILE_LEVEL : Fld := ⟨SMC_PROFILE, 29, 27⟩
def SMC_PROFILE_HB_ALLOWED : Fld := ⟨SMC_PROFILE, 26, 26⟩
def SMC_PROFILE_SOLO_OK : Fld := ⟨SMC_PROFILE, 25, 25⟩
def SMC_PROFILE_AUTO_PLAIN : Fld := ⟨SMC_PROFILE, 24, 24⟩
def SMC_PROFILE_LIMP_LEVEL : Fld := ⟨SMC_PROFILE, 23, 21⟩
def SMC_PROFILE_W_CMP : Fld := ⟨SMC_PROFILE, 15, 12⟩
def SMC_PROFILE_REQ_FILT : Fld := ⟨SMC_PROFILE, 11, 6⟩
/-- SMC_CFG (12_safety, RWL): ALIVE half period, off-pulse length. -/
def SMC_CFG : Nat := 0x50010
def SMC_CFG_ALIVE_HALF : Fld := ⟨SMC_CFG, 15, 8⟩
def SMC_CFG_PULSE_LEN : Fld := ⟨SMC_CFG, 4, 0⟩
/-- SMC_LIM_PX (12_safety, RO): pixel limits in effect. -/
def SMC_LIM_PX : Nat := 0x50014
def SMC_LIM_PX_E_PX_HIGH : Fld := ⟨SMC_LIM_PX, 31, 16⟩
def SMC_LIM_PX_E_PX_LOW : Fld := ⟨SMC_LIM_PX, 15, 0⟩
/-- SMC_LIM_GRP_LOW (12_safety, RO): E_GRP_LOW in effect. -/
def SMC_LIM_GRP_LOW : Nat := 0x50018
def SMC_LIM_GRP_LOW_E_GRP : Fld := ⟨SMC_LIM_GRP_LOW, 23, 0⟩
/-- SMC_LIM_GRP_HIGH (12_safety, RO): E_GRP_HIGH in effect. -/
def SMC_LIM_GRP_HIGH : Nat := 0x5001C
def SMC_LIM_GRP_HIGH_E_GRP : Fld := ⟨SMC_LIM_GRP_HIGH, 23, 0⟩
/-- SMC_PLAIN (12_safety, RO): Plain beam parameters. -/
def SMC_PLAIN : Nat := 0x50020
def SMC_PLAIN_PLAIN_CODE : Fld := ⟨SMC_PLAIN, 31, 16⟩
def SMC_PLAIN_PLAIN_MARGIN : Fld := ⟨SMC_PLAIN, 7, 0⟩
/-- SMC_AIM (12_safety, RO): aim and aim rows. -/
def SMC_AIM : Nat := 0x50024
def SMC_AIM_VALID : Fld := ⟨SMC_AIM, 31, 31⟩
def SMC_AIM_AIM_ROWS : Fld := ⟨SMC_AIM, 30, 24⟩
def SMC_AIM_AIM_WORST : Fld := ⟨SMC_AIM, 23, 16⟩
def SMC_AIM_AIM_MARGIN : Fld := ⟨SMC_AIM, 15, 12⟩
def SMC_AIM_POS16 : Fld := ⟨SMC_AIM, 11, 0⟩
/-- SMC_MSG (12_safety, RO): last safety message. -/
def SMC_MSG : Nat := 0x50028
def SMC_MSG_LAST_SSEQ : Fld := ⟨SMC_MSG, 31, 16⟩
def SMC_MSG_OUTCOME : Fld := ⟨SMC_MSG, 15, 12⟩
def SMC_MSG_PENDING : Fld := ⟨SMC_MSG, 8, 8⟩
def SMC_MSG_PEND_PORT : Fld := ⟨SMC_MSG, 7, 7⟩
/-- SMC_OFFPULSE (12_safety, RO): off-pulse rotation and results. -/
def SMC_OFFPULSE : Nat := 0x5002C
def SMC_OFFPULSE_NEXT : Fld := ⟨SMC_OFFPULSE, 31, 30⟩
def SMC_OFFPULSE_FAILED : Fld := ⟨SMC_OFFPULSE, 29, 27⟩
def SMC_OFFPULSE_LAST_PASS : Fld := ⟨SMC_OFFPULSE, 26, 24⟩
def SMC_OFFPULSE_TESTS : Fld := ⟨SMC_OFFPULSE, 23, 0⟩
/-- SMC_VETO (12_safety, RO): row vetoes. -/
def SMC_VETO : Nat := 0x50030
def SMC_VETO_COUNT : Fld := ⟨SMC_VETO, 31, 16⟩
def SMC_VETO_GROUP_CHK : Fld := ⟨SMC_VETO, 15, 15⟩
def SMC_VETO_GROUP : Fld := ⟨SMC_VETO, 14, 10⟩
def SMC_VETO_ROW : Fld := ⟨SMC_VETO, 9, 0⟩
/-- SMC_COUNT0 (12_safety, RO): agreed and lone messages. -/
def SMC_COUNT0 : Nat := 0x50034
def SMC_COUNT0_AGREED : Fld := ⟨SMC_COUNT0, 31, 16⟩
def SMC_COUNT0_ALONE : Fld := ⟨SMC_COUNT0, 15, 0⟩
/-- SMC_COUNT1 (12_safety, RO): mismatched and late copies. -/
def SMC_COUNT1 : Nat := 0x50038
def SMC_COUNT1_MISMATCH : Fld := ⟨SMC_COUNT1, 31, 16⟩
def SMC_COUNT1_LATE : Fld := ⟨SMC_COUNT1, 15, 0⟩
/-- SMC_SELF (12_safety, RO): self-check results. -/
def SMC_SELF : Nat := 0x5003C
def SMC_SELF_FAILED : Fld := ⟨SMC_SELF, 31, 31⟩
def SMC_SELF_FIRST : Fld := ⟨SMC_SELF, 23, 16⟩
def SMC_SELF_RESULT : Fld := ⟨SMC_SELF, 5, 0⟩
/-- SMC_LOAD_ERR (12_safety, RO): last rejected load. -/
def SMC_LOAD_ERR : Nat := 0x50040
def SMC_LOAD_ERR_SOURCE : Fld := ⟨SMC_LOAD_ERR, 31, 24⟩
def SMC_LOAD_ERR_CODE : Fld := ⟨SMC_LOAD_ERR, 23, 16⟩
def SMC_LOAD_ERR_INDEX : Fld := ⟨SMC_LOAD_ERR, 15, 0⟩
/-- SMC_SEALn (12_safety, RO): seal digest. -/
def SMC_SEALn (n : Nat) : Nat := 0x50050 + 0x4 * n
/-- SMC_HEMn (12_safety, RO): H_used of groups 2n and 2n + 1. -/
def SMC_HEMn (n : Nat) : Nat := 0x50080 + 0x4 * n
/-- SMC_HEFFn (12_safety, RO): H_eff of the frame in play. -/
def SMC_HEFFn (n : Nat) : Nat := 0x500C0 + 0x4 * n
/-- LE0_CTRL (13_loops, RW): enable, automatic start, counter clear. -/
def LE0_CTRL : Nat := 0xC0000
def LE0_CTRL_CNT_CLR : Fld := ⟨LE0_CTRL, 3, 3⟩
def LE0_CTRL_AUTO : Fld := ⟨LE0_CTRL, 2, 2⟩
def LE0_CTRL_EN : Fld := ⟨LE0_CTRL, 0, 0⟩
/-- LE0_CFG (13_loops, RW): phases, sense choice, current limits. -/
def LE0_CFG : Nat := 0xC0004
def LE0_CFG_I_PH_MAX : Fld := ⟨LE0_CFG, 31, 20⟩
def LE0_CFG_OC_LIM : Fld := ⟨LE0_CFG, 15, 8⟩
def LE0_CFG_FB_SEL : Fld := ⟨LE0_CFG, 4, 4⟩
def LE0_CFG_N_PH : Fld := ⟨LE0_CFG, 2, 0⟩
/-- LE0_SP (13_loops, RW): rail set-point. -/
def LE0_SP : Nat := 0xC0008
def LE0_SP_SP_MV : Fld := ⟨LE0_SP, 15, 0⟩
/-- LE0_PROF (13_loops, RW): profile limits, step mode. -/
def LE0_PROF : Nat := 0xC000C
def LE0_PROF_STEP : Fld := ⟨LE0_PROF, 31, 31⟩
def LE0_PROF_NJ : Fld := ⟨LE0_PROF, 29, 24⟩
def LE0_PROF_AMAX : Fld := ⟨LE0_PROF, 23, 12⟩
def LE0_PROF_VMAX : Fld := ⟨LE0_PROF, 11, 0⟩
/-- LE0_SUPV (13_loops, RW): sense and undervoltage supervision. -/
def LE0_SUPV : Nat := 0xC0010
def LE0_SUPV_LOST_N : Fld := ⟨LE0_SUPV, 31, 24⟩
def LE0_SUPV_PL_DEV : Fld := ⟨LE0_SUPV, 23, 16⟩
def LE0_SUPV_OVUV_N : Fld := ⟨LE0_SUPV, 15, 8⟩
def LE0_SUPV_UV_DEV : Fld := ⟨LE0_SUPV, 7, 0⟩
/-- LE0_LIMITS (13_loops, RW): overvoltage, frozen window. -/
def LE0_LIMITS : Nat := 0xC0014
def LE0_LIMITS_OV_MV : Fld := ⟨LE0_LIMITS, 31, 16⟩
def LE0_LIMITS_FROZEN_N : Fld := ⟨LE0_LIMITS, 15, 0⟩
/-- LE0_TIMING (13_loops, RW): hold time, feed-forward lead, region hysteresis. -/
def LE0_TIMING : Nat := 0xC0018
def LE0_TIMING_HOLD_TO : Fld := ⟨LE0_TIMING, 31, 24⟩
def LE0_TIMING_FF_LEAD : Fld := ⟨LE0_TIMING, 23, 16⟩
def LE0_TIMING_REG_HYST : Fld := ⟨LE0_TIMING, 15, 0⟩
/-- LE0_SET_SEL (13_loops, RW): coefficient set for 3 to 6 phases. -/
def LE0_SET_SEL : Nat := 0xC001C
def LE0_SET_SEL_SET : Fld := ⟨LE0_SET_SEL, 2, 0⟩
/-- LE0_STAT (13_loops, RO): unit state, hold, set, sense. -/
def LE0_STAT : Nat := 0xC0020
def LE0_STAT_UNIT : Fld := ⟨LE0_STAT, 31, 30⟩
def LE0_STAT_EN_PENDING : Fld := ⟨LE0_STAT, 29, 29⟩
def LE0_STAT_HOLD : Fld := ⟨LE0_STAT, 28, 28⟩
def LE0_STAT_STOPPED : Fld := ⟨LE0_STAT, 27, 27⟩
def LE0_STAT_INT_CLAMPED : Fld := ⟨LE0_STAT, 26, 26⟩
def LE0_STAT_GS_LOADED : Fld := ⟨LE0_STAT, 25, 25⟩
def LE0_STAT_SET_ACT : Fld := ⟨LE0_STAT, 23, 21⟩
def LE0_STAT_N_SETS_M1 : Fld := ⟨LE0_STAT, 20, 18⟩
def LE0_STAT_FB_USED : Fld := ⟨LE0_STAT, 17, 16⟩
/-- LE0_RAIL (13_loops, RO): reference and measured rail. -/
def LE0_RAIL : Nat := 0xC0024
def LE0_RAIL_V_REF : Fld := ⟨LE0_RAIL, 31, 16⟩
def LE0_RAIL_V_FB : Fld := ⟨LE0_RAIL, 15, 0⟩
/-- LE0_SENSE (13_loops, RO): both rail senses. -/
def LE0_SENSE : Nat := 0xC0028
def LE0_SENSE_VAN_B : Fld := ⟨LE0_SENSE, 31, 16⟩
def LE0_SENSE_VAN_A : Fld := ⟨LE0_SENSE, 15, 0⟩
/-- LE0_CURRENT (13_loops, RO): loop and feed-forward current. -/
def LE0_CURRENT : Nat := 0xC002C
def LE0_CURRENT_I_TOT : Fld := ⟨LE0_CURRENT, 31, 16⟩
def LE0_CURRENT_I_FF : Fld := ⟨LE0_CURRENT, 15, 0⟩
/-- LE0_INT (13_loops, RO): integrator and battery. -/
def LE0_INT : Nat := 0xC0030
def LE0_INT_VBAT : Fld := ⟨LE0_INT, 31, 16⟩
def LE0_INT_I_INT : Fld := ⟨LE0_INT, 15, 0⟩
/-- LE0_FB (13_loops, W1C): lost and frozen senses. -/
def LE0_FB : Nat := 0xC0034
def LE0_FB_FROZEN_B : Fld := ⟨LE0_FB, 3, 3⟩
def LE0_FB_FROZEN_A : Fld := ⟨LE0_FB, 2, 2⟩
def LE0_FB_LOST_B : Fld := ⟨LE0_FB, 1, 1⟩
def LE0_FB_LOST_A : Fld := ⟨LE0_FB, 0, 0⟩
/-- LE0_COUNT (13_loops, RO): overcurrent trips, set and sense switches. -/
def LE0_COUNT : Nat := 0xC0038
def LE0_COUNT_OC_EVENTS : Fld := ⟨LE0_COUNT, 31, 16⟩
def LE0_COUNT_SET_SWITCHES : Fld := ⟨LE0_COUNT, 15, 8⟩
def LE0_COUNT_FB_SWITCHES : Fld := ⟨LE0_COUNT, 7, 0⟩
/-- LE0_TRACE (13_loops, RO): trace state. -/
def LE0_TRACE : Nat := 0xC003C
def LE0_TRACE_STATE : Fld := ⟨LE0_TRACE, 31, 30⟩
def LE0_TRACE_WPTR : Fld := ⟨LE0_TRACE, 11, 0⟩
/-- LE0_LOAD_ERR (13_loops, RO): last rejected gain schedule. -/
def LE0_LOAD_ERR : Nat := 0xC0040
def LE0_LOAD_ERR_CODE : Fld := ⟨LE0_LOAD_ERR, 23, 16⟩
def LE0_LOAD_ERR_INDEX : Fld := ⟨LE0_LOAD_ERR, 3, 0⟩
/-- LE1_CTRL (13_loops, RW): enables, hall sampling, counter clear. -/
def LE1_CTRL : Nat := 0xD0000
def LE1_CTRL_CNT_CLR : Fld := ⟨LE1_CTRL, 4, 4⟩
def LE1_CTRL_HALL_EN : Fld := ⟨LE1_CTRL, 3, 3⟩
def LE1_CTRL_FAN_EN : Fld := ⟨LE1_CTRL, 1, 1⟩
def LE1_CTRL_LVL_EN : Fld := ⟨LE1_CTRL, 0, 0⟩
/-- LE1_LVL_CFG (13_loops, RW): bands and duties. -/
def LE1_LVL_CFG : Nat := 0xD0004
def LE1_LVL_CFG_BAND_OUT : Fld := ⟨LE1_LVL_CFG, 31, 24⟩
def LE1_LVL_CFG_BAND_IN : Fld := ⟨LE1_LVL_CFG, 23, 16⟩
def LE1_LVL_CFG_DUTY_MAX : Fld := ⟨LE1_LVL_CFG, 15, 8⟩
def LE1_LVL_CFG_DUTY_SLOW : Fld := ⟨LE1_LVL_CFG, 7, 0⟩
/-- LE1_LVL_LIM (13_loops, RW): position limits. -/
def LE1_LVL_LIM : Nat := 0xD0008
def LE1_LVL_LIM_POS_MAX : Fld := ⟨LE1_LVL_LIM, 31, 16⟩
def LE1_LVL_LIM_POS_MIN : Fld := ⟨LE1_LVL_LIM, 15, 0⟩
/-- LE1_LVL_SP (13_loops, RW): levelling target. -/
def LE1_LVL_SP : Nat := 0xD000C
def LE1_LVL_SP_SP : Fld := ⟨LE1_LVL_SP, 15, 0⟩
/-- LE1_LVL_PROF (13_loops, RW): profile limits. -/
def LE1_LVL_PROF : Nat := 0xD0010
def LE1_LVL_PROF_STEP : Fld := ⟨LE1_LVL_PROF, 31, 31⟩
def LE1_LVL_PROF_NJ : Fld := ⟨LE1_LVL_PROF, 29, 24⟩
def LE1_LVL_PROF_AMAX : Fld := ⟨LE1_LVL_PROF, 23, 12⟩
def LE1_LVL_PROF_VMAX : Fld := ⟨LE1_LVL_PROF, 11, 0⟩
/-- LE1_HALL_CAL (13_loops, RW): hall gain and zero. -/
def LE1_HALL_CAL : Nat := 0xD0014
def LE1_HALL_CAL_GAIN : Fld := ⟨LE1_HALL_CAL, 31, 16⟩
def LE1_HALL_CAL_ZERO : Fld := ⟨LE1_HALL_CAL, 15, 0⟩
/-- LE1_HALL_SUM (13_loops, RW): hall sum window. -/
def LE1_HALL_SUM : Nat := 0xD0018
def LE1_HALL_SUM_SUM_HI : Fld := ⟨LE1_HALL_SUM, 28, 16⟩
def LE1_HALL_SUM_SUM_LO : Fld := ⟨LE1_HALL_SUM, 12, 0⟩
/-- LE1_LVL_SUPV (13_loops, RW): levelling supervision. -/
def LE1_LVL_SUPV : Nat := 0xD001C
def LE1_LVL_SUPV_LOST_N : Fld := ⟨LE1_LVL_SUPV, 31, 24⟩
def LE1_LVL_SUPV_LIM_MARGIN : Fld := ⟨LE1_LVL_SUPV, 23, 16⟩
def LE1_LVL_SUPV_FROZEN_N : Fld := ⟨LE1_LVL_SUPV, 15, 0⟩
/-- LE1_FAN_CFG (13_loops, RW): fan control. -/
def LE1_FAN_CFG : Nat := 0xD0020
def LE1_FAN_CFG_DUTY_MIN : Fld := ⟨LE1_FAN_CFG, 31, 24⟩
def LE1_FAN_CFG_KF : Fld := ⟨LE1_FAN_CFG, 23, 16⟩
def LE1_FAN_CFG_KICK : Fld := ⟨LE1_FAN_CFG, 15, 8⟩
def LE1_FAN_CFG_PPR : Fld := ⟨LE1_FAN_CFG, 7, 0⟩
/-- LE1_FAN_SP (13_loops, RW): fan target. -/
def LE1_FAN_SP : Nat := 0xD0024
def LE1_FAN_SP_AUTO : Fld := ⟨LE1_FAN_SP, 31, 31⟩
def LE1_FAN_SP_RPM : Fld := ⟨LE1_FAN_SP, 15, 0⟩
/-- LE1_FAN_MAP (13_loops, RW): automatic fan curve. -/
def LE1_FAN_MAP : Nat := 0xD0028
def LE1_FAN_MAP_T_LO : Fld := ⟨LE1_FAN_MAP, 31, 24⟩
def LE1_FAN_MAP_T_HI : Fld := ⟨LE1_FAN_MAP, 23, 16⟩
def LE1_FAN_MAP_RPM_LO : Fld := ⟨LE1_FAN_MAP, 15, 8⟩
def LE1_FAN_MAP_RPM_HI : Fld := ⟨LE1_FAN_MAP, 7, 0⟩
/-- LE1_LVL_STAT (13_loops, RO): levelling state and position. -/
def LE1_LVL_STAT : Nat := 0xD002C
def LE1_LVL_STAT_UNIT : Fld := ⟨LE1_LVL_STAT, 31, 30⟩
def LE1_LVL_STAT_EN_PENDING : Fld := ⟨LE1_LVL_STAT, 29, 29⟩
def LE1_LVL_STAT_AIM_VALID : Fld := ⟨LE1_LVL_STAT, 28, 28⟩
def LE1_LVL_STAT_DRIVE : Fld := ⟨LE1_LVL_STAT, 27, 26⟩
def LE1_LVL_STAT_AT_TARGET : Fld := ⟨LE1_LVL_STAT, 25, 25⟩
def LE1_LVL_STAT_LIMIT : Fld := ⟨LE1_LVL_STAT, 24, 24⟩
def LE1_LVL_STAT_POS16 : Fld := ⟨LE1_LVL_STAT, 15, 0⟩
/-- LE1_HALL_RAW (13_loops, RO): hall codes. -/
def LE1_HALL_RAW : Nat := 0xD0030
def LE1_HALL_RAW_HALL_B : Fld := ⟨LE1_HALL_RAW, 27, 16⟩
def LE1_HALL_RAW_HALL_A : Fld := ⟨LE1_HALL_RAW, 11, 0⟩
/-- LE1_FB (13_loops, W1C): levelling feedback faults. -/
def LE1_FB : Nat := 0xD0034
def LE1_FB_LIMIT : Fld := ⟨LE1_FB, 2, 2⟩
def LE1_FB_FROZEN : Fld := ⟨LE1_FB, 1, 1⟩
def LE1_FB_LOST : Fld := ⟨LE1_FB, 0, 0⟩
/-- LE1_FAN_STAT (13_loops, RO): fan state. -/
def LE1_FAN_STAT : Nat := 0xD0038
def LE1_FAN_STAT_UNIT : Fld := ⟨LE1_FAN_STAT, 31, 30⟩
def LE1_FAN_STAT_EN_PENDING : Fld := ⟨LE1_FAN_STAT, 29, 29⟩
def LE1_FAN_STAT_STALL : Fld := ⟨LE1_FAN_STAT, 28, 28⟩
def LE1_FAN_STAT_DUTY : Fld := ⟨LE1_FAN_STAT, 25, 16⟩
def LE1_FAN_STAT_RPM : Fld := ⟨LE1_FAN_STAT, 15, 0⟩
/-- LE1_TRACE (13_loops, RO): trace state, as LE0_TRACE. -/
def LE1_TRACE : Nat := 0xD003C
def LE1_TRACE_STATE : Fld := ⟨LE1_TRACE, 31, 30⟩
def LE1_TRACE_WPTR : Fld := ⟨LE1_TRACE, 11, 0⟩
/-- ADC_CTRL (14_acquisition, RW): counter clear. -/
def ADC_CTRL : Nat := 0xE0000
def ADC_CTRL_CNT_CLR : Fld := ⟨ADC_CTRL, 0, 0⟩
/-- ADC_STAT (14_acquisition, RO): sequence states, powered converters. -/
def ADC_STAT : Nat := 0xE0004
def ADC_STAT_UNITS : Fld := ⟨ADC_STAT, 31, 16⟩
def ADC_STAT_PWR : Fld := ⟨ADC_STAT, 3, 0⟩
/-- ADC_CFG_ERR (14_acquisition, RO): last refused ADC_SEQ_CFG. -/
def ADC_CFG_ERR : Nat := 0xE0008
def ADC_CFG_ERR_CODE : Fld := ⟨ADC_CFG_ERR, 15, 8⟩
def ADC_CFG_ERR_ENTRY : Fld := ⟨ADC_CFG_ERR, 7, 4⟩
def ADC_CFG_ERR_SEQ : Fld := ⟨ADC_CFG_ERR, 2, 0⟩
/-- ADC_SKEW (14_acquisition, RW): pair skew trim. -/
def ADC_SKEW : Nat := 0xE000C
def ADC_SKEW_SKEW : Fld := ⟨ADC_SKEW, 7, 0⟩
/-- ADC_OVR_STAT (14_acquisition, W1C): inputs seen over-range. -/
def ADC_OVR_STAT : Nat := 0xE0010
def ADC_OVR_STAT_OVR : Fld := ⟨ADC_OVR_STAT, 16, 0⟩
/-- ADC_TRIMn (14_acquisition, RW): converter trim. -/
def ADC_TRIMn (n : Nat) : Nat := 0xE0020 + 0x4 * n
def ADC_TRIMn_GAIN (n : Nat) : Fld := ⟨ADC_TRIMn n, 15, 8⟩
def ADC_TRIMn_OFS (n : Nat) : Fld := ⟨ADC_TRIMn n, 7, 0⟩
/-- ADC_LASTn (14_acquisition, RO): last mean of input k at 0x040 + 4 × k. -/
def ADC_LASTn (n : Nat) : Nat := 0xE0040 + 0x4 * n
def ADC_LASTn_VALID (n : Nat) : Fld := ⟨ADC_LASTn n, 31, 31⟩
def ADC_LASTn_OVR (n : Nat) : Fld := ⟨ADC_LASTn n, 30, 30⟩
def ADC_LASTn_MEAN (n : Nat) : Fld := ⟨ADC_LASTn n, 11, 0⟩
/-- ADC_SQn_CTRL (14_acquisition, RW): enable. -/
def ADC_SQn_CTRL (n : Nat) : Nat := 0xE0100 + 0x20 * n
def ADC_SQn_CTRL_EN (n : Nat) : Fld := ⟨ADC_SQn_CTRL n, 0, 0⟩
/-- ADC_SQn_CFG (14_acquisition, RW): converter, trigger, entries. -/
def ADC_SQn_CFG (n : Nat) : Nat := 0xE0104 + 0x20 * n
def ADC_SQn_CFG_PERIOD (n : Nat) : Fld := ⟨ADC_SQn_CFG n, 31, 16⟩
def ADC_SQn_CFG_TRIG (n : Nat) : Fld := ⟨ADC_SQn_CFG n, 15, 14⟩
def ADC_SQn_CFG_LINE (n : Nat) : Fld := ⟨ADC_SQn_CFG n, 11, 8⟩
def ADC_SQn_CFG_NE_M1 (n : Nat) : Fld := ⟨ADC_SQn_CFG n, 7, 4⟩
def ADC_SQn_CFG_INTERLEAVE (n : Nat) : Fld := ⟨ADC_SQn_CFG n, 2, 2⟩
def ADC_SQn_CFG_CONV (n : Nat) : Fld := ⟨ADC_SQn_CFG n, 1, 0⟩
/-- ADC_SQn_BOB_BASE (14_acquisition, RW): Bobbin base. -/
def ADC_SQn_BOB_BASE (n : Nat) : Nat := 0xE0108 + 0x20 * n
def ADC_SQn_BOB_BASE_BASE (n : Nat) : Fld := ⟨ADC_SQn_BOB_BASE n, 31, 0⟩
/-- ADC_SQn_BOB_CFG (14_acquisition, RW): Bobbin location, mode, size, watermark. -/
def ADC_SQn_BOB_CFG (n : Nat) : Nat := 0xE010C + 0x20 * n
def ADC_SQn_BOB_CFG_LOC (n : Nat) : Fld := ⟨ADC_SQn_BOB_CFG n, 31, 31⟩
def ADC_SQn_BOB_CFG_MODE (n : Nat) : Fld := ⟨ADC_SQn_BOB_CFG n, 30, 30⟩
def ADC_SQn_BOB_CFG_SIZE_LOG2 (n : Nat) : Fld := ⟨ADC_SQn_BOB_CFG n, 26, 22⟩
def ADC_SQn_BOB_CFG_WM (n : Nat) : Fld := ⟨ADC_SQn_BOB_CFG n, 21, 0⟩
/-- ADC_SQn_WPTR (14_acquisition, RO): write count. -/
def ADC_SQn_WPTR (n : Nat) : Nat := 0xE0110 + 0x20 * n
def ADC_SQn_WPTR_PTR (n : Nat) : Fld := ⟨ADC_SQn_WPTR n, 23, 0⟩
/-- ADC_SQn_RPTR (14_acquisition, RW): read count. -/
def ADC_SQn_RPTR (n : Nat) : Nat := 0xE0114 + 0x20 * n
def ADC_SQn_RPTR_PTR (n : Nat) : Fld := ⟨ADC_SQn_RPTR n, 23, 0⟩
/-- ADC_SQn_STAT (14_acquisition, RO): state and fill flags. -/
def ADC_SQn_STAT (n : Nat) : Nat := 0xE0118 + 0x20 * n
def ADC_SQn_STAT_UNIT (n : Nat) : Fld := ⟨ADC_SQn_STAT n, 31, 30⟩
def ADC_SQn_STAT_EN_PENDING (n : Nat) : Fld := ⟨ADC_SQn_STAT n, 29, 29⟩
def ADC_SQn_STAT_WM (n : Nat) : Fld := ⟨ADC_SQn_STAT n, 28, 28⟩
def ADC_SQn_STAT_FULL (n : Nat) : Fld := ⟨ADC_SQn_STAT n, 27, 27⟩
def ADC_SQn_STAT_RUNNING (n : Nat) : Fld := ⟨ADC_SQn_STAT n, 26, 26⟩
def ADC_SQn_STAT_TCOUNT (n : Nat) : Fld := ⟨ADC_SQn_STAT n, 6, 0⟩
/-- ADC_SQn_COUNT (14_acquisition, RO): missed triggers, lost results. -/
def ADC_SQn_COUNT (n : Nat) : Nat := 0xE011C + 0x20 * n
def ADC_SQn_COUNT_MISSED (n : Nat) : Fld := ⟨ADC_SQn_COUNT n, 31, 16⟩
def ADC_SQn_COUNT_LOST (n : Nat) : Fld := ⟨ADC_SQn_COUNT n, 15, 0⟩
/-- ADC_SQn_Ei (14_acquisition, RW): entries. -/
def ADC_SQn_Ei (n i : Nat) : Nat := 0xE0400 + 0x40 * n + 4 * i
def ADC_SQn_Ei_SHIFT (n i : Nat) : Fld := ⟨ADC_SQn_Ei n i, 23, 20⟩
def ADC_SQn_Ei_AVG_LOG2 (n i : Nat) : Fld := ⟨ADC_SQn_Ei n i, 19, 16⟩
def ADC_SQn_Ei_STIME (n i : Nat) : Fld := ⟨ADC_SQn_Ei n i, 13, 8⟩
def ADC_SQn_Ei_INPUT (n i : Nat) : Fld := ⟨ADC_SQn_Ei n i, 4, 0⟩
/-- FCR_CTRL (15_faults, RW): history hold, post count, counter clear. -/
def FCR_CTRL : Nat := 0xF0000
def FCR_CTRL_POST : Fld := ⟨FCR_CTRL, 15, 8⟩
def FCR_CTRL_HOLD : Fld := ⟨FCR_CTRL, 1, 1⟩
def FCR_CTRL_CNT_CLR : Fld := ⟨FCR_CTRL, 0, 0⟩
/-- FCR_STAT (15_faults, RO): highest severity, freeze, queue fill. -/
def FCR_STAT : Nat := 0xF0004
def FCR_STAT_MAX_SEV : Fld := ⟨FCR_STAT, 31, 30⟩
def FCR_STAT_FROZEN : Fld := ⟨FCR_STAT, 29, 29⟩
def FCR_STAT_LAST_SRC : Fld := ⟨FCR_STAT, 23, 16⟩
def FCR_STAT_FILL : Fld := ⟨FCR_STAT, 9, 0⟩
/-- FCR_HIST_STAT (15_faults, RO): lost entries, next HSEQ. -/
def FCR_HIST_STAT : Nat := 0xF0008
def FCR_HIST_STAT_LOST : Fld := ⟨FCR_HIST_STAT, 31, 16⟩
def FCR_HIST_STAT_NEXT_HSEQ : Fld := ⟨FCR_HIST_STAT, 15, 0⟩
/-- FCR_ALIVE (15_faults, RO): ALIVE contribution. -/
def FCR_ALIVE : Nat := 0xF000C
def FCR_ALIVE_CONTRIB : Fld := ⟨FCR_ALIVE, 31, 31⟩
def FCR_ALIVE_STOP_SRC : Fld := ⟨FCR_ALIVE, 23, 16⟩
/-- FCR_ALIVE_FN (15_faults, RO): FN of the ALIVE stop. -/
def FCR_ALIVE_FN : Nat := 0xF0010
/-- FCR_FIRSTn (15_faults, RO): first-error record, words 0 to 3 of R428. -/
def FCR_FIRSTn (n : Nat) : Nat := 0xF0020 + 0x4 * n
/-- FCR_SRCn_CFG (15_faults, RO): severity, window, thresholds. -/
def FCR_SRCn_CFG (n : Nat) : Nat := 0xF0400 + 0x8 * n
def FCR_SRCn_CFG_BASE_SEV (n : Nat) : Fld := ⟨FCR_SRCn_CFG n, 31, 30⟩
def FCR_SRCn_CFG_W (n : Nat) : Fld := ⟨FCR_SRCn_CFG n, 23, 16⟩
def FCR_SRCn_CFG_N_MINOR (n : Nat) : Fld := ⟨FCR_SRCn_CFG n, 11, 8⟩
def FCR_SRCn_CFG_N_SEVERE (n : Nat) : Fld := ⟨FCR_SRCn_CFG n, 7, 4⟩
def FCR_SRCn_CFG_N_CRIT (n : Nat) : Fld := ⟨FCR_SRCn_CFG n, 3, 0⟩
/-- FCR_SRCn_RCT (15_faults, RO): reaction bytes. -/
def FCR_SRCn_RCT (n : Nat) : Nat := 0xF0404 + 0x8 * n
def FCR_SRCn_RCT_R_CRIT (n : Nat) : Fld := ⟨FCR_SRCn_RCT n, 31, 24⟩
def FCR_SRCn_RCT_R_SEVERE (n : Nat) : Fld := ⟨FCR_SRCn_RCT n, 23, 16⟩
def FCR_SRCn_RCT_R_MINOR (n : Nat) : Fld := ⟨FCR_SRCn_RCT n, 15, 8⟩
def FCR_SRCn_RCT_R_INFO (n : Nat) : Fld := ⟨FCR_SRCn_RCT n, 7, 0⟩
/-- FCR_SRCn_STAT (15_faults, RO): totals and last event. -/
def FCR_SRCn_STAT (n : Nat) : Nat := 0xF0800 + 0x4 * n
def FCR_SRCn_STAT_TOTAL (n : Nat) : Fld := ⟨FCR_SRCn_STAT n, 31, 16⟩
def FCR_SRCn_STAT_COUNT (n : Nat) : Fld := ⟨FCR_SRCn_STAT n, 15, 12⟩
def FCR_SRCn_STAT_SEV (n : Nat) : Fld := ⟨FCR_SRCn_STAT n, 11, 10⟩
/-- PMU_CTRL (16_power_reset, RW): software reset, counter clear. -/
def PMU_CTRL : Nat := 0x100000
def PMU_CTRL_SWRST : Fld := ⟨PMU_CTRL, 8, 8⟩
def PMU_CTRL_CNT_CLR : Fld := ⟨PMU_CTRL, 0, 0⟩
/-- PMU_CFG (16_power_reset, RW): automatic run, settle and filter times. -/
def PMU_CFG : Nat := 0x100004
def PMU_CFG_AUTO_RUN : Fld := ⟨PMU_CFG, 31, 31⟩
def PMU_CFG_VSETTLE : Fld := ⟨PMU_CFG, 15, 8⟩
def PMU_CFG_PG_FILT : Fld := ⟨PMU_CFG, 7, 0⟩
/-- PMU_STAT (16_power_reset, RO): state, arming, boot, pins. -/
def PMU_STAT : Nat := 0x100008
def PMU_STAT_STATE : Fld := ⟨PMU_STAT, 31, 30⟩
def PMU_STAT_ARM : Fld := ⟨PMU_STAT, 29, 28⟩
def PMU_STAT_BOOT_DONE : Fld := ⟨PMU_STAT, 27, 27⟩
def PMU_STAT_BOOT_ERR : Fld := ⟨PMU_STAT, 26, 26⟩
def PMU_STAT_PWR_EN : Fld := ⟨PMU_STAT, 25, 25⟩
def PMU_STAT_VCORE_PG : Fld := ⟨PMU_STAT, 24, 24⟩
/-- PMU_OP (16_power_reset, RO): operating point. -/
def PMU_OP : Nat := 0x10000C
def PMU_OP_CHANGING : Fld := ⟨PMU_OP, 31, 31⟩
def PMU_OP_BYPASS : Fld := ⟨PMU_OP, 30, 30⟩
def PMU_OP_VSEL : Fld := ⟨PMU_OP, 21, 16⟩
def PMU_OP_TARGET : Fld := ⟨PMU_OP, 9, 8⟩
def PMU_OP_V_OK : Fld := ⟨PMU_OP, 5, 4⟩
def PMU_OP_F_OP : Fld := ⟨PMU_OP, 1, 0⟩
/-- PMU_WAKE_EN (16_power_reset, RW): wake sources enabled. -/
def PMU_WAKE_EN : Nat := 0x100010
def PMU_WAKE_EN_SRC : Fld := ⟨PMU_WAKE_EN, 7, 0⟩
/-- PMU_WAKE_STAT (16_power_reset, W1C): wake sources fired. -/
def PMU_WAKE_STAT : Nat := 0x100014
def PMU_WAKE_STAT_SRC : Fld := ⟨PMU_WAKE_STAT, 7, 0⟩
/-- PMU_REFUSE (16_power_reset, RO): refusals and aborts. -/
def PMU_REFUSE : Nat := 0x100018
def PMU_REFUSE_LAST : Fld := ⟨PMU_REFUSE, 31, 24⟩
def PMU_REFUSE_REFUSALS : Fld := ⟨PMU_REFUSE, 15, 8⟩
def PMU_REFUSE_ABORTS : Fld := ⟨PMU_REFUSE, 7, 0⟩
/-- PMU_RST_CAUSE (16_power_reset, RO): cause of the last reset. -/
def PMU_RST_CAUSE : Nat := 0x10001C
def PMU_RST_CAUSE_CAUSE : Fld := ⟨PMU_RST_CAUSE, 5, 0⟩
/-- PMU_TIMER (16_power_reset, RW): wake timer. -/
def PMU_TIMER : Nat := 0x100020
def PMU_TIMER_MS : Fld := ⟨PMU_TIMER, 31, 0⟩
/-- CKU_STAT (16_power_reset, RO): REF and PLL state. -/
def CKU_STAT : Nat := 0x110000
def CKU_STAT_REF_OK : Fld := ⟨CKU_STAT, 31, 31⟩
def CKU_STAT_BACKUP : Fld := ⟨CKU_STAT, 30, 30⟩
def CKU_STAT_REF_LOSSES : Fld := ⟨CKU_STAT, 23, 16⟩
def CKU_STAT_LOCK : Fld := ⟨CKU_STAT, 5, 0⟩
/-- CKU_GATE (16_power_reset, RW): domain stops in D0. -/
def CKU_GATE : Nat := 0x110004
def CKU_GATE_ADCP : Fld := ⟨CKU_GATE, 2, 2⟩
def CKU_GATE_SMEM : Fld := ⟨CKU_GATE, 1, 1⟩
def CKU_GATE_CMP : Fld := ⟨CKU_GATE, 0, 0⟩
/-- CKU_MEAS (16_power_reset, RW): frequency measurement. -/
def CKU_MEAS : Nat := 0x110008
def CKU_MEAS_DOMAIN : Fld := ⟨CKU_MEAS, 31, 28⟩
def CKU_MEAS_FREQ : Fld := ⟨CKU_MEAS, 17, 0⟩
/-- CRC_CTRL (17_integrity_calibration, RW): counter clear. -/
def CRC_CTRL : Nat := 0x120000
def CRC_CTRL_CNT_CLR : Fld := ⟨CRC_CTRL, 0, 0⟩
/-- CRC_SCAN_CTRL (17_integrity_calibration, RW): scan enables. -/
def CRC_SCAN_CTRL : Nat := 0x120004
def CRC_SCAN_CTRL_SURF_EN : Fld := ⟨CRC_SCAN_CTRL, 1, 1⟩
def CRC_SCAN_CTRL_SRAM_EN : Fld := ⟨CRC_SCAN_CTRL, 0, 0⟩
/-- CRC_SCAN_CFG (17_integrity_calibration, RW): pass periods. -/
def CRC_SCAN_CFG : Nat := 0x120008
def CRC_SCAN_CFG_SURF_PERIOD : Fld := ⟨CRC_SCAN_CFG, 15, 8⟩
def CRC_SCAN_CFG_SRAM_PERIOD : Fld := ⟨CRC_SCAN_CFG, 7, 0⟩
/-- CRC_SCAN_START (17_integrity_calibration, RW): surface scrub start. -/
def CRC_SCAN_START : Nat := 0x12000C
def CRC_SCAN_START_VALUE : Fld := ⟨CRC_SCAN_START, 31, 6⟩
/-- CRC_SCAN_LEN (17_integrity_calibration, RW): surface scrub length. -/
def CRC_SCAN_LEN : Nat := 0x120010
def CRC_SCAN_LEN_VALUE : Fld := ⟨CRC_SCAN_LEN, 31, 6⟩
/-- CRC_SCAN_STAT (17_integrity_calibration, RO): completed passes. -/
def CRC_SCAN_STAT : Nat := 0x120014
def CRC_SCAN_STAT_SURF_PASSES : Fld := ⟨CRC_SCAN_STAT, 31, 16⟩
def CRC_SCAN_STAT_SRAM_PASSES : Fld := ⟨CRC_SCAN_STAT, 15, 0⟩
/-- CRC_SCAN_COUNT (17_integrity_calibration, RO): mismatches, scrubbed words. -/
def CRC_SCAN_COUNT : Nat := 0x120018
def CRC_SCAN_COUNT_MISMATCH : Fld := ⟨CRC_SCAN_COUNT, 31, 24⟩
def CRC_SCAN_COUNT_SCRUBBED : Fld := ⟨CRC_SCAN_COUNT, 23, 0⟩
/-- CRC_SCAN_LAST (17_integrity_calibration, RO): last region mismatch. -/
def CRC_SCAN_LAST : Nat := 0x12001C
def CRC_SCAN_LAST_VALID : Fld := ⟨CRC_SCAN_LAST, 31, 31⟩
def CRC_SCAN_LAST_REGION : Fld := ⟨CRC_SCAN_LAST, 4, 0⟩
/-- CRC_REF_SEQq_BUFb (17_integrity_calibration, RO): buffer reference at 0x020 + 8 × q + 4 × b. -/
def CRC_REF_SEQq_BUFb (q b : Nat) : Nat := 0x120020 + 8 * q + 4 * b
/-- CRC_REF_FB (17_integrity_calibration, RO): fallback image reference. -/
def CRC_REF_FB : Nat := 0x120040
/-- CRC_Un_CFG (17_integrity_calibration, RW): algorithm. -/
def CRC_Un_CFG (n : Nat) : Nat := 0x120100 + 0x20 * n
def CRC_Un_CFG_ALG (n : Nat) : Fld := ⟨CRC_Un_CFG n, 1, 0⟩
/-- CRC_Un_BIND (17_integrity_calibration, RW): channel binding. -/
def CRC_Un_BIND (n : Nat) : Nat := 0x120104 + 0x20 * n
def CRC_Un_BIND_EN (n : Nat) : Fld := ⟨CRC_Un_BIND n, 31, 31⟩
def CRC_Un_BIND_DIR (n : Nat) : Fld := ⟨CRC_Un_BIND n, 30, 30⟩
def CRC_Un_BIND_CHAIN (n : Nat) : Fld := ⟨CRC_Un_BIND n, 29, 29⟩
def CRC_Un_BIND_CHAN (n : Nat) : Fld := ⟨CRC_Un_BIND n, 7, 0⟩
/-- CRC_Un_VALUE (17_integrity_calibration, RW): running value. -/
def CRC_Un_VALUE (n : Nat) : Nat := 0x120108 + 0x20 * n
/-- CRC_Un_RESULT (17_integrity_calibration, RO): check value. -/
def CRC_Un_RESULT (n : Nat) : Nat := 0x12010C + 0x20 * n
/-- CRC_Un_STAT (17_integrity_calibration, RO): state, mismatches. -/
def CRC_Un_STAT (n : Nat) : Nat := 0x120110 + 0x20 * n
def CRC_Un_STAT_BUSY (n : Nat) : Fld := ⟨CRC_Un_STAT n, 31, 31⟩
def CRC_Un_STAT_MISMATCH (n : Nat) : Fld := ⟨CRC_Un_STAT n, 15, 0⟩
/-- CAL_CTRL (17_integrity_calibration, RW): automatic triggers, counter clear. -/
def CAL_CTRL : Nat := 0x130000
def CAL_CTRL_CNT_CLR : Fld := ⟨CAL_CTRL, 8, 8⟩
def CAL_CTRL_AUTO : Fld := ⟨CAL_CTRL, 6, 0⟩
/-- CAL_CFG (17_integrity_calibration, RW): run limit, drift threshold. -/
def CAL_CFG : Nat := 0x130004
def CAL_CFG_RUN_MAX : Fld := ⟨CAL_CFG, 15, 8⟩
def CAL_CFG_DRIFT : Fld := ⟨CAL_CFG, 7, 0⟩
/-- CAL_STAT (17_integrity_calibration, RO): run states, pending enables. -/
def CAL_STAT : Nat := 0x130008
def CAL_STAT_PENDING : Fld := ⟨CAL_STAT, 22, 16⟩
def CAL_STAT_UNITS : Fld := ⟨CAL_STAT, 13, 0⟩
/-- CAL_COUNT (17_integrity_calibration, RO): runs, disagreeing runs. -/
def CAL_COUNT : Nat := 0x13000C
def CAL_COUNT_RUNS : Fld := ⟨CAL_COUNT, 31, 16⟩
def CAL_COUNT_DISAGREE : Fld := ⟨CAL_COUNT, 15, 0⟩
/-- CAL_Tt_STAT (17_integrity_calibration, RO): result, reference temperature. -/
def CAL_Tt_STAT (t : Nat) : Nat := 0x130020 + 0x8 * t
def CAL_Tt_STAT_RESULT (t : Nat) : Fld := ⟨CAL_Tt_STAT t, 31, 28⟩
def CAL_Tt_STAT_VALID (t : Nat) : Fld := ⟨CAL_Tt_STAT t, 27, 27⟩
def CAL_Tt_STAT_T_REF (t : Nat) : Fld := ⟨CAL_Tt_STAT t, 15, 0⟩
/-- CAL_Tt_QUAL (17_integrity_calibration, RO): quality of the last run. -/
def CAL_Tt_QUAL (t : Nat) : Nat := 0x130024 + 0x8 * t
def CAL_Tt_QUAL_WORST (t : Nat) : Fld := ⟨CAL_Tt_QUAL t, 31, 24⟩
def CAL_Tt_QUAL_SWITCHES (t : Nat) : Fld := ⟨CAL_Tt_QUAL t, 23, 12⟩
def CAL_Tt_QUAL_DISAGREE (t : Nat) : Fld := ⟨CAL_Tt_QUAL t, 11, 0⟩

/-- The registers of the block at 0x0. -/
def regBlock0 : List RegInfo := [
  ⟨0x0, 1, 0x4, .ro, 0x13104CEF, 0x0, 0x0, 0x0⟩,
  ⟨0x4, 1, 0x4, .ro, 0x10, 0x0, 0x0, 0x0⟩,
  ⟨0x8, 1, 0x4, .ro, 0x0, 0x0, 0x0, 0x0⟩,
  ⟨0xC, 1, 0x4, .ro, 0x0, 0x0, 0x0, 0x0⟩,
  ⟨0x10, 1, 0x4, .ro, 0xC00, 0x0, 0x0, 0x0⟩,
  ⟨0x14, 1, 0x4, .ro, 0x0, 0x0, 0x0, 0x0⟩,
  ⟨0x18, 1, 0x4, .ro, 0x0, 0x0, 0x0, 0x0⟩,
  ⟨0x1C, 1, 0x4, .ro, 0xFF04, 0x0, 0x0, 0x0⟩,
  ⟨0x20, 1, 0x4, .ro, 0x0, 0x0, 0x0, 0x0⟩
]

/-- The registers of the block at 0x10000. -/
def regBlock1 : List RegInfo := [
  ⟨0x10000, 1, 0x4, .rw, 0x1, 0x1, 0x0, 0x6⟩,
  ⟨0x10004, 1, 0x4, .rw, 0x14400832, 0xFFF0FFFF, 0x0, 0x0⟩,
  ⟨0x10008, 1, 0x4, .rw, 0x30064, 0x3FFFF, 0x0, 0x0⟩,
  ⟨0x1000C, 1, 0x4, .ro, 0x0, 0x0, 0x0, 0x0⟩,
  ⟨0x10010, 1, 0x4, .ro, 0x0, 0x0, 0x0, 0x0⟩,
  ⟨0x10014, 1, 0x4, .ro, 0x0, 0x0, 0x0, 0x0⟩,
  ⟨0x10018, 1, 0x4, .ro, 0x0, 0x0, 0x0, 0x0⟩,
  ⟨0x1001C, 1, 0x4, .ro, 0x0, 0x0, 0x0, 0x0⟩,
  ⟨0x10020, 1, 0x4, .ro, 0x0, 0x0, 0x0, 0x0⟩,
  ⟨0x10024, 1, 0x4, .ro, 0xFFFFFF, 0x0, 0x0, 0x0⟩,
  ⟨0x10028, 1, 0x4, .rw, 0x20D, 0x30F, 0x0, 0x0⟩,
  ⟨0x1002C, 1, 0x4, .w1c, 0x0, 0x0, 0xF, 0x0⟩
]

/-- The registers of the block at 0x20000. -/
def regBlock2 : List RegInfo := [
  ⟨0x20000, 1, 0x4, .rw, 0x1, 0x1, 0x0, 0x6⟩,
  ⟨0x20004, 1, 0x4, .rw, 0x14400832, 0xFFF0FFFF, 0x0, 0x0⟩,
  ⟨0x20008, 1, 0x4, .rw, 0x30064, 0x3FFFF, 0x0, 0x0⟩,
  ⟨0x2000C, 1, 0x4, .ro, 0x0, 0x0, 0x0, 0x0⟩,
  ⟨0x20010, 1, 0x4, .ro, 0x0, 0x0, 0x0, 0x0⟩,
  ⟨0x20014, 1, 0x4, .ro, 0x0, 0x0, 0x0, 0x0⟩,
  ⟨0x20018, 1, 0x4, .ro, 0x0, 0x0, 0x0, 0x0⟩,
  ⟨0x2001C, 1, 0x4, .ro, 0x0, 0x0, 0x0, 0x0⟩,
  ⟨0x20020, 1, 0x4, .ro, 0x0, 0x0, 0x0, 0x0⟩,
  ⟨0x20024, 1, 0x4, .ro, 0xFFFFFF, 0x0, 0x0, 0x0⟩,
  ⟨0x20028, 1, 0x4, .rw, 0x20D, 0x30F, 0x0, 0x0⟩,
  ⟨0x2002C, 1, 0x4, .w1c, 0x0, 0x0, 0xF, 0x0⟩
]

/-- The registers of the block at 0x30000. -/
def regBlock3 : List RegInfo := [
  ⟨0x30000, 1, 0x4, .rw, 0x0, 0x0, 0x0, 0x1⟩,
  ⟨0x30004, 1, 0x4, .rw, 0x10000A, 0xFF00FF, 0x0, 0x0⟩,
  ⟨0x30008, 1, 0x4, .ro, 0x0, 0x0, 0x0, 0x0⟩,
  ⟨0x3000C, 1, 0x4, .rw, 0x64, 0x3FFF, 0x0, 0x0⟩,
  ⟨0x30010, 1, 0x4, .ro, 0x0, 0x0, 0x0, 0x0⟩,
  ⟨0x30014, 1, 0x4, .wo, 0x0, 0x0, 0x0, 0xFFFF⟩,
  ⟨0x30018, 1, 0x4, .ro, 0x0, 0x0, 0x0, 0x0⟩,
  ⟨0x3001C, 1, 0x4, .ro, 0x0, 0x0, 0x0, 0x0⟩,
  ⟨0x30020, 8, 0x4, .ro, 0x0, 0x0, 0x0, 0x0⟩,
  ⟨0x30040, 4, 0x4, .wo, 0x0, 0xFFFFFFFF, 0x0, 0x0⟩,
  ⟨0x30050, 1, 0x4, .ro, 0x0, 0x0, 0x0, 0x0⟩,
  ⟨0x30054, 1, 0x4, .ro, 0x0, 0x0, 0x0, 0x0⟩,
  ⟨0x30058, 1, 0x4, .ro, 0x0, 0x0, 0x0, 0x0⟩,
  ⟨0x30800, 256, 0x8, .ro, 0x0, 0x0, 0x0, 0x0⟩,
  ⟨0x30804, 256, 0x8, .ro, 0x0, 0x0, 0x0, 0x0⟩
]

/-- The registers of the block at 0x40000. -/
def regBlock4 : List RegInfo := [
  ⟨0x40000, 1, 0x4, .rw, 0x10, 0x10, 0x0, 0x2F⟩,
  ⟨0x40004, 1, 0x4, .rwl, 0x640014, 0xFFFF00FF, 0x0, 0x0⟩,
  ⟨0x40008, 1, 0x4, .ro, 0x11, 0x0, 0x0, 0x0⟩,
  ⟨0x4000C, 1, 0x4, .ro, 0x0, 0x0, 0x0, 0x0⟩,
  ⟨0x40010, 1, 0x4, .ro, 0x0, 0x0, 0x0, 0x0⟩,
  ⟨0x40014, 1, 0x4, .ro, 0x0, 0x0, 0x0, 0x0⟩,
  ⟨0x40018, 1, 0x4, .ro, 0xA, 0x0, 0x0, 0x0⟩,
  ⟨0x4001C, 1, 0x4, .rw, 0x80000000, 0x1, 0x0, 0x0⟩,
  ⟨0x40020, 1, 0x4, .ro, 0x0, 0x0, 0x0, 0x0⟩,
  ⟨0x40024, 1, 0x4, .ro, 0x0, 0x0, 0x0, 0x0⟩,
  ⟨0x40028, 1, 0x4, .ro, 0x0, 0x0, 0x0, 0x0⟩,
  ⟨0x4002C, 1, 0x4, .ro, 0x0, 0x0, 0x0, 0x0⟩,
  ⟨0x40030, 1, 0x4, .ro, 0x0, 0x0, 0x0, 0x0⟩,
  ⟨0x40034, 1, 0x4, .ro, 0x0, 0x0, 0x0, 0x0⟩,
  ⟨0x40038, 1, 0x4, .ro, 0x0, 0x0, 0x0, 0x0⟩,
  ⟨0x4003C, 1, 0x4, .ro, 0x0, 0x0, 0x0, 0x0⟩,
  ⟨0x40040, 1, 0x4, .ro, 0x0, 0x0, 0x0, 0x0⟩,
  ⟨0x40044, 1, 0x4, .ro, 0x0, 0x0, 0x0, 0x0⟩
]

/-- The registers of the block at 0x50000. -/
def regBlock5 : List RegInfo := [
  ⟨0x50000, 1, 0x4, .rw, 0x0, 0x0, 0x0, 0x1⟩,
  ⟨0x50004, 1, 0x4, .ro, 0x80FF0120, 0x0, 0x0, 0x0⟩,
  ⟨0x50008, 1, 0x4, .ro, 0x0, 0x0, 0x0, 0x0⟩,
  ⟨0x5000C, 1, 0x4, .ro, 0x78401040, 0x0, 0x0, 0x0⟩,
  ⟨0x50010, 1, 0x4, .rwl, 0x1908, 0xFF1F, 0x0, 0x0⟩,
  ⟨0x50014, 1, 0x4, .ro, 0x1F8, 0x0, 0x0, 0x0⟩,
  ⟨0x50018, 1, 0x4, .ro, 0x10000, 0x0, 0x0, 0x0⟩,
  ⟨0x5001C, 1, 0x4, .ro, 0x0, 0x0, 0x0, 0x0⟩,
  ⟨0x50020, 1, 0x4, .ro, 0x23F00018, 0x0, 0x0, 0x0⟩,
  ⟨0x50024, 1, 0x4, .ro, 0x404000, 0x0, 0x0, 0x0⟩,
  ⟨0x50028, 1, 0x4, .ro, 0x0, 0x0, 0x0, 0x0⟩,
  ⟨0x5002C, 1, 0x4, .ro, 0x0, 0x0, 0x0, 0x0⟩,
  ⟨0x50030, 1, 0x4, .ro, 0x0, 0x0, 0x0, 0x0⟩,
  ⟨0x50034, 1, 0x4, .ro, 0x0, 0x0, 0x0, 0x0⟩,
  ⟨0x50038, 1, 0x4, .ro, 0x0, 0x0, 0x0, 0x0⟩,
  ⟨0x5003C, 1, 0x4, .ro, 0x0, 0x0, 0x0, 0x0⟩,
  ⟨0x50040, 1, 0x4, .ro, 0x0, 0x0, 0x0, 0x0⟩,
  ⟨0x50050, 4, 0x4, .ro, 0x0, 0x0, 0x0, 0x0⟩,
  ⟨0x50080, 16, 0x4, .ro, 0x1600160, 0x0, 0x0, 0x0⟩,
  ⟨0x500C0, 16, 0x4, .ro, 0x2800280, 0x0, 0x0, 0x0⟩
]

/-- The registers of the block at 0x60000. -/
def regBlock6 : List RegInfo := [
  ⟨0x60000, 1, 0x4, .rw, 0x0, 0x0, 0x0, 0x1⟩,
  ⟨0x60004, 1, 0x4, .ro, 0x0, 0x0, 0x0, 0x0⟩,
  ⟨0x60008, 1, 0x4, .ro, 0x0, 0x0, 0x0, 0x0⟩,
  ⟨0x6000C, 1, 0x4, .ro, 0x0, 0x0, 0x0, 0x0⟩,
  ⟨0x60010, 1, 0x4, .rws, 0x0, 0xFFFF, 0x0, 0x0⟩,
  ⟨0x60014, 1, 0x4, .rws, 0x0, 0x1, 0x0, 0x0⟩,
  ⟨0x60018, 1, 0x4, .rws, 0x40000000, 0xFFFFFFC0, 0x0, 0x0⟩,
  ⟨0x6001C, 1, 0x4, .rws, 0xC80020, 0xFF00FF, 0x0, 0x0⟩,
  ⟨0x60020, 1, 0x4, .ro, 0x0, 0x0, 0x0, 0x0⟩,
  ⟨0x60024, 1, 0x4, .ro, 0x0, 0x0, 0x0, 0x0⟩,
  ⟨0x60028, 1, 0x4, .ro, 0x0, 0x0, 0x0, 0x0⟩,
  ⟨0x6002C, 1, 0x4, .ro, 0x0, 0x0, 0x0, 0x0⟩,
  ⟨0x60030, 1, 0x4, .ro, 0x0, 0x0, 0x0, 0x0⟩,
  ⟨0x60034, 1, 0x4, .ro, 0x0, 0x0, 0x0, 0x0⟩,
  ⟨0x60038, 1, 0x4, .ro, 0x0, 0x0, 0x0, 0x0⟩,
  ⟨0x6003C, 1, 0x4, .ro, 0x0, 0x0, 0x0, 0x0⟩,
  ⟨0x60040, 1, 0x4, .ro, 0x0, 0x0, 0x0, 0x0⟩,
  ⟨0x60810, 1, 0x4, .ro, 0x0, 0x0, 0x0, 0x0⟩,
  ⟨0x60814, 1, 0x4, .ro, 0x0, 0x0, 0x0, 0x0⟩,
  ⟨0x60818, 1, 0x4, .ro, 0x40000000, 0x0, 0x0, 0x0⟩,
  ⟨0x6081C, 1, 0x4, .ro, 0xC80020, 0x0, 0x0, 0x0⟩,
  ⟨0x60400, 8, 0x40, .rws, 0x0, 0xFF0FF8F1, 0x0, 0x0⟩,
  ⟨0x60C00, 8, 0x40, .ro, 0x0, 0x0, 0x0, 0x0⟩,
  ⟨0x60404, 8, 0x40, .rws, 0x40000000, 0xFFFFFFC0, 0x0, 0x0⟩,
  ⟨0x60C04, 8, 0x40, .ro, 0x40000000, 0x0, 0x0, 0x0⟩,
  ⟨0x60408, 8, 0x40, .rws, 0x1000, 0x3FFC0, 0x0, 0x0⟩,
  ⟨0x60C08, 8, 0x40, .ro, 0x1000, 0x0, 0x0, 0x0⟩,
  ⟨0x6040C, 8, 0x40, .rws, 0x2800800, 0xFFF1FFF, 0x0, 0x0⟩,
  ⟨0x60C0C, 8, 0x40, .ro, 0x2800800, 0x0, 0x0, 0x0⟩,
  ⟨0x60410, 8, 0x40, .rws, 0x0, 0xFFF1FFF, 0x0, 0x0⟩,
  ⟨0x60C10, 8, 0x40, .ro, 0x0, 0x0, 0x0, 0x0⟩,
  ⟨0x60414, 8, 0x40, .rws, 0x2800800, 0x3FF0FFF, 0x0, 0x0⟩,
  ⟨0x60C14, 8, 0x40, .ro, 0x2800800, 0x0, 0x0, 0x0⟩,
  ⟨0x60418, 8, 0x40, .rws, 0x0, 0xFFFF, 0x0, 0x0⟩,
  ⟨0x60C18, 8, 0x40, .ro, 0x0, 0x0, 0x0, 0x0⟩,
  ⟨0x6041C, 8, 0x40, .rws, 0x100, 0x1FF, 0x0, 0x0⟩,
  ⟨0x60C1C, 8, 0x40, .ro, 0x100, 0x0, 0x0, 0x0⟩,
  ⟨0x60420, 8, 0x40, .rws, 0x0, 0xFFFF, 0x0, 0x0⟩,
  ⟨0x60C20, 8, 0x40, .ro, 0x0, 0x0, 0x0, 0x0⟩,
  ⟨0x60424, 8, 0x40, .rws, 0x0, 0x1FFFFFC0, 0x0, 0x0⟩,
  ⟨0x60C24, 8, 0x40, .ro, 0x0, 0x0, 0x0, 0x0⟩,
  ⟨0x60428, 8, 0x40, .rws, 0x0, 0xFFFFFFFF, 0x0, 0x0⟩,
  ⟨0x60C28, 8, 0x40, .ro, 0x0, 0x0, 0x0, 0x0⟩,
  ⟨0x6042C, 8, 0x40, .ro, 0x0, 0x0, 0x0, 0x0⟩,
  ⟨0x60430, 8, 0x40, .ro, 0x0, 0x0, 0x0, 0x0⟩
]

/-- The registers of the block at 0x70000. -/
def regBlock7 : List RegInfo := [
  ⟨0x70000, 1, 0x4, .rw, 0x0, 0x3, 0x0, 0x4⟩,
  ⟨0x70004, 1, 0x4, .rws, 0x3, 0x7, 0x0, 0x0⟩,
  ⟨0x70008, 1, 0x4, .rws, 0xEA60, 0x3FFFF, 0x0, 0x0⟩,
  ⟨0x7000C, 1, 0x4, .rws, 0x1F4, 0xFFFF, 0x0, 0x0⟩,
  ⟨0x70010, 1, 0x4, .rw, 0x804, 0xFF0F, 0x0, 0x0⟩,
  ⟨0x70014, 1, 0x4, .rw, 0x6408, 0xFFFF, 0x0, 0x0⟩,
  ⟨0x70018, 1, 0x4, .ro, 0x0, 0x0, 0x0, 0x0⟩,
  ⟨0x7001C, 1, 0x4, .ro, 0x0, 0x0, 0x0, 0x0⟩,
  ⟨0x70020, 1, 0x4, .ro, 0x0, 0x0, 0x0, 0x0⟩,
  ⟨0x70024, 1, 0x4, .ro, 0x303F9, 0x0, 0x0, 0x0⟩,
  ⟨0x70028, 1, 0x4, .ro, 0x0, 0x0, 0x0, 0x0⟩,
  ⟨0x7002C, 1, 0x4, .ro, 0x0, 0x0, 0x0, 0x0⟩,
  ⟨0x70030, 1, 0x4, .ro, 0x0, 0x0, 0x0, 0x0⟩,
  ⟨0x70104, 1, 0x4, .ro, 0x3, 0x0, 0x0, 0x0⟩,
  ⟨0x70108, 1, 0x4, .ro, 0xEA60, 0x0, 0x0, 0x0⟩,
  ⟨0x7010C, 1, 0x4, .ro, 0x1F4, 0x0, 0x0, 0x0⟩
]

/-- The registers of the block at 0x80000. -/
def regBlock8 : List RegInfo := [
  ⟨0x80000, 4, 0x4000, .rw, 0x0, 0x0, 0x0, 0x1⟩,
  ⟨0x80004, 4, 0x4000, .rws, 0x0, 0x1, 0x0, 0x0⟩,
  ⟨0x80008, 4, 0x4000, .ro, 0x0, 0x0, 0x0, 0x0⟩,
  ⟨0x8000C, 4, 0x4000, .ro, 0x0, 0x0, 0x0, 0x0⟩,
  ⟨0x80010, 4, 0x4000, .ro, 0x0, 0x0, 0x0, 0x0⟩,
  ⟨0x80014, 4, 0x4000, .ro, 0x0, 0x0, 0x0, 0x0⟩,
  ⟨0x80018, 4, 0x4000, .ro, 0x0, 0x0, 0x0, 0x0⟩,
  ⟨0x8001C, 4, 0x4000, .ro, 0x0, 0x0, 0x0, 0x0⟩,
  ⟨0x80020, 4, 0x4000, .ro, 0x0, 0x0, 0x0, 0x0⟩,
  ⟨0x80024, 4, 0x4000, .ro, 0x0, 0x0, 0x0, 0x0⟩,
  ⟨0x80028, 4, 0x4000, .ro, 0x0, 0x0, 0x0, 0x0⟩,
  ⟨0x80030, 4, 0x4000, .ro, 0x0, 0x0, 0x0, 0x0⟩,
  ⟨0x80034, 4, 0x4000, .ro, 0x0, 0x0, 0x0, 0x0⟩,
  ⟨0x80038, 4, 0x4000, .ro, 0x0, 0x0, 0x0, 0x0⟩,
  ⟨0x8003C, 4, 0x4000, .ro, 0x0, 0x0, 0x0, 0x0⟩,
  ⟨0x80104, 4, 0x4000, .ro, 0x0, 0x0, 0x0, 0x0⟩
]

/-- The registers of the block at 0x90000. -/
def regBlock9 : List RegInfo := [
  ⟨0x90000, 1, 0x4, .rw, 0x0, 0x7, 0x0, 0x8⟩,
  ⟨0x90004, 1, 0x4, .ro, 0x0, 0x0, 0x0, 0x0⟩,
  ⟨0x90008, 1, 0x4, .rws, 0x5DC0, 0x7FFF, 0x0, 0x0⟩,
  ⟨0x9000C, 8, 0x4, .rws, 0xBB8, 0x1FFF, 0x0, 0x0⟩,
  ⟨0x90030, 1, 0x4, .ro, 0x80008000, 0x0, 0x0, 0x0⟩,
  ⟨0x90034, 1, 0x4, .ro, 0x0, 0x0, 0x0, 0x0⟩,
  ⟨0x90038, 1, 0x4, .ro, 0x0, 0x0, 0x0, 0x0⟩,
  ⟨0x9003C, 1, 0x4, .ro, 0x0, 0x0, 0x0, 0x0⟩,
  ⟨0x90040, 1, 0x4, .ro, 0x0, 0x0, 0x0, 0x0⟩,
  ⟨0x90044, 1, 0x4, .ro, 0x0, 0x0, 0x0, 0x0⟩,
  ⟨0x90048, 1, 0x4, .ro, 0x0, 0x0, 0x0, 0x0⟩,
  ⟨0x90050, 8, 0x4, .ro, 0x0, 0x0, 0x0, 0x0⟩,
  ⟨0x90108, 1, 0x4, .ro, 0x5DC0, 0x0, 0x0, 0x0⟩,
  ⟨0x9010C, 8, 0x4, .ro, 0xBB8, 0x0, 0x0, 0x0⟩
]

/-- The registers of the block at 0xA0000. -/
def regBlockA : List RegInfo := [
  ⟨0xA0000, 1, 0x4, .rw, 0xF, 0xF, 0x0, 0x10⟩,
  ⟨0xA0004, 1, 0x4, .rw, 0x1E0402, 0xFF3F3F, 0x0, 0x0⟩,
  ⟨0xA0008, 1, 0x4, .rw, 0x8100004, 0x1FFF000F, 0x0, 0x0⟩,
  ⟨0xA000C, 1, 0x4, .rw, 0x800, 0xFFF, 0x0, 0x0⟩,
  ⟨0xA0010, 1, 0x4, .rw, 0x7, 0x7, 0x0, 0x0⟩,
  ⟨0xA0014, 1, 0x4, .rw, 0x40100032, 0xFFFF00FF, 0x0, 0x0⟩,
  ⟨0xA0018, 1, 0x4, .ro, 0x0, 0x0, 0x0, 0x0⟩,
  ⟨0xA001C, 1, 0x4, .w1c, 0x0, 0x0, 0xFF, 0x0⟩,
  ⟨0xA0020, 1, 0x4, .ro, 0x0, 0x0, 0x0, 0x0⟩,
  ⟨0xA0024, 1, 0x4, .ro, 0x0, 0x0, 0x0, 0x0⟩,
  ⟨0xA0028, 1, 0x4, .ro, 0x0, 0x0, 0x0, 0x0⟩,
  ⟨0xA002C, 1, 0x4, .ro, 0x0, 0x0, 0x0, 0x0⟩,
  ⟨0xA0030, 1, 0x4, .ro, 0x0, 0x0, 0x0, 0x0⟩,
  ⟨0xA0034, 1, 0x4, .ro, 0x0, 0x0, 0x0, 0x0⟩,
  ⟨0xA0038, 1, 0x4, .ro, 0x0, 0x0, 0x0, 0x0⟩,
  ⟨0xA003C, 1, 0x4, .ro, 0x0, 0x0, 0x0, 0x0⟩,
  ⟨0xA0040, 1, 0x4, .ro, 0x0, 0x0, 0x0, 0x0⟩
]

/-- The registers of the block at 0xB0000. -/
def regBlockB : List RegInfo := [
  ⟨0xB0000, 1, 0x4, .rw, 0x1, 0x1, 0x0, 0x6⟩,
  ⟨0xB0004, 1, 0x4, .rw, 0x208, 0xFF0003FF, 0x0, 0x0⟩,
  ⟨0xB0008, 1, 0x4, .rw, 0x80A, 0xFFFF, 0x0, 0x0⟩,
  ⟨0xB000C, 1, 0x4, .rw, 0xF03, 0xFF0F, 0x0, 0x0⟩,
  ⟨0xB0010, 1, 0x4, .rwl, 0x4968700, 0xFFFFFF00, 0x0, 0x0⟩,
  ⟨0xB0014, 1, 0x4, .rw, 0x50001, 0xFF0003, 0x0, 0x0⟩,
  ⟨0xB0018, 1, 0x4, .ro, 0x4000, 0x0, 0x0, 0x0⟩,
  ⟨0xB001C, 1, 0x4, .ro, 0x0, 0x0, 0x0, 0x0⟩,
  ⟨0xB0020, 1, 0x4, .ro, 0x0, 0x0, 0x0, 0x0⟩,
  ⟨0xB0024, 1, 0x4, .w1c, 0x0, 0x0, 0x0, 0x0⟩,
  ⟨0xB0028, 1, 0x4, .w1c, 0x0, 0x0, 0x0, 0x0⟩,
  ⟨0xB002C, 1, 0x4, .w1c, 0x0, 0x0, 0x0, 0x0⟩,
  ⟨0xB0030, 1, 0x4, .ro, 0x0, 0x0, 0x0, 0x0⟩,
  ⟨0xB0034, 1, 0x4, .ro, 0x0, 0x0, 0x0, 0x0⟩,
  ⟨0xB0038, 1, 0x4, .ro, 0x0, 0x0, 0x0, 0x0⟩,
  ⟨0xB003C, 1, 0x4, .ro, 0x0, 0x0, 0x0, 0x0⟩,
  ⟨0xB0040, 1, 0x4, .ro, 0x0, 0x0, 0x0, 0x0⟩,
  ⟨0xB0044, 1, 0x4, .ro, 0x19006E0, 0x0, 0x0, 0x0⟩,
  ⟨0xB0050, 8, 0x4, .rw, 0x0, 0xFFFFFFF, 0x0, 0x0⟩,
  ⟨0xB0100, 72, 0x4, .ro, 0x0, 0x0, 0x0, 0x0⟩,
  ⟨0xB0300, 16, 0x4, .ro, 0x3F3F3F3F, 0x0, 0x0, 0x0⟩,
  ⟨0xB0400, 72, 0x4, .ro, 0x0, 0x0, 0x0, 0x0⟩,
  ⟨0xB0600, 72, 0x4, .ro, 0x0, 0x0, 0x0, 0x0⟩,
  ⟨0xB0800, 72, 0x4, .ro, 0x0, 0x0, 0x0, 0x0⟩
]

/-- The registers of the block at 0xC0000. -/
def regBlockC : List RegInfo := [
  ⟨0xC0000, 1, 0x4, .rw, 0x4, 0x5, 0x0, 0x8⟩,
  ⟨0xC0004, 1, 0x4, .rw, 0x1F408C06, 0xFFF0FF17, 0x0, 0x0⟩,
  ⟨0xC0008, 1, 0x4, .rw, 0xE10, 0xFFFF, 0x0, 0x0⟩,
  ⟨0xC000C, 1, 0x4, .rw, 0x8004028, 0xBFFFFFFF, 0x0, 0x0⟩,
  ⟨0xC0010, 1, 0x4, .rw, 0x6428141E, 0xFFFFFFFF, 0x0, 0x0⟩,
  ⟨0xC0014, 1, 0x4, .rw, 0x11941000, 0xFFFFFFFF, 0x0, 0x0⟩,
  ⟨0xC0018, 1, 0x4, .rw, 0xA1400C8, 0xFFFFFFFF, 0x0, 0x0⟩,
  ⟨0xC001C, 1, 0x4, .rw, 0x0, 0x7, 0x0, 0x0⟩,
  ⟨0xC0020, 1, 0x4, .ro, 0x8000000, 0x0, 0x0, 0x0⟩,
  ⟨0xC0024, 1, 0x4, .ro, 0x0, 0x0, 0x0, 0x0⟩,
  ⟨0xC0028, 1, 0x4, .ro, 0x0, 0x0, 0x0, 0x0⟩,
  ⟨0xC002C, 1, 0x4, .ro, 0x0, 0x0, 0x0, 0x0⟩,
  ⟨0xC0030, 1, 0x4, .ro, 0x0, 0x0, 0x0, 0x0⟩,
  ⟨0xC0034, 1, 0x4, .w1c, 0x0, 0x0, 0xF, 0x0⟩,
  ⟨0xC0038, 1, 0x4, .ro, 0x0, 0x0, 0x0, 0x0⟩,
  ⟨0xC003C, 1, 0x4, .ro, 0x0, 0x0, 0x0, 0x0⟩,
  ⟨0xC0040, 1, 0x4, .ro, 0x0, 0x0, 0x0, 0x0⟩
]

/-- The registers of the block at 0xD0000. -/
def regBlockD : List RegInfo := [
  ⟨0xD0000, 1, 0x4, .rw, 0x8, 0xB, 0x0, 0x10⟩,
  ⟨0xD0004, 1, 0x4, .rw, 0x802501E, 0xFFFFFFFF, 0x0, 0x0⟩,
  ⟨0xD0008, 1, 0x4, .rw, 0x400FC00, 0xFFFFFFFF, 0x0, 0x0⟩,
  ⟨0xD000C, 1, 0x4, .rw, 0x0, 0xFFFF, 0x0, 0x0⟩,
  ⟨0xD0010, 1, 0x4, .rw, 0x8002014, 0x3FFFFFFF, 0x0, 0x0⟩,
  ⟨0xD0014, 1, 0x4, .rw, 0x1000000, 0xFFFFFFFF, 0x0, 0x0⟩,
  ⟨0xD0018, 1, 0x4, .rw, 0x11990E66, 0x1FFF1FFF, 0x0, 0x0⟩,
  ⟨0xD001C, 1, 0x4, .rw, 0xA101000, 0xFFFFFFFF, 0x0, 0x0⟩,
  ⟨0xD0020, 1, 0x4, .rw, 0x14083202, 0xFFFFFFFF, 0x0, 0x0⟩,
  ⟨0xD0024, 1, 0x4, .rw, 0x0, 0x8000FFFF, 0x0, 0x0⟩,
  ⟨0xD0028, 1, 0x4, .rw, 0x3C64143C, 0xFFFFFFFF, 0x0, 0x0⟩,
  ⟨0xD002C, 1, 0x4, .ro, 0x0, 0x0, 0x0, 0x0⟩,
  ⟨0xD0030, 1, 0x4, .ro, 0x0, 0x0, 0x0, 0x0⟩,
  ⟨0xD0034, 1, 0x4, .w1c, 0x0, 0x0, 0x7, 0x0⟩,
  ⟨0xD0038, 1, 0x4, .ro, 0x0, 0x0, 0x0, 0x0⟩,
  ⟨0xD003C, 1, 0x4, .ro, 0x0, 0x0, 0x0, 0x0⟩
]

/-- The registers of the block at 0xE0000. -/
def regBlockE : List RegInfo := [
  ⟨0xE0000, 1, 0x4, .rw, 0x0, 0x0, 0x0, 0x1⟩,
  ⟨0xE0004, 1, 0x4, .ro, 0x3, 0x0, 0x0, 0x0⟩,
  ⟨0xE0008, 1, 0x4, .ro, 0x0, 0x0, 0x0, 0x0⟩,
  ⟨0xE000C, 1, 0x4, .rw, 0x0, 0xFF, 0x0, 0x0⟩,
  ⟨0xE0010, 1, 0x4, .w1c, 0x0, 0x0, 0x1FFFF, 0x0⟩,
  ⟨0xE0020, 4, 0x4, .rw, 0x0, 0xFFFF, 0x0, 0x0⟩,
  ⟨0xE0040, 17, 0x4, .ro, 0x0, 0x0, 0x0, 0x0⟩,
  ⟨0xE0100, 8, 0x20, .rw, 0x0, 0x1, 0x0, 0x0⟩,
  ⟨0xE0104, 8, 0x20, .rw, 0x0, 0xFFFFCFF7, 0x0, 0x0⟩,
  ⟨0xE0108, 8, 0x20, .rw, 0x0, 0xFFFFFFFF, 0x0, 0x0⟩,
  ⟨0xE010C, 8, 0x20, .rw, 0x1800001, 0xC7FFFFFF, 0x0, 0x0⟩,
  ⟨0xE0110, 8, 0x20, .ro, 0x0, 0x0, 0x0, 0x0⟩,
  ⟨0xE0114, 8, 0x20, .rw, 0x0, 0xFFFFFF, 0x0, 0x0⟩,
  ⟨0xE0118, 8, 0x20, .ro, 0x0, 0x0, 0x0, 0x0⟩,
  ⟨0xE011C, 8, 0x20, .ro, 0x0, 0x0, 0x0, 0x0⟩,
  ⟨0xE0400, 128, 0x4, .rw, 0x0, 0xFF3F1F, 0x0, 0x0⟩
]

/-- The registers of the block at 0xF0000. -/
def regBlockF : List RegInfo := [
  ⟨0xF0000, 1, 0x4, .rw, 0x1000, 0xFF02, 0x0, 0x1⟩,
  ⟨0xF0004, 1, 0x4, .ro, 0x0, 0x0, 0x0, 0x0⟩,
  ⟨0xF0008, 1, 0x4, .ro, 0x0, 0x0, 0x0, 0x0⟩,
  ⟨0xF000C, 1, 0x4, .ro, 0x80000000, 0x0, 0x0, 0x0⟩,
  ⟨0xF0010, 1, 0x4, .ro, 0x0, 0x0, 0x0, 0x0⟩,
  ⟨0xF0020, 4, 0x4, .ro, 0x0, 0x0, 0x0, 0x0⟩,
  ⟨0xF0400, 128, 0x8, .ro, 0x0, 0x0, 0x0, 0x0⟩,
  ⟨0xF0404, 128, 0x8, .ro, 0x0, 0x0, 0x0, 0x0⟩,
  ⟨0xF0800, 128, 0x4, .ro, 0x0, 0x0, 0x0, 0x0⟩
]

/-- The registers of the block at 0x100000. -/
def regBlock10 : List RegInfo := [
  ⟨0x100000, 1, 0x4, .rw, 0x0, 0x0, 0x0, 0x101⟩,
  ⟨0x100004, 1, 0x4, .rw, 0x8000050A, 0x8000FFFF, 0x0, 0x0⟩,
  ⟨0x100008, 1, 0x4, .ro, 0x0, 0x0, 0x0, 0x0⟩,
  ⟨0x10000C, 1, 0x4, .ro, 0xA0000, 0x0, 0x0, 0x0⟩,
  ⟨0x100010, 1, 0x4, .rw, 0x81, 0xFF, 0x0, 0x0⟩,
  ⟨0x100014, 1, 0x4, .w1c, 0x0, 0x0, 0xFF, 0x0⟩,
  ⟨0x100018, 1, 0x4, .ro, 0x0, 0x0, 0x0, 0x0⟩,
  ⟨0x10001C, 1, 0x4, .ro, 0x1, 0x0, 0x0, 0x0⟩,
  ⟨0x100020, 1, 0x4, .rw, 0x0, 0xFFFFFFFF, 0x0, 0x0⟩
]

/-- The registers of the block at 0x110000. -/
def regBlock11 : List RegInfo := [
  ⟨0x110000, 1, 0x4, .ro, 0x0, 0x0, 0x0, 0x0⟩,
  ⟨0x110004, 1, 0x4, .rw, 0x0, 0x7, 0x0, 0x0⟩,
  ⟨0x110008, 1, 0x4, .rw, 0x0, 0xF0000000, 0x0, 0x0⟩
]

/-- The registers of the block at 0x120000. -/
def regBlock12 : List RegInfo := [
  ⟨0x120000, 1, 0x4, .rw, 0x0, 0x0, 0x0, 0x1⟩,
  ⟨0x120004, 1, 0x4, .rw, 0x1, 0x3, 0x0, 0x0⟩,
  ⟨0x120008, 1, 0x4, .rw, 0xA0A, 0xFFFF, 0x0, 0x0⟩,
  ⟨0x12000C, 1, 0x4, .rw, 0x40000000, 0xFFFFFFC0, 0x0, 0x0⟩,
  ⟨0x120010, 1, 0x4, .rw, 0x0, 0xFFFFFFC0, 0x0, 0x0⟩,
  ⟨0x120014, 1, 0x4, .ro, 0x0, 0x0, 0x0, 0x0⟩,
  ⟨0x120018, 1, 0x4, .ro, 0x0, 0x0, 0x0, 0x0⟩,
  ⟨0x12001C, 1, 0x4, .ro, 0x0, 0x0, 0x0, 0x0⟩,
  ⟨0x120020, 8, 0x4, .ro, 0x0, 0x0, 0x0, 0x0⟩,
  ⟨0x120040, 1, 0x4, .ro, 0x0, 0x0, 0x0, 0x0⟩,
  ⟨0x120100, 4, 0x20, .rw, 0x0, 0x3, 0x0, 0x0⟩,
  ⟨0x120104, 4, 0x20, .rw, 0x0, 0xE00000FF, 0x0, 0x0⟩,
  ⟨0x120108, 4, 0x20, .rw, 0xFFFFFFFF, 0xFFFFFFFF, 0x0, 0x0⟩,
  ⟨0x12010C, 4, 0x20, .ro, 0x0, 0x0, 0x0, 0x0⟩,
  ⟨0x120110, 4, 0x20, .ro, 0x0, 0x0, 0x0, 0x0⟩
]

/-- The registers of the block at 0x130000. -/
def regBlock13 : List RegInfo := [
  ⟨0x130000, 1, 0x4, .rw, 0x70, 0x7F, 0x0, 0x100⟩,
  ⟨0x130004, 1, 0x4, .rw, 0x3C0A, 0xFFFF, 0x0, 0x0⟩,
  ⟨0x130008, 1, 0x4, .ro, 0x0, 0x0, 0x0, 0x0⟩,
  ⟨0x13000C, 1, 0x4, .ro, 0x0, 0x0, 0x0, 0x0⟩,
  ⟨0x130020, 7, 0x8, .ro, 0x8000190, 0x0, 0x0, 0x0⟩,
  ⟨0x130024, 7, 0x8, .ro, 0x0, 0x0, 0x0, 0x0⟩
]

/-- The registers of the block at 0x140000. -/
def regBlock14 : List RegInfo := [
  ⟨0x140000, 1, 0x4, .rw, 0x0, 0x2, 0x0, 0x5⟩,
  ⟨0x140004, 1, 0x4, .rw, 0x0, 0x73, 0x0, 0x0⟩,
  ⟨0x140008, 1, 0x4, .ro, 0x0, 0x0, 0x0, 0x0⟩,
  ⟨0x14000C, 1, 0x4, .ro, 0x0, 0x0, 0x0, 0x0⟩,
  ⟨0x140010, 1, 0x4, .ro, 0x0, 0x0, 0x0, 0x0⟩,
  ⟨0x140014, 1, 0x4, .ro, 0x0, 0x0, 0x0, 0x0⟩,
  ⟨0x140018, 1, 0x4, .ro, 0x0, 0x0, 0x0, 0x0⟩,
  ⟨0x14001C, 1, 0x4, .ro, 0x0, 0x0, 0x0, 0x0⟩,
  ⟨0x140020, 1, 0x4, .ro, 0x0, 0x0, 0x0, 0x0⟩,
  ⟨0x140024, 1, 0x4, .ro, 0x0, 0x0, 0x0, 0x0⟩
]

/-- The registers of the block at 0x150000. -/
def regBlock15 : List RegInfo := [
  ⟨0x150000, 1, 0x4, .rw, 0x2, 0x2, 0x0, 0x1⟩,
  ⟨0x150004, 1, 0x4, .rw, 0x130A, 0xFFFF, 0x0, 0x0⟩,
  ⟨0x150008, 1, 0x4, .ro, 0x0, 0x0, 0x0, 0x0⟩,
  ⟨0x15000C, 1, 0x4, .ro, 0x0, 0x0, 0x0, 0x0⟩,
  ⟨0x150010, 4, 0x4, .ro, 0x0, 0x0, 0x0, 0x0⟩,
  ⟨0x150020, 1, 0x4, .ro, 0x0, 0x0, 0x0, 0x0⟩,
  ⟨0x150024, 1, 0x4, .ro, 0x0, 0x0, 0x0, 0x0⟩,
  ⟨0x150028, 1, 0x4, .ro, 0x0, 0x0, 0x0, 0x0⟩
]

/-- The register table of a block, by the upper half of the address (R15). -/
def regBlock (b : Nat) : List RegInfo :=
  match b with
  | 0x0 => regBlock0
  | 0x1 => regBlock1
  | 0x2 => regBlock2
  | 0x3 => regBlock3
  | 0x4 => regBlock4
  | 0x5 => regBlock5
  | 0x6 => regBlock6
  | 0x7 => regBlock7
  | 0x8 => regBlock8
  | 0x9 => regBlock9
  | 0xA => regBlockA
  | 0xB => regBlockB
  | 0xC => regBlockC
  | 0xD => regBlockD
  | 0xE => regBlockE
  | 0xF => regBlockF
  | 0x10 => regBlock10
  | 0x11 => regBlock11
  | 0x12 => regBlock12
  | 0x13 => regBlock13
  | 0x14 => regBlock14
  | 0x15 => regBlock15
  | _ => []

/-- Whether a table row covers address `a`. -/
def RegInfo.covers (r : RegInfo) (a : Nat) : Bool :=
  decide (r.lo ≤ a) && decide ((a - r.lo) % r.stride = 0) && decide ((a - r.lo) / r.stride < r.n)

/-- The table row of the register at `a`, if the map has one there. -/
def regInfo (a : Nat) : Option RegInfo := (regBlock (a / 0x10000)).find? (·.covers a)

end Sys2Proof.Machine
end

