-- ==== Sys2Proof/Machine/State.lean ====
section
/-!
DEFINITION. The state of the light engine, as plain data: every register of the register map in one sparse store
(`regs`), the memories, and the state the chapters give the blocks beside their registers, grouped by block. Registers
whose table makes them read-only are held in `regs` too: a fact that a register shows has its one home there.
A list of (key, value) pairs is a store in canonical form: keys strictly rising, no entry equal to its default.
-/
namespace Sys2Proof.Machine

/-! ### Fault collector -/

/-- One entry of the history queue: the four words of R428. -/
structure HistEntry where
  w0 : Nat
  w1 : Nat
  w2 : Nat
  w3 : Nat
  deriving DecidableEq, Repr

/-- State of FCR beside its registers. -/
structure FcrSt where
  /-- The FNs of each source's last 15 events, newest first (R422). -/
  wins     : List (Nat × List Nat)
  /-- The history queue, oldest first, at most 512 entries (R428, R429). -/
  hist     : List HistEntry
  /-- Entries written since the frozen event's own entry (R430). -/
  postDone : Nat
  /-- Entries that waited to be written after the last event, and the time of that event (R429). -/
  queued   : Nat
  queuedAt : Nat
  deriving DecidableEq, Repr

/-! ### Commands and channels -/

/-- A command that has been admitted, and is answered later (a waiting acquire, a measurement, a held CAL_RUN ...). -/
structure Outst where
  op   : Opcode
  cmd  : Cmd
  jseq : Nat
  /-- W0 and W1 of the channel entry by which the command was admitted (R270). -/
  w0   : Nat
  w1   : Nat
  deriving DecidableEq, Repr

/-- An open transfer of a SURF_WRITE or a TABLE_LOAD (R261 to R263). -/
structure Xfer where
  o       : Outst
  /-- Bytes the transfer carries in all. -/
  need    : Nat
  /-- Bytes taken so far (image bytes of a table; for SURF_WRITE the bytes are written as they arrive). -/
  got     : Nat
  data    : List Nat
  nextIdx : Nat
  /-- The transfer only absorbs its data packets: its command has been answered (R263). -/
  absorb  : Bool
  /-- On a DUP channel, the packets already taken, by INDEX: header words 0 and 1 and the payload (R296, R300). -/
  taken   : List (Nat × List Nat)
  /-- Time of the last packet of the transfer (R262). -/
  lastAt  : Nat
  /-- The check-value unit that checks the transfer (R459). -/
  unit    : Option Nat
  /-- The bytes of the check field that have arrived (R459). -/
  field   : List Nat
  deriving DecidableEq, Repr

/-- The last transfer that ended on a DUP channel, for the twins that come late (R300). -/
structure DupXfer where
  seq   : Nat
  taken : List (Nat × List Nat)
  deriving DecidableEq, Repr

/-- An entry of a DUP channel's history of admitted SEQs (R297). -/
structure DupEntry where
  seq   : Nat
  words : List Nat
  deriving DecidableEq, Repr

/-- A waiting acquire of a Thimble (R275). -/
structure ThWait where
  o        : Outst
  /-- LEASE as the command names it; 0 takes LEASE_DEF at the grant (R275, R286). -/
  lease    : Nat
  deadline : Nat
  deriving DecidableEq, Repr

/-- The last reply sent to the last admitted command of a channel and port (R265, R319). -/
structure LastReply where
  seq    : Nat
  status : Nat
  tag    : Nat
  deriving DecidableEq, Repr

/-- State of CMD beside its registers. A per-channel store is keyed by channel × 2 + port; a DUP channel, whose stream
is one, uses the key of port A. -/
structure CmdSt where
  /-- The reply queues of both ports, oldest first (64 entries a port). -/
  replies  : List Reply
  /-- Commands of a channel and port counted at step 3 in this frame (R264). -/
  rate     : List (Nat × Nat)
  /-- Refusal replies sent on each port in this frame (R266). -/
  errSent  : List (Nat × Nat)
  /-- SEQ last admitted of a channel and port (R264, R265, R295). -/
  lastSeq  : List (Nat × Option Nat)
  /-- The reply to the command last admitted, once it has been sent (R265, R319). -/
  lastRep  : List (Nat × Option LastReply)
  /-- First copies held for their twin on DUP channels, with the time each hold started (R295). -/
  held     : List (Outst × Nat)
  /-- The last 16 SEQs admitted on each DUP channel, newest first (R297). -/
  dupHist  : List (Nat × List DupEntry)
  /-- Open transfers (R261). -/
  xfers    : List Xfer
  /-- Admitted commands that are answered later. -/
  outst    : List Outst
  /-- Admitted commands that a fence holds, in order of admission (R274). -/
  waiting  : List Outst
  /-- Ticks since an open channel's last packet, up to 255, and whether CHAN_TIMEOUT has been raised since (R268). -/
  quiet    : List (Nat × Nat)
  absent   : List (Nat × Bool)
  /-- The channel that CMD took last at each PRIO; 255 before the first (R267). -/
  turn     : List (Nat × Nat)
  /-- The last transfer that ended on each DUP channel (R300). -/
  dupXfer  : List (Nat × Option DupXfer)
  /-- Expiry time of each held Thimble's lease (R275). -/
  thLease  : List (Nat × Nat)
  /-- The moment at which a Thimble's lease was last renewed by its holder, plus 1; 0: never (R277). -/
  thRenew  : List (Nat × Nat)
  /-- The waiting acquire of each Thimble, if there is one (R275). -/
  thWait   : List (Nat × Option ThWait)
  /-- The AES-128 keys of the eight slots (R272). -/
  keys     : List (Nat × BitVec 128)
  /-- CMD answers BUSY while the core pair restarts (R309). -/
  busyAll  : Bool
  /-- Model's own output: the status code of the register write that an own-row register command made last. -/
  answer   : Status
  deriving DecidableEq, Repr

/-! ### Hosts, journal, cores -/

/-- One entry of the journal (R311): its fields, ELEN, and the CRC-32C of the words before it. -/
structure JEntry where
  jseq : Nat
  kind : Nat
  port : Nat
  chan : Nat
  elen : Nat
  body : List Nat
  crc  : Nat
  deriving DecidableEq, Repr

/-- A checkpoint slot, by the words of R315. The body's words are firmware state, which the spec does not lay out: they come with
the commit as an observation. `ue` says that a word of the slot reads with an uncorrectable error. -/
structure CkptSlot where
  ver       : Nat
  jck       : Nat
  bodyWords : Nat
  cepoch    : Nat
  body      : List Nat
  magic     : Nat
  jck2      : Nat
  crc       : Nat
  ue        : Bool
  deriving DecidableEq, Repr

/-- A write group of a core that has ended, kept for its twin of the other core (R303, R304). -/
structure Group where
  jseq   : Nat
  writes : List RegWrite
  reply  : Option Reply
  deriving DecidableEq, Repr

/-- State of CCX and of the control-core pair beside its registers. -/
structure CcxSt where
  /-- The journal's entries after JBASE, oldest first (R311, R312). -/
  journal   : List JEntry
  /-- The two checkpoint slots (R315). -/
  slot0     : CkptSlot
  slot1     : CkptSlot
  /-- J_ck of the checkpoint being written (R314). -/
  writingJ  : Nat
  /-- Whether the checkpoint being written started after the last overflow (R312). -/
  ckClean   : Bool
  /-- Times of the last beats of CCA and CCB (R305). -/
  beatA     : Nat
  beatB     : Nat
  /-- Time of the last link-path beat of each host, if it has beaten (R290). -/
  linkBeatA : Option Nat
  linkBeatB : Option Nat
  /-- Time of the last pin-path beat of each host, if it has beaten (R290). -/
  pinBeatA  : Option Nat
  pinBeatB  : Option Nat
  /-- Ended stand-in groups whose active group has not ended (R303). -/
  standins  : List Group
  /-- Ended groups of the active core whose stand-in has not ended (R304). -/
  applied   : List Group
  /-- Ended groups of the active core that wait for an earlier group of the same register (R304). -/
  grpWait   : List Group
  /-- The moment of the last takeover, and that of the last loss of a standby with the groups it left (R307). -/
  tookAt    : Option Nat
  lostAt    : Option Nat
  lostLeft  : List Group
  /-- The moment of the last planned handover (R310). -/
  swapAt    : Option Nat
  /-- The time at which the recovery under way was detected, and its cause (R306, R322). -/
  recAt     : Nat
  recCause  : Nat
  /-- The slot that the baste under way is loading or has loaded (R317, R318). -/
  basteSlot : Nat
  /-- Core that lost a slot conflict waits for the slot to commit before it bastes again (R318). -/
  basteHold : Bool
  /-- JSEQs admitted before detection that have not completed (R306). -/
  recWait   : List Nat
  deriving DecidableEq, Repr

/-! ### Safety monitor -/

/-- A safety message copy that has opened a window (R352). -/
structure SafePend where
  o  : Outst
  t0 : Nat
  deriving DecidableEq, Repr

/-- An acted RELEASE that waits for a tick or a frame (R360, R511). -/
structure Release where
  target   : Nat
  zones    : Nat
  /-- The rung move waits: false when only zones turn on. -/
  moves    : Bool
  /-- A composition start has composed for the target. -/
  composed : Bool
  /-- Repeats of that frame at consecutive ticks. -/
  repeats  : Nat
  deriving DecidableEq, Repr

/-- An accepted SPB that waits for its tick (R339). -/
structure SpbPend where
  words : List Nat
  /-- MODE 1: the seal fuse is being programmed; the SPB waits for the end of it. -/
  sealing : Bool
  lockJtag : Bool
  cmd : Option Outst
  deriving DecidableEq, Repr

/-- State of the SMC beside its registers. The profile in effect is held in SMC_PROFILE, SMC_LIM_*, SMC_PLAIN, SMC_AIM
and CCX_HOST_TO; its Hemline floor is held here. -/
structure SmcSt where
  /-- floor(g) of the profile in effect, groups 0 to 31 (R333, R334, R336). -/
  floors   : List Nat
  /-- H(g) of the last accepted Hemline image (R340, R341). -/
  hem      : List Nat
  /-- An accepted Hemline image that waits for its tick (R340). -/
  hemNext  : Option (List Nat)
  /-- The SPB in effect, image words (R335). -/
  spb      : Option (List Nat)
  /-- The accepted SPBs that wait, in the order of their acceptance (R339). -/
  spbNext  : List SpbPend
  /-- SEAL_MISMATCH: the restrictive profile takes effect from the next tick (R338). -/
  mismatch : Bool
  /-- The restrictive profile holds until a matching SPB takes effect (R335). -/
  mismHold : Bool
  /-- The seal fuse: 16 digest bytes once programmed (R336, R339). -/
  sealFuse : Option (List Nat)
  /-- The JTAG fuse (R339). -/
  jtagFuse : Bool
  /-- The fallback image, its length in bytes and its CRC-32 (R349). -/
  fbImage  : List (Nat × Nat)
  fbLen    : Nat
  fbCrc    : Nat
  /-- The pending safety message (R352). -/
  msg      : Option SafePend
  /-- A message has been decided since reset (R352). -/
  decided  : Bool
  /-- The pending RELEASE (R360, R511). -/
  release  : Option Release
  /-- A mode change that waits: cut-off for the next slot period, high for the next tick (R348). -/
  modeCut  : Bool
  modeHigh : Bool
  /-- Consecutive reads of each strap that differ from the latched level (R332). -/
  strapBad0 : Nat
  strapBad1 : Nat
  /-- Paths whose next off-pulse test is made to fail, with the SAFE_TEST 3 to answer after it (R368). -/
  forceFail : List (Nat × Outst)
  /-- P0 waits for the first TRANSFER at which SAFE_SNS conducts (R360). -/
  relP0    : Bool
  /-- SAFE_OFF waits for LE0's report or 50 µs (R325). -/
  offWait  : Bool
  /-- An OFFPULSE was issued in this frame (R328). -/
  offSeen  : Bool
  /-- Model's output: the path of the last off-pulse, and its PULSE_LEN (R329). -/
  pulse    : Option (Nat × Nat)
  /-- Rows killed by P0 for a veto until the next TRANSFER (R345). -/
  killRows : List (Nat × Bool)
  /-- Rows and groups of pixels that failed the pixel check in the slot being loaded (R345). -/
  pxFail   : List (Nat × Nat)
  /-- Sum of A × T over each group's Selvage pixels in the slot being loaded (R344). -/
  grpSum   : List (Nat × Nat)
  /-- The same sums of the slot in play (R347). -/
  grpFront : List (Nat × Nat)
  /-- Level of ALIVE, and whether it has stopped until reset (R363). -/
  alive    : Bool
  aliveEnd : Bool
  /-- Time the SMC started, and the last beat it saw on HB_A and HB_B (R355). -/
  startAt  : Nat
  hbSeenA  : Option Nat
  hbSeenB  : Option Nat
  deriving DecidableEq, Repr

/-! ### Frame tick and sequencers -/

/-- State of the frame PLL beside the SCN registers. Times are in ns, on the engine's own time line. -/
structure FrameSt where
  /-- Time of the last tick, and the time predicted for the next one (R34, R508). -/
  tickAt   : Nat
  t1       : Nat
  /-- Period of the frame in play and of the next (R508). -/
  perCur   : Nat
  perNext  : Nat
  /-- Rise time of the last qualified edge since RUN (R38, R507). -/
  lastQual : Option Nat
  /-- E and P_e of R508. -/
  edgeE    : Option Nat
  edgeP    : Nat
  /-- The last tick was predicted, so its acceptance window is open until its end (R34). -/
  winOpen  : Bool
  /-- The valid edge of the window in course (R34, R35). -/
  winEdge  : Option Nat
  /-- Level of SYNC_OUT (R44, R45). -/
  syncOut  : Bool
  /-- The slot period that the next slot-period start begins. -/
  slotNext : Nat
  /-- A tick has come since RUN was written 1. -/
  ticked   : Bool
  /-- Edges that rose before the predicted tick, in order: the rise, and whether the edge has already served as a steering edge.
  They are judged at the tick, with the values in effect there (R34, R55). -/
  early    : List (Nat × Bool)
  /-- Time of the last slot-period start (R57). -/
  slotAt   : Nat
  deriving DecidableEq, Repr

/-- State of one sequencer beside its registers. -/
structure SeqOne where
  /-- A commit has made a buffer active since reset (R105). -/
  active  : Bool
  /-- The buffer that a commit has latched, while SEQ_STAT.LATCHED (R107). -/
  latched : Nat
  /-- Word index in the buffer of the first word of the slot list being walked. -/
  base    : Nat
  /-- pat_k of the slot being loaded (R63, R93). -/
  pat     : Nat
  /-- The walk of this slot period is over: END, or a word with an uncorrectable error (R87, R110). -/
  ended   : Bool
  /-- The next TRANSFER loads this sequencer's columns dark (R110). -/
  dark    : Bool
  /-- The PROOF window of the slot period: first stitch and length (R96). -/
  proofAt : Nat
  proofW  : Nat
  /-- A word with an uncorrectable error has ended the walk of this slot period (R110). -/
  cut     : Bool
  deriving DecidableEq, Repr

/-- State of the four sequencers. -/
structure SeqSt where
  /-- The four sequencers, by number. -/
  one  : List (Nat × SeqOne)
  /-- The schedule buffers: word i of BUFb of SEQq at key q × 8,192 + b × 4,096 + i (R102). -/
  bufs : List (Nat × BitVec 32)
  /-- Words in each loaded image's buffer, at key q × 2 + b. -/
  lens : List (Nat × Nat)
  /-- Start stitches of the column groups for the slot being loaded, and of the slot in play (R92). -/
  stagBack  : List (Nat × Nat)
  stagFront : List (Nat × Nat)
  /-- An event word met an uncorrectable error: DEGRADED-P from the next slot period (R110). -/
  goPlain   : Bool
  deriving DecidableEq, Repr

/-! ### Pixel drive -/

/-- State of PXA beside its registers. A latch is A in bits [5:0], T in [15:6] and E in [16]. -/
structure PxaSt where
  /-- The trim map, by pixel index; 0x800 where not listed (R75). -/
  trim      : List (Nat × BitVec 12)
  /-- Pattern tables: entry c of index n at key n × 65,536 + c (R66). -/
  pats      : List (Nat × BitVec 16)
  /-- Spare-adjust factors, key 4g + i; 1,024 where not listed (R76). -/
  spadj     : List (Nat × Nat)
  /-- An accepted spare-adjust load that waits for the next slot period (R77). -/
  spadjNext : Option (List Nat)
  /-- Current estimate by bin (R78, R79), and a load that waits for the next composition start. -/
  est       : List (Nat × Nat)
  estNext   : Option (List Nat)
  /-- Trim rows that wait for the next slot-period start: (row, records), with the command to answer (R74). -/
  trimNext  : List (Nat × List Nat)
  /-- Back latches and front latches of the array (R58, R59). -/
  back      : List (Nat × BitVec 17)
  front     : List (Nat × BitVec 17)
  /-- DR of the 64 zones as sampled at the slot-period start (R63). -/
  drNow     : List (Nat × Nat)
  /-- SUM_A and SUM_AT of each anode zone for the slot being loaded (R82). -/
  sumA      : List (Nat × Nat)
  sumAT     : List (Nat × Nat)
  /-- The sums handed over by the last TRANSFER, guarded zones at 0 (R94). -/
  ffA       : List (Nat × Nat)
  ffAT      : List (Nat × Nat)
  /-- Limits (rail, then zones 0 to 7) that computed the B of the frame in play, and of the next (R83). -/
  limPlay   : List Nat
  limNext   : List Nat
  /-- B and summed estimate of the next frame (R80). -/
  estNextTot : Nat
  deriving DecidableEq, Repr

/-! ### Composition and surface memory -/

/-- The composition in progress, or finished and waiting for its tick (R129, R144). -/
structure Comp where
  fn       : Nat
  /-- The fallback image is composed (R350); otherwise the host layers. -/
  fallback : Bool
  /-- Reported complete (R144). -/
  complete : Bool
  /-- The fault source that made it invalid (R146); 0 while valid. -/
  bad      : Nat
  crc      : Nat
  budget   : Nat
  est      : Nat
  deriving DecidableEq, Repr

/-- State of CMP beside its registers. -/
structure CmpSt where
  /-- COMMITs armed for the next latch, oldest first (R131). -/
  armed    : List Outst
  /-- Target of the pending COMMIT_AT (R134). -/
  atFn     : Option Nat
  /-- Shadow and active lookups: entry i of layer k at key k × 256 + i (R121). -/
  lutSh    : List (Nat × BitVec 16)
  lutAct   : List (Nat × BitVec 16)
  /-- The two banks of the frame store, code of pixel p at key p, and the bank in play (R52). -/
  bank0    : List (Nat × BitVec 16)
  bank1    : List (Nat × BitVec 16)
  play     : Nat
  /-- F_work of each layer (R151). -/
  fWork    : List (Nat × Nat)
  /-- N_k of the frame being composed, and direction of the fade step (R128, R151). -/
  tilesN   : List (Nat × Nat)
  comp     : Option Comp
  /-- The frame in play was composed from the fallback image. -/
  playFb   : Bool
  /-- A composition has been latched in this frame: its CS has come (R135). -/
  csDone   : Bool
  deriving DecidableEq, Repr

/-- State of SMEM beside its registers. -/
structure SmemSt where
  /-- Surface memory, byte by byte at the bus address. -/
  mem    : List (Nat × BitVec 8)
  /-- 64-bit words (bus address / 8) that every read reports as uncorrectable (R161). -/
  bad    : List (Nat × Bool)
  /-- Data rate in MT/s at which the memory was trained, 0 before (R143). -/
  rate   : Nat
  /-- Times write DQ timing was re-centred, an output of the model (R163). -/
  recentred : Nat
  /-- Refresh interval in force, in 1/8 of the nominal interval (R163). -/
  refresh : Nat
  /-- On-chip SRAM words (window address / 8) that every read reports as uncorrectable since a partial write (R161, R167). -/
  sramBad : List (Nat × Bool)
  deriving DecidableEq, Repr

/-! ### Pixel health -/

/-- An entry of the suspect cache (R190 to R192). -/
structure Suspect where
  passes  : Nat
  fails   : Nat
  kind    : Nat
  pixel   : Nat
  firstFn : Nat
  deriving DecidableEq, Repr

/-- A retirement or a forced record that waits for the next boundary between two slot periods' loads (R194, R203). -/
structure Retire where
  pixel  : Nat
  /-- 0 confirmed failure; 1 to 4: SPARE_FORCE with ACTION 0 to 3. -/
  action : Nat
  kind   : Nat
  deriving DecidableEq, Repr

/-- State of PXH beside its registers. -/
structure PxhSt where
  /-- The health map by pixel: STATE in bits [3:2], AGE in [1:0] (R185). -/
  health   : List (Nat × BitVec 4)
  /-- The suspect cache by entry. -/
  cache    : List (Nat × Option Suspect)
  /-- Confirmed failures and forced records that wait (R194). -/
  retire   : List Retire
  /-- N_MIN of the frame (R181). -/
  nMin     : Nat
  /-- An age sweep runs in this frame, and the pixels it counted as aged (R187, R189). -/
  sweep    : Bool
  aged     : Nat
  /-- Pixels whose headroom, low forward-voltage comparator a counting strobe found quiet in this slot period (R182). -/
  hrQuiet  : List (Nat × Bool)
  vfQuiet  : List (Nat × Bool)
  /-- Pixels that a counting strobe has examined in this slot period (R196). -/
  examined : List (Nat × Bool)
  /-- Where the rotating scan of the health map stopped (R196). -/
  scanAt   : Nat
  /-- Pixels that stay on the list because W was below N_MIN (R197). -/
  stay     : List Nat
  /-- The proof list fixed for this slot period, and the pixels the SMC admitted (R197). -/
  list     : List Nat
  admitted : List Nat
  /-- Zones found positive by the last LOCAL = 0 scan of the previous frame, and of this frame if there was one (R199). -/
  scanPrev : Option Nat
  scanNow  : Option Nat
  /-- A scan of this frame has confirmed what it finds together with the frame before (R199). -/
  scanDone : Bool
  /-- Zones whose emission is being localised, each with 1 + the next band to examine (R200). -/
  locAt    : List (Nat × Nat)
  deriving DecidableEq, Repr

/-! ### Temperature -/

/-- A TEMP_MEASURE that waits: for each sensor it still waits for, the window ends that must come (R211). -/
structure TempWait where
  o    : Outst
  left : List (Nat × Nat)
  deriving DecidableEq, Repr

/-- State of THM beside its registers. -/
structure ThmSt where
  /-- Own temperature of each sensor at its last window, T16 (R213); none before one, or when broken. -/
  own      : List (Nat × Option Int)
  /-- Consecutive deviations of each array sensor (R214). -/
  dev      : List (Nat × Nat)
  /-- WIN_LOG2 + 1 of each sensor whose window is open, else 0 (R209, R210). -/
  window   : List (Nat × Nat)
  /-- Sensors to measure again as soon as their window ends (R211). -/
  again    : List (Nat × Bool)
  /-- The moment at which each sensor's last window was demanded, and whether a command demanded it (R210). -/
  winAt    : List (Nat × Nat × Bool)
  /-- Sensors whose open window does not judge them, since their broken bit was cleared in it (R216). -/
  skip     : List (Nat × Bool)
  /-- The windows of the cross-check: 1 open, 2 to open when the sensor's present window ends (R217). -/
  xchkWin  : List (Nat × Nat)
  /-- Every DR_z as the tick found it, until slot period 0, which starts in the tick's cycle, has sampled it (R33, R220). -/
  drHold   : Option (List (Nat × Nat))
  /-- Blanked zones that have cooled, to be released at the next slot-period start (R222). -/
  cooled   : List (Nat × Bool)
  /-- The TEMP_MEASUREs that wait. -/
  waits    : List TempWait
  /-- The STITCH cycle of the last schedule demand (FN, slot, stitch, place among the words of the stitch), and what it demanded:
  the same demand of several sequencers in one cycle counts once (R100). -/
  demKey   : Nat
  demArgs  : List Nat
  /-- Automatic demand at this tick (R212). -/
  autoDue  : Bool
  /-- The derate table (R218), and a load that waits for the next slot period. -/
  derate   : List (Nat × Nat)
  derNext  : Option (List Nat)
  /-- Zones that zone_blank shows to the code path (R222). -/
  blankNow : List (Nat × Bool)
  /-- Zones that have had a valid or substituted result (R219). -/
  zoneSeen : List (Nat × Bool)
  /-- The cross-check that runs: the NTC inputs with a result since its start, and whether the rung has been DARK
  throughout (R217). -/
  ntcGot   : List (Nat × Bool)
  xchkDark : Bool
  deriving DecidableEq, Repr
/-! ### Host link -/

/-- A packet in a port's receive buffer, as the port hands it to CMD (R238). -/
structure RxPkt where
  ptype   : Nat
  chan    : Nat
  f       : Bool
  a       : Bool
  d       : Bool
  seq     : Nat
  claim   : Nat
  /-- Payload words 0 to LEN - 1. -/
  words   : List Nat
  tagOk   : Bool
  /-- Credits that the packet holds in the buffer (R240). -/
  credits : Nat
  deriving DecidableEq, Repr

/-- A packet in the replay buffer: its words from PFX to the last word before the CRC (R232, R239). -/
structure TxPkt where
  lseq  : Nat
  words : List Nat
  deriving DecidableEq, Repr

/-- State of one port beside its HLx registers. -/
structure PortLink where
  /-- The receive buffer, oldest first. -/
  buf      : List RxPkt
  /-- A NAK has been sent: packets are discarded until the expected LSEQ arrives (R238). -/
  dropping : Bool
  /-- Packets handed off since the last ACK (R238). -/
  ackOwed  : Nat
  /-- VALUE of the last CREDIT sent, credits used by the host, and credits freed so far, all cumulative (R240). -/
  adv      : Nat
  rxUsed   : Nat
  freed    : Nat
  /-- VALUE of the latest CREDIT received, and CONSUMED of the engine's transmitter (R240). -/
  limit    : Option Nat
  consumed : Nat
  /-- Link control packets to send: LC_TYPE and VALUE (R237). -/
  ctl      : List (Nat × Nat)
  /-- The replay buffer, oldest first, at most 16 packets, and the packets of the resend round still to send (R239). -/
  replay   : List TxPkt
  resend   : List TxPkt
  /-- Times the oldest packet has been resent (R239). -/
  rounds   : Nat
  /-- A retrain, or an exit from L2, trains with the saved deskew: FAST (R228, R231, R247). -/
  fast     : Bool
  /-- A retrain from L0 is under way: HLx keeps its replay buffer (R231). -/
  retrain  : Bool
  /-- The engine requests L1, and L2: the request is in `ctl` until it is sent, and outstanding from then on (R243, R244, R246). -/
  l1Req    : Bool
  l2Req    : Bool
  /-- The engine has answered L1_ACK or L2_ACK and enters the state once that answer is sent. -/
  entering : Nat
  /-- The engine leaves L2: 1 the wake pattern is sent, 2 TS1 with L2EXIT (R247). -/
  wake     : Nat
  /-- Model's output: the words of the last packet put on the wire, from PFX to the CRC word, and whether it ended in EDB
  (R232, R236). -/
  wire     : List Nat
  edb      : Bool
  /-- Model's output: the symbols that each lane carried last (R225, R232). -/
  lane0    : List Sym
  lane1    : List Sym
  /-- The transmit preset of each lane, which the partner requests by TXEQ (R228, R499). -/
  preset0  : Nat
  preset1  : Nat
  /-- SKIP ordered sets sent (R227), an output of the model. -/
  skips    : Nat
  deriving DecidableEq, Repr

/-- State of the two ports and of LME beside their registers. -/
structure LinkSt where
  a      : PortLink
  b      : PortLink
  /-- The LINK_TEST that runs, and when it started (R253). -/
  test   : Option Outst
  testAt : Nat
  /-- LANE of the injection on port A and on port B (R254). -/
  injA   : Nat
  injB   : Nat
  /-- Model's output: the bits that each lane's generator has inverted (R254). -/
  flips  : List (Nat × Nat)
  deriving DecidableEq, Repr

/-! ### Power, clocks, reset -/

/-- A firmware patch image being staged (R448). -/
structure Patch where
  bytes    : List Nat
  verified : Bool
  deriving DecidableEq, Repr

/-- State of PMU and CKU beside their registers. -/
structure PmuSt where
  /-- The engine is in D3 (R436, R445). -/
  off       : Bool
  /-- The internal reset has been released (R447). -/
  released  : Bool
  /-- Power-down is under way: the active core's WAIT has executed (R439). -/
  down      : Bool
  /-- Ports that the PMU has asked for L2 during the entry, bit p (R439, R246). -/
  askedL2   : Nat
  /-- Operating point held before entry into D1 (R441). -/
  opBefore  : Nat
  /-- A wake from D1 is under way (R441). -/
  waking    : Bool
  /-- The running VSCALE, and the VSEL to restore (R443). -/
  vscale    : Option Outst
  vselOld   : Nat
  /-- Staged firmware patch, and the FW_PATCH_ACTIVATE being executed (R448, R449). -/
  patch     : Option Patch
  activate  : Option Outst
  /-- The activation's checkpoint has been started; the cores restart with the patch once it commits. -/
  actCkpt   : Bool
  /-- The AON domain found a strap changed in D2 (R446). -/
  strapD2   : Bool
  /-- When VSEL was last written: VCORE_PG is not judged in the VSETTLE that follows (R444). -/
  vselAt    : Nat
  /-- SMEM_STAT.SR before entry into D1 (R439 to R441). -/
  srBefore  : Bool
  /-- Channel and SEQ of the POWER_ENTER that has armed an entry: power-down waits for its reply (R439). -/
  reply     : Option (Nat × Nat)
  /-- The PORT wake source that a command admitted in D1 or during an entry has fired (R440, R441). -/
  hit       : Option Nat
  deriving DecidableEq, Repr

/-! ### Loops -/

/-- A profile generator (R387): position, speed, the positions of the last 63 ticks (newest first), reference. -/
structure Prof where
  q    : Int
  u    : Int
  hist : List Int
  ref  : Int
  deriving DecidableEq, Repr

/-- The longest run of samples that ends with the last one and lies within 1 code: `down` counts those at `code` or one
below it, `up` those at `code` or one above it (R383, R394). -/
structure FrzRun where
  code : Int
  down : Nat
  up   : Nat
  deriving DecidableEq, Repr

/-- A trace capture (R398, R399). -/
structure TraceSt where
  /-- Words 1 and 2 of the TRACE_ARM. -/
  w1   : Nat
  w2   : Nat
  /-- Records written since the arm (up to 4,096), samples until the next record, records still to write from the trigger on. -/
  n    : Nat
  skip : Nat
  left : Nat
  /-- SIG_A of the last sample. -/
  last : Option Int
  buf  : List (Nat × Nat)
  deriving DecidableEq, Repr

/-- State of the loop engines beside their registers. -/
structure LoopSt where
  /-- PH_PWM outputs (R370). -/
  pwm      : List (Nat × Bool)
  /-- Phases whose overcurrent comparator holds the high side off, trips in the current switching period, and consecutive
  switching periods with a trip (R372). -/
  tripped  : List (Nat × Bool)
  ocThis   : List (Nat × Bool)
  ocRun    : List (Nat × Nat)
  /-- PHASE_OC has been raised in this frame (R372). -/
  ocRaised : Bool
  /-- Time at which a phase last switched (R383). -/
  lastSw   : Option Nat
  /-- DAC thresholds of the switching phases (R373). -/
  thHi     : Nat
  thLo     : Nat
  /-- Last samples of the senses in 0.25 mV, by sense (0 A, 1 B). -/
  vSense   : List (Nat × Nat)
  /-- Integrator in 1/65,536 mA, base current, I_tot of the last sample, sat_hi and sat_lo (R373). -/
  iInt     : Int
  base     : Int
  iTot     : Nat
  satHi    : Bool
  satLo    : Bool
  /-- I_ff, the value that waits for its moment, and whether a LOOP_FF came in this slot period (R374). -/
  iFf      : Nat
  ffNext   : Option Nat
  ffGot    : Bool
  /-- The gain schedule's words, and an accepted load that waits for the next sample (R375). -/
  gs       : List Nat
  gsNext   : Option (List Nat)
  /-- A LOOP_HOLD that acts at the next sample: 1 start, 2 end (R378). -/
  holdReq  : Nat
  /-- Samples with INT_CLAMPED, and LOOP_INT_SAT raised since it was last 0 (R377). -/
  clampRun : Nat
  satDone  : Bool
  rail     : Prof
  /-- Consecutive samples with a small error (R380). -/
  okRun    : Nat
  /-- Consecutive implausible samples, frozen runs, overvoltage samples, by sense (R382 to R386); plausible samples since the
  clear of each LE0_FB bit (R384). -/
  impRun   : List (Nat × Nat)
  plRun    : List (Nat × Nat)
  frz      : List (Nat × FrzRun)
  ovRun    : List (Nat × Nat)
  /-- Bits of LE0_FB that have been cleared and wait for plausible samples (R384). -/
  fbClr    : Nat
  /-- Overvoltage keeps the phases low (R386). -/
  ovHold   : Bool
  /-- Undervoltage samples, and RAIL_UV raised for this excursion (R386). -/
  uvRun    : Nat
  uvDone   : Bool
  /-- Levelling: its profile, drive duty in 1/1023, consecutive plausible and implausible hall samples, plausible ones since
  the start, the frozen run of driven samples, and samples outside the limits (R390 to R394). -/
  lvl      : Prof
  duty     : Nat
  lvlPl    : Nat
  lvlImp   : Nat
  lvlStart : Nat
  lvlFrz   : FrzRun
  limRun   : Nat
  /-- A tach edge has come since reset (R395). -/
  tachSeen : Bool
  trace0   : TraceSt
  trace1   : TraceSt
  deriving DecidableEq, Repr
/-! ### Analogue acquisition -/

/-- State of one sequence beside its registers. -/
structure SqSt where
  /-- The entry of the pass in progress that completes next (R405, R407). -/
  entry  : Nat
  /-- Full staging blocks that wait for the memory controller, oldest first, and the block being filled (R414). -/
  blocks : List (List Nat)
  cur    : List Nat
  /-- Conversions that the pass in progress has made (R412). -/
  made   : Nat
  deriving DecidableEq, Repr

/-- State of the converters beside their registers. -/
structure AdcSt where
  /-- Inputs whose over-range has been raised in this frame (R411). -/
  ovrSeen  : List (Nat × Bool)
  /-- The on-chip Bobbin pool, by word (R413). -/
  pool     : List (Nat × BitVec 32)
  sq       : List (Nat × SqSt)
  /-- The sequence whose entry each converter is converting, plus 1 (R406). -/
  busy     : List (Nat × Nat)
  /-- The moment of the last pulses of trigger lines, and the lines pulsed then (R100). -/
  trigKey  : Nat
  trigArgs : List Nat
  deriving DecidableEq, Repr

/-! ### Check values and calibration -/

/-- A calibration run of a target (R467 to R473). -/
structure CalRun where
  /-- The element that is measured next: a column, a lane, or a converter (4 is the pair's skew). -/
  pos     : Nat
  /-- The first of a column's two measurements, by element; empty when it has not been made (R470). -/
  first   : List Int
  /-- The highest temperature of the target's sensors at the start (R466). -/
  temp    : Int
  /-- The moment of the start: STARTING is that one CORE cycle (R467). -/
  start   : Nat
  /-- Steps that were applied, that disagreed, and that fell out of range (R469). -/
  applied : Nat
  disag   : Nat
  range   : Nat
  /-- The CAL_RUN that waits for the end of the run (R468). -/
  wait    : Option Outst
  deriving DecidableEq, Repr

/-- State of CRC and CAL beside their registers. -/
structure IntegSt where
  /-- The MEM run of each unit (R457). -/
  memRuns  : List (Nat × Option Outst)
  /-- The word that the SRAM scan and the surface scan read next, counted from the start of the range (R462, R464). -/
  sramPos  : Nat
  surfPos  : Nat
  /-- The runs of the seven targets. -/
  runs     : List (Nat × CalRun)
  /-- SEL, TRIM and QUAL of each column's reference in effect, as an entry of R474; and those that wait for a TRANSFER. -/
  cols     : List (Nat × BitVec 16)
  colNext  : List (Nat × BitVec 16)
  /-- SLICE, PHASE and EYE of each lane in effect, as an entry of R474; and those that wait for a SKIP set. -/
  lanes    : List (Nat × BitVec 16)
  laneNext : List (Nat × BitVec 16)
  deriving DecidableEq, Repr

/-! ### The state -/

/-- The whole state of the block. -/
structure State where
  /-- Every register, by address; one not listed holds its reset value (R5, R9, R15). -/
  regs    : List (Nat × Word)
  /-- Values in effect of registers whose writes act only at a later moment (R55, R206, R224, R323, R369). -/
  act     : List (Nat × Word)
  /-- Model's own clock, in ns: it advances when the block idles. -/
  now     : Nat
  /-- Model's own counter: the index of the next free value. -/
  freeCtr : Nat
  /-- The W1C bits that hardware has set in the clock cycle `setAt`, as a mask by register (R7). -/
  setAt   : Nat
  setMask : List (Nat × Nat)
  /-- The commands that wait, first in, first out. -/
  pending : List Instr
  fcr     : FcrSt
  cmd     : CmdSt
  ccx     : CcxSt
  smc     : SmcSt
  frame   : FrameSt
  seq     : SeqSt
  pxa     : PxaSt
  cmp     : CmpSt
  smem    : SmemSt
  pxh     : PxhSt
  thm     : ThmSt
  link    : LinkSt
  loops   : LoopSt
  adc     : AdcSt
  pmu     : PmuSt
  integ   : IntegSt
  deriving DecidableEq, Repr

/-! ### Reset -/

/-- A port's link layer at reset. -/
def PortLink.idle : PortLink :=
  { buf := [], dropping := false, ackOwed := 0, adv := 0, rxUsed := 0, freed := 0, limit := none, consumed := 0, ctl := [],
    replay := [], resend := [], rounds := 0, fast := false, retrain := false, l1Req := false, l2Req := false, entering := 0,
    wake := 0, wire := [], edb := false, lane0 := [], lane1 := [], preset0 := 0, preset1 := 0, skips := 0 }

/-- A profile generator at rest at position 0. -/
def Prof.idle : Prof := { q := 0, u := 0, hist := List.replicate 63 0, ref := 0 }

/-- A trace that has not been armed. -/
def TraceSt.idle : TraceSt := { w1 := 0, w2 := 0, n := 0, skip := 0, left := 0, last := none, buf := [] }

/-- An empty checkpoint slot. -/
def CkptSlot.empty : CkptSlot :=
  { ver := 0, jck := 0, bodyWords := 0, cepoch := 0, body := [], magic := 0, jck2 := 0, crc := 0, ue := false }

/-- The commands' state at reset. -/
def CmdSt.idle : CmdSt :=
  { replies := [], rate := [], errSent := [], lastSeq := [], lastRep := [], held := [], dupHist := [], xfers := [], outst := [],
    waiting := [], quiet := [], absent := [], turn := [], dupXfer := [], thLease := [], thRenew := [], thWait := [], keys := [], busyAll := false, answer := .ok }

/-- The core pair's state at reset. -/
def CcxSt.idle : CcxSt :=
  { journal := [], slot0 := CkptSlot.empty, slot1 := CkptSlot.empty, writingJ := 0, ckClean := false, beatA := 0, beatB := 0,
    linkBeatA := none, linkBeatB := none, pinBeatA := none, pinBeatB := none, standins := [], applied := [], grpWait := [], tookAt := none,
    lostAt := none, lostLeft := [], swapAt := none, recAt := 0,
    recCause := 0, basteSlot := 0, basteHold := false, recWait := [] }

/-- The safety monitor's state at reset: the restrictive profile's floor is in effect (R335). -/
def SmcSt.idle : SmcSt :=
  { floors := List.replicate 32 352, hem := [], hemNext := none, spb := none, spbNext := [], mismatch := false,
    mismHold := false, sealFuse := none, jtagFuse := false, fbImage := [], fbLen := 0, fbCrc := 0, msg := none, decided := false,
    release := none, modeCut := false, modeHigh := false, strapBad0 := 0, strapBad1 := 0, forceFail := [], pulse := none, relP0 := false,
    offWait := false, offSeen := false, killRows := [], pxFail := [], grpSum := [], grpFront := [], alive := false,
    aliveEnd := false, startAt := 0, hbSeenA := none, hbSeenB := none }

/-- The frame PLL's state at reset. -/
def FrameSt.idle : FrameSt :=
  { tickAt := 0, t1 := 0, perCur := 0, perNext := 0, lastQual := none, edgeE := none, edgeP := 0, winOpen := false,
    winEdge := none, syncOut := false, slotNext := 0, ticked := false, early := [], slotAt := 0 }

/-- The array's state at reset: every latch dark, every table at its reset contents. -/
def PxaSt.idle : PxaSt :=
  { trim := [], pats := [], spadj := [], spadjNext := none, est := [], estNext := none, trimNext := [], back := [], front := [],
    drNow := [], sumA := [], sumAT := [], ffA := [], ffAT := [], limPlay := [], limNext := [], estNextTot := 0 }

/-- CMP's state at reset. -/
def CmpSt.idle : CmpSt :=
  { armed := [], atFn := none, lutSh := [], lutAct := [], bank0 := [], bank1 := [], play := 0, fWork := [], tilesN := [],
    comp := none, playFb := false, csDone := false }

/-- PXH's state at reset (R185). -/
def PxhSt.idle : PxhSt :=
  { health := [], cache := [], retire := [], nMin := 0, sweep := false, aged := 0, hrQuiet := [], vfQuiet := [], examined := [],
    scanAt := 0, stay := [], list := [], admitted := [], scanPrev := none, scanNow := none, scanDone := false, locAt := [] }

/-- THM's state at reset. -/
def ThmSt.idle : ThmSt :=
  { own := [], dev := [], window := [], again := [], winAt := [], skip := [], xchkWin := [], drHold := none,
    cooled := [], waits := [], demKey := 0, demArgs := [], autoDue := false, derate := [],
    derNext := none, blankNow := [], zoneSeen := [], ntcGot := [], xchkDark := false }

/-- The power unit's state at reset: the internal reset is not released. -/
def PmuSt.idle : PmuSt :=
  { off := false, released := false, down := false, askedL2 := 0, opBefore := 0, waking := false, vscale := none, vselOld := 10,
    patch := none, activate := none, actCkpt := false, strapD2 := false, vselAt := 0, srBefore := false, reply := none, hit := none }

/-- The loop engines' state at reset. -/
def LoopSt.idle : LoopSt :=
  { pwm := [], tripped := [], ocThis := [], ocRun := [], ocRaised := false, lastSw := none, thHi := 0, thLo := 0, vSense := [],
    iInt := 0, base := 0, iTot := 0, satHi := false, satLo := false, iFf := 0, ffNext := none, ffGot := false, gs := [],
    gsNext := none, holdReq := 0, clampRun := 0, satDone := false, rail := Prof.idle, okRun := 0, impRun := [], plRun := [],
    frz := [], ovRun := [], fbClr := 0, ovHold := false, uvRun := 0, uvDone := false, lvl := Prof.idle, duty := 0, lvlPl := 0,
    lvlImp := 0, lvlStart := 0, lvlFrz := ⟨0, 0, 0⟩, limRun := 0, tachSeen := false, trace0 := TraceSt.idle,
    trace1 := TraceSt.idle }

/-- The machine right after power-on reset (R9, R446 cause 0), before PWR_EN is qualified: every register at its reset value,
no fuse programmed (DESIGN CHOICE, log entry 52), surface memory reading 0 (DESIGN CHOICE, log entry 53), nothing waiting. -/
def State.reset : State :=
  { regs := [], act := [], now := 0, freeCtr := 0, setAt := 0, setMask := [], pending := [],
    fcr := { wins := [], hist := [], postDone := 0, queued := 0, queuedAt := 0 },
    cmd := CmdSt.idle, ccx := CcxSt.idle, smc := SmcSt.idle, frame := FrameSt.idle,
    seq := { one := [], bufs := [], lens := [], stagBack := [], stagFront := [], goPlain := false },
    pxa := PxaSt.idle, cmp := CmpSt.idle,
    smem := { mem := [], bad := [], rate := 0, recentred := 0, refresh := 8, sramBad := [] },
    pxh := PxhSt.idle, thm := ThmSt.idle,
    link := { a := PortLink.idle, b := PortLink.idle, test := none, testAt := 0, injA := 0, injB := 0, flips := [] },
    loops := LoopSt.idle,
    adc := { ovrSeen := [], pool := [], sq := [], busy := [], trigKey := 0, trigArgs := [] },
    pmu := PmuSt.idle,
    integ := { memRuns := [], sramPos := 0, surfPos := 0, runs := [], cols := [], colNext := [], lanes := [], laneNext := [] } }

/-- Why the block stops with a fault. The spec describes no condition that stops the block: every abnormal event is an
answer, a counter or a fault source of FCR. Nothing raises this; safe. -/
inductive Fault where
  | none
  deriving DecidableEq, Repr

/-- Why a command has no meaning in this model. -/
inductive Refusal where
  /-- The command is not modelled yet; raised by the dispatch only. Safe: nothing is proved about such a step. -/
  | notModelled (mnemonic : String)
  deriving DecidableEq, Repr

end Sys2Proof.Machine
end

