-- ==== Sys2Proof/Machine/Ops.lean ====
section
/-!
DEFINITION. The named operations over registers and sparse stores: one read and one write for each, so that byte order,
reset values and the canonical form are decided in one place.
-/
namespace Sys2Proof.Machine

/-! ### Sparse stores in one canonical form -/

/-- The value of key `k`, where an unlisted key reads as `d`. -/
def storeGet {α : Type} (d : α) : List (Nat × α) → Nat → α
  | [], _ => d
  | (a, v) :: m, k => if a = k then v else storeGet d m k

/-- The store without key `k`. -/
def storeDel {α : Type} (k : Nat) : List (Nat × α) → List (Nat × α)
  | [] => []
  | (a, v) :: m => if a = k then storeDel k m else (a, v) :: storeDel k m

/-- The store with the entry (`k`, `v`) put before the first larger key. -/
def storeIns {α : Type} (k : Nat) (v : α) : List (Nat × α) → List (Nat × α)
  | [] => [(k, v)]
  | (a, w) :: m => if k < a then (k, v) :: (a, w) :: m else (a, w) :: storeIns k v m

/-- Write `v` at `k`: the entry is listed unless `v` is what an unlisted `k` reads as. -/
def storeSet {α : Type} [DecidableEq α] (d : α) (m : List (Nat × α)) (k : Nat) (v : α) : List (Nat × α) :=
  if v = d then storeDel k m else storeIns k v (storeDel k m)

/-- The canonical form of a store: keys strictly rising, no entry equal to what an unlisted key reads as. -/
def storeWf {α : Type} [DecidableEq α] (d : Nat → α) : List (Nat × α) → Bool
  | [] => true
  | (a, v) :: m => decide (v ≠ d a) && m.all (fun p => decide (a < p.1)) && storeWf d m

/-- The store that lists, in rising order, the keys below `n` whose value under `f` is not `d`. -/
def storeOf {α : Type} [DecidableEq α] (d : α) (n : Nat) (f : Nat → α) : List (Nat × α) :=
  ((List.range n).map (fun k => (k, f k))).filter (fun p => decide (p.2 ≠ d))

/-! ### Reset values of registers -/

/-- Reset values of FCR_SRCn_CFG by R427: (ID, BASE_SEV, W, N_MINOR, N_SEVERE, N_CRIT, SEVERE rung). -/
def faultSources : List (Nat × Nat × Nat × Nat × Nat × Nat × Nat) := [
  (0x01, 0, 16, 4, 0, 0, 0), (0x02, 1, 64, 0, 4, 0, 0), (0x03, 1, 64, 0, 4, 0, 0), (0x04, 1, 16, 0, 8, 0, 0),
  (0x05, 0, 255, 4, 0, 0, 0),
  (0x10, 0, 16, 8, 0, 0, 0), (0x11, 0, 16, 8, 0, 0, 0), (0x12, 1, 16, 0, 8, 0, 0), (0x13, 0, 16, 8, 0, 0, 0),
  (0x14, 1, 16, 0, 0, 0, 0), (0x15, 0, 64, 4, 0, 0, 0),
  (0x20, 1, 64, 0, 8, 0, 1), (0x21, 0, 16, 4, 0, 0, 0), (0x22, 1, 64, 0, 8, 0, 1), (0x23, 0, 255, 8, 0, 0, 0),
  (0x24, 1, 64, 0, 4, 0, 1), (0x25, 0, 255, 8, 0, 0, 0), (0x26, 1, 64, 0, 4, 0, 2), (0x27, 0, 16, 0, 0, 0, 0),
  (0x30, 0, 16, 0, 0, 0, 0), (0x31, 0, 16, 0, 0, 0, 0), (0x32, 2, 16, 0, 0, 0, 0), (0x33, 0, 16, 0, 0, 0, 0),
  (0x34, 0, 16, 0, 0, 0, 0), (0x35, 1, 16, 0, 0, 0, 0), (0x36, 0, 16, 0, 0, 0, 0),
  (0x40, 1, 255, 0, 4, 0, 0), (0x41, 1, 255, 0, 8, 0, 0), (0x42, 1, 16, 0, 8, 0, 1), (0x43, 3, 16, 0, 0, 0, 4),
  (0x44, 2, 16, 0, 0, 0, 2), (0x45, 2, 16, 0, 0, 0, 2), (0x46, 2, 16, 0, 0, 0, 4), (0x47, 3, 16, 0, 0, 0, 4),
  (0x50, 1, 16, 0, 0, 0, 0), (0x51, 1, 16, 0, 0, 0, 0), (0x52, 1, 64, 0, 4, 0, 0), (0x53, 2, 16, 0, 0, 3, 0),
  (0x54, 1, 64, 0, 8, 0, 2), (0x55, 1, 16, 0, 4, 0, 0), (0x56, 2, 16, 0, 0, 0, 0), (0x57, 1, 16, 0, 0, 0, 0),
  (0x58, 1, 16, 0, 0, 0, 0), (0x59, 0, 16, 0, 0, 0, 0),
  (0x60, 1, 16, 0, 0, 0, 0), (0x61, 0, 16, 0, 0, 0, 0), (0x62, 2, 16, 0, 0, 0, 4), (0x63, 1, 16, 0, 0, 0, 0),
  (0x64, 0, 16, 0, 0, 0, 0), (0x65, 3, 16, 0, 0, 0, 4), (0x66, 1, 16, 0, 0, 0, 0),
  (0x70, 1, 16, 0, 0, 0, 0), (0x71, 1, 64, 0, 4, 0, 0), (0x72, 1, 16, 0, 0, 0, 0), (0x73, 0, 16, 0, 0, 0, 0),
  (0x74, 1, 255, 0, 4, 0, 0), (0x75, 2, 16, 0, 0, 0, 0), (0x76, 0, 16, 0, 0, 0, 0), (0x77, 1, 64, 0, 3, 0, 0),
  (0x78, 2, 16, 0, 0, 0, 1)]

/-- Whether `id` is an assigned fault source (R427). -/
def sourceAssigned (id : Nat) : Bool := faultSources.any (fun r => decide (r.1 = id))

/-- Default FCR_SRCn_CFG of source `id` (R427); 0 for an unassigned ID. -/
def srcCfgReset (id : Nat) : Nat :=
  match faultSources.find? (fun r => decide (r.1 = id)) with
  | some (_, b, w, m, v, c, _) => b * 2 ^ 30 + w * 2 ^ 16 + m * 2 ^ 8 + v * 2 ^ 4 + c
  | none => 0

/-- Default FCR_SRCn_RCT of source `id` (R427): CRITICAL 0xC4, SEVERE 0x40 + rung, MINOR and INFO 0. -/
def srcRctReset (id : Nat) : Nat :=
  match faultSources.find? (fun r => decide (r.1 = id)) with
  | some (_, _, _, _, _, _, g) => 0xC4000000 + (0x40 + g) * 0x10000
  | none => 0

/-- The reset value of the register at `a`: the value of its table row, with the registers whose table names a rule
instead of a number: the channel table (R269), the fault sources (R427), the calibration targets (R465), and the sensors'
production counts, fuses for which the counts of the spec's worked example stand (DESIGN CHOICE, log entry 33). -/
def regReset (a : Nat) : Word :=
  if a = 0x30800 then 0x7FFFFF40#32
  else if a = 0x30804 then 0xEC000000#32
  else if 0xF0400 ≤ a ∧ a < 0xF0800 then
    (if a % 8 = 0 then BitVec.ofNat 32 (srcCfgReset ((a - 0xF0400) / 8))
     else if a % 8 = 4 then BitVec.ofNat 32 (srcRctReset ((a - 0xF0400) / 8)) else 0#32)
  else if 0x130040 ≤ a ∧ a < 0x130058 then 0#32
  else if 0xB0600 ≤ a ∧ a < 0xB0720 then 81920#32
  else if 0xB0800 ≤ a ∧ a < 0xB0920 then 74240#32
  else
    match regInfo a with
    | some r => BitVec.ofNat 32 r.reset
    | none => 0#32

/-! ### Registers and fields -/

/-- The bits [msb:lsb] of a word. -/
def bits (w : Word) (msb lsb : Nat) : Nat := w.toNat / 2 ^ lsb % 2 ^ (msb + 1 - lsb)

/-- The word with bits [msb:lsb] replaced by `v`, the other bits kept. -/
def setBits (w : Word) (msb lsb v : Nat) : Word :=
  BitVec.ofNat 32 (w.toNat / 2 ^ (msb + 1) * 2 ^ (msb + 1) + v % 2 ^ (msb + 1 - lsb) * 2 ^ lsb + w.toNat % 2 ^ lsb)

/-- The register at `a` as the hardware holds it. -/
def State.reg (s : State) (a : Nat) : Word := storeGet (regReset a) s.regs a

/-- Store `v` in the register at `a`. -/
def State.setReg (s : State) (a : Nat) (v : Word) : State :=
  { s with regs := storeSet (regReset a) s.regs a v }

/-- The value of a field. -/
def State.rd (s : State) (f : Fld) : Nat := bits (s.reg f.addr) f.msb f.lsb

/-- Write a field, modulo its width; the register's other fields keep their values. -/
def State.wr (s : State) (f : Fld) (v : Nat) : State := s.setReg f.addr (setBits (s.reg f.addr) f.msb f.lsb v)

/-- The word that a write of `v` leaves in the register at `a`: only the bits that a write stores take it (R5). -/
def State.maskWord (s : State) (a : Nat) (v : Word) : Word :=
  match regInfo a with
  | some r => (s.reg a &&& ~~~(BitVec.ofNat 32 r.wmask)) ||| (v &&& BitVec.ofNat 32 r.wmask)
  | none => s.reg a

/-- Write the register at `a` through its write mask. -/
def State.wrWord (s : State) (a : Nat) (v : Word) : State := s.setReg a (s.maskWord a v)

/-- The value in effect of a field whose register's writes act only at a later moment (R55, R206, R224, R323, R369). -/
def State.rdAct (s : State) (f : Fld) : Nat := bits (storeGet (regReset f.addr) s.act f.addr) f.msb f.lsb

/-- The registers named take effect: their values in effect become the values written. -/
def State.takeAct (s : State) (l : List Nat) : State :=
  { s with act := l.foldl (fun m a => storeSet (regReset a) m a (s.reg a)) s.act }

/-- The field's largest value. -/
def Fld.top (f : Fld) : Nat := 2 ^ (f.msb + 1 - f.lsb) - 1

/-- Add `n` to a field that saturates at its largest value. -/
def State.bumpBy (s : State) (f : Fld) (n : Nat) : State := s.wr f (min (s.rd f + n) f.top)

/-- Count one event in a saturating counter field. -/
def State.bump (s : State) (f : Fld) : State := s.bumpBy f 1

/-- Whether a one-bit field is 1. -/
def State.bit (s : State) (f : Fld) : Bool := decide (s.rd f = 1)

/-- Bit `i` of a field. -/
def State.bitOf (s : State) (f : Fld) (i : Nat) : Bool := decide (s.rd f / 2 ^ i % 2 = 1)

/-- Set bit `i` of a field. -/
def State.setBit (s : State) (f : Fld) (i : Nat) : State :=
  if s.bitOf f i then s else s.wr f (s.rd f + 2 ^ i)

/-- Clear bit `i` of a field. -/
def State.clrBit (s : State) (f : Fld) (i : Nat) : State :=
  if s.bitOf f i then s.wr f (s.rd f - 2 ^ i) else s

/-- The W1C bits of the register at `a` that hardware has set at this moment. -/
def State.justSet (s : State) (a : Nat) : Nat := if s.setAt = s.now then storeGet 0 s.setMask a else 0

/-- Hardware sets the W1C bits `mask` of the register at `a` (R7). -/
def State.setW1c (s : State) (a mask : Nat) : State :=
  let m := if s.setAt = s.now then s.setMask else []
  let t := s.setReg a (s.reg a ||| BitVec.ofNat 32 mask)
  { t with setAt := s.now, setMask := storeSet 0 m a (storeGet 0 m a ||| mask) }

/-- The state as a write finds it that falls into the clock cycle of what the block did last (`tie`), or that has a cycle of its own:
then no bit is set in its cycle (R7; DESIGN CHOICE, log entry 116). -/
def State.apart (s : State) (tie : Bool) : State := if tie then s else { s with setMask := [] }

/-- The bits that a write of 1 to `mask` clears in the W1C register at `a`: a bit that hardware sets in the same cycle stays
(R7). -/
def State.w1cMask (s : State) (a mask : Nat) : Nat := mask - (mask &&& s.justSet a)

/-- Apply `g` when `c` holds. -/
def State.when (s : State) (c : Bool) (g : State → State) : State := if c then g s else s

/-- Fold an action over the numbers below `n`, in rising order. -/
def State.forN (s : State) (n : Nat) (g : Nat → State → State) : State := (List.range n).foldl (fun t i => g i t) s

/-- Fold an action over a list, in order. -/
def State.forL {α : Type} (s : State) (l : List α) (g : α → State → State) : State := l.foldl (fun t x => g x t) s

/-- 0 or 1. -/
def boolNat (b : Bool) : Nat := if b then 1 else 0

/-- The signed value of an `n`-bit two's complement number. -/
def toSigned (n v : Nat) : Int := if v % 2 ^ n < 2 ^ (n - 1) then (v % 2 ^ n : Nat) else (v % 2 ^ n : Nat) - (2 ^ n : Nat)

/-- The `n`-bit two's complement pattern of an integer. -/
def ofSigned (n : Nat) (v : Int) : Nat := (v % (2 ^ n : Nat)).toNat

/-- round half up (a / b) for natural numbers, b > 0 (R2). -/
def roundHalfUp (a b : Nat) : Nat := (2 * a + b) / (2 * b)

/-- round half up (a / b) for an integer numerator, b > 0: floor(a / b + 1/2) (R2). -/
def roundHalfUpI (a : Int) (b : Nat) : Int := (2 * a + b) / (2 * b : Int)

/-- ceil(a / b), b > 0 (R2). -/
def ceilDiv (a b : Nat) : Nat := (a + b - 1) / b

/-- sat16 of R2. -/
def sat16 (x : Nat) : Nat := min x 65535

/-- `x` held within [`lo`, `hi`]. -/
def clampI (lo hi x : Int) : Int := max lo (min hi x)

/-- Whether `a` is later than `b`, on `w`-bit numbers that wrap (R3; exactly half the range counts as earlier, R4). -/
def later (w a b : Nat) : Bool :=
  let d := (a + 2 ^ w - b % 2 ^ w) % 2 ^ w
  decide (1 ≤ d ∧ d < 2 ^ (w - 1))

/-- The word at byte position `i` of a byte list, least significant byte first (R1); missing bytes read 0. -/
def le32 (l : List Nat) (i : Nat) : Nat :=
  l.getD i 0 + l.getD (i + 1) 0 * 0x100 + l.getD (i + 2) 0 * 0x10000 + l.getD (i + 3) 0 * 0x1000000

/-- The four bytes of a word, least significant first (R1). -/
def bytesOf (w : Nat) : List Nat := [w % 256, w / 0x100 % 256, w / 0x10000 % 256, w / 0x1000000 % 256]

/-- The bytes of a list of words, in address order (R1). -/
def bytesOfWords : List Nat → List Nat
  | [] => []
  | w :: ws => bytesOf w ++ bytesOfWords ws

/-- The words of a list of bytes whose length is a multiple of 4 (R1). -/
def wordsOfBytes : List Nat → List Nat
  | a :: b :: c :: d :: r => (a + b * 0x100 + c * 0x10000 + d * 0x1000000) :: wordsOfBytes r
  | _ => []

/-- The outcome of a command's execution: a status and the reply words after the reply word; `fn` replaces
APPLIED_FN_LOW where the command defines it (R259). -/
structure Ans where
  status : Status
  words  : List Nat
  fn     : Option Nat
  deriving DecidableEq, Repr

/-- What executing a command gives: the state, and its answer unless it is answered later. -/
abbrev Res := State × Option Ans

/-- Answered OK with reply words. -/
def okW (s : State) (ws : List Nat) : Res := (s, some ⟨.ok, ws, none⟩)

/-- Answered OK with LEN = 1. -/
def ok (s : State) : Res := okW s []

/-- Answered with another status and LEN = 1 (R259). -/
def ans (s : State) (st : Status) : Res := (s, some ⟨st, [], none⟩)

/-- Answered later. -/
def answerLater (s : State) : Res := (s, none)

/-- A fresh free value's index: the counter is read and advanced. -/
def State.fresh (s : State) : Nat × State := (s.freeCtr, { s with freeCtr := s.freeCtr + 1 })

end Sys2Proof.Machine
end

