-- ==== Sys2Proof/Machine/Codes.lean ====
section
/-!
DEFINITION. Check values and ciphers that the spec names by their published standards: CRC-32 (IEEE 802.3), CRC-32C,
CRC-16-CCITT, CRC-8 (SAE J1850), SHA-256 (FIPS 180-4), AES-128 (FIPS 197) and CMAC (NIST SP 800-38B). PRESUMED: the
standards' own tables are not in the spec (log entry 3).
-/
namespace Sys2Proof.Machine

/-! ### Cyclic redundancy checks -/

/-- `n` steps of a function. -/
def iter {α : Type} (g : α → α) : Nat → α → α
  | 0, x => x
  | n + 1, x => iter g n (g x)

/-- One bit of a CRC that shifts right (reflected). -/
def crcBitR (poly c : Nat) : Nat := if c % 2 = 1 then (c / 2) ^^^ poly else c / 2

/-- One bit of a `w`-bit CRC that shifts left. -/
def crcBitL (w poly c : Nat) : Nat :=
  if c / 2 ^ (w - 1) % 2 = 1 then (c * 2 % 2 ^ w) ^^^ poly else c * 2 % 2 ^ w

/-- One byte of a reflected CRC. -/
def crcByteR (poly c b : Nat) : Nat := iter (crcBitR poly) 8 (c ^^^ (b % 256))

/-- One byte of a `w`-bit CRC that shifts left, w at least 8. -/
def crcByteL (w poly c b : Nat) : Nat := iter (crcBitL w poly) 8 (c ^^^ (b % 256 * 2 ^ (w - 8)))

/-- CRC-32 (IEEE 802.3) of a list of bytes. -/
def crc32 (bs : List Nat) : Nat := (bs.foldl (crcByteR 0xEDB88320) 0xFFFFFFFF) ^^^ 0xFFFFFFFF

/-- CRC-32C of a list of bytes. -/
def crc32c (bs : List Nat) : Nat := (bs.foldl (crcByteR 0x82F63B78) 0xFFFFFFFF) ^^^ 0xFFFFFFFF

/-- CRC-16-CCITT of R351: polynomial 0x1021, initial value 0xFFFF, no reflection, no final XOR. -/
def crc16 (bs : List Nat) : Nat := bs.foldl (crcByteL 16 0x1021) 0xFFFF

/-! ### SHA-256 -/

/-- Rotate a 32-bit word right. -/
def rotr32 (x n : Nat) : Nat := (x / 2 ^ n) ||| (x * 2 ^ (32 - n) % 2 ^ 32)

/-- The complement of a 32-bit word. -/
def not32 (x : Nat) : Nat := 0xFFFFFFFF - x % 2 ^ 32

/-- The primes below 312: no prime below 19 divides them but itself. -/
def smallPrimes : List Nat :=
  (List.range 312).filter (fun n => decide (2 ≤ n) && [2, 3, 5, 7, 11, 13, 17].all (fun d => decide (n = d ∨ n % d ≠ 0)))

/-- The first 32 bits of the fractional part of the `e`-th root of `p`, for roots below 8: the root in units of 2^-32 is built bit
by bit from the top, and its whole part is dropped. -/
def rootFraction (e p : Nat) : Nat :=
  (List.range 35).foldl (fun r i => if (r + 2 ^ (34 - i)) ^ e ≤ p * 2 ^ (32 * e) then r + 2 ^ (34 - i) else r) 0 % 2 ^ 32

/-- The constants of the rounds: FIPS 180-4 takes them from the cube roots of the first 64 primes. -/
def shaK : List Nat := smallPrimes.map (rootFraction 3)

/-- The value that hashing starts from: FIPS 180-4 takes it from the square roots of the first 8 primes. -/
def shaInit : List Nat := (smallPrimes.take 8).map (rootFraction 2)

/-- The big-endian words of a list of bytes. -/
def be32s : List Nat → List Nat
  | a :: b :: c :: d :: r => (a * 0x1000000 + b * 0x10000 + c * 0x100 + d) :: be32s r
  | _ => []

/-- The big-endian bytes of a word. -/
def be32 (w : Nat) : List Nat := [w / 0x1000000 % 256, w / 0x10000 % 256, w / 0x100 % 256, w % 256]

/-- Extend the message schedule by one word; the newest word is at the head. -/
def shaExtend (w : List Nat) : List Nat :=
  let x := w.getD 14 0; let y := w.getD 1 0
  let s0 := rotr32 x 7 ^^^ rotr32 x 18 ^^^ (x / 8)
  let s1 := rotr32 y 17 ^^^ rotr32 y 19 ^^^ (y / 1024)
  ((w.getD 15 0 + s0 + w.getD 6 0 + s1) % 2 ^ 32) :: w

/-- One round of the compression function. -/
def shaRound (v : List Nat) (kw : Nat × Nat) : List Nat :=
  match v with
  | [a, b, c, d, e, f, g, h] =>
    let s1 := rotr32 e 6 ^^^ rotr32 e 11 ^^^ rotr32 e 25
    let ch := (e &&& f) ^^^ (not32 e &&& g)
    let t1 := h + s1 + ch + kw.1 + kw.2
    let s0 := rotr32 a 2 ^^^ rotr32 a 13 ^^^ rotr32 a 22
    let mj := (a &&& b) ^^^ (a &&& c) ^^^ (b &&& c)
    [(t1 + s0 + mj) % 2 ^ 32, a, b, c, (d + t1) % 2 ^ 32, e, f, g]
  | _ => v

/-- One block of 16 words. -/
def shaBlock (h : List Nat) (ws : List Nat) : List Nat :=
  let sched := (iter shaExtend 48 ws.reverse).reverse
  let v := (shaK.zip sched).foldl shaRound h
  (h.zip v).map (fun p => (p.1 + p.2) % 2 ^ 32)

/-- The blocks of 16 words of a list, at most `n`. -/
def shaBlocks : Nat → List Nat → List Nat → List Nat
  | 0, h, _ => h
  | n + 1, h, ws => if ws.length < 16 then h else shaBlocks n (shaBlock h (ws.take 16)) (ws.drop 16)

/-- SHA-256 of a list of bytes: 32 bytes. -/
def sha256 (bs : List Nat) : List Nat :=
  let bitsLen := bs.length * 8
  let pad := (119 - bs.length % 64) % 64
  let msg := bs ++ 0x80 :: (List.replicate pad 0 ++ be32 (bitsLen / 2 ^ 32) ++ be32 (bitsLen % 2 ^ 32))
  (shaBlocks (msg.length / 64) shaInit (be32s msg)).flatMap be32

/-! ### AES-128 and CMAC -/

/-- Multiplication by x in GF(2^8). -/
def gfX (a : Nat) : Nat := if 128 ≤ a then (a * 2 % 256) ^^^ 0x1B else a * 2

/-- Product in GF(2^8): the bits of `b` from the top. -/
def gfMul (a b : Nat) : Nat :=
  (List.range 8).foldl (fun r i => (gfX r) ^^^ (if b / 2 ^ (7 - i) % 2 = 1 then a else 0)) 0

/-- a^254: the inverse, 0 for 0. -/
def gfInv (a : Nat) : Nat :=
  let a2 := gfMul a a; let a4 := gfMul a2 a2; let a8 := gfMul a4 a4; let a16 := gfMul a8 a8
  let a32 := gfMul a16 a16; let a64 := gfMul a32 a32; let a128 := gfMul a64 a64
  gfMul a128 (gfMul a64 (gfMul a32 (gfMul a16 (gfMul a8 (gfMul a4 a2)))))

/-- Rotate a byte left. -/
def rotl8 (x n : Nat) : Nat := (x * 2 ^ n % 256) ||| (x / 2 ^ (8 - n))

/-- The AES S-box. -/
def sbox (a : Nat) : Nat :=
  let b := gfInv a
  b ^^^ rotl8 b 1 ^^^ rotl8 b 2 ^^^ rotl8 b 3 ^^^ rotl8 b 4 ^^^ 0x63

/-- Byte-wise XOR. -/
def xorBytes (a b : List Nat) : List Nat := (a.zip b).map (fun p => p.1 ^^^ p.2)

/-- One round key from the one before. -/
def aesNextKey (k : List Nat) (rcon : Nat) : List Nat :=
  let t := [sbox (k.getD 13 0) ^^^ rcon, sbox (k.getD 14 0), sbox (k.getD 15 0), sbox (k.getD 12 0)]
  let w0 := xorBytes (k.take 4) t
  let w1 := xorBytes ((k.drop 4).take 4) w0
  let w2 := xorBytes ((k.drop 8).take 4) w1
  let w3 := xorBytes ((k.drop 12).take 4) w2
  w0 ++ w1 ++ w2 ++ w3

/-- SubBytes and ShiftRows. -/
def aesSubShift (s : List Nat) : List Nat :=
  (List.range 16).map (fun i => sbox (s.getD ((i + 4 * (i % 4)) % 16) 0))

/-- MixColumns. -/
def aesMix (s : List Nat) : List Nat :=
  (List.range 16).map (fun i =>
    let c := i / 4 * 4
    let b (j : Nat) := s.getD (c + (i + j) % 4) 0
    gfX (b 0) ^^^ (gfX (b 1) ^^^ b 1) ^^^ b 2 ^^^ b 3)

/-- The rounds 1 to 9, with their key schedule. -/
def aesRounds : List Nat → List Nat × List Nat → List Nat × List Nat
  | [], st => st
  | rc :: rcs, (s, k) => let k' := aesNextKey k rc; aesRounds rcs (xorBytes (aesMix (aesSubShift s)) k', k')

/-- AES-128 encryption of one block of 16 bytes. -/
def aes128 (key block : List Nat) : List Nat :=
  let st := aesRounds [0x01, 0x02, 0x04, 0x08, 0x10, 0x20, 0x40, 0x80, 0x1B] (xorBytes block key, key)
  xorBytes (aesSubShift st.1) (aesNextKey st.2 0x36)

/-- Doubling in GF(2^128) of CMAC's subkeys, on bytes in big-endian order. -/
def cmacDouble (l : List Nat) : List Nat :=
  let n := l.foldl (fun r b => r * 256 + b) 0
  let d := n * 2 % 2 ^ 128
  let d := if n / 2 ^ 127 % 2 = 1 then d ^^^ 0x87 else d
  (List.range 16).map (fun i => d / 256 ^ (15 - i) % 256)

/-- CBC over the blocks of a message, at most `n`; the last block is masked already. -/
def cbc (key : List Nat) : Nat → List Nat → List Nat → List Nat
  | 0, x, _ => x
  | n + 1, x, m => if m.isEmpty then x else cbc key n (aes128 key (xorBytes x (m.take 16))) (m.drop 16)

/-- AES-128 CMAC of a message: the 16 tag bytes. -/
def cmac (key msg : List Nat) : List Nat :=
  let k1 := cmacDouble (aes128 key (List.replicate 16 0))
  let full := decide (msg.length ≠ 0 ∧ msg.length % 16 = 0)
  let m := if full then msg else msg ++ 0x80 :: List.replicate (15 - msg.length % 16) 0
  let cut := m.length - 16
  let last := xorBytes (m.drop cut) (if full then k1 else cmacDouble k1)
  cbc key (m.length / 16) (List.replicate 16 0) (m.take cut ++ last)

end Sys2Proof.Machine
end

