-- ==== Sys2Proof/Machine/Ladder.lean ====
section
/-!
DEFINITION. The safe-state ladder and the fault collector's handling of an event: the rung and its side effects (R24 to
R27, R325, R358, R359, R362), and what one event does to its source, the ladder, ALIVE and the history (R420 to R430).
They stand in one file because every block raises events, and an event may move the engine on the ladder.
-/
namespace Sys2Proof.Machine

/-- A one-bit W1C field is set by hardware (R7). -/
def setCause (f : Fld) (s : State) : State := s.setW1c f.addr (2 ^ f.lsb)

/-- Every port's ATTN cause `bit` is set (R249). -/
def attnAll (f : Nat → Fld) (s : State) : State := setCause (f 1) (setCause (f 0) s)

/-- LIMP_REQ by R362: high on a rung at or below LIMP_LEVEL, after a self-failure, and until the straps are read. -/
def updLimp (s : State) : State :=
  s.wr SMC_STAT_LIMP_REQ (boolNat (decide (s.rd SMC_PROFILE_LIMP_LEVEL ≤ s.rd DEV_LADDER_RUNG)
    || s.bit SMC_STAT_SELF_FAIL || !s.bit SMC_STRAPS_VALID))

/-- Whether every sequencer has an active buffer that is valid (R104, R105, R110). -/
def scheduleValid (s : State) : Bool :=
  (List.range 4).all (fun q =>
    decide ((s.seq.one.find? (fun p => decide (p.1 = q))).any (fun p => p.2.active))
      && s.bitOf (SEQ_STAT_BUF_VALID q) (s.rd (SEQ_BUF_SEL_ACT_BUF q)))

/-- The needs of DEGRADED-F in the ladder table: the fallback image, CMP running, a valid Pattern and a valid schedule.
DEDUCED: "a valid Pattern" is read as at least one valid index (R26). -/
def degradedFReady (s : State) : Bool :=
  s.bit SMC_STAT_FB_VALID && !s.bit CKU_GATE_CMP && decide (s.rd PXA_STAT_PAT_VALID ≠ 0) && scheduleValid s

/-- The rung of the Plain beam: 3 while a zone is off, else 2 (R354). -/
def plainRung (s : State) : Nat := if s.rd DEV_LADDER_ZONES_OFF = 0 then 2 else 3

/-- The composition in progress is abandoned (R140, R52). -/
def abandonComp (s : State) : State :=
  { s with cmp := { s.cmp with comp := none } }.wr CMP_STAT_COMPOSING 0

/-- Stand on rung `r` with CAUSE: the ladder register, ATTN.LADDER and LIMP_REQ (R249, R362); a down-move cancels a
pending RELEASE (R511); leaving NORMAL or DEGRADED-F abandons what CMP composes for that rung (R140). -/
def setRung (r cause : Nat) (s : State) : State :=
  let old := s.rd DEV_LADDER_RUNG
  let t := (s.wr DEV_LADDER_RUNG r).wr DEV_LADDER_CAUSE cause
  let t := t.when (decide (r ≠ old)) (attnAll HLx_ATTN_STAT_LADDER)
  let t := t.when (decide (old < r)) (fun u => { u with smc := { u.smc with release := none } })
  let t := t.when (decide (old < r ∧ old ≤ 1)) abandonComp
  let t := t.when (decide (old = 0 ∧ r ≠ 0 ∧ t.ccx.recCause ∈ [0x20, 0x22, 0x24, 0x26]))
    (fun u => u.wr DEV_GUARANTEE_RECOVERING 0)
  updLimp t

/-- A forced stop of the rail starts: every PH_PWM goes low, EN and a pending enable are cleared, and a unit that is
not OFF goes to STOPPING (R381). -/
def railForceStop (s : State) : State :=
  let t := { s with loops := { s.loops with pwm := [] } }
  let t := (t.wr LE0_CTRL_EN 0).wr LE0_STAT_EN_PENDING 0
  if t.bit LE0_STAT_STOPPED then t else t.wr LE0_STAT_UNIT 3

/-- SAFE_OFF goes low, and P2 waits no longer (R325). -/
def safeOffLow (s : State) : State :=
  { s with smc := { s.smc with offWait := false } }.wr SMC_STAT_SAFE_OFF 0

/-- Going to DARK (R325): P0 on all rows, P1 open in all zones, LE0 asked to stop, rung 4 with every zone off; SAFE_OFF
goes low at once if LE0's phases are stopped already, else when LE0 reports it or after 50 µs. -/
def goDark (cause : Nat) (s : State) : State :=
  let t := { s with smc := { s.smc with relP0 := false } }
  let t := (t.wr SMC_STAT_KILL_ALL 1).wr SMC_STAT_ZONES_HW 0xFF
  let t := t.when (decide (t.rd DEV_LADDER_RUNG ≠ 4)) (setRung 4 cause)
  let t := railForceStop (t.wr DEV_LADDER_ZONES_OFF 0xFF)
  if t.bit LE0_STAT_STOPPED then safeOffLow t
  else { t with smc := { t.smc with offWait := t.bit SMC_STAT_SAFE_OFF } }

/-- A trigger requires rung `req` (0 none, 1 DEGRADED-F, 2 the Plain beam, 4 DARK): the engine moves only down (R24,
R424); DEGRADED-F with a need missing becomes the Plain beam (R26). -/
def requireRung (req cause : Nat) (s : State) : State :=
  let now := s.rd DEV_LADDER_RUNG
  if req = 4 then (if now < 4 then goDark cause s else s)
  else if req = 2 then (if now < 2 then setRung (plainRung s) cause s else s)
  else if req = 1 then
    (if 1 ≤ now then s else if degradedFReady s then setRung 1 cause s else setRung (plainRung s) cause s)
  else s

/-- Whether an SPB_LOAD with MODE = 1 is programming the fuse or waiting for its tick (R339, R358). -/
def sealingSpb (s : State) : Bool := s.smc.spbNext.any (fun p => p.cmd.isSome || p.sealing)

/-- CEILING by the table of R358. -/
def ceilingOf (s : State) : Nat :=
  if !s.bit SMC_STRAPS_VALID || s.bit SMC_STAT_SELF_FAIL || decide (s.rd SMC_OFFPULSE_FAILED ≠ 0)
      || s.bit SMC_STAT_SAFE_REQ || s.bit THM_STAT_SHUT_HOLD || decide (s.rd PMU_STAT_STATE = 1) then 4
  else if decide (4 ≤ s.rd SMC_STRAPS_LEVEL0) || decide (4 ≤ s.rd SMC_STRAPS_LEVEL1) || s.bit SMC_STRAPS_CHANGED
      || (s.smc.sealFuse.isSome && !s.bit DEV_CONFIG_SPB_SEALED && !sealingSpb s) then 2
  else 0

/-- CEILING is evaluated; if it has risen above the rung the engine moves down to it at once (R358, R359). -/
def refreshCeiling (cause : Nat) (s : State) : State :=
  let c := ceilingOf s
  let t := s.wr SMC_STAT_CEILING c
  if t.rd DEV_LADDER_RUNG < c then
    (if c = 4 then goDark cause t else setRung (plainRung t) cause t)
  else t

/-- Zones go off: P1 opens and ZONES_OFF shows them at once (R327); on the Plain beam the rung then reads 3 (R354). -/
def zonesOff (mask : Nat) (s : State) : State :=
  let t := s.wr DEV_LADDER_ZONES_OFF (s.rd DEV_LADDER_ZONES_OFF ||| mask)
  let t := t.wr SMC_STAT_ZONES_HW (t.rd SMC_STAT_ZONES_HW ||| mask)
  if t.rd DEV_LADDER_RUNG = 2 ∧ t.rd DEV_LADDER_ZONES_OFF ≠ 0 then setRung 3 0 t else t

/-! ### Trace triggers of the loop engines -/

def LEx_TRACE_STATE (e : Nat) : Fld := if e = 0 then LE0_TRACE_STATE else LE1_TRACE_STATE

/-- The trace of engine `e`. -/
def traceOf (s : State) (e : Nat) : TraceSt := if e = 0 then s.loops.trace0 else s.loops.trace1

/-- Replace the trace of engine `e`. -/
def setTrace (e : Nat) (x : TraceSt) (s : State) : State :=
  if e = 0 then { s with loops := { s.loops with trace0 := x } } else { s with loops := { s.loops with trace1 := x } }

/-- PRE of the TRACE_ARM in force. -/
def tracePre (x : TraceSt) : Nat := x.w1 % 4096

/-- A trigger comes: it is recognised in STATE 1 once PRE records have been written (R399). -/
def traceFire (e : Nat) (s : State) : State :=
  let x := traceOf s e
  if s.rd (LEx_TRACE_STATE e) = 1 ∧ tracePre x ≤ x.n then
    setTrace e { x with left := 4096 - tracePre x } (s.wr (LEx_TRACE_STATE e) 2)
  else s

/-- An event that triggers of kind `trig` wait for (R398); `arg` is the fault source for kind 1. -/
def traceEvent (trig arg : Nat) (s : State) : State :=
  s.forN 2 (fun e t =>
    let w := (traceOf t e).w2
    if w / 2 ^ 28 = trig ∧ (trig ≠ 1 ∨ w / 2 ^ 16 % 256 = arg) then traceFire e t else t)

/-! ### Events -/

/-- Whether FN `f` lies in the window W of an event at FN `now` (R422): f > now - W by R3. -/
def inWindow (w now f : Nat) : Bool := later 32 f ((now + 2 ^ 32 - w % 2 ^ 32) % 2 ^ 32)

/-- Append to the history queue, which overwrites its oldest entry when full (R429). -/
def histPush (e : HistEntry) (s : State) : State :=
  let h := s.fcr.hist ++ [e]
  let h := if 512 < h.length then h.drop 1 else h
  { s with fcr := { s.fcr with hist := h } }.wr FCR_STAT_FILL h.length

/-- The CORE clock in MHz: the operating point's, or the bypass clock's (R14, R443). -/
def coreMhz (s : State) : Nat := if s.bit PMU_OP_BYPASS then 200 else [400, 600, 700, 800].getD (s.rd PMU_OP_F_OP) 400

/-- The history entries that still wait: FCR writes two per CORE cycle (R429). -/
def histWait (s : State) : Nat := s.fcr.queued - (s.now - s.fcr.queuedAt) * coreMhz s / 500

/-- The history's handling of an event (R428 to R430): its entry is written, or dropped and counted in LOST; either way
it uses its HSEQ. An entry with 128 others before it is not written within 64 CORE cycles. `frozenNow` says that this event is
the one just frozen. -/
def histRecord (e : HistEntry) (drop frozenNow : Bool) (s : State) : State :=
  let after := s.bit FCR_STAT_FROZEN && !frozenNow
  let stop := after && s.bit FCR_CTRL_HOLD && decide (s.rd FCR_CTRL_POST ≤ s.fcr.postDone)
  let n := histWait s
  let t := if drop || stop || decide (128 ≤ n) then s.bump FCR_HIST_STAT_LOST
    else
      let u := histPush e { s with fcr := { s.fcr with queued := n + 1, queuedAt := s.now } }
      if after then { u with fcr := { u.fcr with postDone := u.fcr.postDone + 1 } } else u
  t.wr FCR_HIST_STAT_NEXT_HSEQ (t.rd FCR_HIST_STAT_NEXT_HSEQ + 1)

/-- ATTN.FAULT of each port whose SEV the effective severity reaches (R249, R426). -/
def attnFault (eff : Nat) (s : State) : State :=
  let t := s.when (decide (s.rd (HLx_ATTN_MASK_SEV 0) ≤ eff)) (setCause (HLx_ATTN_STAT_FAULT 0))
  t.when (decide (t.rd (HLx_ATTN_MASK_SEV 1) ≤ eff)) (setCause (HLx_ATTN_STAT_FAULT 1))

/-- The window count and the effective severity of an event (R422, R423): `stored` are the source's FNs with the
current one first. A CRITICAL report or base is applied without counting. -/
def judgeEvent (cfg : Word) (sev now : Nat) (stored : List Nat) : Nat × Nat :=
  let base := bits cfg 31 30
  if sev = 3 ∨ base = 3 then (0, 3)
  else
    let c := (stored.filter (inWindow (bits cfg 23 16) now)).length
    let esc (n v : Nat) : Nat := if n ≠ 0 ∧ n ≤ c then v else 0
    (c, max (max sev base) (max (esc (bits cfg 11 8) 1) (max (esc (bits cfg 7 4) 2) (esc (bits cfg 3 0) 3))))

/-- ALIVE_STOP (R425): the FCR contribution to ALIVE becomes 0, and ALIVE stops until reset (R363). -/
def aliveStop (src fn : Nat) (s : State) : State :=
  if s.bit FCR_ALIVE_CONTRIB then
    let t := ((s.wr FCR_ALIVE_CONTRIB 0).wr FCR_ALIVE_STOP_SRC src).setReg FCR_ALIVE_FN (BitVec.ofNat 32 fn)
    { t with smc := { t.smc with aliveEnd := true } }.wr SMC_STAT_ALIVE_RUN 0
  else s

/-- The current stitch (R57): the stitches that have passed since the slot period started, at least that of the last event. -/
def stitchNow (s : State) : Nat :=
  if s.frame.ticked then
    min 1023 (max (s.rd SCN_POS_STITCH)
      ((s.now - s.frame.slotAt) * 2 ^ s.rd SCN_TIMING_SLOTS_LOG2 * 1024 / s.frame.perCur))
  else s.rd SCN_POS_STITCH

/-- FCR's handling of one event of source `src` with reported severity `sev` (R420 to R430). `drop` says that its
history entry could not be written in time (R429). Unassigned source IDs name no event. -/
def handleEvent (src sev detail : Nat) (drop : Bool) (s : State) : State :=
  if !sourceAssigned src then s
  else
    let s := traceEvent 1 src s
    let fn := s.rd DEV_FN_FN
    let stored := (fn :: storeGet [] s.fcr.wins src).take 15
    let j := judgeEvent (s.reg (FCR_SRCn_CFG src)) sev fn stored
    let byte := (s.reg (FCR_SRCn_RCT src)).toNat / 2 ^ (8 * j.2) % 256
    let frz := decide (byte / 64 % 2 = 1)
    let first := frz && !s.bit FCR_STAT_FROZEN
    let t := { s with fcr := { s.fcr with wins := storeSet [] s.fcr.wins src stored } }
    let t := ((t.bump (FCR_SRCn_STAT_TOTAL src)).wr (FCR_SRCn_STAT_COUNT src) j.1).wr (FCR_SRCn_STAT_SEV src) j.2
    let t := (t.wr FCR_STAT_LAST_SRC src).wr FCR_STAT_MAX_SEV (max j.2 (t.rd FCR_STAT_MAX_SEV))
    let t := requireRung (byte % 8) src t
    let t := t.when (decide (128 ≤ byte)) (aliveStop src fn)
    let e : HistEntry :=
      { w0 := fn
        w1 := src * 2 ^ 24 + j.2 * 2 ^ 22 + sev % 4 * 2 ^ 20 + j.1 * 2 ^ 16 + t.rd DEV_LADDER_RUNG * 2 ^ 13
              + boolNat (decide (128 ≤ byte)) * 2 ^ 12 + boolNat frz * 2 ^ 11
        w2 := detail % 2 ^ 32
        w3 := t.rd SCN_POS_SLOT * 2 ^ 28 + stitchNow t * 2 ^ 16 + t.rd FCR_HIST_STAT_NEXT_HSEQ }
    let t := t.when first (fun u =>
      let u := { u with fcr := { u.fcr with postDone := 0 } }.wr FCR_STAT_FROZEN 1
      (((u.setReg (FCR_FIRSTn 0) (BitVec.ofNat 32 e.w0)).setReg (FCR_FIRSTn 1) (BitVec.ofNat 32 e.w1)).setReg
        (FCR_FIRSTn 2) (BitVec.ofNat 32 e.w2)).setReg (FCR_FIRSTn 3) (BitVec.ofNat 32 e.w3))
    attnFault j.2 (histRecord e drop first t)

/-- Raise an event with reported severity INFO, the default of raisers (R423). -/
def raise (src detail : Nat) (s : State) : State := handleEvent src 0 detail false s

/-- Raise an event with the severity its chapter names. -/
def raiseSev (src sev detail : Nat) (s : State) : State := handleEvent src sev detail false s

/-! ### ECC errors of reads -/

/-- One SRAM word in error (R167): counted, its address recorded, its event raised. -/
def sramErr (e : EccErr) (s : State) : State :=
  let t := s.bump (if e.ue then SMEM_SRAM_ECC_CNT_UE else SMEM_SRAM_ECC_CNT_CE)
  let t := (t.wr SMEM_SRAM_ECC_ADDR_ADDR (e.addr / 8)).wr SMEM_SRAM_ECC_ADDR_UE (boolNat e.ue)
  raise (if e.ue then 0x26 else 0x25) (e.addr / 8 * 8) t

/-- One surface word in error (R160). -/
def smemErr (e : EccErr) (s : State) : State :=
  let t := s.bump (if e.ue then SMEM_ECC_CNT_UE else SMEM_ECC_CNT_CE)
  let t := (t.wr SMEM_ECC_ADDR_ADDR (e.addr / 8)).wr SMEM_ECC_ADDR_UE (boolNat e.ue)
  raise (if e.ue then 0x24 else 0x23) (e.addr / 8 * 8) t

/-- Whether an address lies in the on-chip SRAM window (R15, R165). -/
def inSram (a : Nat) : Bool := decide (0x1000000 ≤ a ∧ a < 0x1C00000)

/-- Whether an address lies in the surface window (R15). -/
def inSurface (a : Nat) : Bool := decide (0x40000000 ≤ a ∧ a < 0x60000000)

/-- The ECC errors of one step, correctable ones first, so that the ADDR registers end with an uncorrectable error's
address (R168). -/
def noteErrs (errs : List EccErr) (s : State) : State :=
  let one (e : EccErr) (t : State) : State := if inSurface e.addr then smemErr e t else if inSram e.addr then sramErr e t else t
  (s.forL (errs.filter (fun e => !e.ue)) one).forL (errs.filter (fun e => e.ue)) one

/-- Whether an uncorrectable error of the step lies in the `n` bytes from `a`. -/
def ueIn (errs : List EccErr) (a n : Nat) : Bool :=
  errs.any (fun e => e.ue && decide (e.addr / 8 * 8 < a + n ∧ a < e.addr / 8 * 8 + 8))

/-- The errors that reads meet in the SRAM words that satisfy `f` and that a partial write has left uncorrectable (R161, R167),
beside the errors `errs` of the step. -/
def leftBad (f : Nat → Bool) (errs : List EccErr) (s : State) : List EccErr :=
  (s.smem.sramBad.filter (fun x => f x.1 && !errs.any (fun e => e.ue && decide (e.addr / 8 = x.1)))).map
    (fun x => ⟨x.1 * 8, true⟩)

end Sys2Proof.Machine
end

