-- ==== Sys2Proof/Machine/Reply.lean ====
section
/-!
DEFINITION. Replies, open transfers, the journal and the recovery guarantee: what a command leaves behind beside its own
effect (R20, R231, R259, R262, R301, R311, R312, R314), and the recovery of R19 to R23.
-/
namespace Sys2Proof.Machine

/-! ### Ports and hosts -/

def CCX_HOSTx_STATE (p : Nat) : Fld := if p % 2 = 0 then CCX_HOST_A_STATE else CCX_HOST_B_STATE
def CCX_HOSTx_LINK_OK (p : Nat) : Fld := if p % 2 = 0 then CCX_HOST_A_LINK_OK else CCX_HOST_B_LINK_OK
def CCX_HOSTx_PIN_OK (p : Nat) : Fld := if p % 2 = 0 then CCX_HOST_A_PIN_OK else CCX_HOST_B_PIN_OK
def CCX_HOSTx_EPOCH (p : Nat) : Fld := if p % 2 = 0 then CCX_HOST_A_EPOCH else CCX_HOST_B_EPOCH
def CMD_STAT_RQx (p : Nat) : Fld := if p % 2 = 0 then CMD_STAT_RQ_A else CMD_STAT_RQ_B

/-- A link is up in the states L0, L1 and L2 (R229). -/
def linkUp (s : State) (p : Nat) : Bool := decide (5 ≤ s.rd (HLx_STAT_LINK p) ∧ s.rd (HLx_STAT_LINK p) ≤ 7)

/-- The host of port `p` is LOST (R292). -/
def hostLost (s : State) (p : Nat) : Bool := decide (s.rd (CCX_HOSTx_STATE p) = 2)

/-- The host of port `p` is PRESENT (R292). -/
def hostPresent (s : State) (p : Nat) : Bool := decide (s.rd (CCX_HOSTx_STATE p) = 1)

/-- HOLDS of DEV_GUARANTEE: the conditions of R21 that the engine sees, and no recovery in progress. -/
def guaranteeHolds (s : State) : Bool :=
  s.bit DEV_CONFIG_SPB_SEALED && s.bit DEV_GUARANTEE_CKPT_COMMITTED && s.bit DEV_GUARANTEE_JOURNAL_UNBROKEN
    && !s.bit DEV_GUARANTEE_RECOVERING

/-- DEV_GUARANTEE as it reads: HOLDS, the two PORT_x_UP bits, PAIR_READY and SPB_SEALED follow other state (R292, R302). -/
def guarantee (s : State) : Nat :=
  boolNat (guaranteeHolds s) * 256 + boolNat (s.bit DEV_GUARANTEE_RECOVERING) * 64
    + boolNat (linkUp s 1 && hostPresent s 1) * 32 + boolNat (linkUp s 0 && hostPresent s 0) * 16
    + boolNat (decide (s.rd CCX_STAT_CCA_STATE = 5 ∧ s.rd CCX_STAT_CCB_STATE = 4
        ∨ s.rd CCX_STAT_CCA_STATE = 4 ∧ s.rd CCX_STAT_CCB_STATE = 5)) * 8
    + boolNat (s.bit DEV_GUARANTEE_JOURNAL_UNBROKEN) * 4 + boolNat (s.bit DEV_GUARANTEE_CKPT_COMMITTED) * 2
    + boolNat (s.bit DEV_CONFIG_SPB_SEALED)

/-- PAIR_READY: one core ACTIVE, the other STANDBY (R302). -/
def pairReady (s : State) : Bool := decide (guarantee s / 8 % 2 = 1)

/-! ### Blocks that are off -/

/-- The CMP domain is stopped or gated (R436). -/
def cmpOff (s : State) : Bool := s.bit CKU_GATE_CMP || decide (s.rd PMU_STAT_STATE ≠ 0)

/-- The SMEM domain is stopped or gated (R436). -/
def smemOff (s : State) : Bool := s.bit CKU_GATE_SMEM || decide (s.rd PMU_STAT_STATE ≠ 0)

/-- A command that is addressed to a block that is off (R442). -/
def answerOff (addr : Nat) (s : State) : Res := ans (raise 0x27 addr s) .blockOff

/-- The control cores execute commands: boot is complete, and the CORE domain is powered (R436, R447). -/
def coresRun (s : State) : Bool :=
  s.pmu.released && !s.pmu.off && decide (s.rd PMU_STAT_STATE ≤ 1) && (s.bit PMU_STAT_BOOT_DONE || s.bit PMU_STAT_BOOT_ERR)

/-! ### Reply queues -/

/-- Entries of port `p`'s reply queue. -/
def rqLen (s : State) (p : Port) : Nat := (s.cmd.replies.filter (fun r => decide (r.port = p))).length

/-- CMD_STAT shows the reply queues and the open transfers; counts saturate at the fields' largest values. -/
def syncStat (s : State) : State :=
  ((s.wr CMD_STAT_RQ_A (min (rqLen s .a) 64)).wr CMD_STAT_RQ_B (min (rqLen s .b) 64)).wr CMD_STAT_XFERS
    (min s.cmd.xfers.length 255)

/-- Queue a reply; it is discarded if the link that would carry it cannot (R231). DEDUCED: links in L1, L2 and STOPPING
carry it too, by R244, R247 and R250 (log entry 20). -/
def queueReply (r : Reply) (s : State) : State :=
  let l := s.rd (HLx_STAT_LINK r.port.num)
  if 5 ≤ l ∧ l ≤ 8 then syncStat { s with cmd := { s.cmd with replies := s.cmd.replies ++ [r] } } else s

/-- The key slot of a channel entry, from its W1 (R234). -/
def keyOf (w1 : Nat) : Option Nat := if w1 / 2 ^ 25 % 2 = 1 then some (w1 / 2 ^ 22 % 8) else none

/-- DUP mode of a channel entry, from its W1. -/
def dupOf (w1 : Nat) : Bool := decide (w1 / 2 ^ 28 % 2 = 1)

/-- W1 of the entry of channel `ch`. -/
def chanW1 (s : State) (ch : Nat) : Nat := (s.reg (CMD_CHANn_W1 ch)).toNat

/-- Key of the per-channel stores: channel and port; a DUP channel has one stream. -/
def streamKey (w1 ch p : Nat) : Nat := ch * 2 + (if dupOf w1 then 0 else p % 2)

/-- APPLIED_FN_LOW of a command that completes now (R259). -/
def fnLow (s : State) : Nat := s.rd DEV_FN_FN % 65536

/-- The reply to a command, on one port (R259). -/
def mkReply (p : Port) (chan : Nat) (key : Option Nat) (c : Cmd) (a : Ans) (s : State) : Reply :=
  { port := p, chan := chan, seq := c.seq.toNat, claim := c.claim.toNat, status := a.status, tag := c.tag.toNat,
    fnLow := a.fn.getD (fnLow s), words := a.words, key := key }

/-- The copies of a DUP channel's reply: every owner port whose link is up and whose host is not LOST; a full queue drops
its copy (R301). -/
def replyCopies (o : Outst) (a : Ans) (s : State) : State :=
  s.forL [Port.a, Port.b] (fun p t =>
    if decide (o.w1 / 2 ^ (29 + p.num) % 2 = 1) && linkUp t p.num && !hostLost t p.num then
      (if 64 ≤ rqLen t p then t.bump CCX_COUNT2_REPLY_DROP
       else queueReply (mkReply p o.cmd.ch (keyOf o.w1) o.cmd a s) t)
    else t)

/-- Send the answer to an admitted command, and record it for R265 and R319. -/
def replyTo (o : Outst) (a : Ans) (s : State) : State :=
  let t := if dupOf o.w1 then replyCopies o a s
    else queueReply (mkReply o.cmd.port o.cmd.ch (keyOf o.w1) o.cmd a s) s
  let k := streamKey o.w1 o.cmd.ch o.cmd.port.num
  if storeGet none t.cmd.lastSeq k = some o.cmd.seq.toNat then
    let r : LastReply := ⟨o.cmd.seq.toNat, a.status.code, o.cmd.tag.toNat⟩
    { t with cmd := { t.cmd with lastRep := storeSet none t.cmd.lastRep k (some r) } }
  else t

/-- A command answered later completes. -/
def finish (o : Outst) (a : Ans) (s : State) : State :=
  replyTo o a { s with cmd := { s.cmd with outst := s.cmd.outst.filter (fun x => decide (x ≠ o)) } }

/-- A command answered later completes with a status and LEN = 1. -/
def finishSt (o : Outst) (st : Status) (s : State) : State := finish o ⟨st, [], none⟩ s

/-- A command stays outstanding. -/
def holdCmd (o : Outst) (s : State) : State := { s with cmd := { s.cmd with outst := s.cmd.outst ++ [o] } }

/-- The first outstanding command of an opcode. -/
def findOut (s : State) (op : Opcode) : Option Outst := s.cmd.outst.find? (fun o => decide (o.op = op))

/-! ### Open transfers -/

/-- A transfer ends: it is removed. -/
def dropXfer (x : Xfer) (s : State) : State :=
  syncStat { s with cmd := { s.cmd with xfers := s.cmd.xfers.filter (fun y => decide (y.o ≠ x.o)) } }

/-- A transfer is abandoned and its command answered BAD_LENGTH, unless it has been answered; SURF_WRITE's reply gives
the bytes already written (R262, R263), and two zeros where the transfer is checked (R459). -/
def abandonXfer (x : Xfer) (s : State) : State :=
  let t := dropXfer x s
  if x.absorb then t
  else
    let n := if x.unit.isSome then min x.got (x.need - 4) else x.got
    let ws := if x.o.op = .surfWrite then n :: (if x.unit.isSome then [0, 0] else []) else []
    replyTo x.o ⟨.badLength, ws, none⟩ t

/-- Whether a transfer belongs to channel `ch` and port `p`; a DUP transfer belongs to both ports (R300). -/
def xferOn (x : Xfer) (ch p : Nat) : Bool :=
  decide (x.o.cmd.ch = ch) && (dupOf x.o.w1 || decide (x.o.cmd.port.num = p))

/-- Abandon every open transfer that satisfies `f`. -/
def abandonWhere (f : Xfer → Bool) (s : State) : State := s.forL (s.cmd.xfers.filter f) abandonXfer

/-! ### Journal and checkpoints -/

/-- Admitted commands that are not complete: held by a fence, executing, armed, or with an open transfer (R274). -/
def incomplete (s : State) : List Outst :=
  s.cmd.outst ++ s.cmd.waiting ++ (s.cmd.xfers.filter (fun x => !x.absorb)).map (fun x => x.o) ++ s.cmp.armed
    ++ s.cmd.thWait.filterMap (fun p => p.2.map (fun w => w.o))

/-- Words of an entry with a body of `n` words (R311). -/
def entryWords (n : Nat) : Nat := n + 3

/-- Words 0 to ELEN + 1 of an entry (R311). -/
def entryHead (j kind port chan : Nat) (body : List Nat) : List Nat :=
  j :: (kind * 2 ^ 28 + port * 2 ^ 26 + chan * 2 ^ 18 + body.length) :: body

/-- An entry as CMD lays it in the journal: ELEN counts the body, and the last word is the CRC-32C of the words before it
(R311). -/
def mkEntry (j kind port chan : Nat) (body : List Nat) : JEntry :=
  { jseq := j, kind := kind, port := port, chan := chan, elen := body.length, body := body,
    crc := crc32c (bytesOfWords (entryHead j kind port chan body)) }

/-- Words of the journal's entries (R312). -/
def journalWords (l : List JEntry) : Nat := l.foldl (fun n e => n + entryWords e.body.length) 0

/-- A baste under way fails with a reason (R318): BASTE_INCOMPLETE, and the core returns to DEMOTED. -/
def basteFail (reason : Nat) (s : State) : State :=
  if s.rd CCX_BASTE_RESULT = 1 then
    let t := ((s.wr CCX_BASTE_RESULT 3).wr CCX_BASTE_REASON reason).bump CCX_COUNT1_BASTE_FAIL
    let t := t.wr (if t.bit CCX_BASTE_CORE then CCX_STAT_CCB_STATE else CCX_STAT_CCA_STATE) 2
    raise 0x74 reason { t with ccx := { t.ccx with basteHold := decide (reason = 2) } }
  else s

/-- The slot that a new checkpoint is written into: the one that does not hold the newest committed one (R316). -/
def ckptTarget (s : State) : Nat :=
  if s.bit CCX_CKPT_VALID0 || s.bit CCX_CKPT_VALID1 then 1 - s.rd CCX_CKPT_NEWEST else 0

/-- J_ck of a snapshot taken now: every command up to it is complete, and none after it has started (R314). `fresh` are indices
of commands that are admitted and have not started. -/
def snapshotJ (fresh : List Nat) (s : State) : Nat :=
  (fresh ++ (incomplete s).map (fun o => o.jseq)).foldl
    (fun m j => if later 32 j m then m else (j + 2 ^ 32 - 1) % 2 ^ 32) (s.reg CCX_JHEAD).toNat

/-- A core runs as ACTIVE. -/
def anyActive (s : State) : Bool := decide (s.rd CCX_STAT_CCA_STATE = 5 ∨ s.rd CCX_STAT_CCB_STATE = 5)

/-- The commit record's MAGIC (R315). -/
def ckptMagic : Nat := 0x4B435043

/-- Words 0 to 3 of a slot (R315). -/
def slotHead (k : CkptSlot) : List Nat := [k.ver * 2 ^ 24, k.jck, k.bodyWords, k.cepoch]

/-- Whether a slot is committed: MAGIC, the two copies of J_ck, the CRC, and no word that reads as uncorrectable (R315). -/
def slotCommitted (k : CkptSlot) : Bool :=
  decide (k.magic = ckptMagic ∧ k.jck2 = k.jck ∧ k.crc = crc32c (bytesOfWords (slotHead k ++ k.body))) && !k.ue

/-- Slot `i` while slot `tg` is being written: the target's MAGIC is 0. -/
def markSlot (tg i : Nat) (k : CkptSlot) : CkptSlot := if tg = i then { k with magic := 0 } else k

/-- A baste under way loads slot `tg` (R318). -/
def basteLoads (tg : Nat) (s : State) : Bool := decide (s.rd CCX_BASTE_RESULT = 1 ∧ s.ccx.basteSlot = tg)

/-- The registers show that a checkpoint is being written into slot `tg`. -/
def showWriting (tg : Nat) (s : State) : State :=
  ((s.wr CCX_CKPT_WRITING 1).wr CCX_CKPT_TARGET tg).wr (if tg = 0 then CCX_CKPT_VALID0 else CCX_CKPT_VALID1) 0

/-- Entry bodies start a checkpoint: the target's MAGIC is written 0, and a baste that loads that slot fails (R314, R316,
R318). Ignored while a checkpoint is being written, or when no core is ACTIVE. -/
def startCkptAt (j : Nat) (s : State) : State :=
  if s.bit CCX_CKPT_WRITING ∨ !anyActive s then s
  else
    let tg := ckptTarget s
    let t := showWriting tg s
    let t := { t with ccx := { t.ccx with
        writingJ := j, ckClean := true, slot0 := markSlot tg 0 t.ccx.slot0, slot1 := markSlot tg 1 t.ccx.slot1 } }
    t.when (basteLoads tg t) (basteFail 2)

/-- The journal is broken (R312, R313): every entry is discarded, and a baste under way fails. -/
def journalOverflow (j : Nat) (s : State) : State :=
  let t := ({ s with ccx := { s.ccx with journal := [], ckClean := false } }.wr CCX_JFILL_WORDS 0).wr
    DEV_GUARANTEE_JOURNAL_UNBROKEN 0
  raise 0x75 j (basteFail 3 t)

/-- JSEQ of the next journal entry (R311). -/
def nextJseq (s : State) : Nat := ((s.reg CCX_JHEAD).toNat + 1) % 2 ^ 32

/-- One journal entry as CMD lays it in the journal: it uses the next JSEQ; one that would not fit in 65,536 words is an
overflow (R311, R312). The flag says whether an overflow came about. -/
def jPut (kind port chan : Nat) (body : List Nat) (s : State) : State × Bool :=
  let j := nextJseq s
  let t := s.setReg CCX_JHEAD (BitVec.ofNat 32 j)
  let fill := s.rd CCX_JFILL_WORDS + entryWords body.length
  if 65536 < fill then (journalOverflow j t, true)
  else
    let e := mkEntry j kind port chan body
    ({ t with ccx := { t.ccx with journal := t.ccx.journal ++ [e] } }.wr CCX_JFILL_WORDS fill, false)

/-- A checkpoint starts, with its mark entry; the commands `fresh` are admitted and have not started (R314). -/
def startCkptBut (fresh : List Nat) (s : State) : State :=
  if s.bit CCX_CKPT_WRITING ∨ !anyActive s then s else startCkptAt (snapshotJ fresh s) (jPut 3 3 0 [] s).1

/-- A checkpoint starts (R314). -/
def startCkpt (s : State) : State := startCkptBut [] s

/-- A journal entry, and the checkpoint that an overflow or a fill of 32,768 words starts (R312). A command's entry is written
before the command starts (R311). -/
def journal (kind port chan : Nat) (body : List Nat) (s : State) : State :=
  let r := jPut kind port chan body s
  if r.2 ∨ 32768 ≤ r.1.rd CCX_JFILL_WORDS then startCkptBut (if kind = 1 then [nextJseq s] else []) r.1 else r.1

/-- Header words 0 and 1 and the payload of a command (R257, R258). -/
def cmdWords (op : Opcode) (c : Cmd) : List Nat :=
  [c.ptype.toNat * 2 ^ 28 + c.ch * 2 ^ 20 + boolNat c.f * 2 ^ 19 + boolNat c.a * 2 ^ 18 + boolNat c.d * 2 ^ 17 + c.seq.toNat,
   c.claim.toNat * 65536 + c.len % 4096,
   op.code * 2 ^ 24 + c.tag.toNat * 65536 + c.p0] ++ c.words.map BitVec.toNat

/-- The journal entry of an admitted command (R311); data bytes are not journaled. -/
def journalCmd (op : Opcode) (c : Cmd) (both : Bool) (s : State) : State :=
  let w := cmdWords op c
  journal 1 (if both then 2 else c.port.num) c.ch (if op = .surfWrite ∨ op = .tableLoad then w.take 5 else w) s

/-- An internal event's journal entry. DEDUCED: PORT 3 and an empty body (log entry 21). -/
def journalEvent (s : State) : State := journal 2 3 0 [] s

/-! ### The recovery guarantee -/

/-- The missing conditions of R21, as the detail of RECOVERY_REFUSED shows them. -/
def missingR21 (s : State) : Nat :=
  boolNat (!s.bit DEV_GUARANTEE_CKPT_COMMITTED) + boolNat (!s.bit DEV_GUARANTEE_JOURNAL_UNBROKEN) * 2
    + boolNat (!s.bit DEV_CONFIG_SPB_SEALED) * 4

/-- Recovery from the fault `src` is refused (R23): RECOVERY_REFUSED, and DEGRADED-F. -/
def recoveryRefuse (src : Nat) (s : State) : State := requireRung 1 0x78 (raise 0x78 (missingR21 s + src * 256) s)

/-- Admitted commands whose completion a recovery awaits; an armed COMMIT counts as complete here (R306). -/
def awaited (s : State) : List Nat :=
  (s.cmd.outst ++ s.cmd.waiting).map (fun o => o.jseq)
    ++ (s.cmd.xfers.filter (fun x => !x.absorb)).map (fun x => x.o.jseq)
    ++ s.cmd.thWait.filterMap (fun p => p.2.map (fun x => x.o.jseq))

/-- Whether a recovery can start: the conditions of R21 hold, and no other recovery runs (R22, R23). -/
def recoverable (s : State) : Bool := decide (missingR21 s = 0) && !s.bit DEV_GUARANTEE_RECOVERING

/-- Recovery from the fault `src` starts: it awaits the commands `w` (R306). -/
def recoveryBegin (src : Nat) (w : List Nat) (s : State) : State :=
  { s with ccx := { s.ccx with recAt := s.now, recCause := src, recWait := w } }.wr DEV_GUARANTEE_RECOVERING 1

/-- Recovery from the fault `src` is needed: it starts if the conditions of R21 hold, else it is refused (R19 to R23).
A second fault while one recovery runs is outside the guarantee (R22). -/
def recoveryNeeded (src : Nat) (s : State) : State :=
  if recoverable s then recoveryBegin src (awaited s) s else recoveryRefuse src s

/-- Recovery ends: CCX_RECOVERY records its cause and its time (R306). -/
def recoveryEnd (s : State) : State :=
  if s.bit DEV_GUARANTEE_RECOVERING then
    let t := (s.wr DEV_GUARANTEE_RECOVERING 0).wr CCX_RECOVERY_CAUSE s.ccx.recCause
    let t := t.wr CCX_RECOVERY_DURATION_US (min ((s.now - s.ccx.recAt) / 1000) 0xFFFFFF)
    { t with ccx := { t.ccx with recWait := [] } }
  else s

end Sys2Proof.Machine
end

