-- ==== Sys2Proof/Machine/Faults.lean ====
section
/-!
DEFINITION. The commands of the fault collector: FAULT_EVENT, FAULT_READ, FAULT_CLEAR, FAULT_CFG and the counter clear
(R419 to R435). What one event does is `handleEvent`.
-/
namespace Sys2Proof.Machine

/-- FAULT_EVENT: an event reaches FCR (R420 to R430). `drop`: its history entry cannot be written in time (R429). -/
def execFaultEvent (src : BitVec 8) (sev : BitVec 2) (detail : Word) (drop : Bool) (s : State) : State :=
  handleEvent src.toNat sev.toNat detail.toNat drop s

/-- FCR_CTRL.CNT_CLR: every source's TOTAL, and LOST (R435). -/
def fcrCntClr (s : State) : State :=
  (s.forL faultSources (fun r t => t.wr (FCR_SRCn_STAT_TOTAL r.1) 0)).wr FCR_HIST_STAT_LOST 0

/-- HSEQ of a history entry. -/
def histSeq (e : HistEntry) : Nat := e.w3 % 65536

/-- The entries from the one with HSEQ `q`, or from the oldest. -/
def histFrom (q : Nat) (l : List HistEntry) : List HistEntry :=
  if l.any (fun e => decide (histSeq e = q)) then l.dropWhile (fun e => decide (histSeq e ≠ q)) else l

/-- The three registers of a source; unassigned IDs read 0. -/
def sourceWords (s : State) (id : Nat) : List Nat :=
  if sourceAssigned id then
    [(s.reg (FCR_SRCn_CFG id)).toNat, (s.reg (FCR_SRCn_RCT id)).toNat, (s.reg (FCR_SRCn_STAT id)).toNat]
  else [0, 0, 0]

/-- FAULT_READ (R431). -/
def faultRead (o : Outst) (s : State) : Res :=
  let mode := o.cmd.p0 / 4096
  let n := o.cmd.p0 % 256
  let w := o.cmd.w 1
  if o.cmd.p0 / 256 % 16 ≠ 0 then ans s .badParam
  else if mode = 0 then
    if 126 < n then ans s .badParam
    else
      let l := (histFrom w s.fcr.hist).take (n + 1)
      match l with
      | [] => okW s [s.rd FCR_HIST_STAT_NEXT_HSEQ]
      | e :: _ => okW s (histSeq e :: l.flatMap (fun e => [e.w0, e.w1, e.w2, e.w3]))
  else if mode = 1 then
    if 120 < n ∨ 0x78 < w + n then ans s .badParam
    else okW s ((List.range (n + 1)).flatMap (fun i => sourceWords s (w + i)))
  else if mode = 2 ∧ n = 0 ∧ w = 0 then
    okW s ([FCR_STAT, FCR_HIST_STAT, FCR_ALIVE, FCR_ALIVE_FN, FCR_FIRSTn 0, FCR_FIRSTn 1, FCR_FIRSTn 2,
      FCR_FIRSTn 3].map (fun a => (s.reg a).toNat))
  else ans s .badParam

/-- FAULT_CLEAR (R432). -/
def faultClear (o : Outst) (s : State) : Res :=
  let src := o.cmd.p0 % 256
  if o.cmd.p0 / 256 % 16 ≠ 0 then ans s .badParam
  else match o.cmd.p0 / 4096 with
    | 1 =>
      if sourceAssigned src then ok { s with fcr := { s.fcr with wins := storeSet [] s.fcr.wins src [] } }
      else ans s .badParam
    | 2 => ok { s with fcr := { s.fcr with wins := [] } }
    | 3 => ok (s.wr FCR_STAT_FROZEN 0)
    | 4 => ok ({ s with fcr := { s.fcr with hist := [] } }.wr FCR_STAT_FILL 0)
    | 5 => ok (s.wr FCR_STAT_MAX_SEV 0)
    | _ => ans s .badParam

/-- The sources that FAULT_CFG may not weaken below their defaults (R427, R434). -/
def protectedSource (id : Nat) : Bool :=
  decide (0x40 ≤ id ∧ id ≤ 0x47 ∨ id = 0x53 ∨ id = 0x55 ∨ id = 0x62 ∨ id = 0x65)

/-- A threshold is weakened: raised, or set to never (R434). -/
def thrWeaker (old new : Nat) : Bool := decide (old ≠ 0 ∧ (new = 0 ∨ old < new))

/-- A reaction byte is weakened: a reaction bit cleared, or a weaker RUNG (R434). -/
def rctWeaker (old new : Nat) : Bool :=
  decide (old / 128 % 2 = 1 ∧ new / 128 % 2 = 0) || decide (old / 64 % 2 = 1 ∧ new / 64 % 2 = 0)
    || decide (new % 8 < old % 8)

/-- Whether a setting weakens a source, compared with `cfg0` and `rct0` (R434). -/
def weakens (cfg0 rct0 cfg rct : Word) : Bool :=
  decide (bits cfg 31 30 < bits cfg0 31 30) || decide (bits cfg 23 16 < bits cfg0 23 16)
    || thrWeaker (bits cfg0 11 8) (bits cfg 11 8) || thrWeaker (bits cfg0 7 4) (bits cfg 7 4)
    || thrWeaker (bits cfg0 3 0) (bits cfg 3 0)
    || (List.range 4).any (fun i => rctWeaker (bits rct0 (8 * i + 7) (8 * i)) (bits rct (8 * i + 7) (8 * i)))

/-- Whether a reaction word has reserved bits set or an undefined RUNG (R433). -/
def rctBad (rct : Word) : Bool :=
  (List.range 4).any (fun i =>
    let b := bits rct (8 * i + 7) (8 * i)
    decide (b / 8 % 8 ≠ 0) || !([0, 1, 2, 4].contains (b % 8)))

/-- FAULT_CFG (R433, R434). -/
def faultCfg (o : Outst) (s : State) : Res :=
  let id := o.cmd.p0 % 256
  let cfg := o.cmd.words.getD 0 0#32
  let rct := o.cmd.words.getD 1 0#32
  if 256 ≤ o.cmd.p0 ∨ !sourceAssigned id ∨ bits cfg 29 24 ≠ 0 ∨ bits cfg 15 12 ≠ 0 ∨ rctBad rct ∨ bits cfg 23 16 = 0 then
    ans s .badParam
  else if s.bit DEV_CONFIG_SPB_SEALED ∧ weakens (s.reg (FCR_SRCn_CFG id)) (s.reg (FCR_SRCn_RCT id)) cfg rct then
    ans s .notPrivileged
  else if protectedSource id ∧ weakens (regReset (FCR_SRCn_CFG id)) (regReset (FCR_SRCn_RCT id)) cfg rct then
    ans s .badParam
  else ok ((s.setReg (FCR_SRCn_CFG id) cfg).setReg (FCR_SRCn_RCT id) rct)

end Sys2Proof.Machine
end

