-- ==== Sys2Proof/Config.lean ====
section
/-!
DEFINITION. The free values of the model: constants without a body, so that nothing can be proved of what they are. Each
stands for a value that the spec leaves open, and is applied to a counter of the state or to the operands it depends on.
-/
namespace Sys2Proof.Config

/-- y of an M1 pixel whose bit is 0, which shows under BLEND 1 (R120 gives y only where the bit is 1). -/
opaque freeM1Code : Nat → BitVec 16

/-- T16 of a sensor whose CAL_LO and CAL_HI are equal: the quotient of R213 has no value. -/
opaque freeTemp : Nat → BitVec 16

/-- RPM at a tach edge whose quotient does not fit the field of LE1_FAN_STAT, or has divisor 0 (R395). -/
opaque freeRpm : Nat → BitVec 16

/-- A word of a loop engine's memory outside its trace buffer: R165 lets the host read it, and nothing lays it out. -/
opaque freeLoopMem : Nat → BitVec 32

/-- NEXT_SEQ of a channel on which no command has been admitted since reset (R319). -/
opaque freeNextSeq : Nat → BitVec 16

/-- GAIN of a converter whose two reference sums are equal: the quotient of R473 has no value. -/
opaque freeGain : Nat → BitVec 16

/-- TXEQ that the engine sends on a lane of a port: the preset that it requests of its partner (R228). -/
opaque txeqRequest : Nat → Nat → BitVec 3

/-- Whether the signature of a patch image, given as its bytes, verifies with the patch key in ROM, which the spec does not
give (R448). -/
opaque patchSigned : List Nat → Bool

end Sys2Proof.Config
end

