-- ==== Sys2Proof/Machine/Pleat.lean ====
section
/-!
DEFINITION. The Pleat format (R170 to R175): header, tile index, records and their planes. A surface is given by `rd`, the
byte at an offset from its base, and by its length in bytes.
-/
namespace Sys2Proof.Machine

/-- 16 and 32 bits at an offset, little-endian (R1). -/
def rd16 (rd : Nat → Nat) (o : Nat) : Nat := rd o + rd (o + 1) * 256
def rd32 (rd : Nat → Nat) (o : Nat) : Nat := rd16 rd o + rd16 rd (o + 2) * 65536

/-- Tiles across and down. -/
def pleatTx (w : Nat) : Nat := ceilDiv w 64
def pleatTy (h : Nat) : Nat := ceilDiv h 16

/-- The words of a header that break R170. -/
def pleatHeaderFails (rd : Nat → Nat) (len fmt w h : Nat) : List Nat :=
  let x (i : Nat) : Nat := rd32 rd (4 * i)
  (List.range 16).filter (fun i =>
    match i with
    | 0 => decide (x 0 ≠ 0x504C0100 + fmt)
    | 1 => decide (x 1 ≠ h * 65536 + w)
    | 2 => decide (x 2 ≠ pleatTy h * 65536 + pleatTx w)
    | 3 => decide (x 3 % 16 ≠ 0 ∨ x 3 < 64 + 4 * pleatTx w * pleatTy h ∨ len ≤ x 3)
    | _ => decide (x i ≠ 0))

/-- The `k` bits (k at most 16) from bit `i` of the stream at byte `o`, from the least significant bit of each byte up. -/
def bitsAt (rd : Nat → Nat) (o i k : Nat) : Nat :=
  (rd (o + i / 8) + rd (o + i / 8 + 1) * 256 + rd (o + i / 8 + 2) * 65536) / 2 ^ (i % 8) % 2 ^ k

/-- Offsets of the K bytes of a DELTA plane's rows, from the first row's, and the offset after the last row. -/
def deltaRows (rd : Nat → Nat) (w : Nat) : Nat → Nat → List Nat
  | _, 0 => []
  | o, n + 1 => o :: deltaRows rd w (o + 1 + ceilDiv (w * rd o) 8) n

/-- One row of a DELTA plane: samples from the prediction of its first one (R173). -/
def deltaRow (rd : Nat → Nat) (o k : Nat) : Nat → Nat → Nat → List Nat
  | _, _, 0 => []
  | p, x, n + 1 =>
    let r : Int := if k = 0 then 0 else toSigned k (bitsAt rd (o + 1) (x * k) k)
    let v := ofSigned 16 ((p : Int) + r)
    v :: deltaRow rd o k v (x + 1) n

/-- The rows of a DELTA plane. -/
def deltaPlane (rd : Nat → Nat) (w : Nat) : List Nat → Nat → List Nat
  | [], _ => []
  | o :: os, p =>
    let row := deltaRow rd o (rd o) p 0 w
    row ++ deltaPlane rd w os (row.headD p)

/-- A plane of `w` × `h` samples at offset `o`: its samples and the offset after its payload; none where it breaks the
structure rules (R172 to R174). -/
def pleatPlane (rd : Nat → Nat) (len w h o : Nat) : Option (List Nat × Nat) :=
  let hd := rd32 rd o
  let par := hd / 65536 % 4096
  let ln := hd % 65536
  let n := w * h
  let fits (m : Nat) : Bool := decide (o + 4 + m ≤ len)
  match hd / 2 ^ 28 with
  | 0 => if par = 0 ∧ fits 0 then some (List.replicate n ln, o + 4) else none
  | 1 =>
    if par = 0 ∧ ln = 2 * n ∧ fits ln then some ((List.range n).map (fun i => rd16 rd (o + 4 + 2 * i)), o + 4 + ln)
    else none
  | 2 =>
    let p := par % 16 + 1
    let b := if p = 2 then 1 else if p ≤ 4 then 2 else 4
    let ix (i : Nat) : Nat := bitsAt rd (o + 4 + 2 * p) (i * b) b
    if par / 16 = 0 ∧ p ≠ 1 ∧ ln = 2 * p + ceilDiv (n * b) 8 ∧ fits ln ∧ (List.range n).all (fun i => decide (ix i < p))
    then some ((List.range n).map (fun i => rd16 rd (o + 4 + 2 * ix i)), o + 4 + ln) else none
  | 3 =>
    let rows := deltaRows rd w (o + 6) h
    let want := 2 + rows.foldl (fun m r => m + 1 + ceilDiv (w * rd r) 8) 0
    if par = 0 ∧ rows.all (fun r => decide (rd r ≤ 16)) ∧ ln = want ∧ fits ln
    then some (deltaPlane rd w rows (rd16 rd (o + 4)), o + 4 + ln) else none
  | _ => none

/-- Tile (tx, ty) of a surface whose header holds R170: its y and alpha samples in pixel order; none where it breaks the
structure rules (R171, R174). -/
def pleatTile (rd : Nat → Nat) (len fmt w h tx ty : Nat) : Option (List Nat × List Nat) :=
  let o := rd32 rd (64 + 4 * (ty * pleatTx w + tx))
  let wt := min 64 (w - 64 * tx)
  let ht := min 16 (h - 16 * ty)
  if o % 16 ≠ 0 ∨ o < rd32 rd 12 then none
  else match pleatPlane rd len wt ht o with
    | none => none
    | some (y, e) =>
      if fmt = 8 then some (y, List.replicate (wt * ht) 65535)
      else match pleatPlane rd len wt ht (ceilDiv e 4 * 4) with
        | none => none
        | some (a, _) => some (y, a)

/-- First offset of a tile's record and the offset after it; none where the tile breaks the structure rules (R171 to R174). -/
def pleatSpan (rd : Nat → Nat) (len fmt w h tx ty : Nat) : Option (Nat × Nat) :=
  let o := rd32 rd (64 + 4 * (ty * pleatTx w + tx))
  let wt := min 64 (w - 64 * tx)
  let ht := min 16 (h - 16 * ty)
  if pleatTile rd len fmt w h tx ty = none then none
  else (pleatPlane rd len wt ht o).bind (fun y =>
    if fmt = 8 then some (o, y.2) else (pleatPlane rd len wt ht (ceilDiv y.2 4 * 4)).map (fun a => (o, a.2)))

/-- The tiles of a surface that break the structure rules. -/
def pleatBadTiles (rd : Nat → Nat) (len fmt w h : Nat) : List Nat :=
  (List.range (pleatTx w * pleatTy h)).filter (fun i => decide (pleatTile rd len fmt w h (i % pleatTx w) (i / pleatTx w) = none))

end Sys2Proof.Machine
end

