-- ==== Sys2Proof/Machine/CrcUnit.lean ====
section
/-!
DEFINITION. The check-value units U0 to U3: the algorithms of R454, VALUE and RESULT (R455), their binding to channels, and what a
binding does to transfers and to data replies (R458 to R460).
-/
namespace Sys2Proof.Machine

/-! ### Algorithms -/

/-- Width of an algorithm (R454). -/
def algWidth (a : Nat) : Nat := if a = 2 then 16 else if a = 3 then 8 else 32

/-- Initial value (R454). -/
def algInit (a : Nat) : Nat := 2 ^ algWidth a - 1

/-- Final XOR (R454). -/
def algXor (a : Nat) : Nat := if a = 2 then 0 else 2 ^ algWidth a - 1

/-- One byte fed into a running value (R454, R455). -/
def algByte (a v b : Nat) : Nat :=
  match a with
  | 0 => crcByteR 0xEDB88320 v b
  | 1 => crcByteR 0x82F63B78 v b
  | 2 => crcByteL 16 0x1021 v b
  | _ => crcByteL 8 0x1D v b

/-- Bytes fed into a running value. -/
def algFeed (a v : Nat) (bs : List Nat) : Nat := bs.foldl (algByte a) v

/-! ### Units -/

/-- ALG of a unit; U3 computes CRC-32 (R453). -/
def unitAlg (s : State) (n : Nat) : Nat := if n = 3 then 0 else s.rd (CRC_Un_CFG_ALG n)

def unitValue (s : State) (n : Nat) : Nat := (s.reg (CRC_Un_VALUE n)).toNat

def setUnitValue (n v : Nat) (s : State) : State := s.setReg (CRC_Un_VALUE n) (BitVec.ofNat 32 v)

/-- RESULT: VALUE XOR the final XOR (R455). -/
def unitResult (s : State) (n : Nat) : Nat := unitValue s n ^^^ algXor (unitAlg s n)

/-- VALUE takes the initial value of the unit's algorithm. -/
def unitInit (n : Nat) (s : State) : State := setUnitValue n (algInit (unitAlg s n)) s

/-- Feed bytes into a unit. -/
def unitFeed (n : Nat) (bs : List Nat) (s : State) : State := setUnitValue n (algFeed (unitAlg s n) (unitValue s n) bs) s

/-- The unit bound to a channel in a direction: 0 inbound, 1 outbound (R458). -/
def boundUnit (s : State) (dir ch : Nat) : Option Nat :=
  (List.range 3).find? (fun n =>
    s.bit (CRC_Un_BIND_EN n) && decide (s.rd (CRC_Un_BIND_DIR n) = dir ∧ s.rd (CRC_Un_BIND_CHAN n) = ch))

/-- A bound transfer or reply begins: unless CHAIN, VALUE is initialised (R459, R460). -/
def unitOpen (n : Nat) (s : State) : State := if s.bit (CRC_Un_BIND_CHAIN n) then s else unitInit n s

/-- A MEM run of the unit is in progress (R456). -/
def memRunning (s : State) (n : Nat) : Bool := (storeGet none s.integ.memRuns n).isSome

/-! ### Inbound transfers -/

/-- The effective count of a transfer of `n` bytes: a checked one ends in a 4-byte check field (R459). -/
def dataLen (u : Option Nat) (n : Nat) : Nat := if u.isSome then n - 4 else n

/-- The unit of a transfer that opens is initialised. -/
def openUnit (u : Option Nat) (s : State) : State :=
  match u with
  | some n => unitOpen n s
  | none => s

/-- The unit of a transfer is fed. -/
def feedUnit (u : Option Nat) (bs : List Nat) (s : State) : State :=
  match u with
  | some n => unitFeed n bs s
  | none => s

/-- At the end of a checked transfer RESULT is compared with the check field: the computed value and the field (R459). -/
def checkField (u : Option Nat) (field : List Nat) (s : State) : State × Option (Nat × Nat) :=
  match u with
  | some n =>
    let c := unitResult s n
    let f := le32 field 0
    (if c = f then s else s.bump (CRC_Un_STAT_MISMATCH n), some (c, f))
  | none => (s, none)

/-! ### Transfers that open -/

/-- The unit that checks the transfers opened on a command's channel (R459). -/
def unitIn (o : Outst) (s : State) : Option Nat := boundUnit s 0 o.cmd.ch

/-- An open transfer's record, when `n` bytes are due and the bytes `given` came with the opening command. -/
def openXfer (o : Outst) (n : Nat) (given : List Nat) (absorb : Bool) (s : State) : State :=
  let u := unitIn o s
  let m := dataLen u n
  let x : Xfer := { o := o, need := n, got := given.length, data := if o.op = .surfWrite ∨ absorb then [] else given.take m,
                    nextIdx := 1, absorb := absorb, taken := [], lastAt := s.now, unit := u, field := given.drop m }
  syncStat { s with cmd := { s.cmd with xfers := s.cmd.xfers ++ [x] } }

/-- The data bytes that a transfer's opening command carries. -/
def givenBytes (o : Outst) : List Nat := (bytesOfWords ((o.cmd.words.drop 2).map BitVec.toNat)).take (o.cmd.w 2)

/-- An opening command is refused: it is answered at once, and its transfer only absorbs (R263). -/
def refuseXfer (o : Outst) (st : Status) (s : State) : Res :=
  let g := givenBytes o
  ans (if g.length < o.cmd.w 2 then openXfer o (o.cmd.w 2) g true s else s) st

/-! ### Outbound replies -/

/-- The replies that carry data (R460). -/
def dataReply (op : Opcode) : Bool := decide (op = .surfRead ∨ op = .tableRead ∨ op = .readBlock)

/-- A data reply with the check word would be too long (R460). -/
def replyTooLong (o : Outst) (s : State) : Bool :=
  (boundUnit s 1 o.cmd.ch).isSome &&
    match o.op with
    | .surfRead => decide (2040 < o.cmd.w 2)
    | .tableRead => decide (2040 < o.cmd.w 3)
    | .readBlock => decide (510 < o.cmd.p0)
    | _ => false

/-- The check word is appended to a data reply on a bound channel (R460). -/
def appendCheck (o : Outst) (a : Ans) (s : State) : State × Ans :=
  if dataReply o.op ∧ a.status = .ok then
    match boundUnit s 1 o.cmd.ch with
    | some n =>
      let t := unitFeed n (bytesOfWords a.words) (unitOpen n s)
      (t, { a with words := a.words ++ [unitResult t n] })
    | none => (s, a)
  else (s, a)

/-- CRC_Un_STAT.BUSY: a MEM run or a bound transfer is in progress. The model executes a reply and a region check whole. -/
def unitBusy (s : State) (n : Nat) : Bool :=
  memRunning s n || s.cmd.xfers.any (fun x => !x.absorb && decide (x.unit = some n))

end Sys2Proof.Machine
end

