-- ==== Sys2Proof/Machine/Scn.lean ====
section
/-!
DEFINITION. The frame PLL and SYNC_OUT (R33 to R56, R507, R508). Times are in ns on the engine's own time line; an edge
carries the time at which it rose and how long FSYNC stayed high after it. The effects of a tick on the other blocks
stand in Tick.lean.
-/
namespace Sys2Proof.Machine

/-! ### The nominal period and its tolerance -/

/-- NOM_MHZ of the frame in play (R47, R49). -/
def nomMhz (s : State) : Nat := s.rdAct SCN_NOMINAL_ACT_NOM_MHZ

/-- LOCK_TOL in effect, in steps of 0.5 % (R55). -/
def lockTol (s : State) : Nat := s.rdAct SCN_FSYNC_CTRL_LOCK_TOL

/-- HOLD_FRAMES in effect (R55). -/
def holdFrames (s : State) : Nat := s.rdAct SCN_FSYNC_CTRL_HOLD_FRAMES

/-- T_nom in ns, to the PLL's resolution of 1 ns (R508). -/
def tNom (s : State) : Nat := roundHalfUp 1000000000000 (max 1 (nomMhz s))

/-- T_nom × (1 - LOCK_TOL), rounded up, and T_nom × (1 + LOCK_TOL), rounded down (R36). -/
def tLow (s : State) : Nat := ceilDiv (1000000000000 * (200 - lockTol s)) (200 * max 1 (nomMhz s))
def tHigh (s : State) : Nat := 1000000000000 * (200 + lockTol s) / (200 * max 1 (nomMhz s))

/-- An interval lies within T_nom ± LOCK_TOL × T_nom, both ends included (R38). -/
def inTol (s : State) (d : Nat) : Bool := decide (tLow s ≤ d ∧ d ≤ tHigh s)

/-- Half width of an acceptance window, in ns, with tolerance `tol` (R34). -/
def halfWin (s : State) (tol : Nat) : Nat := 1000000000000 * tol / (200 * max 1 (nomMhz s))

/-- The order of R508: the largest of the lower bounds, then the smallest of the upper ones; before the first frame only
the range of T_nom bounds. -/
def clampPeriod (s : State) (want : Int) : Nat :=
  let cur := s.frame.perCur
  if cur = 0 then (min (max want (tLow s)) (tHigh s)).toNat
  else (min (min (max (max want (ceilDiv (99 * cur) 100 : Nat)) (tLow s : Nat)) (101 * cur / 100 : Nat)) (tHigh s : Nat)).toNat

/-- delta of R508: E - t1 reduced modulo P_e into -P_e/2 < delta ≤ P_e/2. -/
def pllDelta (e t1 pe : Nat) : Int :=
  let r := ((e : Int) - t1) % (pe : Int)
  if 2 * r > pe then r - pe else r

/-- P_next by the law of R508, from the latest edge that serves the PLL. -/
def pllLaw (s : State) : State :=
  match s.frame.edgeE with
  | none => s
  | some e =>
    if s.frame.edgeP = 0 then s
    else
      let want := (s.frame.edgeP : Int) + pllDelta e s.frame.t1 s.frame.edgeP
      { s with frame := { s.frame with perNext := clampPeriod s want } }

/-- P_next of a frame in FREERUN: toward T_nom (R40). -/
def slewPeriod (s : State) : State := { s with frame := { s.frame with perNext := clampPeriod s (tNom s) } }

/-! ### States -/

/-- The PLL ticks: LOCKED, HOLDOVER, FREERUN or RELOCK (R38, R42). -/
def pllTicks (s : State) : Bool := decide (2 ≤ s.rd SCN_STAT_STATE)

/-- The PLL goes to FREERUN: FSYNC_LOST (R38). -/
def fsyncLost (s : State) : State := slewPeriod (raise 0x63 4 (s.wr SCN_STAT_STATE 4))

/-- The PLL locks. -/
def pllLock (s : State) : State := (s.wr SCN_STAT_STATE 2).wr SCN_STAT_MISSED 0

/-- A rising edge is counted in BAD_EDGES and ignored. -/
def badEdge (s : State) : State := s.bump SCN_COUNT_BAD_EDGES

/-- An edge that rises at `rise` lies inside the acceptance window of the tick at `t`, by the values in effect, and is qualified
by the window's end (R34). -/
def inEdgeWindow (rise t : Nat) (s : State) : Bool :=
  decide (t ≤ rise + halfWin s (lockTol s) ∧ rise + 1000 ≤ t + halfWin s (lockTol s))

/-- An edge lies in the window of the tick that is past. -/
def inOpenWindow (rise : Nat) (s : State) : Bool := s.frame.winOpen && inEdgeWindow rise s.frame.tickAt s

/-- An edge may lie in the window of the predicted tick: the widest window is 6 % of the longest nominal period either way. It is
judged at that tick, with the values in effect there (R55). -/
def beforeTick (rise : Nat) (s : State) : Bool := s.frame.ticked && decide (s.frame.t1 ≤ rise + 1333334)

/-- An edge serves the PLL: E and P_e of R508. -/
def serveEdge (rise : Nat) (s : State) : State :=
  let prev := s.frame.edgeE.getD (s.frame.lastQual.getD rise)
  { s with frame := { s.frame with edgeE := some rise, edgeP := rise - prev } }

/-- The valid edge of a window (R34, R35): SCN_PHASE shows it against its tick `t`. -/
def validEdge (rise t : Nat) (s : State) : State :=
  let u := serveEdge rise s
  { u with frame := { u.frame with winEdge := some rise } }.setReg SCN_PHASE
    (BitVec.ofNat 32 (ofSigned 32 ((rise : Int) - t)))

/-- Remember a qualified edge for the interval test (R38, R507). -/
def noteQual (rise : Nat) (s : State) : State := { s with frame := { s.frame with lastQual := some rise } }

/-- In RELOCK the law is computed at each edge that serves (R508). -/
def inRelock (s : State) : State := if s.rd SCN_STAT_STATE = 5 then pllLaw s else s

/-- FSYNC_EDGE: a rising edge at time `rise`, after which FSYNC stays high for `high` ns (R34, R35, R38, R507). In
ACQUIRE the second edge of a pair locks the PLL: the TICK that follows is tick 1, in the cycle that qualifies it. An edge near
the predicted tick is judged at that tick (R55), and a frame that RELOCK begins in keeps its period (R508). -/
def execFsyncEdge (rise high : Nat) (s : State) : State :=
  let st := s.rd SCN_STAT_STATE
  if st = 0 then s
  else if high < 1000 then badEdge s
  else
    let pair := s.frame.lastQual.any (fun q => inTol s (rise - q))
    match st with
    | 1 =>
      if pair then
        let t := noteQual rise (pllLock { s with frame := { s.frame with edgeE := s.frame.lastQual } })
        let t := serveEdge rise t
        let t := { t with frame := { t.frame with t1 := rise + 1000, perCur := 0, perNext := t.frame.edgeP } }
        t.setReg SCN_PHASE (BitVec.ofNat 32 (ofSigned 32 (-1000)))
      else noteQual rise s
    | 4 =>
      if pair then
        let t := { s with frame := { s.frame with edgeE := s.frame.lastQual,
                                                  perNext := if s.frame.perCur = 0 then s.frame.perNext else s.frame.perCur } }
        noteQual rise (serveEdge rise (t.wr SCN_STAT_STATE 5))
      else noteQual rise s
    | _ =>
      let steers := decide (st = 5) && pair
      noteQual rise
        (if inOpenWindow rise s then
          (if s.frame.winEdge.isSome then badEdge s else inRelock (validEdge rise s.frame.tickAt s))
        else if beforeTick rise s then
          let t := if steers then pllLaw (serveEdge rise s) else s
          { t with frame := { t.frame with early := t.frame.early ++ [(rise, steers)] } }
        else if steers then pllLaw (serveEdge rise s)
        else badEdge s)

/-- FSYNC_WINDOW_END: the acceptance window of the last tick ends (R38, R39, R508). -/
def execFsyncWindowEnd (s : State) : State :=
  let st := s.rd SCN_STAT_STATE
  if !s.frame.winOpen ∨ (st ≠ 2 ∧ st ≠ 3 ∧ st ≠ 5) then s
  else
    let t := { s with frame := { s.frame with winOpen := false, winEdge := none } }
    if s.frame.winEdge.isSome then pllLaw (pllLock t)
    else
      let m := min (t.rd SCN_STAT_MISSED + 1) 255
      let t := (t.bump SCN_COUNT_MISSED_TOTAL).wr SCN_STAT_MISSED m
      if st = 5 then t
      else if st = 2 then (if holdFrames t = 1 then fsyncLost t else t.wr SCN_STAT_STATE 3)
      else if holdFrames t ≤ m then fsyncLost t else t

/-- ACQUIRE_TIMEOUT at time `at_`: FREERUN. The TICK that follows is tick 1, in the same cycle, and raises FSYNC_LOST with its new
FN (R38, R420). -/
def execAcquireTimeout (at_ : Nat) (s : State) : State :=
  if s.rd SCN_STAT_STATE = 1 then
    let t := s.wr SCN_STAT_STATE 4
    { t with frame := { t.frame with t1 := at_, perCur := 0, perNext := tNom t } }
  else s

/-- RELOCK_TIMEOUT (R38). -/
def execRelockTimeout (s : State) : State := if s.rd SCN_STAT_STATE = 5 then fsyncLost s else s

/-- SCN_CTRL.RUN written 1 (R38). -/
def scnStart (s : State) : State :=
  if s.rd SCN_STAT_STATE = 0 then
    { s with frame := { s.frame with lastQual := none, edgeE := none, edgeP := 0, winOpen := false, winEdge := none,
                                     ticked := false, perCur := 0, early := [] } }.wr SCN_STAT_STATE 1
  else s

/-- A pending COMMIT_AT is dropped when RUN is written 0 (R510). -/
def dropAt (s : State) : State :=
  if s.cmp.atFn.isSome then { s with cmp := { s.cmp with atFn := none } }.wr CMP_STAT_AT_RESULT 4 else s

/-- SCN_CTRL.RUN written 0 on rung DARK: the PLL is OFF, the sequencers idle, SYNC_OUT low, a pending COMMIT_AT dropped (R38,
R44, R108, R510). -/
def scnStop (s : State) : State :=
  let t := { s with frame := { s.frame with syncOut := false, winOpen := false, winEdge := none, ticked := false, early := [] } }
  (((dropAt t).wr SCN_STAT_STATE 0).wr SCN_STAT_MISSED 0).forN 4 (fun q u => u.wr (SEQ_STAT_MODE q) 0)

/-- The effects of a write of SCN_CTRL: `none` when it is answered BUSY and changes no field (R43). -/
def scnCtrlWrite (run so : Bool) (s : State) : Option State :=
  if !run ∧ s.rd DEV_LADDER_RUNG ≠ 4 then none
  else
    let t := (s.wr SCN_CTRL_RUN (boolNat run)).wr SCN_CTRL_SO_EN (boolNat so)
    let t := if so then t else { t with frame := { t.frame with syncOut := false } }
    some (if run then scnStart t else scnStop t)

/-- SCN_CTRL.CNT_CLR (R56). -/
def scnCntClr (s : State) : State := s.setReg SCN_COUNT 0#32

/-! ### SYNC_OUT -/

/-- SYNC_OUT_RISE: the moment SO_LEAD × 10 ns before a tick. The first tick after ACQUIRE is not predicted (R44, R45). -/
def execSyncOutRise (s : State) : State :=
  if s.bit SCN_CTRL_SO_EN && pllTicks s && s.frame.ticked then { s with frame := { s.frame with syncOut := true } } else s

/-- SYNC_OUT_FALL: SO_WIDTH stitches after a tick (R44). -/
def execSyncOutFall (s : State) : State := { s with frame := { s.frame with syncOut := false } }

/-! ### The tick, as the frame PLL has it -/

/-- S of the frame in play. -/
def slotsOf (s : State) : Nat := 2 ^ s.rd SCN_TIMING_SLOTS_LOG2

/-- M for a nominal rate and a slot count (02, The frame PLL). -/
def stitchM (mhz slots : Nat) : Nat := 500000000000 / (max 1 mhz * slots * 1024)

/-- An edge that rose before the tick at `t1` is judged at that tick, with the values in effect there (R34, R35, R55, R507): the
first one inside the window is its valid edge; in RELOCK one outside may have steered. -/
def judgeEarly (x : Nat × Bool) (s : State) : State :=
  if inEdgeWindow x.1 s.frame.t1 s then
    if s.frame.winEdge.isSome then badEdge s
    else if x.2 then { s with frame := { s.frame with winEdge := some x.1 } }.setReg SCN_PHASE
      (BitVec.ofNat 32 (ofSigned 32 ((x.1 : Int) - s.frame.t1)))
    else inRelock (validEdge x.1 s.frame.t1 s)
  else if x.2 then s
  else badEdge s

/-- The edges kept for the tick are judged, while the PLL still tests windows. -/
def judgeEdges (s : State) : State :=
  let st := s.rd SCN_STAT_STATE
  let t := { s with frame := { s.frame with early := [], winEdge := none } }
  if st = 2 ∨ st = 3 ∨ st = 5 then t.forL s.frame.early judgeEarly else t

/-- The PLL's part of a tick: the settings that govern the new frame, the edges of its window so far, its period, FN and the
position (R28, R33, R36, R49, R55, R508). -/
def scnTick (s : State) : State :=
  let t := judgeEdges (s.takeAct [SCN_FSYNC_CTRL, SCN_SYNC_OUT, SCN_NOMINAL_ACT])
  let l := t.rd SCN_CFG_ACT_SLOTS_LOG2
  let t := (t.wr SCN_TIMING_SLOTS_LOG2 l).wr SCN_TIMING_M (stitchM (nomMhz t) (2 ^ l))
  let p := clampPeriod t t.frame.perNext
  let f := t.frame
  let t := { t with frame := { f with tickAt := f.t1, t1 := f.t1 + p, perCur := p, perNext := p, ticked := true,
                                      winOpen := f.ticked, slotNext := 0, slotAt := t.now } }
  let t := if t.rd SCN_STAT_STATE = 4 then slewPeriod t else t
  let t := t.setReg SCN_PERIOD (BitVec.ofNat 32 p)
  let t := t.setReg DEV_FN (BitVec.ofNat 32 (t.rd DEV_FN_FN + 1))
  (t.wr SCN_POS_SLOT 0).wr SCN_POS_STITCH 0

end Sys2Proof.Machine
end

