-- ==== Sys2Proof/Machine/RegRange.lean ====
section
/-!
DEFINITION. The ranges of register fields that a write must respect, as the field maps give them: a value outside a range
is answered BAD_PARAM and nothing is written (R46, R84, R198, R397).
-/
namespace Sys2Proof.Machine

/-- Field ranges of one block: field, lowest and highest value. -/
def blockRanges (b : Nat) : List (Fld × Nat × Nat) :=
  let hl (p : Nat) : List (Fld × Nat × Nat) :=
    [(HLx_CFG_REPLAY_TO p, 5, 255), (HLx_CFG_REPLAY_MAX p, 1, 15), (HLx_CFG_ACK_LAT p, 1, 40), (HLx_CFG_STALL_TO p, 1, 255)]
  match b with
  | 0x1 => hl 0
  | 0x2 => hl 1
  | 0x3 => [(CMD_CFG_ERR_REPLY_MAX, 1, 255), (CMD_CFG_XFER_TO, 1, 255), (CMD_THIMBLE_CFG_LEASE_DEF, 1, 10000)]
  | 0x4 => [(CCX_CFG_BASTE_MAX, 10, 1000), (CCX_CFG_CC_HB_TO, 5, 100)]
  | 0x5 => [(SMC_CFG_ALIVE_HALF, 10, 50), (SMC_CFG_PULSE_LEN, 4, 16)]
  | 0x6 => (CMP_BW_CFG_EFF, 1, 255) :: (List.range 8).flatMap (fun k =>
      [(CMP_Lk_STRIDE_STRIDE k, 1, 4095), (CMP_Lk_SRC_SRC_H k, 1, 2048), (CMP_Lk_SRC_SRC_W k, 1, 4096),
       (CMP_Lk_DST_SIZE_DST_H k, 1, 640), (CMP_Lk_DST_SIZE_DST_W k, 1, 2048), (CMP_Lk_ALPHA_GA k, 0, 256)])
  | 0x7 => [(SCN_CFG_SLOTS_LOG2, 0, 4), (SCN_NOMINAL_NOM_MHZ, 45000, 240000), (SCN_COMP_OFS_OFS_US, 20, 65535),
      (SCN_FSYNC_CTRL_HOLD_FRAMES, 1, 255), (SCN_FSYNC_CTRL_LOCK_TOL, 1, 12), (SCN_SYNC_OUT_SO_LEAD, 0, 200),
      (SCN_SYNC_OUT_SO_WIDTH, 1, 255)]
  | 0x9 => (PXA_RAIL_LIMIT_LIMIT_MA, 1, 24000) :: (List.range 8).map (fun z => (PXA_ZONE_LIMITn_LIMIT_MA z, 1, 6452))
  | 0xA => [(PXH_VERIFY_MEAS_MIN, 10, 80), (PXH_VERIFY_A_VERIFY, 1, 63), (PXH_PERSIST_PASS_N, 1, 31),
      (PXH_PERSIST_FAIL_WIN, 1, 255), (PXH_PERSIST_FAIL_N, 1, 15), (PXH_PROOF_PROOF_MAX, 0, 2048),
      (PXH_AGE_PERIOD_LOG2, 4, 7), (PXH_THRESH_ZONE_HR_MAX, 1, 255), (PXH_THRESH_DARK_TH, 4, 255)]
  | 0xB => [(THM_CFG_SSC_MEAN, 0, 25), (THM_CFG_WIN_LOG2, 0, 2), (THM_CFG_AUTO_FRAMES, 1, 255),
      (THM_DERATE_CFG_DR_UP_MAX, 1, 192), (THM_DERATE_CFG_BLANK_HYST, 1, 40), (THM_BROKEN_CFG_NBR_DEV, 5, 60),
      (THM_BROKEN_CFG_BROKEN_N, 1, 15), (THM_SHUT_SHUT_ZONES, 1, 64), (THM_SHUT_T_ARRAY, 140, 160),
      (THM_SHUT_T_LOGIC, 110, 150), (THM_XCHK_CFG_XCHK_TOL, 1, 30), (THM_XCHK_CFG_NTC_SEL, 1, 3)]
  | 0xC => [(LE0_CFG_I_PH_MAX, 100, 600), (LE0_CFG_OC_LIM, 40, 160), (LE0_CFG_N_PH, 1, 6), (LE0_SP_SP_MV, 3000, 4200),
      (LE0_PROF_NJ, 1, 63), (LE0_PROF_AMAX, 1, 4095), (LE0_PROF_VMAX, 1, 4095), (LE0_SUPV_LOST_N, 1, 255),
      (LE0_SUPV_PL_DEV, 5, 100), (LE0_SUPV_OVUV_N, 1, 255), (LE0_SUPV_UV_DEV, 5, 100), (LE0_LIMITS_OV_MV, 4300, 4800),
      (LE0_LIMITS_FROZEN_N, 64, 65535), (LE0_TIMING_HOLD_TO, 1, 255), (LE0_TIMING_REG_HYST, 0, 4000)]
  | 0xD => [(LE1_LVL_CFG_BAND_OUT, 1, 255), (LE1_LVL_CFG_DUTY_MAX, 10, 100), (LE1_LVL_CFG_DUTY_SLOW, 5, 100),
      (LE1_LVL_PROF_NJ, 1, 63), (LE1_LVL_PROF_AMAX, 1, 4095), (LE1_LVL_PROF_VMAX, 1, 4095),
      (LE1_HALL_CAL_GAIN, 1, 65535), (LE1_HALL_SUM_SUM_HI, 0, 8190), (LE1_LVL_SUPV_LOST_N, 1, 255),
      (LE1_LVL_SUPV_FROZEN_N, 64, 65535), (LE1_FAN_CFG_DUTY_MIN, 10, 60), (LE1_FAN_CFG_KF, 1, 255),
      (LE1_FAN_CFG_PPR, 1, 4), (LE1_FAN_SP_RPM, 0, 12000), (LE1_FAN_MAP_T_LO, 40, 139), (LE1_FAN_MAP_T_HI, 41, 140),
      (LE1_FAN_MAP_RPM_HI, 0, 120)]
  | 0x10 => [(PMU_CFG_VSETTLE, 1, 100), (PMU_CFG_PG_FILT, 1, 255)]
  | 0x11 => [(CKU_MEAS_DOMAIN, 0, 11)]
  | 0x12 => [(CRC_SCAN_CFG_SURF_PERIOD, 1, 255), (CRC_SCAN_CFG_SRAM_PERIOD, 1, 255)]
  | 0x13 => [(CAL_CFG_RUN_MAX, 1, 255), (CAL_CFG_DRIFT, 2, 40)]
  | 0x14 => [(SMEM_CFG_RATE, 0, 4)]
  | 0x15 => [(LME_EYE_CFG_EYE_MIN, 4, 48), (LME_EYE_CFG_EYE_INT, 1, 255)]
  | 0xE => [(ADC_SKEW_SKEW, 0, 255)]
  | _ => []

/-- The value of a field in a word about to be written. -/
def fv (v : Word) (f : Fld) : Nat := bits v f.msb f.lsb

/-- Relations between the fields of one register, and signed fields. DEDUCED: a range that the Meaning column of a field
states makes a write outside it BAD_PARAM, also where the column does not repeat the status (log entry 23). -/
def relationOk (a : Nat) (v : Word) : Bool :=
  if a = CMP_BW_CFG then decide (fv v CMP_BW_CFG_HOST_RES < fv v CMP_BW_CFG_EFF)
  else if a = PXH_VERIFY then decide (fv v PXH_VERIFY_A_VERIFY ≤ fv v PXH_VERIFY_A_PROOF)
  else if a = LE0_CFG then decide (fv v LE0_CFG_I_PH_MAX * 10 < fv v LE0_CFG_OC_LIM * 50)
  else if a = LE1_LVL_CFG then
    decide (fv v LE1_LVL_CFG_BAND_IN < fv v LE1_LVL_CFG_BAND_OUT ∧ fv v LE1_LVL_CFG_DUTY_SLOW ≤ fv v LE1_LVL_CFG_DUTY_MAX)
  else if a = LE1_LVL_LIM then
    let hi := toSigned 16 (fv v LE1_LVL_LIM_POS_MAX)
    let lo := toSigned 16 (fv v LE1_LVL_LIM_POS_MIN)
    decide (hi ≤ 2047 ∧ -2048 ≤ lo ∧ lo < hi)
  else if a = LE1_HALL_SUM then decide (fv v LE1_HALL_SUM_SUM_LO < fv v LE1_HALL_SUM_SUM_HI)
  else if a = LE1_FAN_MAP then
    decide (fv v LE1_FAN_MAP_T_LO < fv v LE1_FAN_MAP_T_HI ∧ fv v LE1_FAN_MAP_RPM_LO ≤ fv v LE1_FAN_MAP_RPM_HI)
  else if a = ADC_SKEW then decide (fv v ADC_SKEW_SKEW ≠ 128)
  else if 0x60000 ≤ a ∧ a < 0x70000 then
    (List.range 8).all (fun k => decide (a ≠ CMP_Lk_DST_POS k) ||
      (let y := toSigned 12 (fv v (CMP_Lk_DST_POS_DST_Y k))
       let x := toSigned 13 (fv v (CMP_Lk_DST_POS_DST_X k))
       decide (-640 ≤ y ∧ y ≤ 639 ∧ -2048 ≤ x ∧ x ≤ 2047)))
  else true

/-- Every field of the register at `a` is within its range. -/
def rangeOk (a : Nat) (v : Word) : Bool :=
  (blockRanges (a / 0x10000)).all (fun r => decide (r.1.addr ≠ a) || decide (r.2.1 ≤ fv v r.1 ∧ fv v r.1 ≤ r.2.2))
    && relationOk a v

end Sys2Proof.Machine
end

