-- ==== Sys2Proof/Machine/Smc.lean ====
section
/-!
DEFINITION. The safety monitor core: profiles, straps and the safety parameter block (R332 to R339), the Hemline (R340 to
R343), safety messages and the way up the ladder (R351 to R361, R511), blanking paths and self-checks (R324 to R331,
R363 to R368).
-/
namespace Sys2Proof.Machine

/-! ### Profiles -/

/-- The parameters of a profile (R333). -/
structure Profile where
  hb : Nat
  pxLow : Nat
  grpLow : Nat
  pxHigh : Nat
  grpHigh : Nat
  plainCode : Nat
  plainMargin : Nat
  wCmp : Nat
  reqFilt : Nat
  hostTo : Nat
  aimWorst : Nat
  aimMargin : Nat
  solo : Nat
  autoPlain : Nat
  limp : Nat
  floors : List Nat
  deriving DecidableEq, Repr

/-- F_b(g) of R334: the groups on the high side, the step group, and the groups on the low side. -/
def builtinFloor (side g : Nat) : Nat :=
  match side with
  | 0 => if g ≤ 15 then 336 else if g = 16 then 320 else 304
  | 1 => if g ≤ 16 then 336 else if g = 17 then 320 else 304
  | 2 => if 15 ≤ g then 336 else if g = 14 then 320 else 304
  | _ => if 16 ≤ g then 336 else if g = 15 then 320 else 304

/-- The restrictive profile (R333). -/
def restrictive : Profile :=
  { hb := 0, pxLow := 504, grpLow := 65536, pxHigh := 0, grpHigh := 0, plainCode := 0x23F0, plainMargin := 24, wCmp := 1,
    reqFilt := 1, hostTo := 10, aimWorst := 64, aimMargin := 4, solo := 0, autoPlain := 0, limp := 2,
    floors := List.replicate 32 352 }

/-- The built-in profile of LEVEL0 = `level` with the floor of LEVEL1 = `side`, each 0 to 3 (R333, R334). -/
def builtin (level side : Nat) : Profile :=
  { hb := if level = 0 then 0 else 1
    pxLow := if level ≤ 1 then 1008 else 2016
    grpLow := match level with
      | 0 => 131072
      | 1 => 196608
      | 2 => 262144
      | _ => 393216
    pxHigh := match level with
      | 0 => 0
      | 1 => 40320
      | _ => 63504
    grpHigh := match level with
      | 0 => 0
      | 1 => 8388608
      | _ => 16777215
    plainCode := if level ≤ 1 then 0x53F0 else 0x63F0
    plainMargin := if level ≤ 1 then 8 else 6
    wCmp := 2, reqFilt := 8, hostTo := 50, aimWorst := 48, aimMargin := 2
    solo := if level = 0 then 0 else 1
    autoPlain := 1, limp := 4, floors := (List.range 32).map (builtinFloor side) }

/-- Entry `i` of the HEM_FLOOR words of an SPB (R336). -/
def spbFloor (w : List Nat) (g : Nat) : Nat := w.getD (9 + g / 2) 0 / 65536 ^ (g % 2) % 65536

/-- The profile that an SPB image holds (R336). -/
def spbProfile (w : List Nat) : Profile :=
  let x (i : Nat) : Nat := w.getD i 0
  { hb := x 2 % 2, solo := x 2 / 2 % 2, autoPlain := x 2 / 4 % 2, limp := x 2 / 16 % 8
    plainCode := x 3 / 65536, plainMargin := x 3 % 256
    pxHigh := x 4 / 65536, pxLow := x 4 % 65536, grpLow := x 5 % 2 ^ 24, grpHigh := x 6 % 2 ^ 24
    hostTo := x 7 / 65536, wCmp := x 7 / 4096 % 16, reqFilt := x 7 % 64
    aimWorst := x 8 / 256 % 256, aimMargin := x 8 % 16, floors := (List.range 32).map (spbFloor w) }

/-- A profile is in effect: the registers that show it, and the Hemline floor; without HB_ALLOWED the mode returns to
cut-off (R335, R348). -/
def applyProfile (src level : Nat) (p : Profile) (s : State) : State :=
  let t := (((s.wr SMC_PROFILE_SRC src).wr SMC_PROFILE_LEVEL level).wr SMC_PROFILE_HB_ALLOWED p.hb).wr SMC_PROFILE_SOLO_OK p.solo
  let t := ((t.wr SMC_PROFILE_AUTO_PLAIN p.autoPlain).wr SMC_PROFILE_LIMP_LEVEL p.limp).wr SMC_PROFILE_W_CMP p.wCmp
  let t := ((t.wr SMC_PROFILE_REQ_FILT p.reqFilt).wr SMC_LIM_PX_E_PX_LOW p.pxLow).wr SMC_LIM_PX_E_PX_HIGH p.pxHigh
  let t := (t.wr SMC_LIM_GRP_LOW_E_GRP p.grpLow).wr SMC_LIM_GRP_HIGH_E_GRP p.grpHigh
  let t := ((t.wr SMC_PLAIN_PLAIN_CODE p.plainCode).wr SMC_PLAIN_PLAIN_MARGIN p.plainMargin).wr SMC_AIM_AIM_WORST p.aimWorst
  let t := (t.wr SMC_AIM_AIM_MARGIN p.aimMargin).wr CCX_HOST_TO_TIMEOUT_MS p.hostTo
  let t := { t with smc := { t.smc with floors := p.floors } }
  let t := t.when (decide (p.hb = 0)) (fun u => u.wr SMC_STAT_MODE 0)
  updLimp t

/-- The profile in effect, by the table of R335. -/
def chooseProfile (s : State) : State :=
  let l0 := s.rd SMC_STRAPS_LEVEL0
  let l1 := s.rd SMC_STRAPS_LEVEL1
  if !s.bit SMC_STRAPS_VALID || decide (4 ≤ l0 ∨ 4 ≤ l1) || s.bit SMC_STRAPS_CHANGED || s.smc.mismHold then
    applyProfile 1 7 restrictive s
  else match s.smc.spb with
    | some w => applyProfile (if s.bit DEV_CONFIG_SPB_SEALED then 3 else 2) l0 (spbProfile w) s
    | none => applyProfile 0 l0 (builtin l0 l1) s

/-! ### Straps -/

/-- The level that a read of a strap gives, from the land's voltage in 1/65536 of V_SREF (R485). -/
def strapLevel (v : BitVec 16) : Nat := min (8 * v.toNat / 65536) 7

/-- A strap has changed (R332). -/
def strapChange (s : State) : State :=
  if s.bit SMC_STRAPS_CHANGED then s
  else
    let t := chooseProfile (s.wr SMC_STRAPS_CHANGED 1)
    refreshCeiling 0x44 (raise 0x44 (t.reg SMC_STRAPS).toNat t)

/-- STRAP_LATCH: the first read of the straps after the SAFE domain starts (R332). After a wake reset the levels latched
before D2 stand, and a change that AON found counts at this read (R446). -/
def execStrapLatch (v0 v1 : BitVec 16) (s : State) : State :=
  let t := (s.wr SMC_STRAPS_NOW0 (strapLevel v0)).wr SMC_STRAPS_NOW1 (strapLevel v1)
  if s.bit SMC_STRAPS_VALID then
    let u := if s.pmu.strapD2 then strapChange { t with pmu := { t.pmu with strapD2 := false } } else t
    refreshCeiling 0 (chooseProfile u)
  else
    let t := ((t.wr SMC_STRAPS_LEVEL0 (strapLevel v0)).wr SMC_STRAPS_LEVEL1 (strapLevel v1)).wr SMC_STRAPS_VALID 1
    refreshCeiling 0 (chooseProfile t)

/-- STRAP_READ: the read every 1 ms; four reads in a row that differ from the latched level are a change. In D2 the AON
domain reads them (R332, R446). -/
def execStrapRead (v0 v1 : BitVec 16) (s : State) : State :=
  if !s.bit SMC_STRAPS_VALID then s
  else
    let n0 := if strapLevel v0 = s.rd SMC_STRAPS_LEVEL0 then 0 else s.smc.strapBad0 + 1
    let n1 := if strapLevel v1 = s.rd SMC_STRAPS_LEVEL1 then 0 else s.smc.strapBad1 + 1
    let t := { s with smc := { s.smc with strapBad0 := min n0 4, strapBad1 := min n1 4 } }
    let hit := decide (4 ≤ n0 ∨ 4 ≤ n1)
    if s.pmu.off ∨ 2 ≤ s.rd PMU_STAT_STATE then
      (if hit then { t with pmu := { t.pmu with strapD2 := true } } else t)
    else
      let t := (t.wr SMC_STRAPS_NOW0 (strapLevel v0)).wr SMC_STRAPS_NOW1 (strapLevel v1)
      if hit then strapChange t else t

/-! ### The safety parameter block -/

/-- The bytes of an SPB image, in address order (R1). -/
def spbBytes (w : List Nat) : List Nat := bytesOfWords w

/-- The seal digest: the first 16 bytes of the SHA-256 of the image (R336). -/
def spbDigest (w : List Nat) : List Nat := (sha256 (spbBytes w)).take 16

/-- Ranges of the fields of word `i` of an SPB image, check 5 of R338 (R336). -/
def spbWordOk (i x : Nat) : Bool :=
  let limp := x / 16 % 8
  match i with
  | 0 => decide (x / 16 % 16 ≤ 3 ∧ x % 16 ≤ 3)
  | 1 => decide (x / 65536 = 0)
  | 2 => decide (x / 128 = 0 ∧ x / 8 % 2 = 0 ∧ 2 ≤ limp ∧ limp ≤ 4)
  | 3 => decide (x / 65536 % 1024 ≤ 1008 ∧ (x / 65536 / 1024 = 0 ↔ x / 65536 % 1024 = 0) ∧ x / 256 % 256 = 0)
  | 4 => decide (x / 65536 ≤ 63504 ∧ x % 65536 ≤ 63504)
  | 5 | 6 => decide (x / 2 ^ 24 = 0)
  | 7 => decide (10 ≤ x / 65536 ∧ x / 65536 ≤ 500 ∧ 1 ≤ x / 4096 % 16 ∧ x / 4096 % 16 ≤ 8 ∧ x / 64 % 64 = 0
      ∧ 1 ≤ x % 64 ∧ x % 64 ≤ 32)
  | 8 => decide (x / 65536 = 0 ∧ 1 ≤ x / 256 % 256 ∧ x / 256 % 256 ≤ 127 ∧ x / 16 % 16 = 0)
  | 26 => decide (x / 64 = 0 ∧ x % 64 ≤ 48)
  | _ => if 9 ≤ i ∧ i ≤ 24 then decide (x % 65536 ≤ 640 ∧ x / 65536 ≤ 640) else true

/-- Check 6 of R338: word `i` stays within the built-in profile `b`. -/
def spbWithin (b p : Profile) (i : Nat) : Bool :=
  match i with
  | 2 => decide (p.hb ≤ b.hb ∧ p.solo ≤ b.solo)
  | 3 => decide (p.plainCode / 1024 ≤ b.plainCode / 1024 ∧ b.plainMargin ≤ p.plainMargin)
  | 4 => decide (p.pxLow ≤ b.pxLow ∧ p.pxHigh ≤ b.pxHigh)
  | 5 => decide (p.grpLow ≤ b.grpLow)
  | 6 => decide (p.grpHigh ≤ b.grpHigh)
  | 8 => decide (b.aimWorst ≤ p.aimWorst ∧ b.aimMargin ≤ p.aimMargin)
  | _ => true

/-- Address and value of pair `i` of an SPB (R336). -/
def spbPair (w : List Nat) (i : Nat) : Nat × Nat := (w.getD (27 + 2 * i) 0, w.getD (28 + 2 * i) 0)

/-- Check 8 of R338 for one pair. -/
def spbPairOk (p : Nat × Nat) : Bool :=
  decide ((regInfo p.1).any (fun r => decide (r.acc = .rwl))) && rangeOk p.1 (BitVec.ofNat 32 p.2)

/-- The first failing check of R338, with its word INDEX. DEDUCED: of several words that fail one check, the first is
named (log entry 24). -/
def spbCheck (w : List Nat) (s : State) : Option (Nat × Nat) :=
  let x (i : Nat) : Nat := w.getD i 0
  let n := x 26 % 64
  let l0 := s.rd SMC_STRAPS_LEVEL0
  let l1 := s.rd SMC_STRAPS_LEVEL1
  let p := spbProfile w
  let b := builtin l0 l1
  if x 1 % 65536 ≠ w.length ∨ w.length ≠ 28 + 2 * n then some (1, 1)
  else if x 0 / 256 ≠ 0x535001 then some (2, 0)
  else if !s.bit SMC_STRAPS_VALID ∨ s.bit SMC_STRAPS_CHANGED ∨ x 0 / 16 % 16 ≠ l0 ∨ x 0 % 16 ≠ l1 then
    some (3, 0)
  else if x (27 + 2 * n) ≠ crc32 (spbBytes (w.take (27 + 2 * n))) then some (4, 27 + 2 * n)
  else match (List.range 27).find? (fun i => !spbWordOk i (x i)) with
    | some i => some (5, i)
    | none =>
      match (List.range 27).find? (fun i => !spbWithin b p i) with
      | some i => some (6, i)
      | none =>
        match (List.range 32).find? (fun g => decide (spbFloor w g + 16 < builtinFloor l1 g)) with
        | some g => some (7, 9 + g / 2)
        | none =>
          match (List.range n).find? (fun i => !spbPairOk (spbPair w i)) with
          | some i => some (8, 27 + 2 * i)
          | none => none

/-- SMC_LOAD_ERR reports a rejected load. -/
def smcLoadErr (src code idx : Nat) (s : State) : State :=
  ((s.wr SMC_LOAD_ERR_SOURCE src).wr SMC_LOAD_ERR_CODE code).wr SMC_LOAD_ERR_INDEX idx

/-- SPB_LOAD (R337 to R339). -/
def spbLoad (o : Outst) (s : State) : Res :=
  let p0 := o.cmd.p0
  let w := o.cmd.words.map BitVec.toNat
  let mode := p0 % 4
  let lock := decide (p0 / 4 % 2 = 1)
  if 8 ≤ p0 ∨ 2 ≤ mode ∨ (lock ∧ mode = 0) ∨ (mode = 1 ∧ s.smc.sealFuse.isSome) then ans s .badParam
  else if s.smc.spbNext.any (fun p => p.cmd.isSome) then ans s .busy
  else if s.smc.sealFuse.any (fun d => decide (d ≠ spbDigest w)) then
    ans (raise 0x45 0 { s with smc := { s.smc with mismatch := true } }) .sealMismatch
  else match spbCheck w s with
    | some (code, i) => ans (smcLoadErr 0x41 code i s) .tableRejected
    | none =>
      if mode = 0 then ok { s with smc := { s.smc with spbNext := s.smc.spbNext ++ [⟨w, false, false, none⟩] } }
      else answerLater (holdCmd o { s with smc := { s.smc with spbNext := s.smc.spbNext ++ [⟨w, true, lock, some o⟩] } })

/-- The registers that show the fuses (R336, R339). -/
def showFuses (s : State) : State :=
  let t := match s.smc.sealFuse with
    | some d => (s.wr SMC_STAT_SEAL_FUSED 1).forN 4 (fun i u => u.setReg (SMC_SEALn i) (BitVec.ofNat 32 (le32 d (4 * i))))
    | none => s
  t.wr DEV_CONFIG_JTAG_LOCKED (boolNat s.smc.jtagFuse)

/-- The fuses are programmed for an SPB of image words `w`; the seal fuse is programmed once (R336, R339). -/
def burnFuses (w : List Nat) (lock : Bool) (s : State) : State :=
  showFuses { s with smc := { s.smc with
    sealFuse := some (s.smc.sealFuse.getD (spbDigest w)), jtagFuse := s.smc.jtagFuse || lock } }

/-- SPB_SEAL_DONE: the digest is in the fuse, and the sealing SPB_LOAD is answered (R339). -/
def execSpbSealDone (s : State) : State :=
  match s.smc.spbNext.find? (fun p => p.cmd.isSome) with
  | some ⟨w, _, lock, some o⟩ =>
    finishSt o .ok (burnFuses w lock { s with smc := { s.smc with spbNext := s.smc.spbNext.map (fun p => { p with cmd := none }) } })
  | _ => s

/-- A need of DEGRADED-F may have gone: from that rung the engine then goes to the Plain beam at once (R26). -/
def needGone (cause : Nat) (s : State) : State :=
  if s.rd DEV_LADDER_RUNG = 1 ∧ !degradedFReady s then setRung (plainRung s) cause s else s

/-- FB_VALID clears; on DEGRADED-F the engine goes to the Plain beam at once (R26, R349). -/
def fbClear (cause : Nat) (s : State) : State :=
  let t := s.wr SMC_STAT_FB_VALID 0
  if s.bit SMC_STAT_FB_VALID ∧ t.rd DEV_LADDER_RUNG = 1 then setRung (plainRung t) cause t else t

/-- One pair of an SPB is written, and takes effect in the same tick (R339). -/
def spbWritePair (p : Nat × Nat) (s : State) : State :=
  match regInfo p.1 with
  | some r => (s.setReg p.1 (BitVec.ofNat 32 (p.2 &&& r.wmask))).takeAct [p.1]
  | none => s

/-- An accepted SPB takes effect: its pairs are written in image order (R339), FB_VALID clears when FB_CRC differs from
the stored CRC (R349). -/
def spbTake (w : List Nat) (s : State) : State :=
  let t := { s with smc := { s.smc with spb := some w, mismHold := false } }
  let t := t.forL ((List.range (w.getD 26 0 % 64)).map (spbPair w)) spbWritePair
  let t := t.wr DEV_CONFIG_SPB_SEALED (boolNat t.smc.sealFuse.isSome)
  let t := t.when (t.bit SMC_STAT_FB_VALID && decide (w.getD 25 0 ≠ t.smc.fbCrc)) (fbClear 0)
  refreshCeiling 0 (chooseProfile t)

/-- The SPB at a tick: a seal mismatch takes effect, then the accepted SPBs whose programming is over, in order, with their pairs
(R335, R338, R339). -/
def spbTick (s : State) : State :=
  let s := if s.smc.mismatch then
      chooseProfile ({ s with smc := { s.smc with mismatch := false, mismHold := true, spb := none } }.wr
        DEV_CONFIG_SPB_SEALED 0)
    else s
  let l := s.smc.spbNext
  let t := { s with smc := { s.smc with spbNext := l.filter (fun p => p.cmd.isSome) } }
  refreshCeiling 0x45 (t.forL (l.filter (fun p => p.cmd.isNone)) (fun p => spbTake p.words))

/-! ### Hemline -/

/-- Entry `g` of a Hemline image. -/
def hemEntry (img : List Nat) (g : Nat) : Nat := img.getD (2 * g) 0 + img.getD (2 * g + 1) 0 * 256

/-- A Hemline image arrives whole: the checks of R340. -/
def hemLoad (img : List Nat) (s : State) : State × Status :=
  if img.length ≠ 64 then (smcLoadErr 4 1 0 s, .tableRejected)
  else match (List.range 32).find? (fun g => decide (640 < hemEntry img g)) with
    | some g => (smcLoadErr 4 2 g s, .tableRejected)
    | none =>
      match (List.range 32).find? (fun g => decide (hemEntry img g < s.smc.floors.getD g 0)) with
      | some g => (smcLoadErr 4 3 g s, .tableRejected)
      | none => ({ s with smc := { s.smc with hemNext := some ((List.range 32).map (hemEntry img)) } }.wr
          SMC_STAT_HEM_LOADED 1, .ok)

/-- H_eff(g) of the frame in play (R342). -/
def hEff (s : State) (g : Nat) : Nat := (s.reg (SMC_HEFFn (g / 2))).toNat / 65536 ^ (g % 2) % 65536

/-- aim_rows of R342. -/
def aimRows (s : State) : Nat :=
  if s.bit SMC_AIM_VALID then
    ceilDiv (toSigned 12 (s.rd SMC_AIM_POS16)).toNat 16 + s.rd SMC_AIM_AIM_MARGIN
  else s.rd SMC_AIM_AIM_WORST

/-- The Hemline at a tick: H_used and H_eff of the frame that starts (R341, R342). -/
def hemTick (s : State) : State :=
  let t := match s.smc.hemNext with
    | some h => { s with smc := { s.smc with hem := h, hemNext := none } }
    | none => s
  let t := (t.wr SMC_AIM_VALID (t.rd LE1_LVL_STAT_AIM_VALID)).wr SMC_AIM_POS16 (t.rd LE1_LVL_STAT_POS16)
  let rows := aimRows t
  let used (g : Nat) : Nat := max (t.smc.hem.getD g 0) (t.smc.floors.getD g 0)
  let eff (g : Nat) : Nat := min 640 (used g + rows)
  (t.wr SMC_AIM_AIM_ROWS (min rows 127)).forN 16 (fun n u =>
    (u.setReg (SMC_HEMn n) (BitVec.ofNat 32 (used (2 * n) + used (2 * n + 1) * 65536))).setReg (SMC_HEFFn n)
      (BitVec.ofNat 32 (eff (2 * n) + eff (2 * n + 1) * 65536)))

/-! ### The mode -/

/-- The mode at a slot-period start: cut-off takes effect (R348). -/
def modeSlot (s : State) : State :=
  if s.smc.modeCut then { s with smc := { s.smc with modeCut := false } }.wr SMC_STAT_MODE 0 else s

/-- The mode at a tick: high takes effect while HB_ALLOWED is 1 (R348). -/
def modeTick (s : State) : State :=
  if s.smc.modeHigh then
    let t := { s with smc := { s.smc with modeHigh := false } }
    if t.bit SMC_PROFILE_HB_ALLOWED then t.wr SMC_STAT_MODE 1 else t
  else s

/-! ### Moving up -/

/-- Zones turn on at a tick, except those confirmed stuck-on (R327, R360); on rung 3 the rung then reads 2 once no zone
is off (R354). -/
def zonesOn (mask : Nat) (s : State) : State :=
  let keep := (255 - mask % 256) ||| s.rd PXH_STUCK_ZONES
  let t := (s.wr DEV_LADDER_ZONES_OFF (s.rd DEV_LADDER_ZONES_OFF &&& keep)).wr SMC_STAT_ZONES_HW
    (s.rd SMC_STAT_ZONES_HW &&& keep)
  if t.rd DEV_LADDER_RUNG = 3 ∧ t.rd DEV_LADDER_ZONES_OFF = 0 then setRung 2 0 t else t

/-- Leaving DARK at a tick: SAFE_OFF goes high, P1 closes in the zones that are on, and P0 waits for the anode switch
(R360). -/
def leaveDark (s : State) : State :=
  let t := { s with smc := { s.smc with relP0 := true, offWait := false } }
  (t.wr SMC_STAT_SAFE_OFF 1).wr SMC_STAT_ZONES_HW (t.rd DEV_LADDER_ZONES_OFF)

/-- An up-move to `r` with zones turning on takes effect at a tick (R360); DEGRADED-F with a need missing becomes the
Plain beam (R26). -/
def moveUp (r mask : Nat) (s : State) : State :=
  let dark := decide (s.rd DEV_LADDER_RUNG = 4)
  let r := if r = 1 ∧ !degradedFReady s then 2 else r
  let keep := (255 - mask % 256) ||| s.rd PXH_STUCK_ZONES
  let t := s.wr DEV_LADDER_ZONES_OFF (s.rd DEV_LADDER_ZONES_OFF &&& keep)
  let t := t.wr SMC_STAT_ZONES_HW (t.rd SMC_STAT_ZONES_HW &&& keep)
  let t := setRung (if r = 2 then plainRung t else r) 0 t
  if dark then leaveDark t else t

/-- The pending RELEASE at a tick (R360, R511): `swap` says that a frame swapped in at this tick, `fb` that it was
composed from the fallback image, `repeated` that the frame was repeated. -/
def releaseTick (swap fb repeated : Bool) (s : State) : State :=
  match s.smc.release with
  | none => s
  | some r =>
    let gone := { s with smc := { s.smc with release := none } }
    if r.target < s.rd SMC_STAT_CEILING then gone
    else if !r.moves then zonesOn r.zones gone
    else if r.target = 2 then moveUp 2 r.zones gone
    else if r.composed ∧ swap ∧ (fb ↔ r.target = 1) then moveUp r.target r.zones gone
    else if r.composed ∧ repeated then
      (if 2 ≤ r.repeats then gone
       else { s with smc := { s.smc with release := some { r with repeats := r.repeats + 1 } } })
    else s

/-- The start-up move at tick 1 (R361). -/
def startUpPlain (s : State) : State :=
  if s.rd DEV_LADDER_RUNG = 4 ∧ s.bit SMC_PROFILE_AUTO_PLAIN ∧ s.rd SMC_STAT_CEILING ≤ 2 ∧ !s.bit SMC_STAT_SAFE_REQ then
    moveUp 2 0xFF s
  else s

/-! ### Safety messages -/

/-- KIND, ARG and ZONES of PARAM0. -/
def msgKind (p0 : Nat) : Nat := p0 / 4096
def msgArg (p0 : Nat) : Nat := p0 / 256 % 16
def msgZones (p0 : Nat) : Nat := p0 % 256
/-- SSEQ of a copy. -/
def msgSseq (o : Outst) : Nat := o.cmd.w 1 / 65536

/-- Whether a copy is restrictive (R351). -/
def msgRestrictive (p0 : Nat) : Bool := decide (msgKind p0 = 1 ∨ (msgKind p0 = 3 ∧ msgArg p0 = 0))

/-- Whether a copy's CRC16, fields and channel obey R351. -/
def msgFormed (o : Outst) : Bool :=
  let p0 := o.cmd.p0
  let q := msgSseq o
  decide (crc16 [p0 % 256, p0 / 256, q % 256, q / 256] = o.cmd.w 1 % 65536)
    && decide ((msgKind p0 = 1 ∧ msgArg p0 = 0 ∧ msgZones p0 ≠ 0) ∨ (msgKind p0 = 2 ∧ msgArg p0 ≤ 2)
        ∨ (msgKind p0 = 3 ∧ msgArg p0 ≤ 1 ∧ msgZones p0 = 0))
    && !dupOf o.w1 && decide (o.w1 / 2 ^ 29 % 4 = 3)

/-- A copy is answered with its outcome (R356). -/
def msgReply (outcome : Nat) (o : Outst) (s : State) : State :=
  let st : Status := if outcome = 8 then .badParam else if outcome = 9 then .safeState else .ok
  let t := { s with cmd := { s.cmd with outst := s.cmd.outst.filter (fun x => decide (x ≠ o)) } }
  replyTo o ⟨st, [outcome * 2 ^ 24 + msgSseq o], none⟩ (t.wr SMC_MSG_OUTCOME outcome)

/-- A late or malformed copy. -/
def msgLate (outcome : Nat) (o : Outst) (s : State) : State := msgReply outcome o (s.bump SMC_COUNT1_LATE)

/-- An acted BLANK (R354, R511). -/
def actBlank (zones : Nat) (s : State) : State :=
  if zones = 0xFF ∧ s.rd DEV_LADDER_RUNG < 4 then goDark 0 s
  else
    let t := match s.smc.release with
      | some r => { s with smc := { s.smc with release := some { r with zones := r.zones &&& (255 - zones) } } }
      | none => s
    zonesOff zones t

/-- An acted RELEASE that CEILING allows becomes pending (R360, R511). One with TARGET 0 or 1 clears CKU_GATE.CMP. -/
def actRelease (target zones : Nat) (s : State) : State :=
  let old := (s.smc.release.map (fun r : Release => r.zones)).getD 0
  let t := s.when (decide (target ≤ 1)) (fun u => u.wr CKU_GATE_CMP 0)
  let tg := if target = 1 ∧ !degradedFReady t then 2 else target
  let r : Release := ⟨tg, old ||| zones, decide (tg < t.rd DEV_LADDER_RUNG), false, 0⟩
  { t with smc := { t.smc with release := some r } }

/-- An acted message takes effect (R348, R354, R360); the flag says that it is refused instead, with outcome 9. -/
def actMsg (p0 : Nat) (s : State) : State × Bool :=
  match msgKind p0 with
  | 1 => (actBlank (msgZones p0) s, false)
  | 2 =>
    if msgArg p0 < s.rd SMC_STAT_CEILING then (s, true) else (actRelease (msgArg p0) (msgZones p0) s, false)
  | _ =>
    if msgArg p0 = 0 then ({ s with smc := { s.smc with modeCut := true, modeHigh := false } }, false)
    else if s.bit SMC_PROFILE_HB_ALLOWED then
      ({ s with smc := { s.smc with modeHigh := true, modeCut := false } }, false)
    else (s, true)

/-- A decision: LAST_SSEQ, the count of its outcome, and no message pending (R353). -/
def msgDecide (sseq outcome : Nat) (s : State) : State :=
  let t := { s with smc := { s.smc with msg := none, decided := true } }
  let t := ((t.wr SMC_MSG_LAST_SSEQ sseq).wr SMC_MSG_PENDING 0).wr SMC_MSG_PEND_PORT 0
  match outcome with
  | 1 => t.bump SMC_COUNT0_AGREED
  | 2 | 3 | 4 => t.bump SMC_COUNT0_ALONE
  | 5 | 6 => t.bump SMC_COUNT1_MISMATCH
  | _ => t

/-- A message is acted with outcome `outcome`, or refused with outcome 9; the outcome is returned. -/
def msgAct (p0 sseq outcome : Nat) (s : State) : State × Nat :=
  let r := actMsg p0 s
  let out := if r.2 then 9 else outcome
  (msgDecide sseq out r.1, out)

/-- Decide a copy alone (R355). -/
def msgAlone (o : Outst) (s : State) : State :=
  let r := msgAct o.cmd.p0 (msgSseq o) 3 s
  msgReply r.2 o r.1

/-- The window of the pending message ends without a twin (R353). -/
def msgWindowEnd (s : State) : State :=
  match s.smc.msg with
  | none => s
  | some p =>
    let q := msgSseq p.o
    if msgRestrictive p.o.cmd.p0 then
      let r := msgAct p.o.cmd.p0 q 2 s
      msgReply r.2 p.o (raise 0x41 (q + 2 * 65536) r.1)
    else msgReply 4 p.o (raise 0x41 (q + 4 * 65536) (msgDecide q 4 s))

/-- The restrictive combination of two copies, as the PARAM0 of its result (R353). -/
def msgCombine (a b : Nat) : Option Nat :=
  if msgKind a = 1 ∨ msgKind b = 1 then
    some (0x1000 + ((if msgKind a = 1 then msgZones a else 0) ||| (if msgKind b = 1 then msgZones b else 0)))
  else if (msgKind a = 3 ∧ msgArg a = 0) ∨ (msgKind b = 3 ∧ msgArg b = 0) then some 0x3000
  else none

/-- The twin of the pending copy arrives (R353). -/
def msgTwin (p o : Outst) (s : State) : State :=
  let q := msgSseq o
  if p.cmd.p0 = o.cmd.p0 ∧ p.cmd.w 1 = o.cmd.w 1 then
    let r := msgAct o.cmd.p0 q 1 s
    msgReply r.2 o (msgReply r.2 p r.1)
  else match msgCombine p.cmd.p0 o.cmd.p0 with
    | some c =>
      let r := msgAct c q 5 s
      msgReply 5 o (msgReply 5 p (raise 0x40 (q + 5 * 65536) r.1))
    | none => msgReply 6 o (msgReply 6 p (raise 0x40 (q + 6 * 65536) (msgDecide q 6 s)))

/-- The other port's HB pin has shown the SMC no beat for HOST_HB_TIMEOUT (R355). -/
def hbSilent (p : Nat) (s : State) : Bool :=
  let seen := (if p % 2 = 0 then s.smc.hbSeenA else s.smc.hbSeenB).getD s.smc.startAt
  decide (seen + s.rd CCX_HOST_TO_TIMEOUT_MS * 1000000 ≤ s.now)

/-- A copy opens a window, or is decided alone when the other host is silent (R352, R355). -/
def msgOpen (o : Outst) (s : State) : State :=
  if hbSilent o.cmd.port.other.num s ∧ (msgRestrictive o.cmd.p0 ∨ s.bit SMC_PROFILE_SOLO_OK) then msgAlone o s
  else
    (({ s with smc := { s.smc with msg := some ⟨o, s.now⟩ } }.wr SMC_MSG_PENDING 1).wr SMC_MSG_PEND_PORT o.cmd.port.num)

/-- The pending window is over at the present time. -/
def msgOver (s : State) : Bool :=
  s.smc.msg.any (fun p => decide (p.t0 + s.rd SMC_PROFILE_W_CMP * 1000000 ≤ s.now))

/-- SAFE_MSG: an admitted copy reaches the SMC (R351 to R356). -/
def safeMsg (o : Outst) (s : State) : Res :=
  let q := msgSseq o
  let s := holdCmd o (if msgOver s then msgWindowEnd s else s)
  let notLater := s.smc.decided && !later 16 q (s.rd SMC_MSG_LAST_SSEQ)
  let t :=
    if !msgFormed o then msgLate 8 o s
    else if notLater then msgLate 7 o s
    else match s.smc.msg with
      | none => msgOpen o s
      | some p =>
        let pq := msgSseq p.o
        if q = pq then (if p.o.cmd.port = o.cmd.port then msgLate 7 o s else msgTwin p.o o s)
        else if later 16 q pq then msgOpen o (msgWindowEnd s)
        else msgLate 7 o s
  answerLater t

/-- SAFE_MSG_WINDOW_END (R353). -/
def execSafeMsgWindowEnd (s : State) : State := msgWindowEnd s

/-! ### Blanking paths -/

/-- SAFE_REQ_QUALIFY (R331). -/
def execSafeReqQualify (s : State) : State :=
  let t := (s.wr SMC_STAT_SAFE_REQ 1).wr SMC_STAT_KILL_ALL 1
  refreshCeiling 0x46 (raise 0x46 0 t)

/-- SAFE_REQ_END: the request ends; the engine does not move up (R331). -/
def execSafeReqEnd (s : State) : State := refreshCeiling 0 (s.wr SMC_STAT_SAFE_REQ 0)

/-- SAFE_OFF_TIMEOUT: 50 µs have passed since the decision (R325). -/
def execSafeOffTimeout (s : State) : State := if s.smc.offWait then safeOffLow s else s

/-- A path has failed: OFFPULSE_FAIL, FAILED, and DARK at once (R330). -/
def pathFailed (path : Nat) (s : State) : State :=
  refreshCeiling 0x43 (raise 0x43 path (s.setBit SMC_OFFPULSE_FAILED path))

/-- SAFE_SNS_TIMEOUT: SAFE_SNS, read as `sns`, has disagreed with SAFE_OFF for too long (R326). -/
def execSafeSnsTimeout (sns : Bool) (s : State) : State :=
  let t := s.wr SMC_STAT_SAFE_SNS (boolNat sns)
  if sns = t.bit SMC_STAT_SAFE_OFF then t else pathFailed 2 t

/-- The rotation P0, P1, P2 advances (R328). -/
def nextPath (s : State) : State := s.wr SMC_OFFPULSE_NEXT ((s.rd SMC_OFFPULSE_NEXT + 1) % 3)

/-- What the pulse on P0 must show (R329): a row that is not killed shows the kill before the pulse ends and none from 0.5 µs after
it; a row that is killed already is not released, and shows it throughout. -/
def killPasses (b : OffObs) (s : State) : Bool :=
  (List.range 640).all (fun r =>
    if s.bit SMC_STAT_KILL_ALL || storeGet false s.smc.killRows r then b.killHeld.getLsbD r
    else b.kill.getLsbD r && !b.killLate.getLsbD r)

/-- What the pulse on P1 must show (R329), zone by zone in the same way. -/
def zonesPass (b : OffObs) (s : State) : Bool :=
  (List.range 8).all (fun z =>
    if s.bitOf SMC_STAT_ZONES_HW z then b.openHeld.getLsbD z else b.opens.getLsbD z && b.closed.getLsbD z)

/-- A path passes its test (R329). -/
def pathPasses (path : Nat) (b : OffObs) (s : State) : Bool :=
  match path with
  | 0 => killPasses b s
  | 1 => zonesPass b s
  | _ => if s.bit SMC_STAT_SAFE_OFF then b.snsOpen else b.snsHeld

/-- One off-pulse test, a pulse of PULSE_LEN, with what the readbacks show (R328 to R330); each SAFE_TEST that forced it to fail is
answered (R368). -/
def offPulse (b : OffObs) (s : State) : State :=
  let p := s.rd SMC_OFFPULSE_NEXT
  let forced := s.smc.forceFail.filter (fun f => decide (f.1 = p))
  let good := pathPasses p b s && forced.isEmpty
  let t := { s with smc := { s.smc with offSeen := true, pulse := some (p, s.rdAct SMC_CFG_PULSE_LEN),
                                        forceFail := s.smc.forceFail.filter (fun f => decide (f.1 ≠ p)) } }
  let t := nextPath (t.bump SMC_OFFPULSE_TESTS)
  let t := if good then t.setBit SMC_OFFPULSE_LAST_PASS p else pathFailed p (t.clrBit SMC_OFFPULSE_LAST_PASS p)
  t.forL forced (fun f u => finish f.2 ⟨.ok, [(u.reg SMC_OFFPULSE).toNat], none⟩ u)

/-- A tick ends a frame in which no OFFPULSE was issued: the path that was due counts as failed (R328). -/
def offPulseMissing (s : State) : State :=
  let p := s.rd SMC_OFFPULSE_NEXT
  pathFailed p (nextPath s)

/-- A confirmed stuck-on zone: P1 opens, and the engine goes from any higher rung to ZONE_BLANK (R357). -/
def stuckZoneOff (z : Nat) (s : State) : State :=
  let m := 2 ^ (z % 8)
  let t := (s.wr DEV_LADDER_ZONES_OFF (s.rd DEV_LADDER_ZONES_OFF ||| m)).wr SMC_STAT_ZONES_HW
    (s.rd SMC_STAT_ZONES_HW ||| m)
  if t.rd DEV_LADDER_RUNG < 3 then setRung 3 0x32 t else t

/-! ### Self-checks and ALIVE -/

/-- A failed self-check (R366): hardware kills all rows, opens P1 and stops ALIVE; CEILING 4 calls for DARK. -/
def selfFail (code : Nat) (s : State) : State :=
  let t := if s.bit SMC_SELF_FAILED then s else (s.wr SMC_SELF_FIRST code).wr SMC_SELF_FAILED 1
  let t := ((t.wr SMC_STAT_SELF_FAIL 1).wr SMC_STAT_KILL_ALL 1).wr SMC_STAT_ZONES_HW 0xFF
  let t := { t with smc := { t.smc with aliveEnd := true } }.wr SMC_STAT_ALIVE_RUN 0
  refreshCeiling 0x47 (raise 0x47 code (updLimp t))

/-- One run of check `code` (R365): its result, and what a failure does. -/
def selfRun (code : Nat) (fails : Bool) (s : State) : State :=
  if fails then selfFail code (s.setBit SMC_SELF_RESULT code) else s.clrBit SMC_SELF_RESULT code

/-- SELF_CHECK: a check of R365 runs. -/
def execSelfCheck (code : Fin 6) (fails : Bool) (s : State) : State := selfRun code.val fails s

/-- ALIVE may toggle (R363). -/
def aliveOk (s : State) : Bool :=
  !s.bit SMC_SELF_FAILED && s.bit SMC_STRAPS_VALID && s.bit FCR_ALIVE_CONTRIB && !s.smc.aliveEnd

/-- BOOT_SELF_CHECK_DONE: ALIVE starts to toggle (R363). -/
def execBootSelfCheckDone (s : State) : State := if aliveOk s then s.wr SMC_STAT_ALIVE_RUN 1 else s

/-- ALIVE_TOGGLE (R363). -/
def execAliveToggle (s : State) : State :=
  if s.bit SMC_STAT_ALIVE_RUN ∧ aliveOk s then { s with smc := { s.smc with alive := !s.smc.alive } }
  else s.wr SMC_STAT_ALIVE_RUN 0

/-! ### SAFE_STATUS and SAFE_TEST -/

/-- SAFE_STATUS (R367). -/
def safeStatus (o : Outst) (s : State) : Res :=
  if o.cmd.p0 ≠ 0 then ans s .badParam
  else okW s ([SMC_STAT, SMC_STRAPS, SMC_PROFILE, SMC_AIM, SMC_MSG, SMC_OFFPULSE, SMC_SELF, DEV_LADDER].map
    (fun a => (s.reg a).toNat))

/-- SAFE_TEST (R368). The command observes the results of the checks it runs: word 0 of `obs` the three bits of the
checker test, word 1 the checks 1, 2, 3 and 5 that fail. -/
def safeTest (o : Outst) (s : State) : Res :=
  let p0 := o.cmd.p0
  let chk := o.cmd.obs.getD 0 7 % 8
  let bad := o.cmd.obs.getD 1 0
  let path := p0 % 4
  if p0 / 4 % 1024 ≠ 0 then ans s .badParam
  else match p0 / 4096 with
    | 1 => if path = 3 then ans s .badParam else okW (selfRun 4 (decide (chk ≠ 7)) s) [chk]
    | 2 =>
      if path = 3 then ans s .badParam
      else
        let t := s.forL [1, 2, 3, 4, 5] (fun i u =>
          selfRun i (if i = 4 then decide (chk ≠ 7) else decide (bad / 2 ^ i % 2 = 1)) u)
        okW t [(t.reg SMC_SELF).toNat]
    | 3 =>
      if path = 3 then ans s .badParam
      else if s.rd DEV_LADDER_RUNG ≠ 4 then ans s .safeState
      else answerLater (holdCmd o { s with smc := { s.smc with forceFail := s.smc.forceFail ++ [(path, o)] } })
    | _ => ans s .badParam

end Sys2Proof.Machine
end

