-- ==== Sys2Proof/Machine/Pixel.lean ====
section
/-!
DEFINITION. Pixel drive: where a pixel sits, the trim and health records, the code path of R62 with the Plain beam of
R85, the loading of back latches with its sums and SLC checks, and the TRANSFER with the current guard and the row veto
(R58 to R86, R344 to R346).
-/
namespace Sys2Proof.Machine

/-! ### Where a pixel sits -/

/-- Rows, columns and pixels of the array. -/
def nRows : Nat := 640
def nCols : Nat := 2048
def nPixels : Nat := 1310720

def rowOf (p : Nat) : Nat := p / 2048
def colOf (p : Nat) : Nat := p % 2048
/-- Column group, anode zone, thermal zone and sequencer of a pixel. -/
def groupOf (p : Nat) : Nat := colOf p / 64
def zoneOf (p : Nat) : Nat := colOf p / 256
def thermOf (p : Nat) : Nat := rowOf p / 160 * 16 + colOf p / 128
def seqOf (p : Nat) : Nat := colOf p / 512

/-! ### Addresses of the on-chip tables (R70, R165) -/

def frameAddr (bank p : Nat) : Nat := 0x1000000 + bank * 0x280000 + 2 * p
def trimAddr (p : Nat) : Nat := 0x1500000 + 3 * p / 2
def healthAddr (p : Nat) : Nat := 0x16E0000 + p / 2
def patAddr (n c : Nat) : Nat := 0x1780000 + n * 0x20000 + 2 * c
/-- The spare-adjust entries lie in the miscellaneous region, whose layout the spec does not give (DESIGN CHOICE, log
entry 26: its last 256 bytes). -/
def spadjAddr (i : Nat) : Nat := 0x1BFFF00 + 2 * i

/-! ### Latches -/

/-- A back or front latch: A in [5:0], T in [15:6], E in [16]. -/
def latch (a t e : Nat) : BitVec 17 := BitVec.ofNat 17 (a % 64 + t % 1024 * 64 + e % 2 * 65536)
def latA (l : BitVec 17) : Nat := l.toNat % 64
def latT (l : BitVec 17) : Nat := l.toNat / 64 % 1024
def latE (l : BitVec 17) : Nat := l.toNat / 65536

/-- The back and front latch of a pixel. -/
def backOf (s : State) (p : Nat) : BitVec 17 := storeGet 0 s.pxa.back p
def frontOf (s : State) (p : Nat) : BitVec 17 := storeGet 0 s.pxa.front p

/-! ### Records -/

/-- The trim record of a pixel; 0x800 after reset (R75). -/
def trimOf (s : State) (p : Nat) : Nat := (storeGet 0x800#12 s.pxa.trim p).toNat
def setTrim (p v : Nat) (s : State) : State :=
  { s with pxa := { s.pxa with trim := storeSet 0x800#12 s.pxa.trim p (BitVec.ofNat 12 v) } }

/-- Whether the SRAM word `w` (window address / 8) holds bits of the trim record of pixel `p`. -/
def trimWord (p w : Nat) : Bool := decide (trimAddr p / 8 ≤ w ∧ w ≤ (trimAddr p + 1) / 8)

/-- The errors `errs` of a step with those of the trim words of the pixels `l` that a partial write has left (R161, R167). -/
def trimErrs (errs : List EccErr) (l : List Nat) (s : State) : List EccErr :=
  leftBad (fun w => l.any (fun p => trimWord p w)) errs s

/-- One record is written by itself, a partial write of its word: read, merged and written. Where the read is uncorrectable the
word stays so (R161, R167). -/
def mergeTrim (errs : List EccErr) (p v : Nat) (s : State) : State :=
  let hit := (errs.filter (fun e => e.ue && trimWord p (e.addr / 8))).map (fun e => e.addr / 8)
  let t := setTrim p v (noteErrs (trimErrs errs [p] s) s)
  { t with smem := { t.smem with sramBad := hit.foldl (fun m w => storeSet false m w true) t.smem.sramBad } }

/-- The words of row `r` of the trim map are written whole (R161). -/
def wholeTrimRow (r : Nat) (s : State) : State :=
  { s with smem := { s.smem with
      sramBad := s.smem.sramBad.filter (fun x => decide (x.1 < trimAddr (2048 * r) / 8 ∨ trimAddr (2048 * (r + 1)) / 8 ≤ x.1)) } }

def trimGain (t : Nat) : Nat := t / 16
def trimSpare (t : Nat) : Nat := t / 8 % 2
def trimDead (t : Nat) : Nat := t / 4 % 2
def trimAdj (t : Nat) : Nat := t % 4

/-- The health nibble of a pixel: STATE in [3:2], AGE in [1:0]. -/
def healthOf (s : State) (p : Nat) : Nat := (storeGet 0#4 s.pxh.health p).toNat
def healthState (h : Nat) : Nat := h / 4
def healthAge (h : Nat) : Nat := h % 4

/-- A spare-adjust factor (R76). -/
def spadjOf (s : State) (i : Nat) : Nat := storeGet 1024 s.pxa.spadj i

/-- Pattern entry `c` of index `k`. -/
def patOf (s : State) (k c : Nat) : Nat := (storeGet 0#16 s.pxa.pats (k * 65536 + c)).toNat

/-- DR of a thermal zone as sampled at the slot-period start (R63). -/
def drOf (s : State) (t : Nat) : Nat := storeGet 255 s.pxa.drNow t

/-- The frame-store code of a pixel in the bank in play. -/
def codeOf (s : State) (p : Nat) : Nat := (storeGet 0#16 (if s.cmp.play = 0 then s.cmp.bank0 else s.cmp.bank1) p).toNat

/-- Zone `z` is off by DEV_LADDER.ZONES_OFF. -/
def zoneIsOff (s : State) (z : Nat) : Bool := s.bitOf DEV_LADDER_ZONES_OFF z

/-! ### The code path -/

/-- Stage 1 of R62. -/
def codeStage1 (c0 gain sq : Nat) : Nat := sat16 ((c0 * (384 + gain) * sq + 262144) / 524288)

/-- Stage 2 of R62. -/
def codeStage2 (c1 dr b : Nat) : Nat := sat16 ((c1 * (dr + 1) * b + 4194304) / 8388608)

/-- The drive word, and whether a read of the path met an uncorrectable error, for pixel `p` with Pattern `k`: stages 1 to
3 of R62, and R64. -/
def codePath (errs : List EccErr) (k p : Nat) (s : State) : Nat × Bool :=
  let tr := trimOf s p
  let i := groupOf p * 4 + trimAdj tr
  let sq := if trimSpare tr = 1 then spadjOf s i else 1024
  let c1 := codeStage1 (codeOf s p) (trimGain tr) sq
  let c2 := codeStage2 c1 (drOf s (thermOf p)) (s.rd PXA_BUDGET_B)
  let forced := decide (trimDead tr = 1 ∨ healthState (healthOf s p) = 3) || storeGet false s.thm.blankNow (thermOf p)
    || zoneIsOff s (zoneOf p) || !s.bitOf PXA_STAT_PAT_VALID k
  let ue := ueIn errs (trimAddr p) 2 || ueIn errs (healthAddr p) 1 || (decide (trimSpare tr = 1) && ueIn errs (spadjAddr i) 2)
    || (!forced && ueIn errs (patAddr k c2) 2)
  (if forced then 0 else patOf s k c2, ue)

/-- The back latch of pixel `p` from the code path (R62, R64, R150). -/
def codeLatch (errs : List EccErr) (k p : Nat) (s : State) : BitVec 17 :=
  let e := codePath errs k p s
  if e.2 then latch 0 0 (latE (backOf s p))
  else if ueIn errs (frameAddr s.cmp.play p) 2 then latch 0 0 (trimSpare (trimOf s p))
  else latch (e.1 / 1024) (e.1 % 1024) (trimSpare (trimOf s p))

/-- The first lit row of group `g` in the Plain beam (R111). -/
def plainFrom (s : State) (g : Nat) : Nat := hEff s g + s.rd SMC_PLAIN_PLAIN_MARGIN

/-- The back latch of pixel `p` from the Plain beam generator (R85, R111). -/
def plainLatch (errs : List EccErr) (p : Nat) (s : State) : BitVec 17 :=
  let trUe := ueIn errs (trimAddr p) 2
  let e := if trUe then latE (backOf s p) else trimSpare (trimOf s p)
  if trUe || ueIn errs (healthAddr p) 1 || decide (healthState (healthOf s p) = 3) || zoneIsOff s (zoneOf p)
      || decide (rowOf p < plainFrom s (groupOf p)) then latch 0 0 e
  else latch (s.rd PXA_PLAIN_A_EFF) (s.rd SMC_PLAIN_PLAIN_CODE % 1024) e

/-- The back latch that a load writes, by the source of the slot period (R108): MODE 1 the code path, 2 the Plain beam,
3 dark. -/
def loadLatch (mode : Nat) (errs : List EccErr) (k p : Nat) (s : State) : BitVec 17 :=
  match mode with
  | 1 => codeLatch errs k p s
  | 2 => plainLatch errs p s
  | _ => latch 0 0 (latE (backOf s p))

/-! ### Loading rows -/

/-- The pixels of rows `r0` to `r0 + n - 1` in sequencer `q`'s columns. -/
def blockPixels (q r0 n : Nat) : List Nat :=
  (List.range n).flatMap (fun i => (List.range 512).map (fun c => (r0 + i) * 2048 + q * 512 + c))

/-- E_PX and E_GRP of the mode in effect (R344). -/
def limPx (s : State) : Nat := if s.bit SMC_STAT_MODE then s.rd SMC_LIM_PX_E_PX_HIGH else s.rd SMC_LIM_PX_E_PX_LOW
def limGrp (s : State) : Nat := if s.bit SMC_STAT_MODE then s.rd SMC_LIM_GRP_HIGH_E_GRP else s.rd SMC_LIM_GRP_LOW_E_GRP

/-- A pixel lies in the Selvage (R344). -/
def inSelvage (s : State) (p : Nat) : Bool := decide (rowOf p < hEff s (groupOf p))

/-- One pixel's back latch is written, summed (R82) and tapped by the SMC (R344). -/
def putLatch (x : Nat × BitVec 17) (s : State) : State :=
  let p := x.1
  let a := latA x.2
  let at_ := a * latT x.2
  let px := s.pxa
  let z := zoneOf p
  let t := { s with pxa := { px with
      back := storeSet 0 px.back p x.2,
      sumA := storeSet 0 px.sumA z (storeGet 0 px.sumA z + a),
      sumAT := storeSet 0 px.sumAT z (storeGet 0 px.sumAT z + at_) } }
  if inSelvage s p then
    let g := groupOf p
    let r := rowOf p
    let f := storeGet 0 s.smc.pxFail r
    { t with smc := { t.smc with
        grpSum := storeSet 0 s.smc.grpSum g ((storeGet 0 s.smc.grpSum g + at_) % 2 ^ 32),
        pxFail := if limPx s < at_ then storeSet 0 s.smc.pxFail r (f ||| 2 ^ g) else s.smc.pxFail } }
  else t

/-- A LOAD of `n` rows from `r0` in sequencer `q`'s columns (R58, R89). -/
def loadRows (mode : Nat) (errs : List EccErr) (q k r0 n : Nat) (s : State) : State :=
  let px := blockPixels q r0 n
  let left := if s.smem.sramBad.isEmpty then [] else trimErrs errs px s
  let errs := errs ++ left
  let s := noteErrs left s
  let t := s.forL (px.map (fun p => (p, loadLatch mode errs k p s))) putLatch
  if mode = 1 ∧ px.any (fun p => ueIn errs (frameAddr s.cmp.play p) 2) then t.wr CMP_STAT_MARKED 1 else t

/-- The sums of a slot restart with its first load (R82, R344). -/
def clearSums (s : State) : State :=
  { s with pxa := { s.pxa with sumA := [], sumAT := [] }, smc := { s.smc with grpSum := [], pxFail := [] } }

/-! ### The Plain beam's level -/

/-- N_lit of zone `z` (R85). -/
def litOf (s : State) (z : Nat) : Nat :=
  if zoneIsOff s z then 0
  else (List.range 4).foldl (fun n i => n + 64 * (640 - min 640 (plainFrom s (z * 4 + i)))) 0

/-- N_lit and A_EFF of R85, while the rung is a Plain one; 0 on another rung. -/
def plainLevel (s : State) : State :=
  if s.rd DEV_LADDER_RUNG = 2 ∨ s.rd DEV_LADDER_RUNG = 3 then
    let l := (List.range 8).map (litOf s)
    let tot := l.foldl (· + ·) 0
    let cap (lim n a : Nat) : Nat := if n = 0 then a else min a (lim * 1600 / n)
    let a := cap (s.rd PXA_RAIL_LIMIT_ACT_LIMIT_MA) tot (s.rd SMC_PLAIN_PLAIN_CODE / 1024)
    let a := (List.range 8).foldl (fun a z => cap (s.rd (PXA_ZONE_LIMITn_ACT_LIMIT_MA z)) (l.getD z 0) a) a
    (s.wr PXA_PLAIN_N_LIT tot).wr PXA_PLAIN_A_EFF a
  else s.setReg PXA_PLAIN 0#32

/-! ### TRANSFER -/

/-- The limits that the current guard of a slot uses (R83): the rail, then zones 0 to 7. DEDUCED: a slot of the built-in
schedule, which has no B, uses the limits in effect (log entry 27). -/
def guardLimits (mode : Nat) (s : State) : List Nat :=
  if mode = 1 then s.pxa.limPlay
  else s.rd PXA_RAIL_LIMIT_ACT_LIMIT_MA :: (List.range 8).map (fun z => s.rd (PXA_ZONE_LIMITn_ACT_LIMIT_MA z))

/-- The zones that the current guard darkens, as a mask, and whether the rail limit was exceeded (R83). -/
def guardZones (lim : List Nat) (s : State) : Nat × Bool :=
  let sums := (List.range 8).map (fun z => storeGet 0 s.pxa.sumA z)
  if lim.getD 0 0 * 8000 < sums.foldl (· + ·) 0 * 5 then (255, true)
  else ((List.range 8).foldl (fun m z => if lim.getD (z + 1) 0 * 8000 < sums.getD z 0 * 5 then m + 2 ^ z else m) 0, false)

/-- The groups that fail the group check of R344, as a list. -/
def groupsFailing (s : State) : List Nat := (List.range 32).filter (fun g => decide (limGrp s < storeGet 0 s.smc.grpSum g))

/-- Whether the SMC vetoes row `r` (R345). -/
def rowVetoed (s : State) (r : Nat) : Bool :=
  decide (storeGet 0 s.smc.pxFail r ≠ 0) || (groupsFailing s).any (fun g => decide (r < hEff s g))

/-- The SMC's record of a slot with a veto (R345). -/
def noteVeto (rows : List Nat) (s : State) : State :=
  match rows with
  | [] => s
  | r :: _ =>
    let fails (g : Nat) : Bool := decide (g ∈ groupsFailing s) || s.smc.pxFail.any (fun x => decide (x.2 / 2 ^ g % 2 = 1))
    let g := (List.range 32).foldl (fun m g => if fails g then g else m) 0
    let t := (s.bump SMC_VETO_COUNT).wr SMC_VETO_GROUP_CHK (boolNat (decide (g ∈ groupsFailing s)))
    let t := (t.wr SMC_VETO_GROUP g).wr SMC_VETO_ROW r
    raise 0x42 (t.reg SMC_VETO).toNat t

/-- The record of a slot that the current guard treats (R83). -/
def noteGuard (zones : Nat) (rail : Bool) (s : State) : State :=
  if zones = 0 then s
  else ((s.bump PXA_GUARD_GUARD_CNT).wr PXA_GUARD_ZONES zones).wr PXA_GUARD_RAIL (boolNat rail)

/-- SUM_A and SUM_AT of the slot transferred are shown (R82, R115), before the current guard. -/
def showSums (s : State) : State :=
  let a (z : Nat) : Nat := storeGet 0 s.pxa.sumA z
  let b (z : Nat) : Nat := storeGet 0 s.pxa.sumAT z
  let tot (f : Nat → Nat) : Nat := (List.range 8).foldl (fun n z => n + f z) 0
  let t := (s.wr PXA_SUM_A_SUM_A (tot a)).wr PXA_SUM_AT_AVG (tot b / 1024)
  t.forN 4 (fun q u =>
    (((u.wr (SEQ_SUM_A_LO_SUM_A q) (a (2 * q))).wr (SEQ_SUM_A_HI_SUM_A q) (a (2 * q + 1))).wr (SEQ_SUM_AT_LO_AVG q)
      (b (2 * q) / 1024)).wr (SEQ_SUM_AT_HI_AVG q) (b (2 * q + 1) / 1024))

/-- P0 is released at the first TRANSFER at which SAFE_SNS conducts after the engine has left DARK (R360). -/
def releaseP0 (s : State) : State :=
  if s.smc.relP0 && s.bit SMC_STAT_SAFE_SNS && !s.bit SMC_STAT_SAFE_REQ && !s.bit SMC_STAT_SELF_FAIL then
    { s with smc := { s.smc with relP0 := false } }.wr SMC_STAT_KILL_ALL 0
  else s

/-- The front latches after a TRANSFER: every back latch, with A = 0 and T = 0 where `dark` holds (R59, R83, R345). -/
def frontFrom (dark : Nat → Bool) (back : List (Nat × BitVec 17)) : List (Nat × BitVec 17) :=
  (back.map (fun x => (x.1, if dark x.1 then latch 0 0 (latE x.2) else x.2))).filter (fun x => decide (x.2 ≠ 0))

/-- TRANSFER of a slot loaded from source `mode` (R59, R83, R91, R345, R346); `darkSeq` names the sequencers whose columns
load dark (R110). -/
def transferLatches (mode : Nat) (darkSeq : List Nat) (s : State) : State :=
  let gz := guardZones (guardLimits mode s) s
  let rows := (List.range 640).filter (rowVetoed s)
  let dark (p : Nat) : Bool :=
    decide (gz.1 / 2 ^ zoneOf p % 2 = 1) || decide (rowOf p ∈ rows) || decide (seqOf p ∈ darkSeq)
  let px := s.pxa
  let ff (m : List (Nat × Nat)) : List (Nat × Nat) := m.filter (fun x => decide (gz.1 / 2 ^ x.1 % 2 = 0))
  let t := { s with
    pxa := { px with front := frontFrom dark px.back, ffA := ff px.sumA, ffAT := ff px.sumAT },
    seq := { s.seq with stagFront := s.seq.stagBack },
    smc := { s.smc with killRows := rows.map (fun r => (r, true)), grpFront := s.smc.grpSum } }
  releaseP0 (noteVeto rows (noteGuard gz.1 gz.2 (showSums t)))

/-! ### Proof screening -/

/-- One listed pixel is screened (R347): the pixels admitted so far, and the proof energy of each group so far. -/
def screenOne (w : Nat) (s : State) (x : List Nat × List (Nat × Nat)) (p : Nat) : List Nat × List (Nat × Nat) :=
  let f := frontOf s p
  let e := s.rdAct PXH_VERIFY_A_PROOF * w
  let g := groupOf p
  let used := storeGet 0 s.smc.grpFront g + storeGet 0 x.2 g + e
  if !inSelvage s p || (decide (latA f * latT f + e ≤ limPx s) && decide (used ≤ limGrp s)) then
    (x.1 ++ [p], storeSet 0 x.2 g (storeGet 0 x.2 g + e))
  else x

/-- The pixels of a proof list that the SMC admits, among the first `reach` of the list: those that screening has reached
when the window opens (R347). -/
def screenList (w reach : Nat) (list : List Nat) (s : State) : List Nat :=
  ((list.take reach).foldl (screenOne w s) ([], [])).1

/-- PXA_CTRL.CNT_CLR (R86). -/
def pxaCntClr (s : State) : State := s.setReg PXA_GUARD 0#32

end Sys2Proof.Machine
end

