-- ==== Sys2Proof/Machine/Seq.lean ====
section
/-!
DEFINITION. Slot schedules and sequencers: event words, the checks of a schedule image (R102, R103, R509), its buffers
(R104, R105), activation (R106, R107), the source of the loads (R108), the built-in schedule (R113) and the walk of a slot
list (R87, R110).
-/
namespace Sys2Proof.Machine

/-! ### Event words -/

def evCode (w : Nat) : Nat := w / 67108864
def evStitch (w : Nat) : Nat := w / 65536 % 1024
def evArg (w : Nat) : Nat := w % 65536

/-- An event word from its code, stitch and argument. -/
def evWord (code stitch arg : Nat) : Nat := code * 67108864 + stitch * 65536 + arg

/-- The event codes of R88. -/
def evLoad : Nat := 1
def evTransfer : Nat := 2
def evMeas : Nat := 3
def evProof : Nat := 4
def evOffpulse : Nat := 5
def evDarkscan : Nat := 6
def evTempDemand : Nat := 7
def evAdcTrig : Nat := 8
def evCalWin : Nat := 9
def evLoopFf : Nat := 10
def evPatternSel : Nat := 11
def evStagger : Nat := 12
def evEnd : Nat := 63

/-- Whether a code is one of the event table. -/
def evKnown (c : Nat) : Bool := decide (1 ≤ c ∧ c ≤ 12 ∨ c = 63)

/-- The rows of a LOAD, and its first row. -/
def loadRowsOf (w : Nat) : Nat := evArg w / 1024 + 1
def loadRow0 (w : Nat) : Nat := evArg w % 1024

/-- Stitches an event occupies (R88). -/
def evOcc (w : Nat) : Nat :=
  let c := evCode w
  if c = 1 then ceilDiv (loadRowsOf w) 14
  else if c = 2 then 1
  else if c = 4 ∨ c = 9 then max 1 (evArg w % 16)
  else if c = 5 then 10
  else if c = 6 then 2
  else 0

/-- Check 4 of R103: STITCH lies in the event's allowed range. `tr` and `ld` are the stitches of the list's first TRANSFER
and first LOAD (R509). -/
def evStitchOk (tr ld : Option Nat) (w : Nat) : Bool :=
  let st := evStitch w
  match evCode w with
  | 1 => tr.all (fun t => decide (st + (evOcc w - 1) + 3 ≤ t))
  | 2 => decide (1008 ≤ st)
  | 4 | 9 => decide (1008 ≤ st ∧ st + evOcc w ≤ 1024)
  | 5 => decide (1008 ≤ st ∧ st ≤ 1014)
  | 6 => decide (1008 ≤ st ∧ st ≤ 1022)
  | 10 => tr.all (fun t => decide (t < st))
  | 11 => ld.all (fun l => decide (st ≤ l))
  | 12 => tr.all (fun t => decide (st ≤ t))
  | 63 => decide (st = 0)
  | _ => true

/-- Check 5 of R103: every ARG field is in range and every reserved bit is 0. -/
def evArgOk (w : Nat) : Bool :=
  let a := evArg w
  match evCode w with
  | 1 => decide (loadRow0 w + loadRowsOf w ≤ 640)
  | 2 | 5 | 10 | 63 => decide (a = 0)
  | 3 => decide (1 ≤ a ∧ a ≤ 3)
  | 4 | 9 => decide (1 ≤ a ∧ a ≤ 15)
  | 6 =>
    let b := a % 64
    decide (a / 64 % 512 = 0) && (if a / 32768 = 1 then decide (b ≤ 39 ∨ b = 63) else decide (b = 0))
  | 7 => decide (a ≤ 71 ∨ a = 127)
  | 8 => decide (a ≤ 15)
  | 11 => decide (a ≤ 7)
  | 12 => decide (a / 32768 = 0 ∧ a % 1024 ≤ 1007)
  | _ => false

/-- Whether two events overlap in stitches. -/
def evOverlap (v w : Nat) : Bool :=
  decide (evStitch v < evStitch w + evOcc w ∧ evStitch w < evStitch v + evOcc v)

/-- Whether R101 forbids two events of the seam to overlap. DEDUCED: two DARKSCANs must not overlap each other, as neither may a
DARKSCAN and a CAL_WIN (log entry 124). -/
def evExclusive (v w : Nat) : Bool :=
  let seam (c : Nat) : Bool := decide (c = 2 ∨ c = 4 ∨ c = 5 ∨ c = 6 ∨ c = 9)
  let ex (c : Nat) : Bool := decide (c = 4 ∨ c = 5)
  let pr (c : Nat) : Bool := decide (c = 6 ∨ c = 9)
  let a := evCode v
  let b := evCode w
  seam a && seam b && (ex a || ex b || (pr a && pr b))

/-- Words of code `c` in a list. -/
def evCount (c : Nat) (l : List Nat) : Nat := (l.filter (fun w => decide (evCode w = c))).length

/-- The first word of code `c` in a list. -/
def evFind (c : Nat) (l : List Nat) : Option Nat := l.find? (fun w => decide (evCode w = c))

/-- The most words of a code that a slot list may hold, by check 13 of R103. -/
def evLimit (c : Nat) : Nat :=
  if c = 11 ∨ c = 4 ∨ c = 9 then 1 else if c = 3 then 8 else if c = 6 then 2 else 4098

/-- The checks of R103 that word `w` of a slot list fails, given the words before it in the list (R509). `tr`, `ld` and
`pf` are the first TRANSFER's stitch, the first LOAD's stitch and the first PROOF word of the list. A PROOF or OFFPULSE that
covers the stitch of a later first TRANSFER fails check 11 itself, since that bound is judged against the first TRANSFER. DEDUCED:
END, which acts at no stitch, is not one of the 16 events of stitch 0 (log entry 125). -/
def wordFails (tr ld pf : Option Nat) (prior : List Nat) (w : Nat) : List Nat :=
  let c := evCode w
  let iff_ (b : Bool) (n : Nat) : List Nat := if b then [n] else []
  if !evKnown c then [3]
  else
    iff_ (!evStitchOk tr ld w) 4 ++ iff_ (!evArgOk w) 5 ++ iff_ (decide (256 ≤ prior.length)) 7
      ++ (if c = 63 then []
          else
            iff_ (prior.getLast?.any (fun v => decide (evStitch w < evStitch v))) 6
            ++ iff_ (decide (16 ≤ (prior.filter (fun v => decide (evStitch v = evStitch w))).length)) 7
            ++ iff_ (decide (c = 1) && prior.any (fun v => decide (evCode v = 1) && evOverlap v w)) 9
            ++ iff_ (decide (c = 2 ∨ c = 10) && decide (0 < evCount c prior)) 10
            ++ iff_ (prior.any (fun v => evExclusive v w && evOverlap v w)
                || (decide (c = 4 ∨ c = 5) && evCount 2 prior = 0 && tr.any (fun t => evOverlap (evWord 2 t 0) w))) 11
            ++ iff_ ((decide (c = 10) && tr.isSome && decide (evCount 2 prior = 0))
                || (decide (c = 12) && decide (0 < evCount 2 prior))) 12
            ++ iff_ (decide (evLimit c ≤ evCount c prior)
                || (decide (c = 12) && prior.any (fun v => decide (evCode v = 12 ∧ evArg v / 1024 = evArg w / 1024)))) 13
            ++ iff_ (decide (c = 3 ∧ 1008 ≤ evStitch w)
                && !pf.any (fun p => decide (evStitch w = evStitch p + evArg p % 16 - 1))) 15)

/-- The checks that a whole list fails at its END word (R509). -/
def endFails (ws : List Nat) : List Nat :=
  let loads := ws.filter (fun w => decide (evCode w = 1))
  let covered (r : Nat) : Bool :=
    decide ((loads.filter (fun w => decide (loadRow0 w ≤ r ∧ r < loadRow0 w + loadRowsOf w))).length = 1)
  let late := (ws.dropWhile (fun w => decide (evCode w ≠ 1))).any (fun w => decide (evCode w = 11))
  (if (List.range 640).all covered then [] else [8])
    ++ (if evCount 2 ws = 0 ∨ evCount 10 ws = 0 then [10] else []) ++ (if late then [12] else [])

/-- The failures of one slot list whose first word has index `base`: word index and code. -/
def listFails (base : Nat) (ws : List Nat) : List (Nat × Nat) :=
  let tr := (evFind 2 ws).map evStitch
  let ld := (evFind 1 ws).map evStitch
  let pf := evFind 4 ws
  let body := (List.range ws.length).flatMap (fun i =>
    (wordFails tr ld pf (ws.take i) (ws.getD i 0)).map (fun c => (base + i, c)))
  if ws.getLast?.any (fun w => decide (evCode w = 63)) then
    body ++ (endFails ws).map (fun c => (base + ws.length - 1, c))
  else body

/-- The slot lists of a list of words, each with its END word; the last one may lack it. -/
def splitLists : List Nat → List (List Nat)
  | [] => []
  | w :: ws =>
    if evCode w = 63 then [w] :: splitLists ws
    else match splitLists ws with
      | [] => [[w]]
      | l :: ls => (w :: l) :: ls

/-- The failures of the slot lists: word, code and slot. -/
def listsFails : Nat → Nat → List (List Nat) → List (Nat × Nat × Nat)
  | _, _, [] => []
  | base, k, l :: ls => (listFails base l).map (fun f => (f.1, f.2, k)) ++ listsFails (base + l.length) (k + 1) ls

/-- The failures of check 14, of the whole image. -/
def imageFails (last slots : Nat) (ws : List Nat) : List (Nat × Nat × Nat) :=
  let offs := (List.range ws.length).filter (fun i => decide (evCode (ws.getD i 0) = 5))
  let scan := ws.any (fun w => decide (evCode w = 6 ∧ evArg w / 32768 = 0))
  let second := match offs with
    | _ :: i :: _ => [(i + 2, 14, evCount 63 (ws.take i))]
    | _ => []
  second ++ (if offs.isEmpty ∨ !scan then [(last, 14, slots - 1)] else [])

/-- The failures of check 16 for sequencer `q`. -/
def groupFails (q : Nat) (ws : List Nat) : List (Nat × Nat × Nat) :=
  ((List.range ws.length).filter (fun i =>
    decide (evCode (ws.getD i 0) = 12 ∧ evArg (ws.getD i 0) / 1024 % 32 / 8 ≠ q))).map
      (fun i => (i + 2, 16, evCount 63 (ws.take i)))

/-- The failure that R509 reports: the first word, then the lowest code. -/
def firstFail : List (Nat × Nat × Nat) → Option (Nat × Nat × Nat)
  | [] => none
  | f :: fs =>
    match firstFail fs with
    | none => some f
    | some g => if f.1 < g.1 ∨ (f.1 = g.1 ∧ f.2.1 ≤ g.2.1) then some f else some g

/-- The first failing check of an image for sequencer `q`: word, code, slot (R103, R509). -/
def schedCheck (q : Nat) (img : List Nat) : Option (Nat × Nat × Nat) :=
  let w := wordsOfBytes img
  if img.length % 4 ≠ 0 ∨ 4098 < w.length ∨ w.isEmpty then some (0, 1, 0)
  else
    let hdr := w.getD 0 0
    let slots := 2 ^ (hdr % 8)
    let ws := w.drop 2
    let lists := splitLists ws
    let keep := (lists.take slots).flatMap id
    let ends := evCount 63 ws
    let last := w.length - 1
    firstFail
      ((if hdr / 2 ^ 24 = 1 ∧ hdr / 8 % 2 ^ 21 = 0 ∧ hdr % 8 ≤ 4 then [] else [(0, 2, 0)])
        ++ (if slots ≤ ends ∧ keep.length < ws.length then [(2 + keep.length, 1, slots - 1)] else [])
        ++ (if ends < slots then [(last, 1, ends)] else [])
        ++ listsFails 2 0 (lists.take slots) ++ imageFails last slots keep ++ groupFails q keep)

/-! ### Buffers -/

/-- A sequencer at reset. -/
def seqIdle : SeqOne := ⟨false, 0, 0, 0, false, false, 0, 0, false⟩
def seqOne (s : State) (q : Nat) : SeqOne := storeGet seqIdle s.seq.one q
def setSeqOne (q : Nat) (x : SeqOne) (s : State) : State :=
  { s with seq := { s.seq with one := storeSet seqIdle s.seq.one q x } }

def SEQ_BUFb_HDR (q b : Nat) : Nat := if b = 0 then SEQ_BUF0_HDR q else SEQ_BUF1_HDR q
def SEQ_BUFb_ID (q b : Nat) : Nat := if b = 0 then SEQ_BUF0_ID q else SEQ_BUF1_ID q

/-- Word `i` of BUFb of SEQq. -/
def bufWord (s : State) (q b i : Nat) : Nat := (storeGet 0#32 s.seq.bufs (q * 8192 + b * 4096 + i)).toNat

/-- The words of a buffer. -/
def bufWords (s : State) (q b : Nat) : List Nat := (List.range (storeGet 0 s.seq.lens (q * 2 + b))).map (bufWord s q b)

/-- A buffer is in use (R104). -/
def bufInUse (s : State) (q b : Nat) : Bool :=
  ((seqOne s q).active && decide (s.rd (SEQ_STAT_ACT_BUF q) = b))
    || (s.bit (SEQ_STAT_LATCHED q) && decide ((seqOne s q).latched = b))

/-- An accepted image is stored in a buffer (R102, R104). -/
def seqStore (b : Nat) (w : List Nat) (q : Nat) (s : State) : State :=
  let ws := w.drop 2
  let base := q * 8192 + b * 4096
  let old := s.seq.bufs.filter (fun x => decide (x.1 < base ∨ base + 4096 ≤ x.1))
  let bufs := (List.range ws.length).foldl (fun m i => storeSet 0#32 m (base + i) (BitVec.ofNat 32 (ws.getD i 0))) old
  let t := { s with seq := { s.seq with bufs := bufs, lens := storeSet 0 s.seq.lens (q * 2 + b) ws.length } }
  let t := (t.setReg (SEQ_BUFb_HDR q b) (BitVec.ofNat 32 (w.getD 0 0))).setReg (SEQ_BUFb_ID q b)
    (BitVec.ofNat 32 (w.getD 1 0))
  let t := t.setReg (CRC_REF_SEQq_BUFb q b) (BitVec.ofNat 32 (crc32 (bytesOfWords ws)))
  t.setBit (SEQ_STAT_BUF_VALID q) b

/-- A schedule image arrives whole (R103, R104): BUSY is judged first. -/
def seqLoad (mask b : Nat) (img : List Nat) (s : State) : State × Status :=
  let qs := (List.range 4).filter (fun q => decide (mask / 2 ^ q % 2 = 1))
  if qs.any (fun q => bufInUse s q b) then (s, .busy)
  else if qs.any (fun q => (schedCheck q img).isSome) then
    (s.forL qs (fun q t => match schedCheck q img with
      | some (w, c, k) =>
        ((t.wr (SEQ_LOAD_ERR_CODE q) c).wr (SEQ_LOAD_ERR_SLOT q) k).wr (SEQ_LOAD_ERR_WORD q) w
      | none => t), .tableRejected)
  else (s.forL qs (seqStore b (wordsOfBytes img)), .ok)

/-- Words of a buffer's slot list `k`, END included. -/
def slotList (s : State) (q b k : Nat) : List Nat := (splitLists (bufWords s q b)).getD k []

/-- The array-wide words of a slot list (R91). -/
def arrayWords (l : List Nat) : List Nat :=
  l.filter (fun w => decide (evCode w = 2 ∨ evCode w = 4 ∨ evCode w = 5 ∨ evCode w = 6 ∨ evCode w = 10))

/-- Two lists hold the same words the same number of times, in whatever order within a stitch (R106). -/
def sameWords (l m : List Nat) : Bool := (l ++ m).all (fun w => decide (l.count w = m.count w))

/-- The first failing check of R106 for the buffers `sel` and slot count 2^log2: code, sequencer, slot. -/
def activationCheck (log2 : Nat) (sel : Nat → Nat) (s : State) : Option (Nat × Nat × Nat) :=
  let qs := List.range 4
  let id_ (q : Nat) : Word := s.reg (SEQ_BUFb_ID q (sel q))
  match qs.find? (fun q => !s.bitOf (SEQ_STAT_BUF_VALID q) (sel q)) with
  | some q => some (1, q, 0)
  | none =>
    match qs.find? (fun q => decide (id_ q ≠ id_ 0)) with
    | some q => some (2, q, 0)
    | none =>
      match qs.find? (fun q => decide ((s.reg (SEQ_BUFb_HDR q (sel q))).toNat % 8 ≠ log2)) with
      | some q => some (3, q, 0)
      | none =>
        (qs.flatMap (fun q => ((List.range (2 ^ log2)).filter (fun k =>
          !sameWords (arrayWords (slotList s q (sel q) k)) (arrayWords (slotList s 0 (sel 0) k)))).map
            (fun k => (4, q, k)))).head?

/-- A commit latches the buffers that the SEQ_BUF_SEL shadows name (R107). -/
def seqLatch (s : State) : State :=
  s.forN 4 (fun q t =>
    (setSeqOne q { seqOne t q with latched := t.rd (SEQ_BUF_SEL_BUF q) } t).wr (SEQ_STAT_LATCHED q) 1)

/-- The latched buffers become active at a tick (R107). -/
def seqActivate (s : State) : State :=
  s.forN 4 (fun q t =>
    if t.bit (SEQ_STAT_LATCHED q) then
      let x := seqOne t q
      let u := setSeqOne q { x with active := true } t
      ((u.wr (SEQ_STAT_LATCHED q) 0).wr (SEQ_STAT_ACT_BUF q) x.latched).wr (SEQ_BUF_SEL_ACT_BUF q) x.latched
    else t)

/-- An index that the active schedule of a sequencer selects; an invalid active buffer selects none (R68). -/
def patSelected (s : State) (n : Nat) : Bool :=
  (List.range 4).any (fun q =>
    let b := s.rd (SEQ_STAT_ACT_BUF q)
    (seqOne s q).active && s.bitOf (SEQ_STAT_BUF_VALID q) b
      && (bufWords s q b).any (fun w => decide (evCode w = 11 ∧ evArg w % 8 = n)))

/-! ### The built-in schedule -/

/-- Slot list `k` of the built-in schedule (R113). -/
def builtinList (k : Nat) : List Nat :=
  let load (i : Nat) : Nat := evWord 1 (100 * i) (63 * 1024 + 64 * i)
  let first (l : List Nat) : List Nat := if k = 0 then l else []
  first [evWord 7 0 127] ++ [load 0, evWord 3 16 3] ++ ((List.range 9).map (fun i => load (i + 1)))
    ++ [evWord 2 1008 0] ++ first [evWord 5 1009 0] ++ [evWord 10 1009 0] ++ first [evWord 6 1019 0] ++ [evWord 63 0 0]

/-! ### The source of a slot period -/

/-- MODE of a slot period by the rung (R108). DEDUCED: on NORMAL or DEGRADED-F without a valid active schedule the built-in
schedule plays dark (log entry 28). -/
def slotMode (s : State) : Nat :=
  let r := s.rd DEV_LADDER_RUNG
  if r ≤ 1 then (if scheduleValid s then 1 else 3) else if r ≤ 3 then 2 else 3

/-- Index of the first word of slot list `k` in a buffer. -/
def slotBase (s : State) (q b k : Nat) : Nat :=
  (((splitLists (bufWords s q b)).take k).map List.length).foldl (· + ·) 0

/-- The sequencers begin slot period `k` (R63, R87, R92, R96, R108, R110). -/
def seqSlotStart (k : Nat) (s : State) : State :=
  let m := slotMode s
  let t := { s with seq := { s.seq with stagBack := [] } }
  let t := t.forN 4 (fun q u =>
    let b := u.rd (SEQ_STAT_ACT_BUF q)
    let x : SeqOne := { seqOne u q with base := (if m = 1 then slotBase u q b k else 0),
                                        pat := u.rd PXA_CTRL_PAT_DEFAULT, ended := false, cut := false,
                                        proofAt := 0, proofW := 0 }
    let v := ((setSeqOne q x u).wr (SEQ_STAT_MODE q) m).wr (SEQ_POS_WORD q) 0
    let v := v.wr (SEQ_POS_SRC q) (if m = 1 then 0 else 1)
    if m = 1 then v else v.bump (SEQ_COUNT_BUILTIN q))
  (t.wr SCN_POS_SLOT k).wr SCN_POS_STITCH 0

/-! ### The walk -/

/-- Address in the SRAM window of word `i` of a buffer (R165). -/
def seqAddr (q b i : Nat) : Nat := 0x1A40000 + q * 0x8000 + b * 0x4000 + 4 * i

/-- The next word that sequencer `q` walks, and its address; none while it is idle or its walk is over. -/
def nextEvent (s : State) (q : Nat) : Option (Nat × Option Nat) :=
  let m := s.rd (SEQ_STAT_MODE q)
  let x := seqOne s q
  let i := s.rd (SEQ_POS_WORD q)
  if m = 0 ∨ x.ended then none
  else if m = 1 then
    let b := s.rd (SEQ_STAT_ACT_BUF q)
    some (bufWord s q b (x.base + i), some (seqAddr q b (x.base + i)))
  else ((builtinList (s.rd SCN_POS_SLOT))[i]?).map (fun w => (w, none))

/-- An event word with an uncorrectable error (R110). -/
def seqWordUe (q : Nat) (s : State) : State :=
  let t := setSeqOne q { seqOne s q with ended := true, cut := true, dark := true } s
  { t.clrBit (SEQ_STAT_BUF_VALID q) (t.rd (SEQ_STAT_ACT_BUF q)) with seq := { t.seq with goPlain := true } }

/-- The sequencer whose copy of an array-wide event is issued (R91, R110). -/
def arrayMaster (s : State) : Nat := if (seqOne s 0).cut then 1 else 0

/-- The words that sequencer `q` has walked in this slot period. -/
def walkedWords (s : State) (q : Nat) : List Nat :=
  let i := s.rd (SEQ_POS_WORD q)
  if s.rd (SEQ_STAT_MODE q) = 1 then
    (List.range i).map (fun j => bufWord s q (s.rd (SEQ_STAT_ACT_BUF q)) ((seqOne s q).base + j))
  else (builtinList (s.rd SCN_POS_SLOT)).take i

/-- SEQ0 has still to walk the array-wide word that sequencer `q` comes to: the copies act in one cycle, SEQ0's being issued
(R91, R110). -/
def behindSeq0 (q : Nat) (s : State) : Bool :=
  decide (q ≠ 0) && !(seqOne s 0).ended
    && decide ((arrayWords (walkedWords s 0)).length ≤ (arrayWords (walkedWords s q)).length)

/-- The STITCH cycle in which sequencer `q` has issued its last word, of stitch `st`: the frame, the slot period, the stitch, and
the place of the word among those of its stitch (R87, R100). -/
def issueKey (q st : Nat) (s : State) : Nat :=
  let l := walkedWords s q
  let n := ((l.take (l.length - 1)).filter (fun w => decide (evStitch w = st))).length
  ((s.rd DEV_FN_FN * 16 + s.rd SCN_POS_SLOT) * 1024 + st) * 256 + n

/-- Sequencer `q` performs its next event if it is one of code `code`: `act` takes its stitch and argument. The errors are
those that the step's reads meet. -/
def walk (code q : Nat) (errs : List EccErr) (act : Nat → Nat → State → State) (s : State) : State :=
  match nextEvent s q with
  | none => s
  | some (w, a) =>
    if a.any (fun a => ueIn errs a 4) then seqWordUe q (noteErrs errs s)
    else if evCode w ≠ code then s
    else
      let t := (s.wr (SEQ_POS_WORD q) (s.rd (SEQ_POS_WORD q) + 1)).wr SCN_POS_STITCH (max (s.rd SCN_POS_STITCH) (evStitch w))
      act (evStitch w) (evArg w) (noteErrs errs t)

/-- An array-wide event: only the master's copy is issued, and no other copy passes before SEQ0's (R91, R110). -/
def walkArray (code q : Nat) (errs : List EccErr) (act : Nat → Nat → State → State) (s : State) : State :=
  if behindSeq0 q s then s else walk code q errs (fun st a t => if q = arrayMaster s then act st a t else t) s

/-- SEQ_CTRL.CNT_CLR of SEQq (R114). -/
def seqCntClr (q : Nat) (s : State) : State := s.setReg (SEQ_COUNT q) 0#32

end Sys2Proof.Machine
end

