-- ==== Sys2Proof/Machine/Layers.lean ====
section
/-!
DEFINITION. Layer descriptors and what follows from them alone: formats, extents, fades, line memory, covers and culling,
the figures of R141 and R143, and which layers count (R120, R127, R128, R137, R141, R143, R151).
-/
namespace Sys2Proof.Machine

/-- One layer's descriptor, as its shadow or its _ACT registers hold it. Addresses and lengths are in bytes. -/
structure Lay where
  en      : Bool
  edge    : Bool
  crcEn   : Bool
  fade    : Nat
  tapsV   : Nat
  tapsH   : Nat
  blend   : Nat
  format  : Nat
  base    : Nat
  stride  : Nat
  srcH    : Nat
  srcW    : Nat
  dstY    : Int
  dstX    : Int
  dstH    : Nat
  dstW    : Nat
  phaseY  : Int
  phaseX  : Int
  ga      : Nat
  code    : Nat
  surfLen : Nat
  crc     : Nat
  deriving DecidableEq, Repr

/-- The descriptor of layer `k`: the values in effect, or the shadow. -/
def layAt (act : Bool) (k : Nat) (s : State) : Lay :=
  let ofs := if act then 0x800 else 0
  let r (f : Fld) : Nat := bits (s.reg (f.addr + ofs)) f.msb f.lsb
  { en := decide (r (CMP_Lk_CTRL_EN k) = 1), edge := decide (r (CMP_Lk_CTRL_EDGE k) = 1),
    crcEn := decide (r (CMP_Lk_CTRL_CRC_EN k) = 1), fade := r (CMP_Lk_CTRL_FADE k), tapsV := r (CMP_Lk_CTRL_TAPS_V k),
    tapsH := r (CMP_Lk_CTRL_TAPS_H k), blend := r (CMP_Lk_CTRL_BLEND k), format := r (CMP_Lk_CTRL_FORMAT k),
    base := r (CMP_Lk_BASE_BASE k) * 64, stride := r (CMP_Lk_STRIDE_STRIDE k) * 64, srcH := r (CMP_Lk_SRC_SRC_H k),
    srcW := r (CMP_Lk_SRC_SRC_W k), dstY := toSigned 12 (r (CMP_Lk_DST_POS_DST_Y k)),
    dstX := toSigned 13 (r (CMP_Lk_DST_POS_DST_X k)), dstH := r (CMP_Lk_DST_SIZE_DST_H k),
    dstW := r (CMP_Lk_DST_SIZE_DST_W k), phaseY := toSigned 8 (r (CMP_Lk_PHASE_PHASE_Y k)),
    phaseX := toSigned 8 (r (CMP_Lk_PHASE_PHASE_X k)), ga := r (CMP_Lk_ALPHA_GA k), code := r (CMP_Lk_CONST_CODE k),
    surfLen := r (CMP_Lk_SURF_LEN_LEN k) * 64, crc := r (CMP_Lk_CRC_CRC k) }

/-! ### Formats -/

/-- Whether FORMAT is in the table of R120. -/
def fmtKnown (f : Nat) : Bool := decide (f ≤ 4 ∨ f = 8 ∨ f = 9)

/-- A Pleat format. -/
def fmtPleat (f : Nat) : Bool := decide (f = 8 ∨ f = 9)

/-- Bits per pixel; 0 for a FORMAT that is not in the table (R137). -/
def fmtBits (f : Nat) : Nat :=
  match f with
  | 0 | 2 | 8 => 16
  | 1 => 8
  | 3 | 9 => 32
  | 4 => 1
  | _ => 0

/-- ceil(SRC_W × bpp / 64) × 64. -/
def lineBytes (l : Lay) : Nat := ceilDiv (l.srcW * fmtBits l.format) 512 * 64

/-- The extent of a layer in bytes (R137, check 4). -/
def extentOf (l : Lay) : Nat :=
  if !fmtKnown l.format then 0 else if fmtPleat l.format then l.surfLen else l.stride * l.srcH

/-- Taps of an axis: 1, 2 or 4; the value 3 counts as 4 (R137). -/
def tapsOf (t : Nat) : Nat := if t = 0 then 1 else if t = 1 then 2 else 4

/-! ### Fades -/

/-- The fade step (R151). -/
def fadeStep (fade : Nat) : Nat := if fade = 0 then 256 else ceilDiv 256 fade

/-- F_work from F_done (R151). -/
def fadeWork (l : Lay) (done : Nat) : Nat :=
  if l.en then min (done + fadeStep l.fade) 256 else done - fadeStep l.fade

/-- F_done of a layer. -/
def fDone (s : State) (k : Nat) : Nat := s.rd (CMP_Lk_STAT_F k)

/-- F_work of a layer of the frame composed last (R151). -/
def fWorkOf (s : State) (k : Nat) : Nat := storeGet 0 s.cmp.fWork k

/-! ### The clipped rectangle and the tiles -/

/-- First row of the clipped destination rectangle, and the row after its last one. -/
def layTop (l : Lay) : Nat := l.dstY.toNat
def layBot (l : Lay) : Nat := (min 640 (l.dstY + l.dstH)).toNat
/-- First column, and the column after the last one. -/
def layLeft (l : Lay) : Nat := l.dstX.toNat
def layRight (l : Lay) : Nat := (min 2048 (l.dstX + l.dstW)).toNat

/-- A layer with its level, as the checks of a latch see it: layer number, descriptor, F of the frame. -/
abbrev Lev := Nat × Lay × Nat

/-- Whether a layer is a cover (R128). -/
def isCover (x : Lev) : Bool :=
  let l := x.2.1
  l.en && decide (x.2.2 = 256 ∧ (l.format = 0 ∨ l.format = 1 ∨ l.format = 8) ∧ l.blend ≤ 1 ∧ l.ga = 256) && !l.edge

/-- The clipped rectangle touches tile (tx, ty). -/
def touches (l : Lay) (tx ty : Nat) : Bool :=
  decide (layTop l < layBot l ∧ layLeft l < layRight l ∧ layTop l < 16 * ty + 16 ∧ 16 * ty < layBot l
    ∧ layLeft l < 64 * tx + 64 ∧ 64 * tx < layRight l)

/-- The clipped rectangle contains every pixel of tile (tx, ty). -/
def contains (l : Lay) (tx ty : Nat) : Bool :=
  decide (layTop l ≤ 16 * ty ∧ 16 * ty + 16 ≤ layBot l ∧ layLeft l ≤ 64 * tx ∧ 64 * tx + 64 ≤ layRight l)

/-- The tile is culled for layer `k` (R128). -/
def culled (ls : List Lev) (x : Lev) (tx ty : Nat) : Bool :=
  !x.2.1.crcEn && ls.any (fun y => decide (x.1 < y.1) && isCover y && contains y.2.1 tx ty)

/-- The tiles that a layer computes (R128, R141): none unless it counts. -/
def tilesOf (ls : List Lev) (x : Lev) : Nat :=
  if x.2.2 = 0 ∨ !fmtKnown x.2.1.format then 0
  else ((List.range 1280).filter (fun i => touches x.2.1 (i % 32) (i / 32) && !culled ls x (i % 32) (i / 32))).length

/-! ### The figures of a latch -/

/-- Line memory of a layer (R127). -/
def lineNeed (l : Lay) : Nat := lineBytes l * (tapsOf l.tapsV + 1)

/-- The lowest layer at which the running sum exceeds the line memory, and the whole sum (R127). -/
def lineSum : List Lev → Nat → Option Nat → Nat × Option Nat
  | [], n, i => (n, i)
  | x :: xs, n, i =>
    let n' := if x.2.2 = 0 then n else n + lineNeed x.2.1
    lineSum xs n' (if i.isNone ∧ 524288 < n' then some x.1 else i)

/-- T_need (R141). -/
def timeNeed (ls : List Lev) : Nat :=
  ceilDiv ((172032 + ls.foldl (fun n x => n + 256 * tilesOf ls x) 0) * 5) 3 + 24000

/-- T_avail for a nominal rate, LOCK_TOL and COMP_OFS (R141); 0 where the figure would be negative. -/
def timeAvail (mhz tol ofs : Nat) : Nat := 1000000000000 / max 1 mhz * (200 - tol) / 200 - 1000 * ofs

/-- bytes_k (R143). -/
def layBytes (ls : List Lev) (x : Lev) : Nat :=
  if x.2.2 = 0 then 0
  else if tilesOf ls x = 0 ∧ !x.2.1.crcEn then 0
  else if x.2.1.crcEn ∨ fmtPleat x.2.1.format then extentOf x.2.1
  else lineBytes x.2.1 * x.2.1.srcH

/-- B_need (R143). -/
def bwNeed (ls : List Lev) (wb : Bool) : Nat :=
  ceilDiv (9 * (ls.foldl (fun n x => n + layBytes ls x) 0 + if wb then 2621504 else 0)) 8

/-- B_avail (R143). -/
def bwAvail (rate eff res tAvail : Nat) : Nat := rate * 2 * (eff - res) * tAvail / 256000

/-! ### Ranges in use -/

/-- The layers of the active set, at the levels of the last latch. -/
def activeSet (s : State) : List Lev := (List.range 8).map (fun k => (k, layAt true k s, fWorkOf s k))

/-- The layers of the shadow set, at the levels that the next latch gives them. -/
def shadowSet (s : State) : List Lev :=
  (List.range 8).map (fun k => let l := layAt false k s; (k, l, fadeWork l (fDone s k)))

/-- Two byte ranges overlap. -/
def overlap (a n b m : Nat) : Bool := decide (0 < n ∧ 0 < m ∧ a < b + m ∧ b < a + n)

/-- A range overlaps the extent of a counting layer. -/
def layersUse (ls : List Lev) (a n : Nat) : Bool :=
  ls.any (fun x => decide (0 < x.2.2) && overlap a n x.2.1.base (extentOf x.2.1))

/-- Bytes of the write-back region. -/
def wbBytes : Nat := 2621504

/-- A Bobbin in surface memory that is enabled: its sequence is not OFF (R176, R416). -/
def bobbinUse (s : State) (a n : Nat) : Bool :=
  (List.range 8).any (fun q => s.bit (ADC_SQn_BOB_CFG_LOC q) && decide (s.rd (ADC_SQn_STAT_UNIT q) ≠ 0)
    && overlap a n (s.rd (ADC_SQn_BOB_BASE_BASE q)) (4 * 2 ^ s.rd (ADC_SQn_BOB_CFG_SIZE_LOG2 q)))

/-- A commit is armed or a COMMIT_AT is pending. -/
def commitAhead (s : State) : Bool := !s.cmp.armed.isEmpty || s.cmp.atFn.isSome

/-- The conditions of R176, as the bits of RETIRE_QUERY. -/
def inUseBits (s : State) (a n : Nat) : Nat :=
  boolNat (layersUse (activeSet s) a n)
    + boolNat (s.bit CMP_WB_CTRL_ACT_WB_EN && overlap a n (s.rd CMP_WB_BASE_ACT_BASE * 64) wbBytes) * 2
    + boolNat (commitAhead s && (layersUse (shadowSet s) a n
        || (s.bit CMP_WB_CTRL_WB_EN && overlap a n (s.rd CMP_WB_BASE_BASE * 64) wbBytes))) * 4
    + boolNat (bobbinUse s a n) * 8

/-- Surface memory is in use by the active set (R156): a Bobbin counts by its place alone (log entry 131). -/
def smemInUse (s : State) : Bool :=
  (activeSet s).any (fun x => decide (0 < x.2.2)) || s.bit CMP_WB_CTRL_ACT_WB_EN
    || (List.range 8).any (fun q => s.bit (ADC_SQn_BOB_CFG_LOC q))

end Sys2Proof.Machine
end

