-- ==== Sys2Proof/Machine/Surface.lean ====
section
/-!
DEFINITION. Surface memory: reads and writes with their ECC errors, the surface commands, the retirement query and write
guard, training, refresh and self-refresh (R155 to R179, R283).
-/
namespace Sys2Proof.Machine

/-! ### Bytes and ECC -/

/-- The byte of surface memory at a bus address. -/
def smemByte (s : State) (a : Nat) : Nat := (storeGet 0#8 s.smem.mem a).toNat

/-- The bytes from `a` on. -/
def smemBytes (s : State) (a n : Nat) : List Nat := (List.range n).map (fun i => smemByte s (a + i))

/-- U: the usable bytes, 0 while untrained (R159). -/
def usableBytes (s : State) : Nat := s.rd SMEM_USABLE_BYTES

/-- A byte range lies within the usable memory. -/
def inUsable (s : State) (a n : Nat) : Bool := decide (0x40000000 ≤ a ∧ a + n ≤ 0x40000000 + usableBytes s)

/-- The errors that a read of `n` bytes from `a` meets: those of the step, and the words that every read reports as
uncorrectable (R160, R161). -/
def readErrs (errs : List EccErr) (a n : Nat) (s : State) : List EccErr :=
  let hit (w : Nat) : Bool := decide (w * 8 < a + n ∧ a < w * 8 + 8)
  let bad := (s.smem.bad.map (fun x => x.1)).filter hit
  (errs.filter (fun e => inSurface e.addr && hit (e.addr / 8) && decide (e.addr / 8 ∉ bad)))
    ++ bad.map (fun w => (⟨w * 8, true⟩ : EccErr))

/-- Whether a read of `n` bytes from `a` returns an uncorrectable error. -/
def readUe (errs : List EccErr) (a n : Nat) (s : State) : Bool := (readErrs errs a n s).any (fun e => e.ue)

/-- Store bytes from `a` on, without regard to ECC. -/
def putBytes : Nat → List Nat → List (Nat × BitVec 8) → List (Nat × BitVec 8)
  | _, [], m => m
  | a, b :: bs, m => putBytes (a + 1) bs (storeSet 0#8 m a (BitVec.ofNat 8 b))

/-- The 64-bit words that a write of `n` bytes from `a` covers in part. -/
def partWords (a n : Nat) : List Nat :=
  if n = 0 then []
  else ([a / 8, (a + n - 1) / 8].eraseDups).filter (fun w => decide (w * 8 < a ∨ a + n < w * 8 + 8))

/-- A write of bytes from `a` on (R161): words covered whole are good again; a word covered in part whose read is
uncorrectable stays so, and raises SMEM_ECC_UE once. -/
def smemWrite (errs : List EccErr) (a : Nat) (bs : List Nat) (s : State) : State :=
  let n := bs.length
  let part := partWords a n
  let es := part.flatMap (fun w => readErrs errs (w * 8) 8 s)
  let keep := s.smem.bad.filter (fun x => decide (x.1 * 8 < a ∨ a + n < x.1 * 8 + 8))
  let bad := part.foldl (fun m w => if readUe errs (w * 8) 8 s then storeSet false m w true else m) keep
  noteErrs es { s with smem := { s.smem with mem := putBytes a bs s.smem.mem, bad := bad } }

/-! ### Checks of the surface commands -/

/-- The address lies in some range of the address map (R15). -/
def onMap (a : Nat) : Bool := decide (a < 0x160000) || inSram a || inSurface a

/-- Why a surface range is refused: R16, R158, R283, R159. DESIGN CHOICE (log entry 129): the spec orders none of them; an
unaligned or unmapped address comes first, then BLOCK_OFF, the byte count, and the end of the usable memory. -/
def surfRefuse (a n lo hi : Nat) (s : State) : Option Status :=
  if a % 4 ≠ 0 ∨ !onMap a then some .badAddress
  else if !s.bit DEV_CONFIG_SMEM_TRAINED then some .blockOff
  else if n % 4 ≠ 0 ∨ n < lo ∨ hi < n then some .badParam
  else if !inUsable s a n then some .badAddress
  else none

/-- The addresses are aligned and on the map, the memory is trained, and its clock is stopped or it is in self-refresh
(R16, R442). -/
def surfOff (as : List Nat) (s : State) : Bool :=
  smemOff s && s.bit DEV_CONFIG_SMEM_TRAINED && as.all (fun a => decide (a % 4 = 0) && onMap a)

/-- The write guard refuses a destination range (R178). -/
def guarded (a n : Nat) (s : State) : Bool :=
  s.bit SMEM_CTRL_GUARD && decide (inUseBits s a n % 4 ≠ 0 ∨ inUseBits s a n / 8 ≠ 0)

/-- Largest byte count of SURF_WRITE, SURF_FILL and SURF_COPY. -/
def surfMax : Nat := 469762048

/-! ### Commands -/

/-- A SURF_WRITE transfer of `n` bytes has ended: the bytes written, and the two check values of a checked one (R263, R459). -/
def endSurf (u : Option Nat) (n : Nat) (field : List Nat) (s : State) : State × Ans :=
  let r := checkField u field s
  let ws := match r.2 with
    | some (c, f) => [dataLen u n, c, f]
    | none => [n]
  (r.1, ⟨.ok, ws, none⟩)

/-- SURF_WRITE (R178, R261, R263, R283, R459). -/
def surfWrite (o : Outst) (s : State) : Res :=
  let a := o.cmd.w 1
  let n := o.cmd.w 2
  let g := givenBytes o
  let u := unitIn o s
  let m := dataLen u n
  if surfOff [a] s then refuseXfer o .blockOff (raise 0x27 a s)
  else match surfRefuse a m 4 surfMax s with
    | some st => refuseXfer o st s
    | none =>
      if guarded a m s then refuseXfer o .busy s
      else
        let t := feedUnit u (g.take m) (openUnit u (smemWrite o.cmd.errs a (g.take m) s))
        if g.length = n then
          let r := endSurf u n (g.drop m) t
          (r.1, some r.2)
        else answerLater (openXfer o n g false t)

/-- SURF_READ (R160, R283). -/
def surfRead (o : Outst) (s : State) : Res :=
  let a := o.cmd.w 1
  let n := o.cmd.w 2
  if surfOff [a] s then answerOff a s
  else match surfRefuse a n 4 2044 s with
    | some st => ans s st
    | none =>
      let t := noteErrs (readErrs o.cmd.errs a n s) s
      if readUe o.cmd.errs a n s then ans t .internalError else okW t (wordsOfBytes (smemBytes s a n))

/-- SURF_FILL (R283). -/
def surfFill (o : Outst) (s : State) : Res :=
  let a := o.cmd.w 1
  let n := o.cmd.w 2
  if surfOff [a] s then answerOff a s
  else match surfRefuse a n 4 surfMax s with
    | some st => ans s st
    | none =>
      if guarded a n s then ans s .busy
      else ok (smemWrite o.cmd.errs a (bytesOfWords (List.replicate (n / 4) (o.cmd.w 3))) s)

/-- Bytes of a range before its first word in error. -/
def bytesBeforeUe (errs : List EccErr) (a n : Nat) (s : State) : Nat :=
  ((readErrs errs a n s).filter (fun e => e.ue)).foldl (fun m e => min m (e.addr / 8 * 8 - a)) n

/-- SURF_COPY (R160, R283). DESIGN CHOICE (log entry 130): the copy reads its whole source range, and notes every error
there, though it writes nothing from the first uncorrectable word on. -/
def surfCopy (o : Outst) (s : State) : Res :=
  let d := o.cmd.w 1
  let a := o.cmd.w 2
  let n := o.cmd.w 3
  if surfOff [d, a] s then answerOff d s
  else match surfRefuse d n 4 surfMax s with
    | some st => ans s st
    | none =>
      match surfRefuse a n 4 surfMax s with
      | some st => ans s st
      | none =>
        if overlap d n a n then ans s .badParam
        else if guarded d n s then ans s .busy
        else
          let k := bytesBeforeUe o.cmd.errs a n s
          let t := smemWrite o.cmd.errs d (smemBytes s a k) (noteErrs (readErrs o.cmd.errs a n s) s)
          if k < n then ans t .internalError else ok t

/-- RETIRE_QUERY (R176, R177). -/
def retireQuery (o : Outst) (s : State) : Res :=
  let a := o.cmd.w 1
  let n := o.cmd.w 2
  if o.cmd.p0 ≠ 0 then ans s .badParam
  else if cmpOff s then answerOff 0x60000 s
  else if n = 0 then ans s .badParam
  else if !inUsable s a n then ans s .badAddress
  else okW s [inUseBits s a n, s.rd SMEM_RETIRE_FN]

/-! ### Training, refresh and self-refresh -/

/-- Training rates in MT/s (SMEM_CFG.RATE). -/
def smemRates : List Nat := [1600, 2133, 3200, 3733, 4266]

/-- SMEM_CTRL.TRAIN written 1 (R156, R157); a training ends the surface scan (R464). -/
def smemTrain (s : State) : State × Status :=
  if s.bit SMEM_STAT_TRAINING ∨ smemInUse s then (s, .busy)
  else if s.rd SMEM_CFG_SIZE = 0 then (s, .badParam)
  else
    let t := ((s.wr SMEM_STAT_TRAIN_ERR 0).wr SMEM_STAT_TRAINED 0).wr SMEM_STAT_TRAINING 1
    let t := t.wr CRC_SCAN_CTRL_SURF_EN 0
    ((t.wr DEV_CONFIG_SMEM_TRAINED 0).setReg SMEM_USABLE 0#32, .ok)

/-- A write of SMEM_CFG is refused while training runs or the memory is in use (R156). -/
def smemCfgBusy (s : State) : Bool := s.bit SMEM_STAT_TRAINING || smemInUse s

/-- TRAINING_COMPLETE (R157): `fail` is the failing step, 0 for success; the eyes are as measured. -/
def execTrainingComplete (fail : Fin 8) (rdEye wrEye : BitVec 8) (s : State) : State :=
  if !s.bit SMEM_STAT_TRAINING then s
  else
    let t := (s.wr SMEM_STAT_TRAINING 0).wr SMEM_STAT_TRAIN_ERR fail.val
    if fail.val = 0 then
      let z := t.rd SMEM_CFG_SIZE
      let t := ((t.wr SMEM_STAT_TRAINED 1).wr DEV_CONFIG_SMEM_TRAINED 1).wr DEV_CONFIG_SMEM_SIZE z
      let t := ((t.wr SMEM_EYE_RD_EYE rdEye.toNat).wr SMEM_EYE_WR_EYE wrEye.toNat).wr SMEM_STAT_SR 0
      { t with smem := { t.smem with rate := smemRates.getD (t.rd SMEM_CFG_RATE) 0 } }.setReg SMEM_USABLE
        (BitVec.ofNat 32 (0x3800000 * 2 ^ z))
    else
      ((t.wr SMEM_STAT_TRAINED 0).wr DEV_CONFIG_SMEM_TRAINED 0).wr DEV_CONFIG_SMEM_SIZE 0
        |>.wr SMEM_STAT_SR 1

/-- The refresh interval of an MR4 code, in 1/8 of the nominal one. PRESUMED: the multipliers of JESD209-4X for the codes
0b001 to 0b110; the spec gives 0.25 for the other two (R163, log entry 29). -/
def mr4Interval (code : Nat) : Nat := [2, 32, 16, 8, 4, 2, 2, 2].getD code 2

/-- MR4_READ (R163). -/
def execMr4Read (code : BitVec 3) (s : State) : State :=
  if smemOff s ∨ s.bit SMEM_STAT_SR then s
  else
    let c := code.toNat
    let t := (s.wr SMEM_STAT_MR4_RATE c).wr SMEM_STAT_MR4_LIMIT (boolNat (decide (c = 0 ∨ c = 7)))
    { t with smem := { t.smem with refresh := mr4Interval c } }

/-- DQS_OSC_READ: the oscillator's count stands `drift` / 1,024 UI from the baseline (R163). -/
def execDqsOscRead (drift : Nat) (s : State) : State :=
  if smemOff s ∨ s.bit SMEM_STAT_SR ∨ drift ≤ 32 then s
  else { s with smem := { s.smem with recentred := s.smem.recentred + 1 } }

/-- SELF_REFRESH_EXIT: the clock has restarted (R164). -/
def execSelfRefreshExit (s : State) : State :=
  if smemOff s ∨ !s.bit SMEM_STAT_TRAINED then s else s.wr SMEM_STAT_SR 0

/-- SMEM_CTRL.CNT_CLR (R179). -/
def smemCntClr (s : State) : State := (s.setReg SMEM_ECC_CNT 0#32).setReg SMEM_SRAM_ECC_CNT 0#32

end Sys2Proof.Machine
end

