-- ==== Sys2Proof/Machine/Compose.lean ====
section
/-!
DEFINITION. Composition: samples, scaler and blender, the frame's codes, the budget scale, completion with its checks and
write-back (R116, R120 to R128, R144 to R147, R350, R80).
-/
namespace Sys2Proof.Machine

/-! ### Source samples -/

/-- A layer as the composer sees it: level, where its bytes are read, its lookup, and whether its Pleat header is broken. -/
structure Src where
  lev    : Lev
  rd     : Nat → Nat
  lut    : Nat → Nat
  hdrBad : Bool
  /-- y of an M1 pixel whose bit is 0. -/
  free   : Nat

/-- A sample: y, a, and whether it lies in a Pleat tile that breaks the structure rules. -/
abbrev Smp := Nat × Nat × Bool

/-- The source sample at column x of line j (R120). -/
def srcSample (c : Src) (x j : Nat) : Smp :=
  let l := c.lev.2.1
  let row := j * l.stride
  match l.format with
  | 0 => (rd16 c.rd (row + 2 * x), 65535, false)
  | 1 => (c.lut (c.rd (row + x)), 65535, false)
  | 2 => (c.lut (c.rd (row + 2 * x)), c.rd (row + 2 * x + 1) * 257, false)
  | 3 => (rd16 c.rd (row + 4 * x), rd16 c.rd (row + 4 * x + 2), false)
  | 4 => if c.rd (row + x / 8) / 2 ^ (x % 8) % 2 = 1 then (l.code, 65535, false) else (c.free, 0, false)
  | f =>
    if c.hdrBad then (0, 0, true)
    else match pleatTile c.rd l.surfLen f l.srcW l.srcH (x / 64) (j / 16) with
      | none => (0, 0, true)
      | some t =>
        let i := j % 16 * min 64 (l.srcW - x / 64 * 64) + x % 64
        (t.1.getD i 0, t.2.getD i 0, false)

/-! ### Scaler -/

/-- i0 and f of a destination index (R122). -/
def scalePos (src dst i : Nat) (phase : Int) : Int × Nat :=
  let step := src * 65536 / max 1 dst
  let u : Int := (((2 * i + 1) * step : Nat) - 65536 : Int) / 2 + phase * 1024
  let i0 := u / 65536
  (i0, ((u - i0 * 65536) / 1024).toNat)

/-- Source indices of the taps of an axis (R123). -/
def tapIdx (t : Nat) (p : Int × Nat) : List Int :=
  match t with
  | 0 => [if p.2 < 32 then p.1 else p.1 + 1]
  | 1 => [p.1, p.1 + 1]
  | _ => [p.1 - 1, p.1, p.1 + 1, p.1 + 2]

/-- Catmull-Rom coefficients c(-1), c(0), c(1), c(2) at phase f (R123). -/
def cubic (f : Nat) : List Int :=
  let x : Int := f
  let a := roundHalfUpI (-(x * x * x) + 128 * (x * x) - 4096 * x) 4096
  let b := roundHalfUpI (-(3 * (x * x * x)) + 256 * (x * x) + 4096 * x) 4096
  let c := roundHalfUpI (x * x * x - 64 * (x * x)) 4096
  [a, 128 - a - b - c, b, c]

/-- The filter of an axis on its taps' values (R123). -/
def tapMix (t f : Nat) (v : List Nat) : Nat :=
  match t with
  | 0 => v.getD 0 0
  | 1 => (v.getD 0 0 * (64 - f) + v.getD 1 0 * f + 32) / 64
  | _ =>
    let sum : Int := ((cubic f).zip v).foldl (fun n x => n + x.1 * (x.2 : Int)) 0
    (clampI 0 65535 ((sum + 64) / 128)).toNat

/-- A tap at column x of line j; outside the source, the nearest edge sample or y = 0 and a = 0 (R124). -/
def tapSample (c : Src) (x j : Int) : Smp :=
  let l := c.lev.2.1
  let inside := decide (0 ≤ x ∧ x < l.srcW ∧ 0 ≤ j ∧ j < l.srcH)
  if l.edge && !inside then (0, 0, false)
  else srcSample c (min x.toNat (l.srcW - 1)) (min j.toNat (l.srcH - 1))

/-- One axis: the taps' samples filtered, y and a separately. DESIGN CHOICE: a tap feeds the pixel whatever its coefficient, 0
included (R147, log entry 122). -/
def mixSmp (t f : Nat) (l : List Smp) : Smp :=
  (tapMix t f (l.map (fun s => s.1)), tapMix t f (l.map (fun s => s.2.1)), l.any (fun s => s.2.2))

/-- The scaled sample of a layer at array row r and column q (R122 to R124): horizontal pass first. -/
def layPixel (c : Src) (r q : Nat) : Smp :=
  let l := c.lev.2.1
  let px := scalePos l.srcW l.dstW ((q : Int) - l.dstX).toNat l.phaseX
  let py := scalePos l.srcH l.dstH ((r : Int) - l.dstY).toNat l.phaseY
  let line (j : Int) : Smp := mixSmp l.tapsH px.2 ((tapIdx l.tapsH px).map (fun x => tapSample c x j))
  mixSmp l.tapsV py.2 ((tapIdx l.tapsV py).map line)

/-! ### Blending -/

/-- The new d of a pixel (R126, R147). -/
def blend (mode ga f : Nat) (p : Smp) (d : Nat) : Nat :=
  let y := p.1
  let a := if p.2.2 then 0 else if mode = 1 then 65535 else p.2.1
  let alpha := (a * ga * f + 32768) / 65536
  let w := alpha + alpha / 32768
  let mix (y : Nat) : Nat := (y * w + d * (65536 - w) + 32768) / 65536
  match mode with
  | 0 | 1 => mix y
  | 2 => sat16 (d + (y * w + 32768) / 65536)
  | 3 => mix ((d * (y + y / 32768) + 32768) / 65536)
  | 4 => mix (min d y)
  | 5 => mix (max d y)
  | _ => d

/-- Whether layer `c` works on array row r and column q: in its clipped rectangle, at a level above 0, not culled. -/
def worksAt (ls : List Lev) (c : Src) (r q : Nat) : Bool :=
  let l := c.lev.2.1
  decide (0 < c.lev.2.2 ∧ layTop l ≤ r ∧ r < layBot l ∧ layLeft l ≤ q ∧ q < layRight l)
    && !culled ls c.lev (q / 64) (r / 16)

/-- The code of a pixel (R126). -/
def composePixel (cs : List Src) (bg r q : Nat) : Nat :=
  let ls := cs.map (fun c => c.lev)
  cs.foldl (fun d c =>
    if worksAt ls c r q then blend c.lev.2.1.blend c.lev.2.1.ga c.lev.2.2 (layPixel c r q) d else d) bg

/-! ### Pleat tiles in error -/

/-- The source columns (or lines) that the destination indices of a tile read, as source-tile numbers. -/
def tapTiles (t src dst lo hi unit : Nat) (org phase : Int) (edge : Bool) : List Nat :=
  ((List.range (hi - lo)).flatMap (fun i =>
    ((tapIdx t (scalePos src dst (((lo + i : Nat) : Int) - org).toNat phase)).filter
      (fun x : Int => !edge || decide (0 ≤ x ∧ x < src))).map (fun x : Int => min x.toNat (src - 1) / unit))).eraseDups

/-- The source tiles of a Pleat layer that its computed destination tiles fetch (R128, R174). -/
def fetchedTiles (ls : List Lev) (c : Src) : List Nat :=
  let l := c.lev.2.1
  ((List.range 1280).flatMap (fun i =>
    let tx := i % 32
    let ty := i / 32
    if touches l tx ty && !culled ls c.lev tx ty && decide (0 < c.lev.2.2) then
      let cols := tapTiles l.tapsH l.srcW l.dstW (max (layLeft l) (64 * tx)) (min (layRight l) (64 * tx + 64)) 64 l.dstX
        l.phaseX l.edge
      let rows := tapTiles l.tapsV l.srcH l.dstH (max (layTop l) (16 * ty)) (min (layBot l) (16 * ty + 16)) 16 l.dstY
        l.phaseY l.edge
      rows.flatMap (fun y => cols.map (fun x => y * pleatTx l.srcW + x))
    else [])).eraseDups

/-- The tile errors of a layer in this frame: the number of events, and the tile each names (R147, R175). -/
def tileErrs (ls : List Lev) (c : Src) : List Nat :=
  let l := c.lev.2.1
  if !fmtPleat l.format ∨ c.lev.2.2 = 0 then []
  else
    let f := fetchedTiles ls c
    if f.isEmpty then []
    else if c.hdrBad then [0]
    else f.filter (fun i => decide (pleatTile c.rd l.surfLen l.format l.srcW l.srcH (i % pleatTx l.srcW) (i / pleatTx l.srcW) = none))

/-! ### What a frame is composed of -/

/-- The source of a host layer. -/
def hostSrc (s : State) (x : Lev) : Src :=
  let l := x.2.1
  let rd (i : Nat) : Nat := smemByte s (l.base + i)
  { lev := x, rd := rd, lut := fun b => (storeGet 0#16 s.cmp.lutAct (x.1 * 256 + b)).toNat,
    hdrBad := fmtPleat l.format && !(pleatHeaderFails rd l.surfLen l.format l.srcW l.srcH).isEmpty,
    free := (Config.freeM1Code s.freeCtr).toNat }

/-- The fallback image as one layer (R350). -/
def fallbackLay (s : State) : Lay :=
  { en := true, edge := false, crcEn := false, fade := 0, tapsV := 0, tapsH := 0, blend := 0, format := 8, base := 0,
    stride := 4096, srcH := 640, srcW := 2048, dstY := 0, dstX := 0, dstH := 640, dstW := 2048, phaseY := 0, phaseX := 0,
    ga := 256, code := 0, surfLen := s.smc.fbLen, crc := 0 }

/-- A byte of the fallback image. -/
def fbByte (s : State) (i : Nat) : Nat := storeGet 0 s.smc.fbImage i

/-- The source of a fallback frame. -/
def fallbackSrc (s : State) : Src :=
  { lev := (0, fallbackLay s, 256), rd := fbByte s, lut := fun _ => 0,
    hdrBad := !(pleatHeaderFails (fbByte s) s.smc.fbLen 8 2048 640).isEmpty, free := 0 }

/-- The sources of a frame, and its background code. -/
def frameSrcs (fb : Bool) (s : State) : List Src := if fb then [fallbackSrc s] else (activeSet s).map (hostSrc s)
def frameBg (fb : Bool) (s : State) : Nat := if fb then 0 else s.rd CMP_BG_ACT_CODE

/-- The codes of the frame, as a bank's store. -/
def frameCodes (fb : Bool) (s : State) : List (Nat × BitVec 16) :=
  let cs := frameSrcs fb s
  let bg := frameBg fb s
  storeOf 0#16 1310720 (fun p => BitVec.ofNat 16 (composePixel cs bg (p / 2048) (p % 2048)))

/-- The bytes of a bank, in pixel order (R144). -/
def bankBytes (bank : List (Nat × BitVec 16)) : List Nat :=
  (List.range 1310720).flatMap (fun p => let c := (storeGet 0#16 bank p).toNat; [c % 256, c / 256])

/-! ### Budget scale -/

/-- The estimated level of bin `b` (R78, R79). -/
def estDefault (b : Nat) : Nat := if b = 0 then 0 else 63
def estOf (s : State) (b : Nat) : Nat := storeGet (estDefault b) s.pxa.est b

/-- Pixels of zone `z` whose code lies in bin `b`. -/
def histOf (bank : List (Nat × BitVec 16)) (z b : Nat) : Nat :=
  let listed := bank.filter (fun x => decide (x.1 % 2048 / 256 = z))
  let n := (listed.filter (fun x => decide (x.2.toNat / 256 = b))).length
  if b = 0 then n + (163840 - listed.length) else n

/-- zone_sums of R80. -/
def zoneSums (hist : List (List Nat)) (est : Nat → Nat) (scale : Nat) : List Nat :=
  hist.map (fun h => (List.range 256).foldl (fun n b => n + h.getD b 0 * est ((b * 256 + 255) * scale / 8388608)) 0)

/-- fits of R80; `lim` are the limits of the rail and of the zones. -/
def fitsAt (lim : List Nat) (sums : List Nat) : Bool :=
  (List.range 8).all (fun z => decide (sums.getD z 0 * 5 ≤ lim.getD (z + 1) 0 * 8000))
    && decide (sums.foldl (· + ·) 0 * 5 ≤ lim.getD 0 0 * 8000)

/-- Binary search: the largest scale in lo..hi that fits, given that lo does. -/
def searchB (fits : Nat → Bool) : Nat → Nat → Nat → Nat
  | 0, lo, _ => lo
  | n + 1, lo, hi =>
    if hi ≤ lo then lo
    else
      let m := (lo + hi + 1) / 2
      if fits m then searchB fits n m hi else searchB fits n lo (m - 1)

/-- B and the summed estimate of a composed bank (R80, R81). -/
def budgetOf (bank : List (Nat × BitVec 16)) (s : State) : Nat × Nat :=
  let hist := (List.range 8).map (fun z => (List.range 256).map (histOf bank z))
  let sums := zoneSums hist (estOf s)
  let fits (n : Nat) : Bool := fitsAt s.pxa.limNext (sums n)
  let b := if fits 0 then searchB fits 17 0 32768 else 0
  (b, (sums b).foldl (· + ·) 0)

/-! ### Completion -/

/-- The source lines that the computed tiles of a raw layer read (R122 to R124, R128). -/
def fetchedLines (ls : List Lev) (x : Lev) : List Nat :=
  let l := x.2.1
  ((List.range 40).flatMap (fun ty =>
    if (List.range 32).any (fun tx => touches l tx ty && !culled ls x tx ty) then
      tapTiles l.tapsV l.srcH l.dstH (max (layTop l) (16 * ty)) (min (layBot l) (16 * ty + 16)) 1 l.dstY l.phaseY l.edge
    else [])).eraseDups

/-- The byte ranges that CMP reads of a layer, as first address and length: nothing of a layer at level 0 (R126); the whole extent
where it is checked (R146); a Pleat layer's header, and of its fetched tiles the index entries and the records (R170 to R174); else
the lines fetched, line j at BASE + j × STRIDE, each whole (R120, R143; DEDUCED, log entry 30). -/
def layerSegs (ls : List Lev) (c : Src) : List (Nat × Nat) :=
  let l := c.lev.2.1
  if c.lev.2.2 = 0 then []
  else if l.crcEn then [(l.base, extentOf l)]
  else if fmtPleat l.format then
    let ts := fetchedTiles ls c
    if ts.isEmpty then []
    else (l.base, 64) :: (if c.hdrBad then [] else ts.flatMap (fun i =>
      (l.base + 64 + 4 * i, 4) ::
        match pleatSpan c.rd l.surfLen l.format l.srcW l.srcH (i % pleatTx l.srcW) (i / pleatTx l.srcW) with
        | some (o, e) => [(l.base + o, e - o)]
        | none => []))
  else (fetchedLines ls c.lev).map (fun j => (l.base + j * l.stride, lineBytes l))

/-- The sources of a frame of host layers with the ranges that CMP reads of each; a fallback frame reads no surface (R350). -/
def frameSegs (fb : Bool) (s : State) : List (Nat × List (Nat × Nat)) :=
  if fb then []
  else
    let ls := activeSet s
    ls.map (fun x => (x.1, layerSegs ls (hostSrc s x)))

/-- The errors that the composition's reads meet, those of surface memory and the others (R146, R160). -/
def compErrs (fb : Bool) (errs : List EccErr) (s : State) : List EccErr :=
  errs.filter (fun e => !inSurface e.addr)
    ++ ((frameSegs fb s).flatMap (fun x => x.2.flatMap (fun r => readErrs errs r.1 r.2 s))).eraseDups

/-- Layers whose reads return an uncorrectable error (R146). -/
def ueLayers (fb : Bool) (errs : List EccErr) (s : State) : List Nat :=
  ((frameSegs fb s).filter (fun x => x.2.any (fun r => readUe errs r.1 r.2 s))).map (fun x => x.1)

/-- Layers whose extent fails its CRC-32 (R146). -/
def crcLayers (fb : Bool) (s : State) : List Nat :=
  if fb then []
  else ((activeSet s).filter (fun x => decide (0 < x.2.2) && x.2.1.crcEn
    && decide (crc32 (smemBytes s x.2.1.base (extentOf x.2.1)) ≠ x.2.1.crc))).map (fun x => x.1)

/-- The frame CRC, and the write-back of R145. -/
def writeBack (bank : List (Nat × BitVec 16)) (crc : Nat) (s : State) : State :=
  smemWrite [] (s.rd CMP_WB_BASE_ACT_BASE * 64) (bankBytes bank ++ bytesOf crc ++ List.replicate 60 0) s

/-- An uncorrectable error in the fallback image's region clears FB_VALID (R349). -/
def fbRegionUe (errs : List EccErr) (s : State) : State :=
  if errs.any (fun e => e.ue && decide (0x1B10000 ≤ e.addr ∧ e.addr < 0x1B50000)) then fbClear 0x26 s else s

/-- COMPOSITION_COMPLETE: the codes are in the bank, verified, scaled and written back, and the frame is complete and valid
or invalid (R144 to R147, R350). Of several reasons the fault source is 0x24, then 0x22, then 0x26 (DESIGN CHOICE for a frame that
also fails the verify pass, log entry 121). `errs` are the errors that the composition's reads have met. The model composes the whole
frame in this step (DESIGN CHOICE, log entry 31). -/
def execCompositionComplete (errs : List EccErr) (s : State) : State :=
  match s.cmp.comp with
  | none => s
  | some c =>
    if c.complete then s
    else
      let fb := c.fallback
      let bank := frameCodes fb s
      let crc := crc32 (bankBytes bank)
      let bud := budgetOf bank s
      let cs := frameSrcs fb s
      let ls := cs.map (fun c => c.lev)
      let ue := ueLayers fb errs s
      let bad := crcLayers fb s
      let wr := if s.cmp.play = 0 then 1 else 0
      let vf := errs.any (fun e => e.ue && decide (frameAddr wr 0 ≤ e.addr ∧ e.addr < frameAddr wr 1310720))
      let t := noteErrs (compErrs fb errs s) s
      let t := t.when (!ue.isEmpty) (raise 0x22 8)
      let t := t.forL bad (fun k u => raise 0x22 k u)
      let t := t.forL cs (fun x u => u.forL (tileErrs ls x) (fun i v =>
        raise 0x21 (x.lev.1 * 2 ^ 29 + i) (v.bump CMP_COUNT_TILE_ERRS)))
      let why := if !ue.isEmpty then 0x24 else if !bad.isEmpty then 0x22 else if vf then 0x26 else 0
      let t := fbRegionUe errs t
      match t.cmp.comp with
      | none => t
      | some _ =>
        let done : Comp := { c with complete := true, bad := why, crc := crc, budget := bud.1, est := bud.2 }
        let t := { t with cmp := { t.cmp with comp := some done,
                                              bank0 := if wr = 0 then bank else t.cmp.bank0,
                                              bank1 := if wr = 1 then bank else t.cmp.bank1 },
                          freeCtr := t.freeCtr + 1 }
        let t := (t.wr CMP_STAT_COMPOSING 0).wr PXA_BUDGET_NEXT_B bud.1
        if !fb && t.bit CMP_WB_CTRL_ACT_WB_EN then writeBack bank crc t else t

end Sys2Proof.Machine
end

