-- ==== Sys2Proof/Machine/Commit.lean ====
section
/-!
DEFINITION. The commit: layer shadows and their owners, COMMIT and COMMIT_AT, the latch at a composition start with its
checks, and what a tick does with the composed frame (R117 to R121, R129 to R143, R148 to R154, R510).
-/
namespace Sys2Proof.Machine

/-! ### Layer shadows -/

/-- Whether channel `ch` owns layer `k` (R117). -/
def ownsLayer (s : State) (ch k : Nat) : Bool := s.bitOf (CMD_CHANn_W0_LAYERS ch) k

/-- An accepted write of a layer's shadow is recorded (R117). -/
def ownerNote (ch k : Nat) (s : State) : State := (s.wr (CMP_Lk_OWNER_CHAN k) ch).wr (CMP_Lk_OWNER_DIRTY k) 1

/-- Whether the channel entry with word W0 owns layer `k` (R117). -/
def entryOwns (w0 k : Nat) : Bool := decide (w0 / 2 ^ (8 + k) % 2 = 1)

/-- LAYER_SET (R117, R118). DESIGN CHOICE: reserved bits of its words are dropped as a register write drops them (log entry 119). -/
def layerSet (o : Outst) (s : State) : Res :=
  let k := o.cmd.p0 % 8
  if 8 ≤ o.cmd.p0 then ans s .badParam
  else if cmpOff s then answerOff (CMP_Lk_CTRL k) s
  else if !entryOwns o.w0 k then ans s .notPrivileged
  else
    let a (i : Nat) : Nat := CMP_Lk_CTRL k + 4 * i
    let v (i : Nat) : Word := o.cmd.words.getD i 0#32
    let msk (i : Nat) : Nat := match regInfo (a i) with | some r => r.wmask | none => 0
    if (List.range 11).all (fun i => rangeOk (a i) (v i)) then
      ok (ownerNote o.cmd.ch k (s.forN 11 (fun i t => t.setReg (a i) (BitVec.ofNat 32 ((v i).toNat &&& msk i)))))
    else ans s .badParam

/-- LAYER_ENABLE and LAYER_DISABLE (R117, R119). -/
def layerSwitch (en : Nat) (o : Outst) (s : State) : Res :=
  let k := o.cmd.p0 % 8
  if o.cmd.p0 / 8 % 32 ≠ 0 then ans s .badParam
  else if cmpOff s then answerOff (CMP_Lk_CTRL k) s
  else if !entryOwns o.w0 k then ans s .notPrivileged
  else ok (ownerNote o.cmd.ch k ((s.wr (CMP_Lk_CTRL_EN k) en).wr (CMP_Lk_CTRL_FADE k) (o.cmd.p0 / 256)))

def layerEnable (o : Outst) (s : State) : Res := layerSwitch 1 o s
def layerDisable (o : Outst) (s : State) : Res := layerSwitch 0 o s

/-! ### COMMIT and COMMIT_AT -/

/-- CMP_STAT.ARMED follows the armed commits. -/
def syncArmed (s : State) : State := s.wr CMP_STAT_ARMED (boolNat (!s.cmp.armed.isEmpty))

/-- COMMIT (R131 to R133): it is armed for the next latch, and answered there. -/
def commit (o : Outst) (s : State) : Res :=
  if o.cmd.p0 ≠ 0 then ans s .badParam
  else if cmpOff s then answerOff 0x60000 s
  else answerLater (syncArmed { s with cmp := { s.cmp with armed := s.cmp.armed ++ [o] } })

/-- COMMIT_LATE: there is no frame `fn` to wait for, or its latch has passed (R134). -/
def atLate (fn : Nat) (s : State) : Bool :=
  let now := s.rd DEV_FN_FN
  decide (s.rd SCN_STAT_STATE = 0 ∨ fn = 1) || !later 32 fn now
    || (decide ((fn + 2 ^ 32 - now) % 2 ^ 32 = 1) && (s.cmp.csDone || decide (s.rd SCN_STAT_STATE = 1)))

/-- COMMIT_AT (R134 to R136); its reply names the frame targeted (R132, R259). DESIGN CHOICE: while one is pending a second one is
answered BUSY whatever frame it names (log entry 120). -/
def commitAt (o : Outst) (s : State) : Res :=
  let fn := o.cmd.w 1
  if o.cmd.p0 ≠ 0 then ans s .badParam
  else if cmpOff s then answerOff 0x60000 s
  else if s.cmp.atFn.isSome then ans s .busy
  else
    let t := s.setReg CMP_AT_FN (o.cmd.words.getD 0 0#32)
    if atLate fn s then (t.wr CMP_STAT_AT_RESULT 4, some ⟨.commitLate, [fn, 0], some (fn % 65536)⟩)
    else if 4096 < (fn + 2 ^ 32 - s.rd DEV_FN_FN) % 2 ^ 32 then ans s .badParam
    else ({ t with cmp := { t.cmp with atFn := some fn } }.wr CMP_STAT_AT_RESULT 1, some ⟨.acceptedPending, [fn, 0], some (fn % 65536)⟩)

/-! ### The checks of a latch -/

/-- The first failing check of R47, of the shadows. -/
def scnCheck (s : State) : Nat :=
  let mhz := s.rd SCN_NOMINAL_NOM_MHZ
  let n := mhz * 2 ^ s.rd SCN_CFG_SLOTS_LOG2
  let ofs := s.rd SCN_COMP_OFS_OFS_US
  if n < 200000 then 1 else if 1920000 < n then 2 else if 20 ≤ ofs ∧ ofs ≤ 1000000000 / (4 * max 1 mhz) then 0 else 3

/-- A layer's extent lies within the trained memory, and is laid out as check 4 of R137 requires. -/
def extentOk (s : State) (l : Lay) : Bool :=
  inUsable s l.base (extentOf l)
    && (if fmtPleat l.format then decide (64 ≤ l.surfLen) else decide (lineBytes l ≤ l.stride))

/-- The first counting layer that fails a check. -/
def failLayer (ls : List Lev) (f : Lay → Bool) : Option Nat := (ls.find? (fun x => decide (0 < x.2.2) && !f x.2.1)).map (fun x => x.1)

/-- The first layer whose owner has lost it since its last write (R138). -/
def ownerFail (s : State) : Option Nat :=
  (List.range 8).find? (fun k => s.bit (CMP_Lk_OWNER_DIRTY k) && !ownsLayer s (s.rd (CMP_Lk_OWNER_CHAN k)) k)

/-- The figures of a latch: line memory with its failing layer, T_need, T_avail, B_need, B_avail (R127, R141, R143). -/
structure LatchFigs where
  line   : Nat
  lineAt : Option Nat
  tNeed  : Nat
  tAvail : Int
  bNeed  : Nat
  bAvail : Int

/-- The figures of the candidate set. -/
def latchFigs (s : State) : LatchFigs :=
  let ls := shadowSet s
  let l := lineSum ls 0 none
  let ta : Int := (1000000000000 / max 1 (s.rd SCN_NOMINAL_NOM_MHZ) * (200 - s.rd SCN_FSYNC_CTRL_LOCK_TOL) / 200 : Nat)
    - (1000 * s.rd SCN_COMP_OFS_OFS_US : Nat)
  let rate := if s.bit DEV_CONFIG_SMEM_TRAINED then s.smem.rate else 0
  { line := l.1, lineAt := l.2, tNeed := timeNeed ls, tAvail := ta, bNeed := bwNeed ls (s.bit CMP_WB_CTRL_WB_EN),
    bAvail := ((rate * 2 * (s.rd CMP_BW_CFG_EFF - s.rd CMP_BW_CFG_HOST_RES) : Nat) : Int) * ta / 256000 }

/-- The registers that show the figures of every latch (R137). -/
def showFigs (g : LatchFigs) (s : State) : State :=
  let w (v : Int) : Word := BitVec.ofNat 32 (ofSigned 32 v)
  ((((s.setReg CMP_LINE_NEED (w g.line)).setReg CMP_TIME_NEED (w g.tNeed)).setReg CMP_TIME_AVAIL (w g.tAvail)).setReg
    CMP_BW_NEED (w g.bNeed)).setReg CMP_BW_AVAIL (w g.bAvail)

/-- The first failing check of CMP: code, reason, index (R137). -/
def cmpCheck (g : LatchFigs) (s : State) : Option (Nat × Nat × Nat) :=
  let ls := shadowSet s
  let row (code reason : Nat) (i : Option Nat) : Option (Nat × Nat × Nat) := i.map (fun k => (code, reason, k))
  (row 1 4 (failLayer ls (fun l => fmtKnown l.format)))
    <|> (row 2 4 (failLayer ls (fun l => decide (l.blend ≤ 5 ∧ l.tapsH ≠ 3 ∧ l.tapsV ≠ 3))))
    <|> (row 3 4 (failLayer ls (fun l => decide (l.srcW ≤ 4 * l.dstW ∧ l.srcH ≤ 4 * l.dstH)
          && (decide (l.format ≠ 4) || decide (l.tapsH = 0 ∧ l.tapsV = 0)))))
    <|> (row 4 4 (failLayer ls (extentOk s)))
    <|> (row 5 4 ((ls.find? (fun x => decide (0 < x.2.2 ∧ (x.2.1.format = 1 ∨ x.2.1.format = 2))
          && !s.bitOf CMP_LUT_STAT_LUT_SHADOW x.1)).map (fun x => x.1)))
    <|> (row 6 5 (ownerFail s))
    <|> (if s.bit CMP_WB_CTRL_WB_EN && !inUsable s (s.rd CMP_WB_BASE_BASE * 64) wbBytes then some (7, 4, 8) else none)
    <|> (row 8 1 g.lineAt)
    <|> (if g.tAvail < g.tNeed then some (9, 2, 0) else none)
    <|> (if g.bAvail < g.bNeed then some (10, 3, 0) else none)

/-- The check of every block, each shown in its own error register, and the first failure as word 2 of R132; 0 when all
pass (R48, R106, R137). -/
def latchCheck (s : State) : State × Nat :=
  let g := latchFigs s
  let t := showFigs g s
  let c1 := scnCheck s
  let t := t.wr SCN_CFG_ERR_CODE c1
  let c2 := activationCheck (s.rd SCN_CFG_SLOTS_LOG2) (fun q => s.rd (SEQ_BUF_SEL_BUF q)) s
  let t := t.forN 4 (fun q u =>
    match c2 with
    | none => u.wr (SEQ_ACT_ERR_CODE q) 0
    | some (c, i, k) => ((u.wr (SEQ_ACT_ERR_CODE q) c).wr (SEQ_ACT_ERR_SEQ q) i).wr (SEQ_ACT_ERR_SLOT q) k)
  let w (reason block code index : Nat) : Nat := reason * 2 ^ 24 + block * 65536 + code * 256 + index
  let fail :=
    if c1 ≠ 0 then w 2 7 c1 0
    else match c2 with
      | some (c, i, _) => w 4 8 c i
      | none =>
        match cmpCheck g s with
        | some (c, r, i) => w r 6 c i
        | none => 0
  (t.setReg CMP_COMMIT_ERR (BitVec.ofNat 32 fail), fail)

/-! ### The latch -/

/-- One shadowed register takes effect. -/
def takeShadow (a act : Nat) (s : State) : State := s.setReg act (s.reg a)

/-- The candidate set takes effect (R129, R121, R139). -/
def latchAll (fn : Nat) (s : State) : State :=
  let t := s.forL [CMP_BG, CMP_WB_CTRL, CMP_WB_BASE, CMP_BW_CFG] (fun a u => takeShadow a (a + 0x800) u)
  let t := t.forN 8 (fun k u => u.forN 11 (fun i v => takeShadow (CMP_Lk_CTRL k + 4 * i) (CMP_Lk_CTRL_ACT k + 4 * i) v))
  let t := t.forL [SCN_CFG, SCN_NOMINAL, SCN_COMP_OFS] (fun a u => takeShadow a (a + 0x100) u)
  let t := takeShadow PXA_RAIL_LIMIT PXA_RAIL_LIMIT_ACT t
  let t := t.forN 8 (fun z u => takeShadow (PXA_ZONE_LIMITn z) (PXA_ZONE_LIMITn_ACT z) u)
  let t := seqLatch t
  let t := { t with cmp := { t.cmp with lutAct := t.cmp.lutSh } }
  let t := t.wr CMP_LUT_STAT_LUT_ACT (t.rd CMP_LUT_STAT_LUT_SHADOW)
  (t.forN 8 (fun k u => u.wr (CMP_Lk_OWNER_DIRTY k) 0)).setReg SMEM_RETIRE (BitVec.ofNat 32 fn)

/-- The latch of CS(fn): the armed commits are checked once and answered (R129 to R139). -/
def latchCommits (fn : Nat) (s : State) : State :=
  let atNow := decide (s.cmp.atFn = some fn)
  if s.cmp.armed.isEmpty ∧ !atNow then s
  else
    let r := latchCheck s
    let good := decide (r.2 = 0)
    let t := if good then latchAll fn r.1 else r.1
    let t := t.when atNow (fun u =>
      { u with cmp := { u.cmp with atFn := none } }.wr CMP_STAT_AT_RESULT (if good then 2 else 3))
    let l := s.cmp.armed
    let t := syncArmed { t with cmp := { t.cmp with armed := [] } }
    t.forL l (fun o u => replyTo o ⟨if good then .ok else .commitRejected, [fn, r.2], some (fn % 65536)⟩ u)

/-! ### Composition start -/

/-- What the next frame is composed from: the host layers on NORMAL or for a RELEASE to it, the fallback image on DEGRADED-F
or for a RELEASE to it, else nothing (R140, R350, R360). -/
def composeFor (s : State) : Option Bool :=
  match s.rd DEV_LADDER_RUNG with
  | 0 => some false
  | r =>
    match s.smc.release with
    | some x => if x.moves ∧ x.target ≤ 1 then some (decide (x.target = 1)) else if r = 1 then some true else none
    | none => if r = 1 then some true else none

/-- The levels and tile counts of the frame that is composed (R128, R151); a frame of the fallback image computes no tile of a
layer. -/
def setLevels (fb : Bool) (s : State) : State :=
  let f := (List.range 8).map (fun k => fadeWork (layAt true k s) (fDone s k))
  let t := { s with cmp := { s.cmp with fWork := (List.range 8).foldl (fun m k => storeSet 0 m k (f.getD k 0)) [] } }
  let ls := activeSet t
  { t with cmp := { t.cmp with tilesN := ls.foldl (fun m x => storeSet 0 m x.1 (if fb then 0 else tilesOf ls x)) [] } }

/-- An accepted current-estimate load takes effect (R78). -/
def takeEst (s : State) : State :=
  match s.pxa.estNext with
  | none => s
  | some l =>
    let e := (List.range 256).foldl (fun m b => storeSet (estDefault b) m b (l.getD b 0)) []
    { s with pxa := { s.pxa with est := e, estNext := none } }

/-- COMPOSITION_START: the CS strobe of the next frame (R78, R84, R116, R129 to R131, R140, R151, R350). -/
def execCompositionStart (s : State) : State :=
  if !pllTicks s ∨ !s.frame.ticked ∨ s.cmp.csDone then s
  else
    let s := { s with cmp := { s.cmp with csDone := true } }
    if cmpOff s then s
    else
      let fn := (s.rd DEV_FN_FN + 1) % 2 ^ 32
      let t := takeEst (latchCommits fn s)
      let t := setLevels (decide (composeFor t = some true)) t
      let lim := t.rd PXA_RAIL_LIMIT_ACT_LIMIT_MA :: (List.range 8).map (fun z => t.rd (PXA_ZONE_LIMITn_ACT_LIMIT_MA z))
      let t := { t with pxa := { t.pxa with limNext := lim } }
      match composeFor t with
      | none => t
      | some fb =>
        let rel := t.smc.release.map (fun r => if r.moves ∧ r.target ≤ 1 ∧ (r.target = 1 ↔ fb) then { r with composed := true } else r)
        { t with cmp := { t.cmp with comp := some ⟨fn, fb, false, 0, 0, 0, 0⟩ },
                 smc := { t.smc with release := rel } }.wr CMP_STAT_COMPOSING 1

/-! ### The tick -/

/-- The fault source of a frame that is not shown at its tick: CMP_LATE when it is not complete (R146, R148). -/
def frameFault (c : Comp) : Nat := if c.complete then c.bad else 0x20

/-- The recovery's cause is a frame fault (R322). -/
def frameCause (s : State) : Bool := decide (s.ccx.recCause ∈ [0x20, 0x22, 0x24, 0x26])

/-- The fade, the tiles and the direction of layer `k`, as its status registers show them of the frame in play. -/
def showFade (k : Nat) (s : State) : State :=
  let f := fWorkOf s k
  let d := fDone s k
  ((s.wr (CMP_Lk_STAT_F k) f).wr (CMP_Lk_STAT_TILES k) (storeGet 0 s.cmp.tilesN k)).wr (CMP_Lk_STAT_DIR k)
    (if d < f then 1 else if f < d then 2 else 0)

/-- The composed frame swaps in (R52, R81, R144, R148, R150, R151, R154). -/
def swapFrame (c : Comp) (s : State) : State :=
  let t := { s with cmp := { s.cmp with play := 1 - s.cmp.play, comp := none, playFb := c.fallback },
                    pxa := { s.pxa with limPlay := s.pxa.limNext } }
  let t := ((t.wr CMP_STAT_REPEAT_RUN 0).wr CMP_STAT_MARKED 0).wr PXA_BUDGET_B c.budget
  let t := ((t.wr PXA_EST_TOTAL_EST c.est).setReg CMP_FRAME_CRC (BitVec.ofNat 32 c.crc)).setReg CMP_FRAME_FN
    (BitVec.ofNat 32 c.fn)
  (t.forN 8 showFade).when (frameCause t) recoveryEnd

/-- A frame fault on NORMAL needs a recovery, unless one of a frame runs already (R21, R22, R322). -/
def frameNeeds (s : State) : Bool :=
  decide (s.rd DEV_LADDER_RUNG = 0) && !(s.bit DEV_GUARANTEE_RECOVERING && frameCause s)

/-- What CMP has done at a tick: the banks swapped, the frame was repeated, it came from the fallback image; and the fault whose
recovery is refused (R23). -/
structure CmpTick where
  state    : State
  swapped  : Bool
  repeated : Bool
  fallback : Bool
  refused  : Option Nat

/-- The frame in play repeats (R52, R148, R150, R350): the fourth repeat in a row, and on NORMAL the repeat of a marked bank,
take the engine down instead. CMP_LATE carries REPEAT_RUN after the tick (R427). DESIGN CHOICE: the fourth repeat counts in
REPEATS, and its CAUSE is the failed frame's source though the bank be marked (log entry 121). -/
def repeatFrame (c : Comp) (s : State) : CmpTick :=
  let src := frameFault c
  let run := s.rd CMP_STAT_REPEAT_RUN
  let rung := s.rd DEV_LADDER_RUNG
  let t := { s with cmp := { s.cmp with comp := none } }.wr CMP_STAT_COMPOSING 0
  let t := if src = 0x20 then raise 0x20 (if 3 ≤ run then 0 else run + 1) t else t
  let needs := frameNeeds t
  let begins := needs && recoverable t
  let t := (t.bump CMP_COUNT_REPEATS).when begins (fun u => recoveryBegin src (awaited u) u)
  let fall (cause : Nat) (u : State) : State :=
    if rung = 0 then requireRung 1 cause u else if rung = 1 then requireRung 2 cause u else u
  let t :=
    if 3 ≤ run then fall src (t.wr CMP_STAT_REPEAT_RUN 0)
    else
      let u := t.wr CMP_STAT_REPEAT_RUN (run + 1)
      if rung = 0 ∧ s.bit CMP_STAT_MARKED then fall 0x26 u else u
  ⟨t, false, true, c.fallback, if needs && !begins then some src else none⟩

/-- CMP at a tick. -/
def cmpTick (s : State) : CmpTick :=
  let t := { s with cmp := { s.cmp with csDone := false } }
  match s.cmp.comp with
  | none => ⟨t, false, false, false, none⟩
  | some c => if c.complete ∧ c.bad = 0 then ⟨swapFrame c t, true, false, c.fallback, none⟩ else repeatFrame c t

/-- CMP_CTRL.CNT_CLR (R153). -/
def cmpCntClr (s : State) : State := s.setReg CMP_COUNT 0#32

end Sys2Proof.Machine
end

