-- ==== Sys2Proof/Machine/Thermal.lean ====
section
/-!
DEFINITION. The thermal unit (R208 to R224): demands and windows, conversion, broken sensors and their substitutes, the
derate factors, zone blanking and shutdown, the cross-check, and TEMP_MEASURE. The counts of the ring oscillators are
observations that the commands carry.
-/
namespace Sys2Proof.Machine

/-! ### Demands and windows -/

/-- The registers of R224 take effect. -/
def thmTake (s : State) : State := s.takeAct [THM_CFG, THM_DERATE_CFG, THM_BROKEN_CFG, THM_SHUT, THM_XCHK_CFG]

/-- The window of sensor `k` is open. -/
def winOpenAt (s : State) (k : Nat) : Bool := decide (storeGet 0 s.thm.window k ≠ 0)

/-- Windows open for the sensors of a list that have none open; `cmd` says that a command demands them (R209, R210). The settings
of R224 take effect with a window that opens. -/
def openWins (cmd : Bool) (l : List Nat) (s : State) : State :=
  let l := l.filter (fun k => !winOpenAt s k)
  if l.isEmpty then s
  else
    let t := thmTake s
    let v := t.rdAct THM_CFG_WIN_LOG2 + 1
    { t with thm := { t.thm with
        window := l.foldl (fun m k => storeSet 0 m k v) t.thm.window,
        winAt := l.foldl (fun m k => storeSet (0, false) m k (t.now, cmd)) t.thm.winAt } }

/-- The open window of sensor `k` was demanded at this moment, by a command if `cmd` holds: another demand of the same cycle starts no
window of its own (R210). -/
def sameCycleWin (cmd : Bool) (s : State) (k : Nat) : Bool :=
  let w := storeGet (0, false) s.thm.winAt k
  winOpenAt s k && decide (w.1 = s.now) && (w.2 == cmd)

/-- The sensors that a demand names: 127 names all. -/
def sensorsOf (arg : Nat) : List Nat := if arg = 127 then List.range 72 else [arg]

/-- TEMP_DEMAND of a schedule, issued in the STITCH cycle `key` (R100, R210); `tie` says that it falls into the cycle of the command
that came last. -/
def tempDemand (tie : Bool) (key arg : Nat) (s : State) : State :=
  let seen := if s.thm.demKey = key then s.thm.demArgs else []
  if arg ∈ seen then s
  else
    let t := { s with thm := { s.thm with demKey := key, demArgs := arg :: seen } }
    let l := sensorsOf arg
    let drop := l.filter (fun k => winOpenAt t k && !(tie && sameCycleWin true t k))
    openWins false l (t.bumpBy THM_COUNT_DROPPED drop.length)

/-- THM_AUTO_DEMAND: the automatic demand of all sensors at a tick (R212). -/
def execThmAutoDemand (s : State) : State :=
  if s.thm.autoDue then
    openWins false (List.range 72) ({ s with thm := { s.thm with autoDue := false } }.bump THM_COUNT_AUTO)
  else s

/-- TEMP_MEASURE (R211): a sensor whose window is open is measured again after it, unless that window was demanded in this very cycle
(R210). -/
def tempMeasure (o : Outst) (s : State) : Res :=
  let k := o.cmd.p0 % 128
  if 128 ≤ o.cmd.p0 ∨ (72 ≤ k ∧ k ≠ 127) then ans s .badParam
  else
    let l := sensorsOf k
    let busy := l.filter (fun k => winOpenAt s k && !(o.cmd.tie && sameCycleWin false s k))
    let w : TempWait := ⟨o, l.map (fun i => (i, if i ∈ busy then 2 else 1))⟩
    let t := { s with thm := { s.thm with
      waits := s.thm.waits ++ [w], again := busy.foldl (fun m i => storeSet false m i true) s.thm.again } }
    answerLater (holdCmd o (openWins true l t))

/-! ### Conversion -/

/-- T16 of a raw count (R213); the index is that of a free value for the quotient by 0. -/
def tempOf (s : State) (k n win : Nat) : Int :=
  let n4 := n * 2 ^ (2 - win)
  let n4c := (n4 * (10000 - s.rdAct THM_CFG_SSC_MEAN) + 5000) / 10000
  let lo := (s.rd (THM_CAL_LOn_COUNT k) : Int)
  let hi := (s.rd (THM_CAL_HIn_COUNT k) : Int)
  let num := ((n4c : Int) - lo) * (1760 - 400)
  let den := hi - lo
  if den = 0 then toSigned 16 (Config.freeTemp (s.freeCtr + k)).toNat
  else 400 + (if den < 0 then roundHalfUpI (-num) (-den).toNat else roundHalfUpI num den.toNat)

/-- The own temperature of a sensor, if it is valid. -/
def ownOf (s : State) (k : Nat) : Option Int := storeGet none s.thm.own k

/-- The broken bit of a sensor. -/
def brokenBit (s : State) (k : Nat) : Bool := bits (s.reg (THM_BROKEN0 + 4 * (k / 32))) (k % 32) (k % 32) = 1

/-- The 4-connected neighbours of an array sensor (R208). -/
def neighbours (k : Nat) : List Nat :=
  let r := k / 16
  let c := k % 16
  (if 0 < r then [k - 16] else []) ++ (if r < 3 then [k + 16] else []) ++ (if 0 < c then [k - 1] else [])
    ++ (if c < 15 then [k + 1] else [])

/-- Valid temperatures of a list of sensors. -/
def validOf (s : State) (l : List Nat) : List Int := l.filterMap (ownOf s)

/-- Insert into a rising list. -/
def insertRising (x : Int) : List Int → List Int
  | [] => [x]
  | y :: ys => if x ≤ y then x :: y :: ys else y :: insertRising x ys

/-- The median; the lower of the two middle values of an even number (R214). -/
def medianOf (l : List Int) : Option Int :=
  let r := l.foldl (fun m x => insertRising x m) []
  r[(r.length - 1) / 2]?

/-- The highest of a list. -/
def highest : List Int → Option Int
  | [] => none
  | x :: xs => some (xs.foldl max x)

/-- The substitute of a broken sensor (R215). -/
def substitute (s : State) (k : Nat) : Int :=
  let near := if k < 64 then highest (validOf s (neighbours k)) else highest (validOf s [64, 65, 66, 67, 68, 69, 70, 71])
  match near with
  | some t => t
  | none => (highest (validOf s (List.range 64))).getD 2000

/-- A sensor's broken bit is set, and its own temperature is not used any more (R215). -/
def markBroken (k : Nat) (s : State) : State :=
  let t := s.setW1c (THM_BROKEN0 + 4 * (k / 32)) (2 ^ (k % 32))
  let t := { t with thm := { t.thm with own := storeSet none t.thm.own k none } }
  (t.wr (THM_RESn_BROKEN k) 1)

/-- N_BROKEN follows the broken bits. -/
def syncBroken (s : State) : State := s.wr THM_STAT_N_BROKEN ((List.range 72).filter (brokenBit s)).length

/-- One sensor's count is taken (R213, R214): whether it breaks at once is decided here. A window that was open when the sensor's
broken bit was cleared does not judge it (R216). -/
def takeCount (k n win : Nat) (s : State) : State :=
  let t := (s.wr (THM_RAWn_COUNT k) n).wr (THM_RESn_AGE k) 0
  let t := (t.wr (THM_RESn_VALID k) 1)
  if storeGet false t.thm.skip k then { t with thm := { t.thm with skip := storeSet false t.thm.skip k false } }
  else if brokenBit t k then t
  else
    let v := tempOf t k n win
    if n < 1000 ∨ v < -880 ∨ 2800 < v then raise 0x60 k (markBroken k t)
    else { t with thm := { t.thm with own := storeSet none t.thm.own k (some v) } }

/-- An array sensor's measurement lies too far below its neighbours (R214). -/
def deviates (s : State) (k : Nat) : Bool :=
  match ownOf s k, medianOf (validOf s (neighbours k)) with
  | some v, some m => decide (v < m - (s.rdAct THM_BROKEN_CFG_NBR_DEV * 16 : Nat))
  | _, _ => false

/-- The deviation counts of the array sensors measured, and the sensors they break; judged on the temperatures `v`. -/
def judgeDev (v : State) (k : Nat) (s : State) : State :=
  if 64 ≤ k ∨ (ownOf s k).isNone then s
  else
    let d := if deviates v k then storeGet 0 s.thm.dev k + 1 else 0
    let t := { s with thm := { s.thm with dev := storeSet 0 s.thm.dev k d } }
    if s.rdAct THM_BROKEN_CFG_BROKEN_N ≤ d then raise 0x60 k (markBroken k t) else t

/-- The temperature in use of a sensor is shown (R215, R216): its own, or the substitute where it is broken or has not been
measured since it was. -/
def showTemp (k : Nat) (s : State) : State :=
  match ownOf s k with
  | some v => (s.wr (THM_RESn_TEMP k) (ofSigned 16 v)).wr (THM_RESn_SUBST k) 0
  | none =>
    if brokenBit s k || s.bit (THM_RESn_SUBST k) then
      (s.wr (THM_RESn_TEMP k) (ofSigned 16 (substitute s k))).wr (THM_RESn_SUBST k) 1
    else s

/-- The temperature in use of a sensor, T16. -/
def tempIn (s : State) (k : Nat) : Int := toSigned 16 (s.rd (THM_RESn_TEMP k))

/-! ### Derate -/

/-- The reference curve (R218). -/
def derateRef (i : Nat) : Nat := if i ≤ 124 then 255 else if i ≤ 243 then 255 - (i - 124) * 8 / 5 else 63

/-- The bin of a temperature (R218). -/
def derateBin (t : Int) : Nat := (clampI 0 255 ((t - 1024) / 4)).toNat

/-- The derate table's entry. -/
def derateOf (s : State) (i : Nat) : Nat := storeGet (derateRef i) s.thm.derate i

/-- DR_z. -/
def drFld (z : Nat) : Fld := ⟨THM_DRn (z / 4), z % 4 * 8 + 7, z % 4 * 8⟩
def drZ (s : State) (z : Nat) : Nat := s.rd (drFld z)

/-- The factors as they stand before a tick are kept for slot period 0, which starts in the tick's STITCH cycle (R33, R220). -/
def holdDr (s : State) : State :=
  { s with thm := { s.thm with drHold := some ((List.range 64).foldl (fun m z => storeSet 63 m z (drZ s z)) []) } }

/-- DR_z as the sampling of a slot period's start finds it: a factor written in the same cycle is not sampled (R220). -/
def drSampled (s : State) (z : Nat) : Nat :=
  match s.thm.drHold with
  | some l => storeGet 63 l z
  | none => drZ s z

/-- Zones with DR_z below 255. -/
def nDerated (s : State) : Nat := ((List.range 64).filter (fun z => decide (drZ s z < 255))).length

/-- Whether a zone is blanked (R222). -/
def blankFld (z : Nat) : Fld := ⟨if z < 32 then THM_BLANK_LO else THM_BLANK_HI, z % 32, z % 32⟩

/-- Blanked zones. -/
def nBlank (s : State) : Nat := ((List.range 64).filter (fun z => s.bit (blankFld z))).length

/-- The summary counts; THM_DERATE when the derated zones rise from none, and once for each of the `newly` blanked zones
(R221, R222). -/
def thmSummary (newly : Nat) (s : State) : State :=
  let old := s.rd THM_STAT_N_DERATED
  let n := nDerated s
  let b := nBlank s
  let t := (s.wr THM_STAT_N_DERATED n).wr THM_STAT_N_BLANK b
  t.forN (newly + if old = 0 ∧ 0 < n then 1 else 0) (fun _ u => raise 0x61 (n + b * 256) u)

/-- A zone whose temperature has been converted derates, and is blanked, or marked for its release at the next slot-period start (R219,
R222). -/
def zoneConvert (z : Nat) (s : State) : State :=
  let v := tempIn s z
  let t := s.wr (drFld z) (min (drZ s z) (derateOf s (derateBin v)))
  let t := { t with thm := { t.thm with zoneSeen := storeSet false t.thm.zoneSeen z true } }
  let cool (b : Bool) (u : State) : State := { u with thm := { u.thm with cooled := storeSet false u.thm.cooled z b } }
  if 2160 ≤ v then cool false (t.wr (blankFld z) 1)
  else if v ≤ 2160 - (t.rdAct THM_DERATE_CFG_BLANK_HYST * 16 : Nat) then cool (t.bit (blankFld z)) t
  else t

/-- The cooled zones are released at a slot-period start (R222). -/
def releaseZones (s : State) : State :=
  let t := s.forL s.thm.cooled (fun x u => if x.2 then u.wr (blankFld x.1) 0 else u)
  { t with thm := { t.thm with cooled := [] } }.wr THM_STAT_N_BLANK (nBlank t)

/-- A sensor at its shutdown threshold (R223). -/
def hotSensor (s : State) (margin : Nat) (k : Nat) : Bool :=
  let lim := if k < 64 then s.rdAct THM_SHUT_T_ARRAY else s.rdAct THM_SHUT_T_LOGIC
  decide ((((lim - margin) * 16 : Nat) : Int) ≤ tempIn s k) && s.bit (THM_RESn_VALID k)

/-- Shutdown after a conversion (R223). The detail names the lowest sensor at its threshold, else the lowest blanked zone
(DEDUCED, log entry 32). -/
def thmShutdown (s : State) : State :=
  let hot := (List.range 72).filter (hotSensor s 0)
  let many := decide (s.rdAct THM_SHUT_SHUT_ZONES ≤ nBlank s)
  if !hot.isEmpty ∨ many then
    let k := match hot with
      | k :: _ => k
      | [] => ((List.range 64).find? (fun z => s.bit (blankFld z))).getD 0
    refreshCeiling 0x62 (raise 0x62 k (s.wr THM_STAT_SHUT_HOLD 1))
  else if s.bit THM_STAT_SHUT_HOLD && !(List.range 72).any (hotSensor s 20) && decide (nBlank s = 0) then
    refreshCeiling 0 (s.wr THM_STAT_SHUT_HOLD 0)
  else s

/-- The answers of the TEMP_MEASUREs whose measurement has ended (R211). -/
def tempAnswers (ended : List Nat) (s : State) : State :=
  let step (w : TempWait) : TempWait :=
    { w with left := (w.left.map (fun x => if x.1 ∈ ended then (x.1, x.2 - 1) else x)).filter (fun x => decide (x.2 ≠ 0)) }
  let l := s.thm.waits.map step
  let t := { s with thm := { s.thm with waits := l.filter (fun w => !w.left.isEmpty) } }
  t.forL (l.filter (fun w => w.left.isEmpty)) (fun w u =>
    finish w.o ⟨.ok, (sensorsOf (w.o.cmd.p0 % 128)).map (fun k => (u.reg (THM_RESn k)).toNat), none⟩ u)

/-- The cross-check breaks the sensors of a list, with one event (R217). -/
def breakAll (l : List Nat) (s : State) : State :=
  match l with
  | [] => s
  | k :: _ => raise 0x60 k (s.forL l markBroken)

/-- The conversion of a set of counts (R213 to R223): every result, substitute, factor and blank changes in one cycle. `brk` are the
sensors that the cross-check breaks by it: their substitutes are in use from this conversion on (R215, R217). -/
def convert (brk : List Nat) (l : List (Nat × Nat × Nat)) (s : State) : State :=
  let ks := l.map (fun x => x.1)
  let t := s.forL l (fun x u => takeCount x.1 x.2.1 x.2.2 u)
  let t := syncBroken (breakAll brk (t.forL ks (judgeDev t)))
  let t := t.forN 72 showTemp
  let t := { t with freeCtr := t.freeCtr + 72 }
  let zs := (List.range 64).filter (fun z => decide (z ∈ ks) || t.bit (THM_RESn_SUBST z))
  let u := t.forL zs zoneConvert
  let newly := (zs.filter (fun z => u.bit (blankFld z) && !t.bit (blankFld z))).length
  thmShutdown (thmSummary newly u)

/-- The windows of the cross-check open, 256 µs whatever WIN_LOG2 is, for the sensors of a list (R217). -/
def openXchk (l : List Nat) (s : State) : State :=
  if l.isEmpty then s
  else
    let t := thmTake s
    { t with thm := { t.thm with
        window := l.foldl (fun m k => storeSet 0 m k 3) t.thm.window,
        winAt := l.foldl (fun m k => storeSet (0, false) m k (t.now, false)) t.thm.winAt,
        again := l.foldl (fun m k => storeSet false m k false) t.thm.again,
        xchkWin := l.foldl (fun m k => storeSet 0 m k 1) t.thm.xchkWin } }

/-- The windows of the sensors `ks` have ended: the commands that waited for them are answered, and the windows that were to follow
open (R211, R217). -/
def windowsEnd (ks : List Nat) (s : State) : State :=
  let t := { s with thm := { s.thm with window := ks.foldl (fun m k => storeSet 0 m k 0) s.thm.window } }
  let t := tempAnswers ks t
  let t := openXchk (ks.filter (fun k => decide (storeGet 0 t.thm.xchkWin k = 2))) t
  let more := ks.filter (fun k => storeGet false t.thm.again k)
  openWins true more { t with thm := { t.thm with again := more.foldl (fun m k => storeSet false m k false) t.thm.again } }

/-- THM_CONVERSION: windows end with these counts (R209, R213). Counts of sensors without an open window are not used, nor those of a
window of the cross-check, which XCHK_END ends. -/
def execThmConversion (counts : List (Fin 72 × BitVec 20)) (s : State) : State :=
  let l := counts.filter (fun x => winOpenAt s x.1.val && decide (storeGet 0 s.thm.xchkWin x.1.val ≠ 1))
  if l.isEmpty then s
  else windowsEnd (l.map (fun x => x.1.val))
    (convert [] (l.map (fun x => (x.1.val, x.2.toNat, storeGet 0 s.thm.window x.1.val - 1))) s)

/-! ### Ticks and slot periods -/

/-- THM at a tick: settings, ages, the automatic demand, and the recovery of the derate factors (R212, R219, R224). -/
def thmTick (s : State) : State :=
  let t := thmTake (holdDr s)
  let due := t.bit THM_CTRL_AUTO_EN
    && (List.range 72).any (fun k => decide (t.rdAct THM_CFG_AUTO_FRAMES ≤ t.rd (THM_RESn_AGE k)))
  let t := t.forN 72 (fun k u => u.bump (THM_RESn_AGE k))
  let t := { t with thm := { t.thm with autoDue := due } }
  let up (z : Nat) (u : State) : State :=
    if storeGet false u.thm.zoneSeen z then
      u.wr (drFld z) (min (derateOf u (derateBin (tempIn u z))) (drZ u z + u.rdAct THM_DERATE_CFG_DR_UP_MAX))
    else u
  thmSummary 0 (t.forN 64 up)

/-- The cross-check does not survive leaving DARK (R217). -/
def thmDarkCheck (s : State) : State :=
  if s.rd DEV_LADDER_RUNG = 4 then s else { s with thm := { s.thm with xchkDark := false } }

/-- THM at a slot-period start: a loaded derate table, the release of cooled zones, and what the code path samples (R218,
R220, R222). Slot period 0 starts in the tick's own cycle, so it samples the factors as the tick found them. -/
def thmSlot (s : State) : State :=
  let s := releaseZones s
  let tab := match s.thm.derNext with
    | some l => (List.range 256).foldl (fun m i => storeSet (derateRef i) m i (l.getD i 0)) []
    | none => s.thm.derate
  { s with
    thm := { s.thm with derate := tab, derNext := none, drHold := none,
                        blankNow := (List.range 64).foldl (fun m z => storeSet false m z (s.bit (blankFld z))) [] },
    pxa := { s.pxa with drNow := (List.range 64).foldl (fun m z => storeSet 255 m z (drSampled s z)) [] } }

/-- A derate table load (R218). -/
def derateLoad (img : List Nat) (s : State) : State × Status :=
  let b (i : Nat) : Nat := img.getD i 0
  let fail (c i : Nat) : State × Status := ((s.wr THM_LOAD_ERR_CODE c).wr THM_LOAD_ERR_INDEX i, .tableRejected)
  if img.length ≠ 256 then fail 1 0
  else match (List.range 256).find? (fun i => decide (b i < 63 ∨ derateRef i < b i)) with
    | some i => fail 2 i
    | none =>
      match (List.range 255).find? (fun i => decide (b i < b (i + 1))) with
      | some i => fail 3 (i + 1)
      | none => ({ s with thm := { s.thm with derNext := some img } }.wr THM_STAT_DER_LOADED 1, .ok)

/-! ### Cross-check -/

/-- THM_CTRL.XCHK_RUN written 1 (R217). DESIGN CHOICE: the 256 µs window of a sensor opens at the start, or when the sensor's present
window ends (log entry 123). -/
def xchkRun (s : State) : State :=
  if s.rd THM_STAT_XCHK_RESULT = 1 then s
  else
    let busy := (List.range 72).filter (winOpenAt s)
    let t := { s with thm := { s.thm with ntcGot := [], xchkDark := decide (s.rd DEV_LADDER_RUNG = 4),
                                          xchkWin := busy.foldl (fun m k => storeSet 0 m k 2) [] } }
    (openXchk ((List.range 72).filter (fun k => !winOpenAt s k)) t).wr THM_STAT_XCHK_RESULT 1

/-- A result of NTC0 or NTC1 arrives (R217, R409). -/
def ntcArrive (n : Nat) (s : State) : State :=
  if s.rd THM_STAT_XCHK_RESULT = 1 then { s with thm := { s.thm with ntcGot := storeSet false s.thm.ntcGot n true } } else s

/-- Strictly monotonic. -/
def strictMono (l : List Int) : Bool :=
  let p := l.zip (l.drop 1)
  p.all (fun x => decide (x.1 < x.2)) || p.all (fun x => decide (x.2 < x.1))

/-- The breakpoints: code and T16. -/
def ntcPoints (s : State) : List (Int × Int) :=
  (List.range 8).map (fun i => ((s.rd (THM_NTC_PTn_CODE i) : Int), toSigned 16 (s.rd (THM_NTC_PTn_TEMP i))))

/-- The temperature of an NTC code by linear interpolation with round half up; none outside the CODE range (R217). -/
def ntcTemp (pts : List (Int × Int)) (code : Int) : Option Int :=
  ((pts.zip (pts.drop 1)).find? (fun x => decide (min x.1.1 x.2.1 ≤ code ∧ code ≤ max x.1.1 x.2.1))).map (fun x =>
    let dc := x.2.1 - x.1.1
    let n := (code - x.1.1) * (x.2.2 - x.1.2)
    x.1.2 + if dc < 0 then roundHalfUpI (-n) (-dc).toNat else roundHalfUpI n dc.toNat)

/-- The sensors of the array that differ from the reference by more than the tolerance; `l` are the counts (R217). -/
def xchkFails (ref : Int) (l : List (Nat × Nat)) (s : State) : List Nat :=
  let tol := ((s.rdAct THM_XCHK_CFG_XCHK_TOL * 16 : Nat) : Int)
  (l.filter (fun x => decide (x.1 < 64) && (let v := tempOf s x.1 x.2 2; decide (x.2 < 1000 ∨ tol < v - ref ∨ tol < ref - v)))).map
    (fun x => x.1)

/-- The registers of failing sensors. -/
def showFails (l : List Nat) (s : State) : State :=
  let w (b : Nat) : Nat := l.foldl (fun m k => if k / 32 = b then m + 2 ^ (k % 32) else m) 0
  (s.setReg THM_XCHK_FAIL0 (BitVec.ofNat 32 (w 0))).setReg THM_XCHK_FAIL1 (BitVec.ofNat 32 (w 1))

/-- The cross-check ends with result `n` (R217): a window of its that is still open goes on as an ordinary one. -/
def xchkResult (n : Nat) (s : State) : State :=
  { s with thm := { s.thm with xchkWin := [] } }.wr THM_STAT_XCHK_RESULT n

/-- The cross-check has its own window open on every sensor. -/
def xchkOpen (s : State) : Bool := (List.range 72).all (fun k => decide (storeGet 0 s.thm.xchkWin k = 1))

/-- XCHK_END: the cross-check ends (R217). `counts` are the counts of its 256 µs windows: of all 72 sensors, or none where it
ends before measuring. -/
def execXchkEnd (counts : List (Fin 72 × BitVec 20)) (s : State) : State :=
  if s.rd THM_STAT_XCHK_RESULT ≠ 1 then s
  else
    let sel := (List.range 2).filter (fun n => s.rdAct THM_XCHK_CFG_NTC_SEL / 2 ^ n % 2 = 1)
    let got := sel.filter (fun n => storeGet false s.thm.ntcGot n)
    let pts := ntcPoints s
    let temps := got.map (fun n => ntcTemp pts (s.rd (ADC_LASTn_MEAN (11 + n))))
    let curve := strictMono (pts.map (fun x => x.1)) && strictMono (pts.map (fun x => x.2))
    if !curve || temps.any Option.isNone then xchkResult 7 s
    else if got.length < sel.length then xchkResult 6 s
    else if !s.thm.xchkDark || decide (s.rd DEV_LADDER_RUNG ≠ 4) then xchkResult 5 s
    else if counts.length < 72 ∨ !xchkOpen s then s
    else
      let ts := temps.filterMap id
      let a := ts.getD 0 0
      let b := ts.getD 1 a
      let ref := if ts.length = 2 then (a + b + 1) / 2 else a
      let l := counts.map (fun x => (x.1.val, x.2.toNat))
      let fails := xchkFails ref l s
      let tol := ((s.rdAct THM_XCHK_CFG_XCHK_TOL * 16 : Nat) : Int)
      let apart := decide (tol < a - b ∨ tol < b - a)
      let brk := if apart ∨ 32 < fails.length then [] else fails
      let t := convert brk (l.map (fun x => (x.1, x.2, 2))) s
      let t := t.wr THM_XCHK_NTC_TEMP (ofSigned 16 ref)
      let t := if apart then t else showFails fails t
      windowsEnd (List.range 72)
        (xchkResult (if apart ∨ 32 < fails.length then 4 else if fails.isEmpty then 2 else 3) t)

/-! ### Registers -/

/-- W1C of THM_BROKENn (R7, R216): the cleared sensors are judged afresh from their next window. -/
def thmBrokenClear (n mask : Nat) (s : State) : State :=
  let a := THM_BROKEN0 + 4 * n
  let old := (s.reg a).toNat
  let mask := s.w1cMask a mask
  let l := (List.range 32).filter (fun i => decide (old / 2 ^ i % 2 = 1 ∧ mask / 2 ^ i % 2 = 1))
  let t := s.setReg a (BitVec.ofNat 32 (l.foldl (fun m i => m - 2 ^ i) old))
  syncBroken (t.forL l (fun i u =>
    let k := 32 * n + i
    { u with thm := { u.thm with dev := storeSet 0 u.thm.dev k 0,
                                 skip := storeSet false u.thm.skip k (winOpenAt u k) } }.wr (THM_RESn_BROKEN k) 0))

/-- THM_CTRL.CNT_CLR (R224). -/
def thmCntClr (s : State) : State := s.setReg THM_COUNT 0#32

end Sys2Proof.Machine
end

