-- ==== Sys2Proof/Machine/Units.lean ====
section
/-!
DEFINITION. Units with the states OFF, STARTING, ON and STOPPING (R279 to R281): the response to enable and disable requests,
over the unit's state field, its enable bit and its pending bit.
-/
namespace Sys2Proof.Machine

/-- The fields of a unit: state, enable bit, pending enable; and what its start does beside entering STARTING. -/
structure UnitF where
  unit    : Fld
  en      : Fld
  pending : Fld
  start   : State → State

/-- The unit goes to STARTING. -/
def unitStart (u : UnitF) (s : State) : State := u.start (s.wr u.unit 1)

/-- ENABLE (R279, R280). -/
def unitEnable (u : UnitF) (s : State) : State × Status :=
  match s.rd u.unit with
  | 0 => (unitStart u (s.wr u.en 1), .ok)
  | 3 => ((s.wr u.en 1).wr u.pending 1, .acceptedPending)
  | _ => (s.wr u.en 1, .ok)

/-- DISABLE (R279); `stop` is what the stop does beside entering STOPPING. -/
def unitDisable (u : UnitF) (stop : State → State) (s : State) : State × Status :=
  match s.rd u.unit with
  | 0 => (s.wr u.en 0, .ok)
  | 3 => ((s.wr u.en 0).wr u.pending 0, .ok)
  | _ => (stop ((s.wr u.en 0).wr u.unit 3), .ok)

/-- The unit reaches OFF, and a pending enable runs in that cycle if `may` allows it (R280). -/
def unitOff (u : UnitF) (may : State → Bool) (s : State) : State :=
  let t := s.wr u.unit 0
  if t.bit u.pending then
    let t := t.wr u.pending 0
    if may t then unitStart u t else t
  else t

/-- A command's result from an operation's status. -/
def resOf (x : State × Status) : Res := (x.1, some ⟨x.2, [], none⟩)

end Sys2Proof.Machine
end

