-- ==== Sys2Proof/Machine/Adc.lean ====
section
/-!
DEFINITION. Analogue acquisition (R402 to R418): trim, over-range, results, sequences and their passes, Bobbins, and the ADC
commands. Codes of the converters are observations that the commands carry.
-/
namespace Sys2Proof.Machine

/-! ### Conversions -/

/-- code_t of a conversion on converter `m` (R403, R410). -/
def convCode (m : Nat) (c : Conv) (s : State) : Nat :=
  match c.ovr with
  | some hi => if hi then 4095 else 0
  | none =>
    let g := toSigned 8 (s.rd (ADC_TRIMn_GAIN m))
    let o := toSigned 8 (s.rd (ADC_TRIMn_OFS m))
    (clampI 0 4095 (((c.code.toNat : Int) * (4096 + g) + o * 512 + 2048) / 4096)).toNat

/-- An over-range sample of input `k` (R411). -/
def noteOvr (k : Nat) (c : Conv) (s : State) : State :=
  if c.ovr.isNone then s
  else
    let t := s.setW1c ADC_OVR_STAT (2 ^ k)
    if storeGet false t.adc.ovrSeen k then t
    else raise 0x59 k { t with adc := { t.adc with ovrSeen := storeSet false t.adc.ovrSeen k true } }

/-- ADC_LASTk takes a result (R409); results of NTC0 and NTC1 reach THM (R217). -/
def setLast (k mean : Nat) (ovr : Bool) (s : State) : State :=
  if 17 ≤ k then s
  else
    let t := ((s.wr (ADC_LASTn_VALID k) 1).wr (ADC_LASTn_OVR k) (boolNat ovr)).wr (ADC_LASTn_MEAN k) mean
    if k = 11 ∨ k = 12 then ntcArrive (k - 11) t else t

/-- A loop-slot sample of input `k` on converter `m` (R404, R409). -/
def loopSample (m k : Nat) (c : Conv) (s : State) : State :=
  setLast k (convCode m c s) c.ovr.isSome (noteOvr k c s)

/-! ### Sequences -/

def sqIdle : SqSt := ⟨0, [], [], 0⟩
def sqOf (s : State) (n : Nat) : SqSt := storeGet sqIdle s.adc.sq n
def setSq (n : Nat) (x : SqSt) (s : State) : State := { s with adc := { s.adc with sq := storeSet sqIdle s.adc.sq n x } }

/-- Whether a sequence's Bobbin lies in surface memory. -/
def bobSurface (s : State) (n : Nat) : Bool := s.bit (ADC_SQn_BOB_CFG_LOC n)

/-- Words of a Bobbin. -/
def bobSize (s : State) (n : Nat) : Nat := 2 ^ s.rd (ADC_SQn_BOB_CFG_SIZE_LOG2 n)

/-- fill (R413). -/
def bobFill (s : State) (n : Nat) : Nat := (s.rd (ADC_SQn_WPTR_PTR n) + 2 ^ 24 - s.rd (ADC_SQn_RPTR_PTR n)) % 2 ^ 24

/-- WM and FULL follow the fill (R415). -/
def syncFill (n : Nat) (s : State) : State :=
  let f := bobFill s n
  (s.wr (ADC_SQn_STAT_FULL n) (boolNat (decide (f = bobSize s n)))).wr (ADC_SQn_STAT_WM n)
    (boolNat (decide (s.rd (ADC_SQn_BOB_CFG_WM n) ≤ f)))

/-- A sequence's unit field is mirrored in ADC_STAT, and a converter of the pair stays powered while it has a sequence. -/
def syncAdc (s : State) : State :=
  let t := s.wr ADC_STAT_UNITS ((List.range 8).foldl (fun m n => m + s.rd (ADC_SQn_STAT_UNIT n) * 4 ^ n) 0)
  let uses (m : Nat) : Bool := (List.range 8).any (fun n => decide (s.rd (ADC_SQn_STAT_UNIT n) ≠ 0)
    && (decide (s.rd (ADC_SQn_CFG_CONV n) = m) || (decide (m = 3) && s.bit (ADC_SQn_CFG_INTERLEAVE n))))
  t.wr ADC_STAT_PWR (3 + boolNat (uses 2) * 4 + boolNat (uses 3) * 8)

/-- The converter that sequence `n` is bound to. -/
def convBound (s : State) (n : Nat) : Nat := s.rd (ADC_SQn_CFG_CONV n)

/-- At an entry boundary converter `m` takes the lowest-numbered sequence that has an entry ready, if there is one (R406). -/
def nextOwner (m : Nat) (s : State) : State :=
  let n := (List.range 8).find? (fun n => s.bit (ADC_SQn_STAT_RUNNING n) && decide (convBound s n = m))
  { s with adc := { s.adc with busy := storeSet 0 s.adc.busy m ((n.map (· + 1)).getD 0) } }

/-- Converter `m` is converting an entry of sequence `n`. -/
def convOwned (s : State) (m n : Nat) : Bool := decide (storeGet 0 s.adc.busy m = n + 1)

/-- A pass starts: TCOUNT has counted its trigger (R405). A converter that converts nothing takes its first entry. -/
def passStart (n : Nat) (s : State) : State :=
  let t := setSq n { sqOf s n with entry := 0, made := 0 } (s.wr (ADC_SQn_STAT_RUNNING n) 1)
  if storeGet 0 t.adc.busy (convBound t n) = 0 then nextOwner (convBound t n) t else t

/-- A trigger of sequence `n` (R405): accepted, or counted in MISSED while a pass is running, the last one of a sequence that stops
included. -/
def trigger (n : Nat) (s : State) : State :=
  if s.bit (ADC_SQn_STAT_RUNNING n) then s.bump (ADC_SQn_COUNT_MISSED n)
  else if s.rd (ADC_SQn_STAT_UNIT n) ≠ 2 then s
  else passStart n (s.wr (ADC_SQn_STAT_TCOUNT n) ((s.rd (ADC_SQn_STAT_TCOUNT n) + 1) % 128))

/-- TCOUNT of the pass in progress: it counts accepted triggers, so the pass has one less. -/
def passCount (s : State) (n : Nat) : Nat := (s.rd (ADC_SQn_STAT_TCOUNT n) + 127) % 128

/-- ADC_TRIG pulses a line in the STITCH cycle `key`; the same line from several sequencers in one cycle counts once (R100). -/
def adcTrig (key line : Nat) (s : State) : State :=
  let seen := if s.adc.trigKey = key then s.adc.trigArgs else []
  if line ∈ seen then s
  else
    let t := { s with adc := { s.adc with trigKey := key, trigArgs := line :: seen } }
    t.forN 8 (fun n u => if u.rd (ADC_SQn_CFG_TRIG n) = 1 ∧ u.rd (ADC_SQn_CFG_LINE n) = line then trigger n u else u)

/-- ADC_TIMER_TRIGGER (R405). -/
def execAdcTimerTrigger (n : Fin 8) (s : State) : State :=
  if s.rd (ADC_SQn_CFG_TRIG n.val) = 2 then trigger n.val s else s

/-! ### Bobbins -/

/-- RPTR advances by `k`, which the engine writes (R415). -/
def rptrAdvance (n k : Nat) (s : State) : State :=
  s.wr (ADC_SQn_RPTR_PTR n) ((s.rd (ADC_SQn_RPTR_PTR n) + k) % 2 ^ 24)

/-- One word enters an on-chip Bobbin (R413, R415). -/
def bobWord (n w : Nat) (s : State) : State :=
  let size := bobSize s n
  let spills := decide (size < bobFill s n + 1)
  if spills ∧ !s.bit (ADC_SQn_BOB_CFG_MODE n) then s.bump (ADC_SQn_COUNT_LOST n)
  else
    let t := if spills then rptrAdvance n 1 s else s
    let p := t.rd (ADC_SQn_WPTR_PTR n)
    let i := t.rd (ADC_SQn_BOB_BASE_BASE n) + p % size
    let t := { t with adc := { t.adc with pool := storeSet 0#32 t.adc.pool i (BitVec.ofNat 32 w) } }
    syncFill n (t.wr (ADC_SQn_WPTR_PTR n) ((p + 1) % 2 ^ 24))

/-- One word enters the staging blocks of a surface Bobbin (R414). -/
def stageWord (n w : Nat) (s : State) : State :=
  let x := sqOf s n
  if 2 ≤ x.blocks.length then s.bump (ADC_SQn_COUNT_LOST n)
  else
    let c := x.cur ++ [w]
    setSq n (if 16 ≤ c.length then { x with blocks := x.blocks ++ [c], cur := [] } else { x with cur := c }) s

/-- A block of a surface Bobbin is written (R414, R415). -/
def bobBlock (n : Nat) (b : List Nat) (s : State) : State :=
  let size := bobSize s n
  let spills := decide (size < bobFill s n + 16)
  if spills ∧ !s.bit (ADC_SQn_BOB_CFG_MODE n) then
    s.bumpBy (ADC_SQn_COUNT_LOST n) (b.filter (fun w => decide (2 ^ 31 ≤ w))).length
  else
    let t := if spills then rptrAdvance n 16 s else s
    let p := t.rd (ADC_SQn_WPTR_PTR n)
    let t := smemWrite [] (t.rd (ADC_SQn_BOB_BASE_BASE n) + 4 * (p % size)) (bytesOfWords b) t
    syncFill n (t.wr (ADC_SQn_WPTR_PTR n) ((p + 16) % 2 ^ 24))

/-- BOBBIN_BLOCK_ACCEPT: the memory controller accepts the oldest staged block (R414). -/
def execBobbinBlockAccept (n : Fin 8) (s : State) : State :=
  let x := sqOf s n.val
  match x.blocks with
  | [] => s
  | b :: bs => bobBlock n.val b (setSq n.val { x with blocks := bs } s)

/-- A result word enters the Bobbin path. -/
def bobResult (n w : Nat) (s : State) : State := if bobSurface s n then stageWord n w s else bobWord n w s

/-! ### Entries -/

/-- The end of a pass: a continuous sequence starts the next one; a stopping one ends (R405, R416). -/
def passEnd (n : Nat) (s : State) : State :=
  let t := s.wr (ADC_SQn_STAT_RUNNING n) 0
  if t.rd (ADC_SQn_STAT_UNIT n) = 2 ∧ t.rd (ADC_SQn_CFG_TRIG n) = 0 then trigger n t
  else if t.rd (ADC_SQn_STAT_UNIT n) = 3 ∧ bobSurface t n then
    let x := sqOf t n
    if x.cur.isEmpty then t
    else setSq n { x with blocks := x.blocks ++ [x.cur ++ List.replicate (16 - x.cur.length) 0], cur := [] } t
  else t

/-- The converter of conversion `i` of the entry in course of sequence `n`: an interleaved pair alternates through the pass (R412). -/
def convOf (s : State) (n i : Nat) : Nat :=
  if s.bit (ADC_SQn_CFG_INTERLEAVE n) then 2 + ((sqOf s n).made + i) % 2 else convBound s n

/-- ADC_ENTRY_COMPLETE: the entry in course of sequence `n` has made these conversions (R403, R406 to R411), after which its converter
chooses again (R406). A number of conversions other than the entry's N completes nothing, nor does an entry that its converter has
not taken. -/
def execAdcEntryComplete (n : Fin 8) (convs : List Conv) (s : State) : State :=
  let n := n.val
  let i := (sqOf s n).entry
  let m := convBound s n
  if !s.bit (ADC_SQn_STAT_RUNNING n) ∨ !convOwned s m n ∨ convs.length ≠ 2 ^ s.rd (ADC_SQn_Ei_AVG_LOG2 n i) then s
  else
    let k := s.rd (ADC_SQn_Ei_INPUT n i)
    let codes := (convs.zip (List.range convs.length)).map (fun x => convCode (convOf s n x.2) x.1 s)
    let sum := codes.foldl (· + ·) 0
    let sh := s.rd (ADC_SQn_Ei_SHIFT n i)
    let value := min ((sum + (if sh = 0 then 0 else 2 ^ (sh - 1))) / 2 ^ sh) 65535
    let mean := (sum * 2 + convs.length) / (2 * convs.length)
    let ovr := convs.any (fun c => c.ovr.isSome)
    let t := s.forL convs (fun c u => if k < 17 then noteOvr k c u else u)
    let t := setLast k mean ovr t
    let w := 2 ^ 31 + boolNat ovr * 2 ^ 30 + n * 2 ^ 27 + i * 2 ^ 23 + passCount t n * 2 ^ 16 + value
    let t := bobResult n w t
    let made := (sqOf t n).made + convs.length
    nextOwner m (if s.rd (ADC_SQn_CFG_NE_M1 n) ≤ i then passEnd n t else setSq n { sqOf t n with entry := i + 1, made := made } t)

/-! ### Sequence states -/

/-- A sequence as a unit (R416): STARTING clears the pointers and powers the converter. -/
def sqUnit (n : Nat) : UnitF :=
  { unit := ADC_SQn_STAT_UNIT n, en := ADC_SQn_CTRL_EN n, pending := ADC_SQn_STAT_EN_PENDING n,
    start := fun s =>
      let t := (s.wr (ADC_SQn_WPTR_PTR n) 0).wr (ADC_SQn_RPTR_PTR n) 0
      syncAdc (syncFill n (setSq n sqIdle ((t.wr (ADC_SQn_STAT_TCOUNT n) 0).wr (ADC_SQn_STAT_RUNNING n) 0))) }

/-- Another sequence that is not OFF satisfies `f`. -/
def otherOn (n : Nat) (f : Nat → Bool) (s : State) : Bool :=
  (List.range 8).any (fun m => decide (m ≠ n ∧ s.rd (ADC_SQn_STAT_UNIT m) ≠ 0) && f m)

/-- An ADC_START is answered BUSY: overlapping pool, untrained memory, or the interleaved pair (R412, R416). -/
def sqBusy (n : Nat) (s : State) : Bool :=
  let base (m : Nat) : Nat := s.rd (ADC_SQn_BOB_BASE_BASE m)
  let onThree (m : Nat) : Bool := decide (s.rd (ADC_SQn_CFG_CONV m) = 3)
  let pair (m : Nat) : Bool := s.bit (ADC_SQn_CFG_INTERLEAVE m)
  (!bobSurface s n && otherOn n (fun m => !bobSurface s m && overlap (base n) (bobSize s n) (base m) (bobSize s m)) s)
    || (bobSurface s n && !s.bit DEV_CONFIG_SMEM_TRAINED)
    || (onThree n && otherOn n pair s) || (pair n && otherOn n onThree s)

/-- ENABLE of a sequence. -/
def sqEnable (n : Nat) (s : State) : State × Status :=
  if s.rd (ADC_SQn_STAT_UNIT n) = 0 ∧ sqBusy n s then (s, .busy)
  else let r := unitEnable (sqUnit n) s; (syncAdc r.1, r.2)

/-- DISABLE of a sequence: no new pass starts. A start that is stopped has no pass. -/
def sqDisable (n : Nat) (s : State) : State × Status :=
  let r := unitDisable (sqUnit n) (fun t => if t.bit (ADC_SQn_STAT_RUNNING n) then t else passEnd n t) s
  (syncAdc r.1, r.2)

/-- ADC_START and ADC_STOP (R416). -/
def adcStart (o : Outst) (s : State) : Res :=
  if 8 ≤ o.cmd.p0 then ans s .badParam else resOf (sqEnable o.cmd.p0 s)
def adcStop (o : Outst) (s : State) : Res :=
  if 8 ≤ o.cmd.p0 then ans s .badParam else resOf (sqDisable o.cmd.p0 s)

/-- ADC_SEQ_ON: 2 µs after the start (R416); a continuous sequence starts its first pass (R405). -/
def execAdcSeqOn (n : Fin 8) (s : State) : State :=
  if s.rd (ADC_SQn_STAT_UNIT n.val) = 1 then
    let t := syncAdc (s.wr (ADC_SQn_STAT_UNIT n.val) 2)
    if t.rd (ADC_SQn_CFG_TRIG n.val) = 0 then trigger n.val t else t
  else s

/-- ADC_SEQ_OFF: the last pass and block have ended (R416), and a pending enable runs (R280). -/
def execAdcSeqOff (n : Fin 8) (s : State) : State :=
  let x := sqOf s n.val
  if s.rd (ADC_SQn_STAT_UNIT n.val) = 3 ∧ !s.bit (ADC_SQn_STAT_RUNNING n.val) ∧ x.blocks.isEmpty ∧ x.cur.isEmpty then
    syncAdc (unitOff (sqUnit n.val) (fun t => !sqBusy n.val t) s)
  else s

/-! ### ADC_SEQ_CFG -/

/-- INPUT codes that are assigned (R402). -/
def inputOk (k : Nat) : Bool := decide (k ≤ 16 ∨ k = 30 ∨ k = 31)

/-- Check 1 of R417 on ADC_SQn_CFG. -/
def sqCfgOk (w : Nat) : Bool :=
  decide (w / 4096 % 4 = 0 ∧ w / 8 % 2 = 0 ∧ w / 16384 % 4 ≤ 2 ∧ (w / 16384 % 4 = 2 → 1 ≤ w / 65536))

/-- Reserved bits of an entry are 0 (check 1). -/
def entryRsvOk (w : Nat) : Bool := decide (w / 2 ^ 24 = 0 ∧ w / 2 ^ 14 % 4 = 0 ∧ w / 32 % 8 = 0)

/-- Check 3 of R417 on an entry. -/
def entryOk (pair : Bool) (w : Nat) : Bool :=
  let st := w / 256 % 64
  inputOk (w % 32) && decide (2 ≤ st ∧ w / 2 ^ 16 % 16 ≤ 8 ∧ w / 2 ^ 20 % 16 ≤ 8) && (!pair || decide (st = 2))

/-- The first failing check of R417: code and entry. -/
def seqCfgCheck (w : List Nat) : Option (Nat × Nat) :=
  let cfg := w.getD 0 0
  let base := w.getD 1 0
  let bob := w.getD 2 0
  let es := w.drop 3
  let pair := decide (cfg / 4 % 2 = 1)
  let lg := bob / 2 ^ 22 % 32
  let place := if 2 ^ 31 ≤ bob then decide (10 ≤ lg ∧ lg ≤ 21 ∧ base % 64 = 0)
    else decide (6 ≤ lg ∧ lg ≤ 13 ∧ base % 2 ^ lg = 0 ∧ base + 2 ^ lg ≤ 8192)
  let wm := bob % 2 ^ 22
  if !sqCfgOk cfg || decide (bob / 2 ^ 27 % 8 ≠ 0) || !es.all entryRsvOk then some (1, 0)
  else if pair ∧ cfg % 4 ≠ 2 then some (2, 0)
  else match (List.range es.length).find? (fun i => !entryOk pair (es.getD i 0)) with
    | some i => some (3, i)
    | none => if !place then some (4, 0) else if wm = 0 ∨ 2 ^ lg < wm then some (5, 0) else none

/-- ADC_SEQ_CFG (R417). -/
def adcSeqCfg (o : Outst) (s : State) : Res :=
  let n := o.cmd.p0
  let w := o.cmd.words.map BitVec.toNat
  let bob := w.getD 2 0
  if 8 ≤ n then ans s .badParam
  else if s.rd (ADC_SQn_STAT_UNIT n) ≠ 0 then ans s .busy
  else if o.cmd.len ≠ 5 + w.getD 0 0 / 16 % 16 then ans s .badLength
  else if 2 ^ 31 ≤ bob ∧ !inUsable s (w.getD 1 0) (4 * 2 ^ (bob / 2 ^ 22 % 32)) then ans s .badAddress
  else match seqCfgCheck w with
    | some (c, i) => ans (((s.wr ADC_CFG_ERR_CODE c).wr ADC_CFG_ERR_ENTRY i).wr ADC_CFG_ERR_SEQ n) .badParam
    | none =>
      let v (i : Nat) : Word := o.cmd.words.getD i 0#32
      let t := ((s.setReg (ADC_SQn_CFG n) (v 0)).setReg (ADC_SQn_BOB_BASE n) (v 1)).setReg (ADC_SQn_BOB_CFG n) (v 2)
      ok (syncFill n (t.forN (w.length - 3) (fun i u => u.setReg (ADC_SQn_Ei n i) (v (3 + i)))))

/-! ### Registers -/

/-- Registers of a sequence that may be written only while it is OFF (R418). -/
def adcRegBusy (a : Nat) (s : State) : Bool :=
  (List.range 8).any (fun n => decide (s.rd (ADC_SQn_STAT_UNIT n) ≠ 0
    ∧ (a = ADC_SQn_CFG n ∨ a = ADC_SQn_BOB_BASE n ∨ a = ADC_SQn_BOB_CFG n
        ∨ (ADC_SQn_Ei n 0 ≤ a ∧ a < ADC_SQn_Ei n 16))))

/-- Words that a Bobbin would hold with RPTR at `v` (R415). -/
def rptrFill (n v : Nat) (s : State) : Nat := (s.rd (ADC_SQn_WPTR_PTR n) + 2 ^ 24 - v % 2 ^ 24) % 2 ^ 24

/-- A host write of ADC_SQn_RPTR (R415): refused when the fill would be negative, or larger than it is. -/
def rptrWrite (n v : Nat) (s : State) : State × Status :=
  if bobFill s n < rptrFill n v s then (s, .badParam) else (syncFill n (s.wr (ADC_SQn_RPTR_PTR n) v), .ok)

/-- A word of the on-chip Bobbin pool, read through its alias (R413). -/
def poolWord (s : State) (i : Nat) : Nat := (storeGet 0#32 s.adc.pool i).toNat

/-- ADC_CTRL.CNT_CLR (R418). -/
def adcCntClr (s : State) : State := s.forN 8 (fun n t => t.setReg (ADC_SQn_COUNT n) 0#32)

/-- A frame begins: each input's over-range may be raised again (R411). -/
def adcTick (s : State) : State := { s with adc := { s.adc with ovrSeen := [] } }

end Sys2Proof.Machine
end

