-- ==== Sys2Proof/Machine/Admit.lean ====
section
/-!
DEFINITION. Admission of host commands: the ten steps of R264 with their refusals, the claims of R288 and R289, the
copies of DUP channels of R295 to R299, the fences of R274, and the path from a packet in a link buffer to the command's
execution and its reply.
-/
namespace Sys2Proof.Machine

/-! ### What an opcode requires -/

/-- The class bits that an opcode requires (R271). -/
def opClasses : Opcode → List Nat
  | .unknown _ => []
  | .nop | .ping | .tack | .fence | .thimbleAcquire | .thimbleRelease | .deviceInfo => []
  | .readReg | .readBlock | .tableRead | .thimbleQuery | .retireQuery | .safeStatus | .traceRead | .calRead | .powerQuery
  | .faultRead | .healthRead | .chanQuery | .stateRead => [0]
  | .writeReg | .modifyReg => [1]
  | .surfWrite | .surfRead | .surfFill | .surfCopy => [2]
  | .layerSet | .layerEnable | .layerDisable => [3]
  | .commit | .commitAt => [4]
  | .tableLoad => [5]
  | .safeMsg | .spbLoad | .safeTest => [6]
  | .loopCfg | .loopEnable | .loopDisable | .setpoint | .loopHold | .traceArm => [7]
  | .adcSeqCfg | .adcStart | .adcStop | .tempMeasure => [8]
  | .calRun | .calWrite | .crcRun => [9]
  | .powerEnter | .vscale => [10]
  | .faultClear | .faultCfg => [11]
  | .spareForce | .proofReq => [12]
  | .linkTest | .linkInject => [13]
  | .fenceGlobal | .chanCfg | .fwPatchLoad | .fwPatchActivate | .resync => [14]

/-- The class bit of a register write's target block (R271); none for DEV, the SRAM window and unassigned addresses. -/
def blockClass (a : Nat) : List Nat :=
  if inSurface a then [2]
  else match a / 0x10000 with
    | 0x1 | 0x2 | 0x15 => [13]
    | 0x3 | 0x4 => [14]
    | 0x5 => [6]
    | 0x6 | 0x7 | 0x8 | 0x9 => [3]
    | 0xA => [12]
    | 0xB | 0xE => [8]
    | 0xC | 0xD => [7]
    | 0xF => [11]
    | 0x10 | 0x11 => [10]
    | 0x12 | 0x13 => [9]
    | 0x14 => [2]
    | _ => []

/-- The Thimble of a register write's target block (R271). -/
def blockThimble (a : Nat) : List Nat :=
  match a / 0x10000 with
  | 0x3 | 0x4 => [0]
  | 0x5 => [2]
  | 0xC | 0xD => [4]
  | 0x10 | 0x11 => [3]
  | 0x13 => [5]
  | _ => []

/-- Every class bit that a command requires at step 8. -/
def classesOf (op : Opcode) (c : Cmd) : List Nat :=
  opClasses op ++
    (if op = .writeReg ∨ op = .modifyReg then blockClass (c.w 1)
     else if op = .tableLoad ∧ (c.p0 % 256 = 4 ∨ c.p0 % 256 = 7) then [6] else [])

/-- Every Thimble that a command requires at step 10. -/
def thimblesOf (op : Opcode) (c : Cmd) : List Nat :=
  match op with
  | .writeReg | .modifyReg => blockThimble (c.w 1)
  | .tableLoad => if c.p0 % 256 = 4 ∨ c.p0 % 256 = 7 then [1, 2] else [1]
  | .spareForce => [1]
  | .spbLoad | .safeTest => [2]
  | .loopCfg | .loopEnable | .loopHold => [4]
  | .calRun | .calWrite => [5]
  | .powerEnter | .vscale => [3]
  | .chanCfg | .fwPatchLoad | .fwPatchActivate => [0]
  | _ => []

/-- Step 9: LEN lies in the opcode's range. Where the range depends on a parameter it is judged for that parameter. -/
def lenOk (op : Opcode) (c : Cmd) : Bool :=
  let n := c.len
  match op with
  | .ping => decide (n ≤ 512)
  | .readReg | .readBlock | .thimbleAcquire | .safeMsg | .setpoint | .commitAt | .faultRead | .healthRead | .spareForce
  | .proofReq | .linkTest | .tack | .powerEnter => decide (n = 2)
  | .writeReg | .surfRead | .retireQuery | .traceArm | .traceRead | .faultCfg | .chanCfg | .resync => decide (n = 3)
  | .modifyReg | .surfFill | .surfCopy | .tableRead => decide (n = 4)
  | .surfWrite | .tableLoad | .fwPatchLoad => decide (3 ≤ n ∧ n ≤ 512)
  | .layerSet => decide (n = 12)
  | .spbLoad => decide (29 ≤ n ∧ n ≤ 125)
  | .loopCfg =>
    match c.p0 % 4 with
    | 0 => decide (n = 7)
    | 1 => decide (n = 8)
    | 2 => decide (n = 4)
    | _ => decide (4 ≤ n ∧ n ≤ 8)
  | .adcSeqCfg => decide (5 ≤ n ∧ n ≤ 20)
  | .calWrite =>
    let t := c.p0 % 8
    if t < 4 then decide (n = 260) else if t < 6 then decide (n = 5) else if t = 6 then decide (n = 7)
    else decide (5 ≤ n ∧ n ≤ 260)
  | .crcRun =>
    match c.p0 / 4096 with
    | 0 | 3 => decide (n = 1)
    | 1 => decide (n = 2 + (c.w 1 + 3) / 4 ∧ n ≤ 512)
    | 2 => decide (n = 3)
    | _ => decide (n ≤ 512)
  | _ => decide (n = 1)

/-! ### Refusals -/

/-- Detail word of the CMD fault sources: port, channel and opcode. -/
def cmdDetail (op : Opcode) (c : Cmd) : Nat := c.port.num + c.ch * 256 + op.code * 65536

/-- A refusal: the record of the last refused command, and the reply; refusals that R266 caps are counted instead once
the cap of the frame is reached. -/
def refuse (st : Status) (capped on255 : Bool) (ws : List Nat) (op : Opcode) (c : Cmd) (s : State) : State :=
  let t := (s.wr CMD_LAST_REFUSED_STATUS st.code).wr CMD_LAST_REFUSED_CHAN c.ch
  let t := (t.wr CMD_LAST_REFUSED_OPCODE op.code).wr CMD_LAST_REFUSED_PORT c.port.num
  let n := storeGet 0 t.cmd.errSent c.port.num
  if capped ∧ t.rd CMD_CFG_ERR_REPLY_MAX ≤ n then t.bump CMD_COUNT1_ERR_DROPPED
  else
    let t := t.when capped (fun u =>
      { u with cmd := { u.cmd with errSent := storeSet 0 u.cmd.errSent c.port.num (n + 1) } })
    let ch := if on255 then 255 else c.ch
    queueReply (mkReply c.port ch (keyOf (chanW1 t ch)) c ⟨st, ws, none⟩ t) t

/-- Steps 1 and 2 of R264. -/
def admitA (op : Opcode) (c : Cmd) (s : State) : Option State :=
  let w1 := chanW1 s c.ch
  if c.ch = 255 ∨ w1 / 2 ^ 31 % 2 = 0 ∨ w1 / 2 ^ (29 + c.port.num) % 2 = 0 then
    some (refuse .notPrivileged true true [] op c (raise 0x10 (cmdDetail op c) (s.bump CMD_COUNT0_PRIV)))
  else
    let okTag := match keyOf w1 with
      | some _ => c.a && c.tagOk
      | none => !c.a
    if okTag then none
    else some (refuse .authFail true false [] op c (raise 0x12 (cmdDetail op c) (s.bump CMD_COUNT0_AUTH)))

/-- Key of the rate count of a channel and port. -/
def rateKey (c : Cmd) : Nat := c.ch * 2 + c.port.num

/-- The command counts at step 3. -/
def countRate (c : Cmd) (s : State) : State :=
  { s with cmd := { s.cmd with rate := storeSet 0 s.cmd.rate (rateKey c) (storeGet 0 s.cmd.rate (rateKey c) + 1) } }

/-- Step 3, on the count before this command. -/
def admitRate (n : Nat) (op : Opcode) (c : Cmd) (s : State) : Option State :=
  let r := s.rd (CMD_CHANn_W0_RATE c.ch)
  if r ≠ 0 ∧ r ≤ n then
    some (refuse .rateLimited true false [] op c (raise 0x11 (cmdDetail op c) (s.bump CMD_COUNT1_RATE)))
  else none

/-- An opening command refused by a check that needs only its own words: its transfer stays open to absorb its data packets
(R263). -/
def absorbRefused (op : Opcode) (c : Cmd) (s : State) : State :=
  let o : Outst := ⟨op, c, 0, (s.reg (CMD_CHANn_W0 c.ch)).toNat, chanW1 s c.ch⟩
  let g := givenBytes o
  if (op = .surfWrite ∨ op = .tableLoad) ∧ g.length < o.cmd.w 2 then openXfer o (o.cmd.w 2) g true s else s

/-- Step 4: the PTYPE of the opcode (R264, R291). -/
def ptypeOk (op : Opcode) (c : Cmd) : Bool :=
  decide (c.ptype.toNat = (if op = .safeMsg then 6 else if op = .tack then 4 else 1))

/-- Steps 4 and 5. -/
def admitForm (op : Opcode) (c : Cmd) (s : State) : Option State :=
  if !ptypeOk op c then some (refuse .badOpcode false false [] op c s)
  else if c.d ≠ dupOf (chanW1 s c.ch) then some (refuse .badParam false false [] op c s)
  else none

/-- Word 1 of a DUPLICATE reply (R265, R297). -/
def dupWord (key : Nat) (c : Cmd) (diverged : Bool) (s : State) : Nat :=
  match storeGet none s.cmd.lastRep key with
  | some r => if r.seq = c.seq.toNat then r.status * 2 ^ 24 + r.tag * 65536 + boolNat diverged else 0xFFFFFFFF
  | none => 0xFFFFFFFF

/-- A DUPLICATE refusal. -/
def refuseDup (key : Nat) (diverged : Bool) (op : Opcode) (c : Cmd) (s : State) : State :=
  refuse .duplicate false false [dupWord key c diverged s] op c (s.bump CMD_COUNT2_DUPLICATE)

/-- Step 6 on a SINGLE channel. -/
def admitSeq (op : Opcode) (c : Cmd) (s : State) : Option State :=
  let k := streamKey (chanW1 s c.ch) c.ch c.port.num
  match storeGet none s.cmd.lastSeq k with
  | some q => if later 16 c.seq.toNat q then none else some (refuseDup k false op c s)
  | none => none

/-- Step 7: why a claim is not current (R288, R289); 0 when it is current, else the fault source. -/
def claimFault (c : Cmd) (s : State) : Nat :=
  let dup := dupOf (chanW1 s c.ch)
  let epoch := if dup then s.rd CCX_DUP_SEPOCH else s.rd (CCX_HOSTx_EPOCH c.port.num)
  if c.claimId ≠ boolNat dup ∨ later 15 c.epoch epoch then 0x71
  else if c.epoch ≠ epoch ∨ hostLost s c.port.num ∨ (dup ∧ !s.bit CCX_DUP_LIVE) then 0x13
  else 0

/-- Step 7 of R264. -/
def admitClaim (op : Opcode) (c : Cmd) (s : State) : Option State :=
  if op = .stateRead ∨ op = .resync ∨ op = .deviceInfo then none
  else
    let f := claimFault c s
    if f = 0 then none
    else some (refuse .stale true false [] op c
      (raise f (if f = 0x71 then c.port.num + c.ch * 256 else cmdDetail op c) s))

/-- Whether the port of a command holds Thimble `t`; on a DUP channel either port's holding passes (R278). -/
def holdsThimble (c : Cmd) (s : State) (t : Nat) : Bool :=
  let h := s.rd (CMD_THIMBLEn_HOLDER t)
  if dupOf (chanW1 s c.ch) then decide (h ≠ 0) else decide (h = c.port.num + 1)

/-- Steps 8 to 10. -/
def admitRights (op : Opcode) (c : Cmd) (s : State) : Option State :=
  let cls := s.rd (CMD_CHANn_W0_CLASS c.ch)
  if !(classesOf op c).all (fun b => decide (cls / 2 ^ b % 2 = 1)) then
    some (refuse .notPrivileged false false [] op c (raise 0x10 (cmdDetail op c) (s.bump CMD_COUNT0_PRIV)))
  else if !lenOk op c then some (absorbRefused op c (refuse .badLength false false [] op c s))
  else if !(thimblesOf op c).all (holdsThimble c s) then
    some (absorbRefused op c (refuse .thimbleRequired false false [] op c s))
  else none

/-! ### Execution and fences -/

/-- A command that fences its channel: the F flag, or FENCE (R274). -/
def isFenced (o : Outst) : Bool := o.cmd.f || decide (o.op = .fence)

/-- The registers that a command's words name for writing, as pairs of first address and length in bytes (R18). -/
def writesAt (o : Outst) : List (Nat × Nat) :=
  match o.op with
  | .writeReg | .modifyReg => [(o.cmd.w 1 / 4 * 4, 4)]
  | .layerSet => [(CMP_Lk_CTRL (o.cmd.p0 % 8), 44)]
  | .layerEnable | .layerDisable => [(CMP_Lk_CTRL (o.cmd.p0 % 8), 4)]
  | .loopEnable | .loopDisable | .loopCfg | .setpoint =>
    [if o.cmd.p0 % 4 = 0 then (LE0_CTRL, 0x10000) else (LE1_CTRL, 0x10000)]
  | .loopHold => [(LE0_CTRL, 0x10000)]
  | .adcSeqCfg | .adcStart | .adcStop => [(ADC_SQn_CTRL (o.cmd.p0 % 8), 0x20)]
  | .chanCfg => [(CMD_CHANn_W0 (o.cmd.p0 % 256), 8)]
  | .faultCfg => [(FCR_SRCn_CFG (o.cmd.p0 % 128), 8)]
  | _ => []

/-- Two commands write the same register. -/
def sameRegister (o e : Outst) : Bool :=
  (writesAt o).any (fun x => (writesAt e).any (fun y => decide (x.1 < y.1 + y.2 ∧ y.1 < x.1 + x.2)))

/-- Whether a command waits, given the earlier admitted commands that are not complete: for a fence (R274), or for an earlier
write of the same register, since such writes keep the order of their admission (R18). SAFE_MSG takes no part in fences
(DEDUCED, log entry 22). -/
def fenceHolds (o : Outst) (earlier : List Outst) : Bool :=
  if o.op = .safeMsg then false
  else earlier.any (fun e =>
    decide (e.op ≠ .safeMsg) &&
      (decide (o.op = .fenceGlobal) || decide (e.op = .fenceGlobal) || sameRegister o e
        || (decide (e.cmd.ch = o.cmd.ch) && (isFenced o || isFenced e))))

/-- A FENCE or FENCE_GLOBAL whose PARAM0 is not 0: it is refused before it acts as a fence (R506). -/
def badFence (op : Opcode) (c : Cmd) : Bool := decide ((op = .fence ∨ op = .fenceGlobal) ∧ c.p0 ≠ 0)

/-- CMD_STAT.GFENCE: a FENCE_GLOBAL waits (R274). -/
def syncFence (s : State) : State :=
  s.wr CMD_STAT_GFENCE (boolNat (s.cmd.waiting.any (fun o => decide (o.op = .fenceGlobal))))

/-- Execute an admitted command, and reply unless it is answered later. While the core pair restarts, only TACK,
DEVICE_INFO and STATE_READ are executed (R309); after a failed ROM check only DEVICE_INFO is (R447). -/
def execute (body : Outst → State → Res) (o : Outst) (s : State) : State :=
  if s.bit PMU_STAT_BOOT_ERR ∧ o.op ≠ .deviceInfo then replyTo o ⟨.internalError, [], none⟩ s
  else if s.cmd.busyAll ∧ o.op ≠ .tack ∧ o.op ≠ .deviceInfo ∧ o.op ≠ .stateRead then replyTo o ⟨.busy, [], none⟩ s
  else if replyTooLong o s then replyTo o ⟨.badParam, [], none⟩ s
  else
    match body o s with
    | (t, some a) => let r := appendCheck o a t; replyTo o r.2 r.1
    | (t, none) => t

/-- A command admitted on a port fires the port's wake source, in D1 and while a power state is entered (R440, R441). An entry is
aborted when its progress is next judged (log entry 74). -/
def wakeAdmit (p : Nat) (s : State) : State :=
  let n := p % 2 + 1
  if !s.bitOf PMU_WAKE_EN_SRC n ∨ (s.rd PMU_STAT_STATE ≠ 1 ∧ s.rd PMU_STAT_ARM = 0) then s
  else
    let t := s.setBit PMU_WAKE_STAT_SRC n
    { t with pmu := { t.pmu with waking := t.pmu.waking || decide (s.rd PMU_STAT_STATE = 1), hit := some n } }

/-- Record an admitted command: SEQ, the DUP history, the journal entry, and the wake (R265, R297, R311, R441). -/
def recordAdmit (op : Opcode) (c : Cmd) (both : Bool) (s : State) : State :=
  let w1 := chanW1 s c.ch
  let k := streamKey w1 c.ch c.port.num
  let t := { s with cmd := { s.cmd with lastSeq := storeSet none s.cmd.lastSeq k (some c.seq.toNat),
                                        lastRep := storeSet none s.cmd.lastRep k none } }
  let t := t.when (dupOf w1) (fun u =>
    let h := (⟨c.seq.toNat, cmdWords op c⟩ :: storeGet [] u.cmd.dupHist c.ch).take 16
    { u with cmd := { u.cmd with dupHist := storeSet [] u.cmd.dupHist c.ch h } })
  wakeAdmit c.port.num (journalCmd op c both t)

/-- Start a command that has passed steps 1 to 6: steps 7 to 10, the records, the fences, and its execution. While the core pair
restarts, a command is answered at once and no fence holds it (R309). -/
def admitTail (op : Opcode) (body : Outst → State → Res) (c : Cmd) (both : Bool) (s : State) : State :=
  match admitClaim op c s with
  | some t => t
  | none =>
    match admitRights op c s with
    | some t => t
    | none =>
      let t := recordAdmit op c both s
      let o : Outst := ⟨op, c, nextJseq s, (s.reg (CMD_CHANn_W0 c.ch)).toNat, chanW1 s c.ch⟩
      if badFence op c then replyTo o ⟨.badParam, [], none⟩ t
      else if !t.cmd.busyAll && fenceHolds o (incomplete t) then
        syncFence { t with cmd := { t.cmd with waiting := t.cmd.waiting ++ [o] } }
      else execute body o t

/-! ### Copies on a DUP channel -/

/-- A copy that differs from the first copy: answered DUPLICATE, with the fault and the count of R296. -/
def twinDiffers (key : Nat) (op : Opcode) (c : Cmd) (s : State) : State :=
  let t := raise 0x71 (c.port.num + c.ch * 256) (s.bump CCX_COUNT2_DUP_DIVERGE)
  refuseDup key true op c t

/-- Remove a held first copy. -/
def unhold (o : Outst) (s : State) : State :=
  { s with cmd := { s.cmd with held := s.cmd.held.filter (fun h => decide (h.1 ≠ o)) } }

/-- The first copy held on a channel, if there is one (R295). -/
def heldOn (s : State) (ch : Nat) : Option Outst := (s.cmd.held.find? (fun h => decide (h.1.cmd.ch = ch))).map (fun h => h.1)

/-- A late twin of a command in the history: an equal one is absorbed, another is answered DUPLICATE (R297). -/
def lateCopy (e : DupEntry) (op : Opcode) (c : Cmd) (s : State) : State :=
  if e.words = cmdWords op c then s.bump CCX_COUNT3_ABSORBED
  else twinDiffers (streamKey (chanW1 s c.ch) c.ch c.port.num) op c s

/-- The history entry of a SEQ (R297). -/
def seqInHist (s : State) (ch q : Nat) : Option DupEntry :=
  (storeGet [] s.cmd.dupHist ch).find? (fun e : DupEntry => decide (e.seq = q))

/-- The held copy and its twin reached CMD in the same clock cycle, and CCX_DUP.PREF names the twin's port: the twin counts as the
first copy (R299). The twin's `tie` says so. -/
def twinFirst (h : Outst × Nat) (c : Cmd) (s : State) : Bool :=
  c.tie && decide (h.2 = s.now ∧ c.port ≠ h.1.cmd.port ∧ c.port.num = s.rd CCX_DUP_PREF)

/-- Step 6 on a DUP channel, for a copy that has passed steps 1 to 5 (R295 to R299). `run` starts an admitted command by
its opcode. -/
def admitDup (run : Opcode → Outst → State → Res) (op : Opcode) (c : Cmd) (s : State) : State :=
  let w1 := chanW1 s c.ch
  let k := streamKey w1 c.ch c.port.num
  let q := c.seq.toNat
  let held := s.cmd.held.find? (fun h => decide (h.1.cmd.ch = c.ch))
  let next := match storeGet none s.cmd.lastSeq k with
    | some l => some ((l + 1) % 65536)
    | none => held.map (fun h : Outst × Nat => h.1.cmd.seq.toNat)
  let twin := held.filter (fun h => decide (h.1.cmd.seq = c.seq))
  match twin, seqInHist s c.ch q with
  | some h, _ =>
    let u := unhold h.1 s
    if cmdWords h.1.op h.1.cmd = cmdWords op c then
      (admitTail h.1.op (run h.1.op) h.1.cmd true u).bump CCX_COUNT3_ABSORBED
    else if twinFirst h c s then twinDiffers k h.1.op h.1.cmd (admitTail op (run op) c false u)
    else twinDiffers k op c (admitTail h.1.op (run h.1.op) h.1.cmd false u)
  | none, some e => lateCopy e op c s
  | none, none =>
    if next.any (fun n => later 16 q n) then
      refuse .badParam false false [] op c (raise 0x71 (c.port.num + c.ch * 256) s)
    else if held.isNone ∧ next.all (fun n => decide (q = n)) then
      (if s.rd (CMD_CHANn_W1_DUP_HOLD c.ch) = 0 ∨ hostLost s c.port.other.num then
         admitTail op (run op) c false s
       else { s with cmd := { s.cmd with held :=
         s.cmd.held ++ [((⟨op, c, 0, (s.reg (CMD_CHANn_W0 c.ch)).toNat, w1⟩ : Outst), s.now)] } })
    else refuse .duplicate false false [0xFFFFFFFF] op c (s.bump CMD_COUNT2_DUPLICATE)

/-! ### From the link buffer to the reply -/

/-- The receive buffer's state of a port. -/
def portLink (s : State) (p : Nat) : PortLink := if p % 2 = 0 then s.link.a else s.link.b

/-- Replace the state of a port. -/
def setPortLink (p : Nat) (l : PortLink) (s : State) : State :=
  if p % 2 = 0 then { s with link := { s.link with a := l } } else { s with link := { s.link with b := l } }

/-- Whether a buffered packet carries this command. -/
def carries (op : Opcode) (c : Cmd) (r : RxPkt) : Bool :=
  decide (r.ptype = c.ptype.toNat ∧ r.chan = c.ch ∧ r.f = c.f ∧ r.a = c.a ∧ r.d = c.d ∧ r.seq = c.seq.toNat
    ∧ r.claim = c.claim.toNat ∧ r.tagOk = c.tagOk ∧ r.words = (cmdWords op c).drop 2)

/-- Remove the first packet of a list that satisfies `f`. -/
def takeFirst (f : RxPkt → Bool) : List RxPkt → List RxPkt × Nat
  | [] => ([], 0)
  | r :: l => if f r then (l, r.credits) else let t := takeFirst f l; (r :: t.1, t.2)

/-- CMD takes no packet from port `p`: its reply queue is full, boot is not complete, or a patch is being activated
(R264, R447, R449). The packet waits in the link buffer. -/
def cmdWaits (p : Port) (s : State) : Bool :=
  decide (64 ≤ rqLen s p) || !coresRun s || s.pmu.activate.isSome

/-- A first copy of the channel is held on the port, and what is behind it waits (R267, R295). -/
def behindHeld (p : Port) (ch : Nat) (s : State) : Bool :=
  s.cmd.held.any (fun h => decide (h.1.cmd.ch = ch ∧ h.1.cmd.port = p))

/-- PRIO of a channel (R267). -/
def prioOf (s : State) (ch : Nat) : Nat := s.rd (CMD_CHANn_W1_PRIO ch)

/-- How many channels the round of a channel's priority visits before it (R267). DESIGN CHOICE: each priority has its round, which
goes upwards from the channel it took last, and from channel 0 after reset (log entry 10). -/
def turnOf (s : State) (ch : Nat) : Nat := (ch + 255 - storeGet 255 s.cmd.turn (prioOf s ch)) % 256

/-- A packet of channel `x` goes before one of channel `y`: the higher PRIO, then the round (R267). -/
def goesBefore (s : State) (x y : Nat) : Bool :=
  decide (prioOf s y < prioOf s x ∨ (prioOf s x = prioOf s y ∧ turnOf s x < turnOf s y))

/-- The packets of a port that are ready for admission: in arrival order the first of each channel counts (R267). -/
def readyOn (p : Port) (s : State) : List RxPkt :=
  if cmdWaits p s then [] else (portLink s p.num).buf.filter (fun r => !behindHeld p r.chan s)

/-- The first buffered packet of a channel on a port. -/
def headOf (p : Port) (ch : Nat) (s : State) : Option RxPkt := (portLink s p.num).buf.find? (fun r => decide (r.chan = ch))

/-- On a DUP channel the copy of the same SEQ is ready on the other port, which CCX_DUP.PREF names: it is the first copy (R299). -/
def prefTwin (p : Port) (ch seq : Nat) (s : State) : Bool :=
  dupOf (chanW1 s ch) && decide (p.other.num = s.rd CCX_DUP_PREF) && !cmdWaits p.other s && !behindHeld p.other ch s
    && (headOf p.other ch s).any (fun r => decide (r.seq = seq ∧ r.ptype = 1))

/-- A packet of channel `ch` and SEQ `seq` on port `p` is not the one that CMD takes now: CMD takes none from the port, a held copy
stands before it, an earlier packet of its channel is in the buffer, or another ready packet goes before it (R264, R267, R295,
R299). `mine` recognises it in the buffer. -/
def waitsTurn (p : Port) (ch seq : Nat) (mine : RxPkt → Bool) (s : State) : Bool :=
  cmdWaits p s || behindHeld p ch s || (readyOn .a s ++ readyOn .b s).any (fun r => goesBefore s r.chan ch)
    || (headOf p ch s).any (fun r => !mine r) || prefTwin p ch seq s

/-- CMD takes a packet of a channel from the port's receive buffer: its credits are free (R240), and the round of its priority goes on
from it (R267). A packet that no buffer holds comes from a port whose traffic is not spelled out: nothing is freed. -/
def takePacket (p ch : Nat) (f : RxPkt → Bool) (s : State) : State :=
  let l := portLink s p
  let r := takeFirst f l.buf
  let t := setPortLink p { l with buf := r.1, freed := l.freed + r.2 } s
  let t := { t with cmd := { t.cmd with turn := storeSet 255 t.cmd.turn (prioOf t ch) ch } }
  if r.2 = 0 then t else t.wr (HLx_CRED_RX_FREE p) (min 3072 (t.rd (HLx_CRED_RX_FREE p) + r.2))

/-- A packet of PTYPE 0x1, 0x3 or 0x4 arrived on a channel from an owner port: the absence count restarts (R268). -/
def heard (chan p ptype : Nat) (s : State) : State :=
  if (ptype = 1 ∨ ptype = 3 ∨ ptype = 4) ∧ s.rd (CMD_CHANn_W1_PORTS chan) / 2 ^ (p % 2) % 2 = 1 then
    { s with cmd := { s.cmd with quiet := storeSet 0 s.cmd.quiet chan 0, absent := storeSet false s.cmd.absent chan false } }
  else s

/-- Whether an equal SEQ of this command is in the DUP history: it is a late twin, and opens nothing new. -/
def lateTwin (c : Cmd) (s : State) : Bool :=
  dupOf (chanW1 s c.ch) && (storeGet [] s.cmd.dupHist c.ch).any (fun e => decide (e.seq = c.seq.toNat))

/-- A command packet that arrives on a channel and port with an open transfer abandons it (R262). -/
def cutTransfer (c : Cmd) (s : State) : State :=
  if c.ptype.toNat = 1 ∧ !lateTwin c s then abandonWhere (fun x => xferOn x c.ch c.port.num) s else s

/-- A buffered command packet whose opcode the table does not have, or that has no payload word. -/
def unknownIn (r : RxPkt) : Bool :=
  decide (r.ptype = 1 ∨ r.ptype = 4 ∨ r.ptype = 6) &&
    match r.words with
    | [] => true
    | w :: _ => decide (opcodeOf (w / 2 ^ 24) = none)

/-- The command that a buffered packet carries. -/
def cmdOf (p : Port) (r : RxPkt) : Cmd :=
  let w0 := r.words.getD 0 0
  { port := p, ptype := BitVec.ofNat 4 r.ptype, chan := BitVec.ofNat 8 r.chan, f := r.f, a := r.a, d := r.d,
    seq := BitVec.ofNat 16 r.seq, claim := BitVec.ofNat 16 r.claim, tag := BitVec.ofNat 8 (w0 / 65536),
    param0 := BitVec.ofNat 16 w0, words := (r.words.drop 1).map (BitVec.ofNat 32), tagOk := r.tagOk, errs := [], tie := false, obs := [] }

/-- CMD refuses a packet of unknown opcode at step 4 of R264, unless an earlier step refuses it. -/
def refuseUnknown (op : Opcode) (c : Cmd) (s : State) : State :=
  let s := cutTransfer c (heard c.ch c.port.num c.ptype.toNat s)
  match admitA op c s with
  | some t => t
  | none =>
    let n := storeGet 0 s.cmd.rate (rateKey c)
    let s := countRate c s
    match admitRate n op c s with
    | some t => t
    | none => refuse .badOpcode false false [] op c s

/-- The packet of unknown opcode that CMD takes next, if one comes before every other ready packet. -/
def unknownNext (s : State) : Option (Port × RxPkt) :=
  let on (p : Port) : Option (Port × RxPkt) :=
    ((portLink s p.num).buf.find? (fun r =>
      unknownIn r && !waitsTurn p r.chan r.seq (fun x => decide (x = r)) s)).map (fun r => (p, r))
  match on .a with
  | some x => some x
  | none => on .b

/-- CMD takes and refuses up to `n` packets of unknown opcode that are due; they have no row of their own (log entry 68). -/
def drainUnknown : Nat → State → State
  | 0, s => s
  | n + 1, s =>
    match unknownNext s with
    | none => s
    | some (p, r) =>
      let op : Opcode := .unknown (BitVec.ofNat 8 (r.words.getD 0 0 / 2 ^ 24))
      drainUnknown n (refuseUnknown op (cmdOf p r) (takePacket p.num r.chan (fun x => decide (x = r)) s))

/-- Before CMD takes a packet, it has taken the packets of unknown opcode that are due. -/
def drained (s : State) : State := drainUnknown (s.link.a.buf.length + s.link.b.buf.length) s

/-- A command packet of a host is taken by CMD, admitted or refused, and executed. A packet that is not the one that CMD takes now
waits: nothing changes (R264, R267, R295). -/
def hostCommand (run : Opcode → Outst → State → Res) (op : Opcode) (c : Cmd) (s : State) : State :=
  let s := drained s
  if waitsTurn c.port c.ch c.seq.toNat (carries op c) s then s
  else
    let s := heard c.ch c.port.num c.ptype.toNat (takePacket c.port.num c.ch (carries op c) s)
    let s := cutTransfer c s
    match admitA op c s with
    | some t => t
    | none =>
      let n := storeGet 0 s.cmd.rate (rateKey c)
      let s := countRate c s
      match admitRate n op c s with
      | some t => t
      | none =>
        match admitForm op c s with
        | some t => t
        | none =>
          if dupOf (chanW1 s c.ch) then admitDup run op c s
          else
            match admitSeq op c s with
            | some t => t
            | none => admitTail op (run op) c false s

/-- A Tack is admitted by steps 1, 2, 4 and 9 only, takes no part in the rate, the journal or the fences, and is executed at once. A
packet of another PTYPE with its opcode is refused as any command is (R264, R291). -/
def hostTack (body : Cmd → State → State) (c : Cmd) (s : State) : State :=
  let s := drained s
  if waitsTurn c.port c.ch c.seq.toNat (carries .tack c) s then s
  else
    let s := takePacket c.port.num c.ch (carries .tack c) s
    if !ptypeOk .tack c then refuseUnknown .tack c s
    else
      let s := heard c.ch c.port.num c.ptype.toNat s
      match admitA .tack c s with
      | some t => t
      | none =>
        if c.d ∨ c.f then refuse .badParam false false [] .tack c s
        else if !lenOk .tack c then refuse .badLength false false [] .tack c s
        else body c s

end Sys2Proof.Machine
end

