-- ==== Sys2Proof/Machine/Link.lean ====
section
/-!
DEFINITION. The host link: training, retraining and link-down (R229 to R231), link packets in both directions (R232 to R242),
lane power states (R243 to R247), port enable (R250), and the lane maintenance engine's tests, injections and eye monitor
(R252 to R255).
-/
namespace Sys2Proof.Machine

/-! ### Ports -/

def linkOf (s : State) (p : Nat) : Nat := s.rd (HLx_STAT_LINK p)

/-- Replies queued for port `p`. -/
def queued (s : State) (p : Nat) : List Reply := s.cmd.replies.filter (fun r => decide (r.port.num = p % 2))

/-- Remove a port's replies. -/
def dropReplies (p : Nat) (s : State) : State :=
  syncStat { s with cmd := { s.cmd with replies := s.cmd.replies.filter (fun r => decide (r.port.num ≠ p % 2)) } }

/-- Credits the host grants now (R240): 0 beyond the limit. -/
def txAvail (l : PortLink) : Nat :=
  match l.limit with
  | some v => let d := (v + 65536 - l.consumed % 65536) % 65536; if d < 32768 then d else 0
  | none => 0

/-- HLx_CRED follows the port (R240). -/
def syncCred (p : Nat) (s : State) : State :=
  let l := portLink s p
  (((s.wr (HLx_CRED_RX_FREE p) (3072 - min 3072 (l.rxUsed - l.freed))).wr (HLx_CRED_TX_AVAIL p) (min 4095 (txAvail l))).wr
    (HLx_CRED_OUTSTANDING p) (min 16 l.replay.length))

/-- Replace a port's state, with HLx_CRED. -/
def putPort (p : Nat) (l : PortLink) (s : State) : State := syncCred p (setPortLink p l s)

def LME_INJ_KINDx (p : Nat) : Fld := if p % 2 = 0 then LME_INJ_KIND_A else LME_INJ_KIND_B
def LME_INJ_PENDx (p : Nat) : Fld := if p % 2 = 0 then LME_INJ_PEND_A else LME_INJ_PEND_B

/-- An injection of a kind is pending on a port (R254). -/
def injected (s : State) (p kind : Nat) : Bool := decide (s.rd (LME_INJ_PENDx p) ≠ 0 ∧ s.rd (LME_INJ_KINDx p) = kind)

/-- One occasion of the pending injection is used. -/
def injUse (p : Nat) (s : State) : State := s.wr (LME_INJ_PENDx p) (s.rd (LME_INJ_PENDx p) - 1)

/-- A packet needs these credits (R240): `w` words from PFX to the CRC word. -/
def creditsOf (w : Nat) : Nat := ceilDiv (4 * w) 64

/-- The host's limit lets a packet of `c` credits go (R240). -/
def creditOk (l : PortLink) (c : Nat) : Bool :=
  l.limit.any (fun v => decide ((v + 131072 - l.consumed % 65536 - c) % 65536 < 32768))

/-! ### Lanes and symbols -/

/-- The bytes of a port in transmission order, striped over its two lanes: the first byte on lane 0, the second on lane 1 (R225). -/
def stripe : List Nat → List Nat × List Nat
  | [] => ([], [])
  | [a] => ([a], [])
  | a :: b :: r => (a :: (stripe r).1, b :: (stripe r).2)

/-- The bytes that two lanes carry, in transmission order (R225). -/
def unstripe : List Nat → List Nat → List Nat
  | a :: x, b :: y => a :: b :: unstripe x y
  | _, _ => []

/-- The two lanes of a port show these symbols. -/
def setLanes (p : Nat) (x y : List Sym) (s : State) : State := setPortLink p { portLink s p with lane0 := x, lane1 := y } s

/-- One lane's symbols of a packet: SOP, its bytes, and EOP or EDB (R232). -/
def framed (edb : Bool) (l : List Nat) : List Sym := Sym.k .sop :: l.map Sym.d ++ [Sym.k (if edb then .edb else .eop)]

/-- A SKIP set, and the EIOS set that comes before electrical idle (R228). -/
def skipSet : List Sym := [.k .com, .k .skp, .k .skp, .k .skp]
def eios : List Sym := [.k .com, .k .eie, .k .eie, .k .eie]

/-- The training set that the engine sends on lane `i` of port `p` (R228). TXEQ is the preset it requests of its partner, which the
spec leaves open. -/
def trainingSet (ts2 fast l2exit : Bool) (p i : Nat) : List Sym :=
  [.k .com, .k (if ts2 then .ts2 else .ts1), .d (0x41 + p % 2), .d i, .d 1, .d (boolNat fast + 2 * boolNat l2exit),
   .d (Config.txeqRequest p i).toNat] ++ List.replicate 9 (.d 0x4A)

/-- The sets that lane `i` of a port sends for as long as it stays in its link state (R228, R229, R247): nothing in electrical idle,
the wake pattern D21.5, training sets, or idle fill between packets. -/
def sendsOf (s : State) (p i : Nat) : List Sym :=
  let l := portLink s p
  let k := linkOf s p
  let ts (two : Bool) : List Sym := trainingSet two l.fast (decide (l.wake = 2)) p i
  if k = 1 ∨ k = 2 ∨ k = 3 then ts false
  else if k = 4 then ts true
  else if k = 5 ∨ k = 8 then [.k .idl]
  else if k = 7 ∧ l.wake = 1 then [.d 0xB5]
  else []

/-- De-emphasis and preshoot of a transmit preset, in 0.1 dB (R499). -/
def presetLevels : Nat → Nat × Nat
  | 1 => (15, 0)
  | 2 => (25, 0)
  | 3 => (35, 0)
  | 4 => (45, 0)
  | 5 => (60, 0)
  | 6 => (35, 20)
  | 7 => (60, 20)
  | _ => (0, 0)

/-- ATTN_x_N is driven low (R249). -/
def attnLow (s : State) (p : Nat) : Bool :=
  decide ((s.reg (HLx_ATTN_STAT p)).toNat % 16 &&& s.rd (HLx_ATTN_MASK_MASK p) ≠ 0)

/-! ### Training, retraining, link-down -/

/-- A port's link goes down (R231, R249): the peer's attention, the queues, the LSEQ counts and the injection. The host's
CREDIT is awaited anew; the cumulative credit counts go on (DEDUCED, log entry 41). -/
def cutLink (p : Nat) (s : State) : State :=
  let l := portLink s p
  let t := dropReplies p (setCause (HLx_ATTN_STAT_PEER_DOWN (p + 1)) (s.bump (HLx_COUNT1_DOWNS p)))
  let t := ((t.wr (HLx_SEQ_TX_NEXT p) 0).wr (HLx_SEQ_RX_EXP p) 0).wr (LME_INJ_PENDx p) 0
  putPort p { l with dropping := false, ackOwed := 0, ctl := [], replay := [], resend := [], rounds := 0, limit := none
                     retrain := false, fast := false, l1Req := false, l2Req := false, entering := 0, wake := 0 } t

/-- A link fault takes the port to DETECT with LNK_DOWN (R231). -/
def linkDown (p cause : Nat) (s : State) : State :=
  let t := ((cutLink p s).wr (HLx_STAT_LAST_DOWN p) cause).wr (HLx_STAT_LINK p) 1
  raise 0x03 (p % 2 + cause * 256) (t.wr (HLx_STAT_UNIT p) 1)

/-- Retrain a port from L0 (R231). -/
def retrain (p : Nat) (s : State) : State :=
  if linkOf s p = 5 then
    let l := portLink s p
    let t := ((s.wr (HLx_STAT_LINK p) 2).wr (HLx_STAT_UNIT p) 1).bump (HLx_COUNT1_RETRAINS p)
    setPortLink p { l with retrain := true, fast := true, rounds := 0, l1Req := false, l2Req := false, entering := 0 } t
  else s

/-- The reference temperature of a port's lanes is taken when the port first reaches L0 (R466). -/
def firstL0 (p : Nat) (s : State) : State :=
  if s.bit (CAL_Tt_STAT_VALID (4 + p % 2)) then s
  else (s.wr (CAL_Tt_STAT_T_REF (4 + p % 2)) (s.rd (THM_RESn_TEMP (68 + p % 2)))).wr (CAL_Tt_STAT_VALID (4 + p % 2)) 1

/-- L0 is entered from CONFIG: the engine advertises its receive buffer (R240). -/
def enterL0 (p : Nat) (s : State) : State :=
  let l := portLink s p
  let t := firstL0 p ((s.wr (HLx_STAT_LINK p) 5).wr (HLx_STAT_UNIT p) 2)
  putPort p { l with adv := l.freed + 3072, ctl := l.ctl ++ [(3, (l.freed + 3072) % 65536)], retrain := false, fast := false
                     wake := 0 } t

/-- LANE_SIGNAL_DETECT (R229). -/
def execLaneSignalDetect (p : Port) (s : State) : State :=
  if linkOf s p.num = 1 then s.wr (HLx_STAT_LINK p.num) 2 else s

/-- A lane's transmit preset follows TXEQ of the sets received with its number; a value above 7 names no preset (R228, R499). -/
def takePreset (x : TrainSet) (l : PortLink) : PortLink :=
  if 7 < x.txeq.toNat then l
  else if x.lane = 0#8 then { l with preset0 := x.txeq.toNat } else if x.lane = 1#8 then { l with preset1 := x.txeq.toNat } else l

/-- The two lanes' sets resolve the lane numbers, and their skew can be taken up (R230). -/
def lanesResolved (t0 t1 : TrainSet) (skew : Nat) : Bool :=
  decide ((t0.lane = 0#8 ∧ t1.lane = 1#8 ∨ t0.lane = 1#8 ∧ t1.lane = 0#8) ∧ skew ≤ 6)

/-- TRAINING_SET_RECEIVE (R228 to R230): `run` consecutive sets without a code violation have come on the engine's two lanes, `t0` on
lane 0 and `t1` on lane 1, with a skew of `skew` symbol times; the engine has sent `sent` sets, TS1 since ALIGN or TS2. Sets whose
PORT is not 0x48 are ignored. -/
def execTrainingSetReceive (p : Port) (t0 t1 : TrainSet) (run sent skew : Nat) (s : State) : State :=
  let p := p.num
  let k := linkOf s p
  if t0.port ≠ 0x48#8 ∨ t1.port ≠ 0x48#8 ∨ k < 2 ∨ 4 < k then s
  else
    let s := setPortLink p (takePreset t1 (takePreset t0 (portLink s p))) s
    if k = 2 then
      (if run < 8 then s
       else ((s.wr (HLx_STAT_LINK p) 3).wr (HLx_STAT_POL_INV0 p) (boolNat (decide (t0.rest = 0xB5#8)))).wr (HLx_STAT_POL_INV1 p)
        (boolNat (decide (t1.rest = 0xB5#8))))
    else if k = 3 then
      (if lanesResolved t0 t1 skew ∧ 16 ≤ sent then
         (s.wr (HLx_STAT_LINK p) 4).wr (HLx_STAT_LANE_REV p) (boolNat (decide (t0.lane = 1#8)))
       else s)
    else if t0.ts2 ∧ t1.ts2 ∧ 8 ≤ run ∧ 16 ≤ sent then enterL0 p s
    else s

/-- TRAINING_TIMEOUT (R229). A retrain has its own limit. -/
def execTrainingTimeout (p : Port) (s : State) : State :=
  let p := p.num
  if 1 ≤ linkOf s p ∧ linkOf s p ≤ 4 ∧ !(portLink s p).retrain then
    (s.wr (HLx_STAT_LINK p) 1).wr (HLx_STAT_LAST_DOWN p) 1
  else s

/-- CODE_VIOLATION_LIMIT (R228, R231): the code violations on one lane in 64 symbol times: `bad` symbols that are no code, and
`misplaced` control characters outside the use that R228 gives them. More than 8 retrain a port in L0. -/
def execCodeViolationLimit (p : Port) (bad misplaced : Nat) (s : State) : State :=
  let n := bad + misplaced
  let t := s.bumpBy (HLx_COUNT2_SYM_ERR p.num) n
  if 8 < n then retrain p.num t else t

/-- RETRAIN_TIMEOUT (R231). -/
def execRetrainTimeout (p : Port) (s : State) : State := if (portLink s p.num).retrain then linkDown p.num 2 s else s

/-! ### Sending control packets -/

/-- A link control packet is queued (R237). -/
def sendCtl (p kind v : Nat) (s : State) : State :=
  let l := portLink s p
  setPortLink p { l with ctl := l.ctl ++ [(kind, v % 65536)] } s

/-- An ACK is sent, unless an injection suppresses it (R238, R254). -/
def sendAck (p : Nat) (s : State) : State :=
  let t := setPortLink p { portLink s p with ackOwed := 0 } s
  if injected t p 3 then injUse p t else sendCtl p 1 (t.rd (HLx_SEQ_RX_EXP p) + 65535) t

/-- A packet has been handed off: every eighth is acknowledged at once (R238). -/
def owesAck (p : Nat) (s : State) : State :=
  let l := portLink s p
  let t := setPortLink p { l with ackOwed := l.ackOwed + 1 } s
  if 8 ≤ l.ackOwed + 1 then sendAck p t else t

/-- ACK_LATENCY_EXPIRY (R238). -/
def execAckLatencyExpiry (p : Port) (s : State) : State :=
  if (portLink s p.num).ackOwed ≠ 0 then sendAck p.num s else s

/-- A NAK naming the expected LSEQ is sent, and packets are discarded until it arrives (R238). -/
def sendNak (p : Nat) (s : State) : State :=
  setPortLink p { portLink s p with dropping := true } s |> sendCtl p 2 (s.rd (HLx_SEQ_RX_EXP p))

/-! ### Receiving control packets -/

/-- A malformed packet is counted and reported (R235). -/
def malformed (p ptype : Nat) (s : State) : State := raise 0x04 (p % 2 + ptype * 16) (s.bump (HLx_COUNT1_MALFORMED p))

/-- The packets up to LSEQ `v` are acknowledged. -/
def ackTo (p v : Nat) (s : State) : State :=
  let l := portLink s p
  let keep (x : TxPkt) : Bool := later 16 x.lseq v
  let rest := l.replay.filter keep
  let rounds := if rest.length = l.replay.length then l.rounds else 0
  putPort p { l with replay := rest, resend := l.resend.filter keep, rounds := rounds } s

/-- A resend round, or the retrain once REPLAY_MAX rounds have not been acknowledged (R231, R239). A port in STOPPING does not retrain:
it waits for its end (log entry 118). -/
def startResend (p : Nat) (s : State) : State :=
  let l := portLink s p
  if l.replay.isEmpty then s
  else if s.rd (HLx_CFG_REPLAY_MAX p) ≤ l.rounds then (if linkOf s p = 5 then retrain p (raise 0x02 (p % 2) s) else s)
  else setPortLink p { l with resend := l.replay, rounds := l.rounds + 1 } (s.bump (HLx_COUNT0_REPLAYS p))

/-- A received NAK (R238, R239). -/
def takeNak (p v : Nat) (s : State) : State := startResend p (ackTo p (v + 65535) s)

/-- A received CREDIT (R240, R241). -/
def takeCredit (p v : Nat) (s : State) : State :=
  let l := portLink s p
  match l.limit with
  | some o => if later 16 v o then putPort p { l with limit := some v } s else if v = o then s else malformed p 5 s
  | none => putPort p { l with limit := some v } s

/-- The link control packets that are no part of a handshake of L1 or L2. -/
def ctlPlain (l : List (Nat × Nat)) : List (Nat × Nat) := l.filter (fun x => decide (x.1 ≤ 3))

/-- The handshakes of L1 and L2 in course end. -/
def endHandshake (l : PortLink) : PortLink := { l with ctl := ctlPlain l.ctl, l1Req := false, l2Req := false, entering := 0 }

/-- L1 or L2 is entered after EIOS (R243, R246): 6 or 7. -/
def enterLow (p link : Nat) (s : State) : State :=
  setLanes p eios eios (setPortLink p (endHandshake (portLink s p)) (s.wr (HLx_STAT_LINK p) link))

/-- The engine starts to leave L2 (R247, R249). -/
def startL2Exit (p : Nat) (s : State) : State :=
  if linkOf s p = 7 ∧ (portLink s p).wake = 0 then
    setPortLink p { portLink s p with wake := 1 } (setCause (HLx_ATTN_STAT_WAKE p) s)
  else s

/-- L2 is entered as the PMU asked; the port leaves it at once where the entry has been aborted since (R440). -/
def enterAsked (p : Nat) (s : State) : State :=
  let t := enterLow p 7 s
  if s.rd PMU_STAT_ARM = 0 then startL2Exit p t else t

/-- The engine holds an unacknowledged or a queued packet. -/
def holdsPacket (p : Nat) (s : State) : Bool := !(portLink s p).replay.isEmpty || !(queued s p).isEmpty

/-- A link control packet of a kind waits to be sent. -/
def ctlQueued (l : PortLink) (kind : Nat) : Bool := l.ctl.any (fun x => decide (x.1 = kind))

/-- A request of the engine that has not been sent is taken back. -/
def unqueue (kind : Nat) (l : PortLink) : PortLink := { l with ctl := l.ctl.filter (fun x => decide (x.1 ≠ kind)) }

/-- A received L1_REQ (R243). It counts as L1_ACK while the engine's own request is outstanding, and a request that is not sent yet
is taken back. A port in STOPPING answers L1_NAK (log entry 118). -/
def takeL1Req (p : Nat) (s : State) : State :=
  let l := portLink s p
  if l.l1Req && !ctlQueued l 4 then enterLow p 6 s
  else if !s.bit (HLx_PWR_L1_EN p) || holdsPacket p s || decide (linkOf s p ≠ 5) then sendCtl p 6 0 s
  else sendCtl p 5 0 (setPortLink p { unqueue 4 l with l1Req := false, entering := 1 } s)

/-- A received L2_REQ (R246). -/
def takeL2Req (p : Nat) (s : State) : State :=
  let l := portLink s p
  if l.l2Req && !ctlQueued l 7 then enterAsked p s
  else if !s.bit (HLx_PWR_L2_EN p) || holdsPacket p s || decide (linkOf s p ≠ 5) then sendCtl p 9 0 s
  else sendCtl p 8 0 (setPortLink p { unqueue 7 l with entering := 2 } s)

/-- A received link control packet of a kind (R237 to R246), on a port that receives packets. -/
def takeCtl (p kind v : Nat) (s : State) : State :=
  let l := portLink s p
  if linkOf s p ≠ 5 ∧ linkOf s p ≠ 8 then s
  else match kind with
    | 1 => ackTo p v s
    | 2 => takeNak p v s
    | 3 => takeCredit p v s
    | 4 => takeL1Req p s
    | 5 => if l.l1Req && !ctlQueued l 4 then enterLow p 6 s else s
    | 6 => setPortLink p { unqueue 4 l with l1Req := false } s
    | 7 => takeL2Req p s
    | 8 => if l.l2Req && !ctlQueued l 7 then enterAsked p s else s
    | 9 => setPortLink p { unqueue 7 l with l2Req := false } s
    | _ => s

/-- The link control rows (R237 to R246). -/
def execAck (p : Port) (v : BitVec 16) (s : State) : State := takeCtl p.num 1 v.toNat s
def execNak (p : Port) (v : BitVec 16) (s : State) : State := takeCtl p.num 2 v.toNat s
def execCredit (p : Port) (v : BitVec 16) (s : State) : State := takeCtl p.num 3 v.toNat s
def execL1Req (p : Port) (s : State) : State := takeCtl p.num 4 0 s
def execL1Ack (p : Port) (s : State) : State := takeCtl p.num 5 0 s
def execL1Nak (p : Port) (s : State) : State := takeCtl p.num 6 0 s
def execL2Req (p : Port) (s : State) : State := takeCtl p.num 7 0 s
def execL2Ack (p : Port) (s : State) : State := takeCtl p.num 8 0 s
def execL2Nak (p : Port) (s : State) : State := takeCtl p.num 9 0 s

/-- REPLAY_TIMEOUT (R239). -/
def execReplayTimeout (p : Port) (s : State) : State :=
  if linkOf s p.num = 5 ∨ linkOf s p.num = 8 then startResend p.num s else s

/-- CREDIT_ADVERTISE (R240): freed credits are granted. -/
def execCreditAdvertise (p : Port) (s : State) : State :=
  let p := p.num
  let l := portLink s p
  if linkOf s p = 5 ∧ l.adv < l.freed + 3072 then
    sendCtl p 3 (l.freed + 3072) (setPortLink p { l with adv := l.freed + 3072 } s)
  else s

/-! ### Receiving packets -/

/-- The key of a slot, as bytes: byte j in bits [8j+7:8j] (R272). -/
def keyBytes (s : State) (k : Nat) : List Nat := bytesOfWords ((List.range 4).map (fun i => (storeGet 0 s.cmd.keys k).toNat / 2 ^ (32 * i) % 2 ^ 32))

/-- The CMAC tag of a packet: its 8 bytes sent (R234). -/
def tagOf (s : State) (k : Nat) (msg : List Nat) : List Nat := (cmac (keyBytes s k) msg).take 8

/-- The fields of a received packet that its words give. -/
structure Heard where
  pfx  : Nat
  h0   : Nat
  h1   : Nat
  len  : Nat
  a    : Bool
  body : List Nat
  cmac : List Nat
  deriving DecidableEq, Repr

/-- Split the words of a packet between SOP and EOP, the CRC word excluded. -/
def hear (w : List Nat) : Heard :=
  let h0 := w.getD 1 0
  let h1 := w.getD 2 0
  let a := decide (h0 / 2 ^ 18 % 2 = 1)
  let rest := w.drop 3
  let n := rest.length - (if a then 2 else 0)
  ⟨w.getD 0 0, h0, h1, h1 % 4096, a, rest.take n, rest.drop n⟩

/-- A packet of good CRC breaks a rule of R235 (link control packets are judged apart). -/
def badForm (h : Heard) : Bool :=
  let pt := h.h0 / 2 ^ 28
  decide (pt ≠ 1 ∧ pt ≠ 3 ∧ pt ≠ 4 ∧ pt ≠ 6) || decide (h.h0 / 65536 % 2 = 1 ∨ h.h1 / 4096 % 16 ≠ 0 ∨ 65536 ≤ h.pfx)
    || decide (512 < h.len ∨ h.len ≠ h.body.length ∨ (h.a = true ∧ h.cmac.length ≠ 2)) || decide (h.h0 / 2 ^ 20 % 256 = 255)

/-- A link control packet keeps R237. -/
def ctlOk (w : List Nat) : Bool :=
  let v := w.getD 3 0
  let k := v / 2 ^ 28
  decide (w.length = 4 ∧ w.getD 0 0 = 0 ∧ w.getD 1 0 = 0x5FF00000 ∧ w.getD 2 0 = 1 ∧ v / 65536 % 4096 = 0 ∧ 1 ≤ k ∧ k ≤ 9)
    && decide (4 ≤ k → v % 65536 = 0)

/-- A good packet in sequence reaches CMD's side of the buffer (R234, R238, R240). -/
def acceptPacket (p : Nat) (h : Heard) (c : Nat) (s : State) : State :=
  let ch := h.h0 / 2 ^ 20 % 256
  let tagOk := match keyOf (chanW1 s ch) with
    | some k => h.a && s.bitOf CMD_KEY_STAT_LOADED k
        && decide (tagOf s k (bytesOfWords ([h.h0, h.h1] ++ h.body)) = bytesOfWords h.cmac)
    | none => false
  let r : RxPkt :=
    { ptype := h.h0 / 2 ^ 28, chan := ch, f := decide (h.h0 / 2 ^ 19 % 2 = 1), a := h.a, d := decide (h.h0 / 2 ^ 17 % 2 = 1)
      seq := h.h0 % 65536, claim := h.h1 / 65536, words := h.body, tagOk := tagOk, credits := c }
  let l := portLink s p
  let t := putPort p { l with buf := l.buf ++ [r], rxUsed := l.rxUsed + c, dropping := false } s
  let t := owesAck p (t.wr (HLx_SEQ_RX_EXP p) (t.rd (HLx_SEQ_RX_EXP p) + 1))
  if unknownIn r then drained t else t

/-- A packet is a link control packet, by its header. -/
def isCtl (w : List Nat) : Bool := decide (w.getD 1 0 / 2 ^ 28 = 5)

/-- A packet whose CRC fails, or whose buffer words read with an error (R238). A port in STOPPING acknowledges none (R250). -/
def badPacket (p : Nat) (w : List Nat) (s : State) : State :=
  let t := s.bump (HLx_COUNT0_CRC_ERR p)
  if isCtl w then t
  else
    let t := raise 0x01 (p % 2) t
    if linkOf t p = 8 then t
    else if (portLink t p).dropping ∧ w.getD 0 0 % 65536 ≠ t.rd (HLx_SEQ_RX_EXP p) then t else sendNak p t

/-- A packet of good CRC that uses an LSEQ (R235, R238, R241). -/
def goodPacket (p : Nat) (w : List Nat) (s : State) : State :=
  let h := hear w
  let exp := s.rd (HLx_SEQ_RX_EXP p)
  let q := h.pfx % 65536
  let c := creditsOf (w.length + 1)
  let l := portLink s p
  if q ≠ exp then
    (if later 16 q exp then (if l.dropping then s else sendNak p s) else sendAck p s)
  else if l.adv < l.rxUsed + c then sendNak p (malformed p (h.h0 / 2 ^ 28) s)
  else if badForm h then
    let t := putPort p { l with rxUsed := l.rxUsed + c, freed := l.freed + c, dropping := false } s
    owesAck p (malformed p (h.h0 / 2 ^ 28) (t.wr (HLx_SEQ_RX_EXP p) (exp + 1)))
  else acceptPacket p h c s

/-- A packet other than link control withdraws the engine's request for L1 (R244). -/
def withdrawL1 (p : Nat) (s : State) : State := setPortLink p { unqueue 4 (portLink s p) with l1Req := false } s

/-- The words that a port's two lanes carry between SOP and the end symbol; a host whose lanes arrive reversed is read in its own
order (R225, R230). -/
def wordsHeard (rev : Bool) (l0 l1 : List Byte) : List Nat :=
  let a := l0.map BitVec.toNat
  let b := l1.map BitVec.toNat
  wordsOfBytes (if rev then unstripe b a else unstripe a b)

/-- The words between SOP and the end symbol are received; the last is the CRC word. -/
def takeWords (p : Nat) (all : List Nat) (edb : Bool) (errs : List EccErr) (s : State) : State :=
  let w := all.dropLast
  let crcOk := decide (crc32c (bytesOfWords w) = all.getLastD 0 ∧ 4 ≤ all.length)
  let s := if isCtl w then s else withdrawL1 p s
  if edb then s.bump (HLx_COUNT2_NULLIFIED p)
  else
    let t := noteErrs (errs.filter (fun e => inSram e.addr)) s
    let hurt := errs.any (fun e => e.ue)
    if !crcOk || hurt then badPacket p w t
    else if injected t p 1 then badPacket p w (injUse p t)
    else if isCtl w then
      (if ctlOk w then takeCtl p (w.getD 3 0 / 2 ^ 28) (w.getD 3 0 % 65536) t else malformed p 5 t)
    else if linkOf t p = 8 then t
    else goodPacket p w t

/-- LINK_PACKET_RECEIVE (R232 to R241): the bytes that each lane carried between SOP and the end symbol; whether the packet ended in
EDB; and the uncorrectable errors with which its buffer words read. -/
def execLinkPacketReceive (p : Port) (l0 l1 : List Byte) (edb : Bool) (errs : List EccErr) (s : State) : State :=
  if linkOf s p.num ≠ 5 ∧ linkOf s p.num ≠ 8 then s
  else takeWords p.num (wordsHeard (s.bit (HLx_STAT_LANE_REV p.num)) l0 l1) edb errs s

/-! ### Sending packets -/

/-- The words of a link control packet from PFX on (R237). -/
def ctlWords (x : Nat × Nat) : List Nat := [0, 0x5FF00000, 1, x.1 * 2 ^ 28 + x.2 % 65536]

/-- The words of a reply from header word 0 to the last before the CRC (R234, R257, R259). -/
def replyWords (s : State) (r : Reply) : List Nat :=
  let body := (r.status.code * 2 ^ 24 + r.tag * 65536 + r.fnLow) :: r.words
  let a := match r.key with
    | some _ => 2 ^ 18
    | none => 0
  let d := if dupOf (chanW1 s r.chan) then 2 ^ 17 else 0
  let msg := [2 * 2 ^ 28 + r.chan * 2 ^ 20 + a + d + r.seq, r.claim * 65536 + body.length] ++ body
  match r.key with
  | some k => msg ++ wordsOfBytes (tagOf s k (bytesOfWords msg))
  | none => msg

/-- Words put on the wire with their CRC word; a TX_CRC injection inverts bit 0 of it (R233, R254). -/
def onWire (p : Nat) (w : List Nat) (fresh edb : Bool) (s : State) : State :=
  let crc := crc32c (bytesOfWords w)
  let hit := fresh && injected s p 0
  let all := w ++ [if hit then crc ^^^ 1 else crc]
  let on := stripe (bytesOfWords all)
  let t := setLanes p (framed edb on.1) (framed edb on.2) (setPortLink p { portLink s p with wire := all, edb := edb } s)
  if hit then injUse p t else t

/-- Remove the first reply of a port. -/
def popReply (p : Nat) : List Reply → List Reply
  | [] => []
  | r :: l => if r.port.num = p % 2 then l else r :: popReply p l

/-- Whether a new packet of `w` words before the CRC may be sent (R239, R240). -/
def maySend (l : PortLink) (w : Nat) : Bool :=
  let c := creditsOf (w + 1)
  decide (l.replay.length < 16 ∧ l.resend.isEmpty = true) && creditOk l c

/-- LANE of the injection on a port (R254). -/
def injLane (s : State) (p : Nat) : Nat := if p % 2 = 0 then s.link.injA else s.link.injB

/-- The engine sends idle fill on both lanes; a TX_SYMBOL injection inverts bit a of one symbol on its lane (R228, R254). -/
def sendIdle (p : Nat) (s : State) : State :=
  let hit := injected s p 2
  let sym (i : Nat) : List Sym := [if hit && decide (injLane s p = i) then .hurt .idl else .k .idl]
  let t := setLanes p (sym 0) (sym 1) s
  if hit then injUse p t else t

/-- A new packet goes out: the oldest reply of the port, if it may (R239, R240). With a bad buffer word it ends in EDB and leaves
its queue without using its LSEQ (R236). -/
def sendNew (p : Nat) (bad : Bool) (s : State) : State :=
  match queued s p with
  | [] => sendIdle p s
  | r :: _ =>
    let l := portLink s p
    let q := s.rd (HLx_SEQ_TX_NEXT p)
    let w := q :: replyWords s r
    if !maySend l w.length then sendIdle p s
    else
      let t := onWire p w true bad (syncStat { s with cmd := { s.cmd with replies := popReply p s.cmd.replies } })
      if bad then t
      else
        let l := portLink t p
        putPort p { l with replay := l.replay ++ [⟨q, w⟩], consumed := (l.consumed + creditsOf (w.length + 1)) % 65536 }
          (t.wr (HLx_SEQ_TX_NEXT p) (q + 1))

/-- The engine leaves L1: it sends 8 SKIP sets before any packet (R245). -/
def leaveL1 (p : Nat) (s : State) : State :=
  setLanes p skipSet skipSet (setPortLink p { portLink s p with skips := (portLink s p).skips + 8 } (s.wr (HLx_STAT_LINK p) 5))

/-- The link control packets that may be sent now: a request for L1 is taken back, and one for L2 waits, while the engine holds a
packet (R243, R246). -/
def ctlReady (p : Nat) (s : State) : List (Nat × Nat) :=
  let held := holdsPacket p s
  (portLink s p).ctl.filter (fun x => !(held && decide (x.1 = 4 ∨ x.1 = 7)))

/-- What stays queued once the packet `x` is sent. -/
def ctlRest (p : Nat) (x : Nat × Nat) (s : State) : List (Nat × Nat) := (portLink s p).ctl.erase x

/-- A request for L1 that has met a packet of the engine's own before it was sent is taken back (R243). -/
def dropL1Req (p : Nat) (s : State) : State :=
  if holdsPacket p s && ctlQueued (portLink s p) 4 then withdrawL1 p s else s

/-- PACKET_TRANSMIT (R236, R242): the next control packet, resend or new packet, else idle fill; in L1 the port leaves it first (R244,
R245). `errs` are the errors with which the link buffer reads. -/
def execPacketTransmit (p : Port) (errs : List EccErr) (s : State) : State :=
  let p := p.num
  let bad := errs.any (fun e => e.ue)
  if linkOf s p = 6 then
    (if (queued s p).isEmpty && (portLink s p).ctl.isEmpty then s else leaveL1 p s)
  else if linkOf s p ≠ 5 ∧ linkOf s p ≠ 8 then s
  else
    let s := dropL1Req p s
    let l := portLink s p
    match ctlReady p s with
    | x :: _ =>
      let t := onWire p (ctlWords x) true false (setPortLink p { l with ctl := ctlRest p x s } s)
      if x.1 = 5 ∧ l.entering = 1 then enterLow p 6 t else if x.1 = 8 ∧ l.entering = 2 then enterLow p 7 t else t
    | [] =>
      let t := noteErrs (errs.filter (fun e => inSram e.addr)) s
      match l.resend with
      | x :: r =>
        if bad then
          onWire p x.words false true (putPort p { l with resend := r, replay := l.replay.filter (fun y => decide (y ≠ x)) } t)
        else onWire p x.words false false (setPortLink p { l with resend := r } t)
      | [] => if l.entering ≠ 0 then t else sendNew p bad t

/-- CREDIT_STALL_TIMEOUT (R241): a packet has waited for credit. -/
def execCreditStallTimeout (p : Port) (s : State) : State :=
  let p := p.num
  match queued s p with
  | r :: _ =>
    if linkOf s p = 5 ∧ !creditOk (portLink s p) (creditsOf ((replyWords s r).length + 2)) then linkDown p 3 s else s
  | [] => s

/-- SKIP_SET_DUE (R227). -/
def execSkipSetDue (p : Port) (s : State) : State :=
  let p := p.num
  let l := portLink s p
  if linkOf s p = 5 ∨ linkOf s p = 8 then setLanes p skipSet skipSet (setPortLink p { l with skips := l.skips + 1 } s) else s

/-! ### Lane power states -/

/-- L1_IDLE_EXPIRY (R243). -/
def execL1IdleExpiry (p : Port) (s : State) : State :=
  let p := p.num
  let l := portLink s p
  if linkOf s p = 5 ∧ s.bit (HLx_PWR_L1_EN p) ∧ s.rd (HLx_PWR_L1_IDLE p) ≠ 0 ∧ !holdsPacket p s ∧ !l.l1Req ∧ !l.l2Req then
    sendCtl p 4 0 (setPortLink p { l with l1Req := true } s)
  else s

/-- The PMU asks for L2 (R246). -/
def askL2 (p : Nat) (s : State) : State :=
  if linkOf s p = 5 ∧ !(portLink s p).l2Req then sendCtl p 7 0 (setPortLink p { portLink s p with l2Req := true, l1Req := false } s)
  else s

/-- The PMU takes back a request for L2 that has not been sent (R440). -/
def dropL2 (p : Nat) (s : State) : State :=
  let l := portLink s p
  if l.l2Req && ctlQueued l 7 then setPortLink p { unqueue 7 l with l2Req := false } s else s

/-- L1_EXIT (R245). -/
def execL1Exit (p : Port) (s : State) : State := if linkOf s p.num = 6 then leaveL1 p.num s else s

/-- The port leaves L2 for ALIGN with FAST set (R247). -/
def leaveL2 (p : Nat) (s : State) : State :=
  let t := (s.wr (HLx_STAT_LINK p) 2).wr (HLx_STAT_UNIT p) 1
  setPortLink p { portLink t p with fast := true } t

/-- L2_WAKE (R247). -/
def execL2Wake (p : Port) (s : State) : State := if linkOf s p.num = 7 then leaveL2 p.num s else s

/-- ENGINE_L2_EXIT (R247): the engine has a packet for a port in L2. -/
def execEngineL2Exit (p : Port) (s : State) : State := if (queued s p.num).isEmpty then s else startL2Exit p.num s

/-- WAKE_PATTERN_END (R247). -/
def execWakePatternEnd (p : Port) (s : State) : State :=
  let p := p.num
  if linkOf s p = 7 ∧ (portLink s p).wake = 1 then
    let t := leaveL2 p s
    setPortLink p { portLink t p with wake := 2 } t
  else s

/-! ### Port enable -/

/-- A port reaches OFF: its queues are empty, and a pending enable starts it (R250, R280). -/
def portOff (p : Nat) (s : State) : State :=
  let t := (cutLink p s).wr (HLx_STAT_LINK p) 0
  let t := t.wr (HLx_STAT_UNIT p) 0
  if t.bit (HLx_STAT_EN_PENDING p) then
    ((t.wr (HLx_STAT_EN_PENDING p) 0).wr (HLx_STAT_LINK p) 1).wr (HLx_STAT_UNIT p) 1
  else t

/-- HLx_CTRL.EN = 1 (R250). -/
def portEnable (p : Nat) (s : State) : State × Status :=
  if linkOf s p = 9 then (s, .busy)
  else if s.rd (HLx_STAT_UNIT p) = 3 then ((s.wr (HLx_CTRL_EN p) 1).wr (HLx_STAT_EN_PENDING p) 1, .acceptedPending)
  else if s.rd (HLx_STAT_UNIT p) = 0 then
    (((s.wr (HLx_CTRL_EN p) 1).wr (HLx_STAT_LINK p) 1).wr (HLx_STAT_UNIT p) 1, .ok)
  else (s.wr (HLx_CTRL_EN p) 1, .ok)

/-- HLx_CTRL.EN = 0 (R250). -/
def portDisable (p : Nat) (s : State) : State × Status :=
  let t := s.wr (HLx_CTRL_EN p) 0
  if s.rd (HLx_STAT_UNIT p) = 0 then (t, .ok)
  else if s.rd (HLx_STAT_UNIT p) = 3 then (t.wr (HLx_STAT_EN_PENDING p) 0, .ok)
  else
    let t := ((t.wr (HLx_STAT_LINK p) 8).wr (HLx_STAT_UNIT p) 3).wr (HLx_STAT_LAST_DOWN p) 4
    (setPortLink p { endHandshake (portLink t p) with retrain := false, fast := false, wake := 0 } t, .ok)

/-- PORT_STOP_COMPLETE (R250). -/
def execPortStopComplete (p : Port) (s : State) : State := if linkOf s p.num = 8 then portOff p.num s else s

/-- HLx_CTRL.CNT_CLR (R256). -/
def hlCntClr (p : Nat) (s : State) : State :=
  ((s.setReg (HLx_COUNT0 p) 0#32).setReg (HLx_COUNT1 p) 0#32).setReg (HLx_COUNT2 p) 0#32

/-- LME_CTRL.CNT_CLR (R256). -/
def lmeCntClr (s : State) : State := (s.forN 4 (fun i t => t.setReg (LME_ERRn i) 0#32)).setReg LME_SYNC_LOSS 0#32

/-! ### Lane tests -/

/-- Ports with a lane in a mask of R253. -/
def lanePorts (lanes : Nat) : List Nat := (if lanes % 4 = 0 then [] else [0]) ++ (if lanes / 4 % 4 = 0 then [] else [1])

/-- LINK_TEST (R253). A MODE 3 with a running test is answered after that test's own reply. -/
def linkTest (o : Outst) (s : State) : Res :=
  let p0 := o.cmd.p0
  let lanes := p0 / 4096
  let mode := p0 / 256 % 4
  let d := o.cmd.w 1
  if p0 % 256 ≠ 0 ∨ lanes = 0 ∨ d = 0 ∨ 60000000 < d then ans s .badParam
  else if mode = 3 then
    (if s.bit LME_TEST_RUNNING then answerLater (holdCmd o s) else ok s)
  else if s.bit LME_TEST_RUNNING ∨ (lanePorts lanes).any (fun p => decide (s.rd (HLx_STAT_UNIT p) ≠ 0)) then ans s .busy
  else
    let t := ((((s.wr LME_TEST_RUNNING 1).wr LME_TEST_LANES lanes).wr LME_TEST_SYNC 0).wr LME_TEST_MODE mode).wr LME_TEST_PATTERN
      (p0 / 1024 % 4)
    let t := t.forN 4 (fun i u => if lanes / 2 ^ i % 2 = 1 then u.setReg (LME_ERRn i) 0#32 else u)
    let t := t.forL (lanePorts lanes) (fun p u => u.wr (HLx_STAT_LINK p) 9)
    answerLater (holdCmd o { t with link := { t.link with test := some o, testAt := t.now } })

/-- A checker runs on lane `i`. -/
def checkerOn (s : State) (i : Nat) : Bool :=
  s.bit LME_TEST_RUNNING && s.bitOf LME_TEST_LANES i && decide (s.rd LME_TEST_MODE ≠ 1)

/-- The exponents of a pattern's polynomial x^n + x^m + 1 (R252). -/
def prbsTaps : Nat → Nat × Nat
  | 0 => (7, 6)
  | 1 => (15, 14)
  | 2 => (23, 18)
  | _ => (31, 28)

/-- The bit that follows the last n bits of a sequence, newest first: the sum of the bits n and m places back (R252). -/
def prbsNext (pat : Nat) (newest : List Bool) : Bool :=
  xor (newest.getD ((prbsTaps pat).1 - 1) false) (newest.getD ((prbsTaps pat).2 - 1) false)

/-- `k` bits of a pattern after the bits `newest`, which stand newest first; all of them, newest first. -/
def prbsGrow (pat : Nat) : Nat → List Bool → List Bool
  | 0, l => l
  | k + 1, l => prbsGrow pat k (prbsNext pat l :: l)

/-- The first `k` bits that a generator sends: its register is seeded with all ones (R252). -/
def prbsBits (pat k : Nat) : List Bool :=
  let n := (prbsTaps pat).1
  ((prbsGrow pat k (List.replicate n true)).take k).reverse

/-- A checker seeded from the first bits of `l`, oldest first, has seen 64 error-free bits after them, and no error (R252). -/
def prbsLocked (pat : Nat) (l : List Bool) : Bool :=
  let n := (prbsTaps pat).1
  decide (n + 64 ≤ l.length) && decide ((prbsGrow pat (l.length - n) (l.take n).reverse).reverse = l)

/-- CHECKER_IN_SYNC (R252): `l` are the bits received since the checker seeded itself, the seed first. -/
def execCheckerInSync (lane : Fin 4) (l : List Bool) (s : State) : State :=
  if checkerOn s lane.val ∧ prbsLocked (s.rd LME_TEST_PATTERN) l then s.setBit LME_TEST_SYNC lane.val else s

/-- Bit errors counted in sync on lane `i`. -/
def laneErrs (i n : Nat) (s : State) : State := if s.bitOf LME_TEST_SYNC i then s.bumpBy (LME_ERRn_ERRORS i) n else s

def syncLossFld (i : Nat) : Fld := ⟨LME_SYNC_LOSS, 8 * i + 7, 8 * i⟩

/-- CHECKER_SYNC_LOSS (R252): `n` bit errors were counted since the last report, more than 256 of them in the last 1,024 bits. -/
def execCheckerSyncLoss (lane : Fin 4) (n : Nat) (s : State) : State :=
  let i := lane.val
  if checkerOn s i ∧ s.bitOf LME_TEST_SYNC i ∧ 256 < n then
    ((laneErrs i n s).bump (syncLossFld i)).clrBit LME_TEST_SYNC i
  else s

/-- Elapsed time of the current or last test, in µs. -/
def testElapsed (s : State) : Nat := min ((s.now - s.link.testAt) / 1000) 0xFFFFFFFF

/-- A pending PRBS_BIT injection has had its occasions: the generator of its lane has inverted as many bits (R254). -/
def injFlip (p : Nat) (s : State) : State :=
  if injected s p 4 then
    let i := 2 * (p % 2) + injLane s p
    let n := storeGet 0 s.link.flips i + s.rd (LME_INJ_PENDx p)
    { s with link := { s.link with flips := storeSet 0 s.link.flips i n } }.wr (LME_INJ_PENDx p) 0
  else s

/-- The running test ends: its reply, the ports' return to OFF, and the stop commands that wait (R253). -/
def endTest (s : State) : State :=
  match s.link.test with
  | none => s
  | some o =>
    let t := (s.wr LME_TEST_RUNNING 0).setReg LME_TEST_TIME (BitVec.ofNat 32 (testElapsed s))
    let t := t.forL [0, 1] (fun p u =>
      let u := injFlip p u
      if linkOf u p = 9 then u.wr (HLx_STAT_LINK p) 0 else u)
    let ws := ((List.range 4).map (fun i => (t.reg (LME_ERRn i)).toNat)) ++ [(t.reg LME_TEST).toNat]
    let t := finish o ⟨.ok, ws, none⟩ { t with link := { t.link with test := none } }
    t.forL (t.cmd.outst.filter (fun x => decide (x.op = .linkTest))) (fun x u => finishSt x .ok u)

/-- LINK_TEST_END (R253): DURATION has passed, or a MODE 3 waits; the lanes' checkers have counted these errors since their last
report. -/
def execLinkTestEnd (e0 e1 e2 e3 : Nat) (s : State) : State :=
  if s.link.test.isSome then
    endTest (laneErrs 3 e3 (laneErrs 2 e2 (laneErrs 1 e1 (laneErrs 0 e0 s))))
  else s

/-- LINK_INJECT (R254). -/
def linkInject (o : Outst) (s : State) : Res :=
  let p0 := o.cmd.p0
  let p := p0 / 2 ^ 15
  let kind := p0 / 2 ^ 12 % 8
  let lane := p0 / 2 ^ 11 % 2
  let n := p0 % 256
  let genOn := s.bit LME_TEST_RUNNING && decide (s.rd LME_TEST_MODE ≠ 2) && s.bitOf LME_TEST_LANES (2 * p + lane)
  if p0 / 256 % 8 ≠ 0 ∨ n = 0 ∨ 5 ≤ kind then ans s .badParam
  else if s.rd (LME_INJ_PENDx p) ≠ 0 ∨ (if kind = 4 then !genOn else decide (linkOf s p ≠ 5 ∧ linkOf s p ≠ 6)) then ans s .busy
  else
    let t := (s.wr (LME_INJ_PENDx p) n).wr (LME_INJ_KINDx p) kind
    ok { t with link := if p = 0 then { t.link with injA := lane } else { t.link with injB := lane } }

def eyeFld (i : Nat) : Fld := ⟨LME_EYE, 8 * i + 7, 8 * i⟩

/-- EYE_MEASURE (R255): the width of a lane of a port in L0. -/
def execEyeMeasure (lane : Fin 4) (width : BitVec 8) (s : State) : State :=
  let i := lane.val
  if s.bit LME_CTRL_EYE_EN ∧ linkOf s (i / 2) = 5 then
    let t := s.wr (eyeFld i) width.toNat
    if width.toNat < t.rd LME_EYE_CFG_EYE_MIN then raise 0x05 (i * 256 + width.toNat) t else t
  else s

end Sys2Proof.Machine
end

