-- ==== Sys2Proof/Machine/Health.lean ====
section
/-!
DEFINITION. Pixel health (R180 to R207): strobes and what they say, the health nibble, suspects and confirmation, retirement,
proof pulses, dark scans, and the PXH commands. The results of comparators and of zone senses are observations that the
commands carry.
-/
namespace Sys2Proof.Machine

/-! ### The health map and the suspect cache -/

/-- A pixel's nibble is written. -/
def setHealth (p v : Nat) (s : State) : State :=
  { s with pxh := { s.pxh with health := storeSet 0#4 s.pxh.health p (BitVec.ofNat 4 v) } }

/-- AGE of a pixel is written, its STATE kept. -/
def setAge (p a : Nat) (s : State) : State := setHealth p (healthState (healthOf s p) * 4 + a) s

/-- PXH_N_SUSPECT, PXH_N_SPARED, PXH_N_DEAD, PXH_N_AGE3 and CACHE_FILL follow the map and the cache. -/
def syncHealth (s : State) : State :=
  let n (f : Nat → Bool) : Nat := (s.pxh.health.filter (fun x => f x.2.toNat)).length
  let t := (s.wr PXH_N_SUSPECT_N (n (fun h => decide (healthState h = 1)))).wr PXH_N_SPARED_N
    (n (fun h => decide (healthState h = 2)))
  let t := (t.wr PXH_N_DEAD_N (n (fun h => decide (healthState h = 3)))).wr PXH_N_AGE3_N
    (n (fun h => decide (healthState h ≠ 3 ∧ healthAge h = 3)))
  t.wr PXH_STAT_CACHE_FILL s.pxh.cache.length

/-- The cache entry of a pixel: its index and contents. -/
def cacheOf (s : State) (p : Nat) : Option (Nat × Suspect) :=
  s.pxh.cache.findSome? (fun x => x.2.bind (fun e => if e.pixel = p then some (x.1, e) else none))

/-- Write or free a cache entry. -/
def setCache (i : Nat) (e : Option Suspect) (s : State) : State :=
  { s with pxh := { s.pxh with cache := storeSet none s.pxh.cache i e } }

/-- The first free entry of the cache. -/
def cacheFree (s : State) : Option Nat := (List.range 2048).find? (fun i => decide (storeGet none s.pxh.cache i = none))

/-- Free the entry of a pixel, if it has one. -/
def dropCache (p : Nat) (s : State) : State :=
  match cacheOf s p with
  | some (i, _) => setCache i none s
  | none => s

/-- The nibble that a trim record gives, with age `a` (R185). -/
def healthFromTrim (t a : Nat) : Nat := (if trimDead t = 1 then 3 else if trimSpare t = 1 then 2 else 0) * 4 + a

/-- PXH reads health-map words with uncorrectable errors: their 16 nibbles are rebuilt from the trim records with AGE 3
(R186). -/
def healthRebuild (errs : List EccErr) (s : State) : State :=
  s.forL (errs.filter (fun e => e.ue && decide (0x16E0000 ≤ e.addr ∧ e.addr < 0x1780000))) (fun e t =>
    t.forN 16 (fun i u =>
      let p := (e.addr - 0x16E0000) / 8 * 16 + i
      setHealth p (healthFromTrim (trimOf u p) 3) (dropCache p u)))

/-! ### Failures and verifications -/

/-- PXH_LAST shows a pixel event. -/
def pxhLast (event p : Nat) (s : State) : State := (s.wr PXH_LAST_EVENT event).wr PXH_LAST_PIXEL p

/-- A confirmed failure waits for the next boundary between two slot periods' loads (R193, R194). -/
def confirmFail (p kind : Nat) (s : State) : State :=
  if s.pxh.retire.any (fun r => decide (r.pixel = p ∧ r.action = 0)) then s
  else
    let t := { s with pxh := { s.pxh with retire := s.pxh.retire ++ [⟨p, 0, kind⟩] } }
    raise (if kind = 1 then 0x30 else 0x31) p (pxhLast kind p t)

/-- A new entry for a pixel that has failed (R190); a full cache counts when the pixel has just become SUSPECT. -/
def newSuspect (p kind : Nat) (fresh : Bool) (s : State) : State :=
  match cacheFree s with
  | some i =>
    let t := setCache i (some ⟨0, 1, kind, p, s.rd DEV_FN_FN⟩) s
    if s.rdAct PXH_PERSIST_FAIL_N ≤ 1 then confirmFail p kind t else t
  | none =>
    if fresh then raise 0x35 s.pxh.cache.length (s.bump PXH_COUNT_B_OVF) else s

/-- A failure of a pixel, of kind 1 OPEN or 2 SHORT (R184, R190, R191). -/
def pixelFail (p kind : Nat) (s : State) : State :=
  let h := healthOf s p
  match cacheOf s p with
  | some (i, e) =>
    let fn := s.rd DEV_FN_FN
    let inWin := decide ((fn + 2 ^ 32 - e.firstFn) % 2 ^ 32 < s.rdAct PXH_PERSIST_FAIL_WIN)
    let f := if inWin then min 15 (e.fails + 1) else 1
    let t := setCache i (some { e with passes := 0, fails := f, kind := kind,
                                       firstFn := if inWin then e.firstFn else fn }) s
    if s.rdAct PXH_PERSIST_FAIL_N ≤ f then confirmFail p kind t else t
  | none =>
    let fresh := decide (healthState h ≠ 1)
    newSuspect p kind fresh (setHealth p (4 + healthAge h) s)

/-- A SUSPECT pixel is cleared (R192). -/
def clearSuspect (p : Nat) (s : State) : State :=
  setHealth p ((if trimSpare (trimOf s p) = 1 then 2 else 0) * 4) s

/-- A verification of a pixel: AGE becomes 0; a SUSPECT pixel counts a pass (R182, R192). -/
def pixelVerify (p : Nat) (s : State) : State :=
  if healthState (healthOf s p) = 1 then
    match cacheOf s p with
    | some (i, e) =>
      let n := min 31 (e.passes + 1)
      if s.rdAct PXH_PERSIST_PASS_N ≤ n then clearSuspect p (setCache i none s)
      else setCache i (some { e with passes := n }) (setAge p 0 s)
    | none => clearSuspect p s
  else setAge p 0 s

/-! ### Strobes -/

/-- For how many consecutive stitches that end with stitch `m` a pixel with start stitch `sg` and on-time `t` has been
on, counted backward to stitch 0 (R60, R181). -/
def onRun (sg t m : Nat) : Nat :=
  let d := (m + 1008 - sg) % 1008
  if t ≤ d then 0 else if 1008 ≤ t then m + 1 else min (d + 1) (m + 1)

/-- Whether a strobe at stitch `m` of the emission window counts for pixel `p` (R180, R181). -/
def strobeCounts (m p : Nat) (s : State) : Bool :=
  let f := frontOf s p
  decide (healthState (healthOf s p) ≠ 3 ∧ s.rdAct PXH_VERIFY_A_VERIFY ≤ latA f
    ∧ s.pxh.nMin ≤ onRun (storeGet 0 s.seq.stagFront (groupOf p)) (latT f) m)

/-- One counting strobe of one pixel: whether the headroom result is used, and which comparators trip (R182, R184). -/
def strobePixel (useHr useVf hrTrip vfTrip : Bool) (p : Nat) (s : State) : State :=
  let x := s.pxh
  let q1 := storeGet false x.hrQuiet p || (useHr && !hrTrip)
  let q2 := storeGet false x.vfQuiet p || (useVf && !vfTrip)
  let was := storeGet false x.hrQuiet p && storeGet false x.vfQuiet p
  let t := { s with pxh := { x with
      examined := storeSet false x.examined p true,
      hrQuiet := storeSet false x.hrQuiet p q1,
      vfQuiet := storeSet false x.vfQuiet p q2 } }
  if useHr && hrTrip then pixelFail p 1 t
  else if useVf && vfTrip then pixelFail p 2 t
  else if q1 && q2 && !was then pixelVerify p t
  else t

/-- A strobe of the counting pixels `px`; `hr` and `vf` are the pixels whose comparators trip (R182 to R184). -/
def strobe (comp : Nat) (hr vf px : List Nat) (s : State) : State :=
  let trips (z : Nat) : Nat := (px.filter (fun p => decide (zoneOf p = z ∧ p ∈ hr))).length
  let hot := if comp % 2 = 1 then (List.range 8).filter (fun z => decide (s.rdAct PXH_THRESH_ZONE_HR_MAX < trips z)) else []
  let t := s.bumpBy PXH_COUNT_B_HR_DISCARD hot.length
  syncHealth (t.forL px (fun p u =>
    strobePixel (decide (comp % 2 = 1) && decide (zoneOf p ∉ hot)) (decide (2 ≤ comp)) (decide (p ∈ hr)) (decide (p ∈ vf)) p u))

/-- MEAS of sequencer `q` at stitch `m` (R95, R180 to R184, R197). -/
def measEvent (q m comp : Nat) (hr vf : List Nat) (errs : List EccErr) (s : State) : State :=
  let s := syncHealth (healthRebuild errs s)
  if !s.bit PXH_CTRL_MEAS_EN then s
  else if m < 1008 then strobe comp hr vf ((blockPixels q 0 640).filter (fun p => strobeCounts m p s)) s
  else
    let x := seqOne s q
    let px := s.pxh.admitted.filter (fun p => decide (seqOf p = q ∧ healthState (healthOf s p) ≠ 3))
    if x.proofW = 0 ∨ m + 1 ≠ x.proofAt + x.proofW then s
    else if s.pxh.nMin ≤ x.proofW then strobe comp hr vf px (s.bumpBy PXH_COUNT_C_PROVEN px.length)
    else { s with pxh := { s.pxh with stay := s.pxh.stay ++ px } }

/-! ### Retirement -/

/-- A row of the trim map waits to be written at the same boundary as record `p` (R73, R74). -/
def rowWaits (s : State) (p : Nat) : Bool := s.pxa.trimNext.any (fun r => decide (r.1 = rowOf p))

/-- One waiting record is written (R193, R194, R203): where a trim-map load writes it at the same boundary the bit is ORed with the
one in the map (R73), and the nibble of a forced record is the one that R185 ties to it. -/
def retireOne (errs : List EccErr) (r : Retire) (s : State) : State :=
  let p := r.pixel
  let t := trimOf s p
  let put (t' : Nat) (st : Nat) (u : State) : State := dropCache p (setHealth p st (mergeTrim errs p t' u))
  let withBit (b v : Nat) : Nat := t - t / b % 2 * b + (if rowWaits s p then max (t / b % 2) v else v) * b
  let force (t' : Nat) : State := pxhLast 5 p (put t' (healthFromTrim t' 0) s)
  match r.action with
  | 0 =>
    if healthState (healthOf s p) = 3 then s
    else if trimSpare t = 0 ∧ s.bit PXH_CTRL_AUTO_SPARE then
      raise 0x33 p (pxhLast 3 p ((put (withBit 8 1) 8 s).bump PXH_COUNT_A_RETIRED))
    else raise 0x34 p (pxhLast 4 p ((put (withBit 4 1) (12 + healthAge (healthOf s p)) s).bump PXH_COUNT_A_DIED))
  | 1 => force (withBit 8 0)
  | 2 => force (withBit 8 1)
  | 3 => force (withBit 4 1)
  | _ => force (withBit 4 0)

/-- PXH reads the health map with the errors of a step: they are noted, and the words in error rebuilt (R186). -/
def healthMeets (errs : List EccErr) (s : State) : State := syncHealth (healthRebuild errs (noteErrs errs s))

/-- The waiting records are written at a boundary between two slot periods' loads; SPARE_FORCE wins over a confirmation of the same
pixel (R194, R204). -/
def retireAll (errs : List EccErr) (s : State) : State :=
  let l := s.pxh.retire
  let forced (p : Nat) : Bool := l.any (fun r => decide (r.pixel = p ∧ r.action ≠ 0))
  let t := { s with pxh := { s.pxh with retire := [] } }
  syncHealth (t.forL (l.filter (fun r => decide (r.action ≠ 0) || !forced r.pixel)) (retireOne errs))

/-- RETIRE_WRITE: the boundary at which the waiting records are written (R194); `errs` are the errors of its reads. -/
def execRetireWrite (errs : List EccErr) (s : State) : State := retireAll errs (healthMeets errs s)

/-! ### Trim rows -/

/-- One record of a loaded row: GAIN and SPARE_ADJ as loaded, SPARE and DEAD by OR, and the nibble kept consistent (R72,
R185). -/
def trimMerge (p v : Nat) (s : State) : State :=
  let old := trimOf s p
  let sp := max (trimSpare old) (trimSpare v)
  let de := max (trimDead old) (trimDead v)
  let t := setTrim p (v / 16 * 16 + sp * 8 + de * 4 + v % 4) s
  let h := healthOf s p
  if de = 1 ∧ healthState h ≠ 3 then dropCache p (setHealth p (12 + healthAge h) t)
  else if sp = 1 ∧ healthState h = 0 then setHealth p (8 + healthAge h) t
  else t

/-- Record `i` of a row image of 3,072 bytes (R70). -/
def trimRecord (row : List Nat) (i : Nat) : Nat :=
  let b (j : Nat) : Nat := row.getD (3 * (i / 2) + j) 0
  if i % 2 = 0 then b 0 + b 1 % 16 * 256 else b 1 / 16 + b 2 * 16

/-- The rows that wait are written (R74), each a write of whole words (R161). -/
def trimWrite (s : State) : State :=
  let l := s.pxa.trimNext
  if l.isEmpty then s
  else
    let t := { s with pxa := { s.pxa with trimNext := [] } }
    syncHealth (t.forL l (fun r u =>
      wholeTrimRow r.1 (u.forN 2048 (fun i v => trimMerge (r.1 * 2048 + i) (trimRecord r.2 i) v))))

/-! ### Proof pulses -/

/-- The PROOF word of the slot list being played, if it has one (R96). -/
def proofWord (s : State) : Option Nat :=
  let q := arrayMaster s
  if s.rd (SEQ_STAT_MODE q) = 1 then
    evFind 4 (slotList s q (s.rd (SEQ_STAT_ACT_BUF q)) (s.rd SCN_POS_SLOT))
  else none

/-- The pixels that the rotating scan reads in a slot period: enough to cover the map once per frame (R196), or more if it reads
`scan`. -/
def scanLen (scan : Nat) (s : State) : Nat := min 1310720 (max scan (ceilDiv 1310720 (slotsOf s)))

/-- The pixels at AGE 3 that the rotating scan finds in `n` pixels from where it stopped, in its order. -/
def agedIn (n : Nat) (s : State) : List Nat :=
  let l := (s.pxh.health.filter (fun x => decide (healthAge x.2.toNat = 3))).map (fun x => x.1)
  let a := s.pxh.scanAt
  (l.filter (fun p => decide (a ≤ p ∧ p < a + n))) ++ (l.filter (fun p => decide (p < a ∧ p + 1310720 < a + n)))

/-- The proof list of R196: suspects, the pixels that stayed, and the pixels at AGE 3 that the rotating scan finds. -/
def proofList (scan : Nat) (s : State) : List Nat :=
  let sus := s.pxh.cache.filterMap (fun x => x.2.bind (fun e =>
    if storeGet false s.pxh.examined e.pixel then none else some e.pixel))
  let all := (sus ++ s.pxh.stay ++ agedIn (scanLen scan s) s).filter (fun p => decide (healthState (healthOf s p) ≠ 3))
  (all.eraseDups.take (s.rdAct PXH_PROOF_PROOF_MAX)).filter
    (fun p => decide (latA (frontOf s p) ≠ 0 ∧ latT (frontOf s p) ≠ 0))

/-- Where the rotating scan of the health map goes on after this slot period's part (R196). -/
def scanNext (scan : Nat) (s : State) : Nat := (s.pxh.scanAt + scanLen scan s) % 1310720

/-- The proof list of the slot period is fixed, and screened against the Selvage budget (R197, R347), on a health map that is
up to date. -/
def proofFix (scan reach : Nat) (s : State) : State :=
  match proofWord s with
  | none => s
  | some w =>
    if !s.bit PXH_CTRL_PROOF_EN then s
    else
      let l := proofList scan s
      let adm := screenList (evArg w % 16) reach l s
      let t := s.bumpBy PXH_COUNT_C_REFUSED (l.length - adm.length)
      { t with pxh := { t.pxh with list := l, admitted := adm, stay := [] } }

/-- PROOF_LIST_FIX: the end of stitch 1007. The rotating scan has read its part of the map for AGE 3, and `scan` pixels if that is
more; the SMC's screening reaches the first `reach` pixels before the window opens (R196, R197, R347). -/
def execProofListFix (scan reach : Nat) (errs : List EccErr) (s : State) : State :=
  let t := proofFix scan reach (healthMeets errs s)
  { t with pxh := { t.pxh with scanAt := scanNext scan t } }

/-- PROOF: the window opens, in all columns (R96). -/
def proofEvent (st arg : Nat) (s : State) : State :=
  s.forN 4 (fun q t => setSeqOne q { seqOne t q with proofAt := st, proofW := arg % 16 } t)

/-! ### Dark scans -/

/-- Whether a later LOCAL = 0 scan follows in this frame (R199). -/
def scanFollows (s : State) : Bool :=
  let q := arrayMaster s
  let b := s.rd (SEQ_STAT_ACT_BUF q)
  let k := s.rd SCN_POS_SLOT
  let isScan (w : Nat) : Bool := decide (evCode w = 6 ∧ evArg w / 32768 = 0)
  if s.rd (SEQ_STAT_MODE q) = 1 then
    ((slotList s q b k).drop (s.rd (SEQ_POS_WORD q))).any isScan
      || (List.range (slotsOf s)).any (fun j => decide (k < j) && (slotList s q b j).any isScan)
  else false

/-- A band is localised (R200). -/
def stuckLoc (band : Nat) (pos : Nat) (s : State) : State :=
  s.forN 8 (fun z t => if pos / 2 ^ z % 2 = 1 then
    ((t.wr PXH_STUCK_LOC_VALID 1).wr PXH_STUCK_LOC_ZONE z).wr PXH_STUCK_LOC_BAND band else t)

/-- A confirmed stuck-on zone (R199). -/
def stuckConfirm (z : Nat) (s : State) : State := stuckZoneOff z (raise 0x32 z (s.setW1c PXH_STUCK (2 ^ z)))

/-- The zones that the frame's last LOCAL = 0 scan and that of the frame before find positive are confirmed (R199). -/
def scanConfirm (s : State) : State :=
  let both := s.pxh.scanNow.getD 0 &&& s.pxh.scanPrev.getD 0
  { s with pxh := { s.pxh with scanDone := true } }.forN 8 (fun z u =>
    if both / 2 ^ z % 2 = 1 ∧ !u.bitOf PXH_STUCK_ZONES z then stuckConfirm z u else u)

/-- The zones whose localisation runs (R200). -/
def setLoc (l : List (Nat × Nat)) (s : State) : State :=
  { s with pxh := { s.pxh with locAt := l } }.wr PXH_STAT_LOCALISING (boolNat (!l.isEmpty))

/-- A LOCAL = 0 scan finds the zones `pos` positive; the zones of `off` give no result. It starts the localisation of the zones that
the scan before did not find positive, and ends that of a zone it finds negative; a negative scan cancels a pending confirmation
(R199, R200). -/
def wholeScan (pos off : Nat) (s : State) : State :=
  let was := s.rd PXH_STAT_STUCK_CAND
  let loc := (List.range 8).foldl (fun m z =>
    if off / 2 ^ z % 2 = 1 then m
    else if pos / 2 ^ z % 2 = 0 then storeSet 0 m z 0
    else if was / 2 ^ z % 2 = 0 then storeSet 0 m z 1
    else m) s.pxh.locAt
  let t := (setLoc loc s).wr PXH_STAT_STUCK_CAND pos
  { t with pxh := { t.pxh with scanNow := some pos, scanPrev := t.pxh.scanPrev.map (fun p => p &&& (pos ||| off)) } }

/-- The next band of the zones that are being localised, if any is: the lowest that one of them has still to examine (R200). -/
def locBand (s : State) : Option Nat :=
  match s.pxh.locAt with
  | [] => none
  | x :: l => some (l.foldl (fun m y => min m y.2) x.2 - 1)

/-- The band scan of the localisation senses band `b` (R200). -/
def bandScan (b pos : Nat) (s : State) : State :=
  let zs := s.pxh.locAt.foldl (fun m x => m + 2 ^ x.1) 0
  let on := s.pxh.locAt.foldl (fun m x => if x.2 = b + 1 then storeSet 0 m x.1 (if 40 ≤ b + 1 then 0 else b + 2) else m)
    s.pxh.locAt
  setLoc on (stuckLoc b (pos &&& zs) s)

/-- DARKSCAN: `sense` are the zones whose current exceeds the threshold (R98, R199, R200). -/
def darkscanEvent (arg : Nat) (sense : Nat) (s : State) : State :=
  let off := s.rd DEV_LADDER_ZONES_OFF
  let pos := sense % 256 &&& (255 - off)
  let band := arg % 64
  if arg / 32768 = 0 then
    let t := wholeScan pos off s
    if scanFollows t then t else scanConfirm t
  else if band = 63 then
    match locBand s with
    | some b => bandScan b pos s
    | none => s
  else stuckLoc band pos s

/-! ### Ticks and slot periods -/

/-- PXH at a tick: N_MIN, the start of an age sweep, and the scans of the frame that ends, of which the last one counts though another
was expected (R181, R187, R199). -/
def pxhTick (s : State) : State :=
  let per := max 1 (s.rd SCN_PERIOD_PERIOD_NS)
  let n := ceilDiv (s.rd PXH_VERIFY_MEAS_MIN * 100 * slotsOf s * 1024) per
  let b := decide (s.rd DEV_FN_FN % 2 ^ s.rd PXH_AGE_PERIOD_LOG2 = 0) && s.bit PXH_CTRL_AGE_EN
  { s with pxh := { s.pxh with nMin := n, sweep := b, aged := if b then 0 else s.pxh.aged } }

/-- The dark scans of the frame that ends are judged, if they have not been (R199). -/
def stuckTick (s : State) : State :=
  let t := if s.pxh.scanNow.isSome ∧ !s.pxh.scanDone then scanConfirm s else s
  { t with pxh := { t.pxh with scanPrev := t.pxh.scanNow, scanNow := none, scanDone := false } }

/-- One pixel's visit by the age sweep (R187). -/
def sweepPixel (p : Nat) (s : State) : State :=
  let h := healthOf s p
  if healthState h = 3 ∨ latA (backOf s p) = 0 then s
  else if healthAge h = 3 then { s with pxh := { s.pxh with aged := s.pxh.aged + 1 } }
  else setHealth p (h + 1) s

/-- PXH at the start of slot period `k`: its settings take effect, and the age sweep visits its rows (R187, R189, R206). -/
def pxhSlot (k : Nat) (errs : List EccErr) (s : State) : State :=
  let t := healthRebuild errs (s.takeAct [PXH_VERIFY, PXH_PERSIST, PXH_PROOF, PXH_AGE, PXH_THRESH])
  let t := { t with pxh := { t.pxh with hrQuiet := [], vfQuiet := [], examined := [], list := [], admitted := [] } }
  if t.pxh.sweep then
    let sl := slotsOf t
    let rows := (List.range 640).filter (fun r => decide (r * sl / 640 = k))
    let u := syncHealth (t.forL (rows.flatMap (fun r => (List.range 2048).map (fun c => r * 2048 + c))) sweepPixel)
    if k + 1 = sl then
      let v := { u with pxh := { u.pxh with sweep := false } }
      if 0 < v.pxh.aged then raise 0x36 (v.rd PXH_N_AGE3_N) v else v
    else u
  else syncHealth t

/-! ### Commands -/

/-- The words that pack nibbles of pixels `p` to `p + n - 1`. -/
def nibbleWords (s : State) (p n : Nat) : List Nat :=
  (List.range ((n + 7) / 8)).map (fun i =>
    (List.range 8).foldl (fun w j => if 8 * i + j < n then w + healthOf s (p + 8 * i + j) * 16 ^ j else w) 0)

/-- The two words of a cache entry; a free one reads 0. -/
def suspectWords (s : State) (i : Nat) : List Nat :=
  match storeGet none s.pxh.cache i with
  | some e => [e.passes * 2 ^ 27 + e.fails * 2 ^ 23 + e.kind * 2 ^ 21 + e.pixel, e.firstFn]
  | none => [0, 0]

/-- HEALTH_READ (R202). -/
def healthRead (o : Outst) (s : State) : Res :=
  let n := o.cmd.p0 % 4096 + 1
  let w := o.cmd.w 1
  match o.cmd.p0 / 4096 with
  | 0 =>
    if 2048 < n ∨ 1310720 < w + n then ans s .badParam
    else
      let t := healthMeets o.cmd.errs s
      okW t (nibbleWords t w n)
  | 1 =>
    if 255 < n ∨ 2048 < w + n then ans s .badParam
    else okW s ((List.range n).flatMap (fun i => suspectWords s (w + i)))
  | 2 =>
    if w ≠ 0 then ans s .badParam
    else okW s ([PXH_N_SUSPECT, PXH_N_SPARED, PXH_N_DEAD, PXH_N_AGE3, PXH_STAT, PXH_STUCK, PXH_STUCK_LOC].map
      (fun a => (s.reg a).toNat))
  | _ => ans s .badParam

/-- SPARE_FORCE (R203): the record waits for the next boundary between loads. -/
def spareForce (o : Outst) (s : State) : Res :=
  let a := o.cmd.p0 / 4096
  let p := o.cmd.w 1
  if o.cmd.p0 % 4096 ≠ 0 ∨ 4 ≤ a ∨ 1310720 ≤ p then ans s .badParam
  else
    let t := healthMeets o.cmd.errs s
    if a ≤ 1 ∧ healthState (healthOf t p) = 3 then ans t .badParam
    else ok { t with pxh := { t.pxh with retire := t.pxh.retire ++ [⟨p, a + 1, 0⟩] } }

/-- PROOF_REQ (R205). -/
def proofReq (o : Outst) (s : State) : Res :=
  let n := o.cmd.p0 % 2048 + 1
  let p := o.cmd.w 1
  if 2048 ≤ o.cmd.p0 ∨ 1310720 < p + n then ans s .badParam
  else
    ok (syncHealth ((healthMeets o.cmd.errs s).forN n (fun i t => if healthState (healthOf t (p + i)) = 3 then t else setAge (p + i) 3 t)))

/-- PXH_CTRL.CNT_CLR (R207). -/
def pxhCntClr (s : State) : State :=
  ((s.setReg PXH_COUNT_A 0#32).setReg PXH_COUNT_B 0#32).setReg PXH_COUNT_C 0#32

/-- W1C of PXH_STUCK.ZONES (R201). -/
def pxhStuckClear (mask : Nat) (s : State) : State := s.wr PXH_STUCK_ZONES (s.rd PXH_STUCK_ZONES &&& (255 - s.w1cMask PXH_STUCK (mask % 256)))

end Sys2Proof.Machine
end

