-- ==== Sys2Proof/Machine/Trace.lean ====
section
/-!
DEFINITION. The trace buffers of the loop engines (R398 to R400), and the profile generators (R387, R388).
-/
namespace Sys2Proof.Machine

/-! ### Trace -/

def LEx_TRACE_WPTR (e : Nat) : Fld := if e = 0 then LE0_TRACE_WPTR else LE1_TRACE_WPTR

/-- One record goes into the buffer; from the trigger on it counts toward the end (R399). -/
def traceRecord (e a b : Nat) (s : State) : State :=
  let x := traceOf s e
  let p := s.rd (LEx_TRACE_WPTR e)
  let x := { x with buf := storeSet 0 x.buf p (a * 65536 + b), n := min 4096 (x.n + 1), skip := x.w1 / 2 ^ 16 % 256 }
  let t := s.wr (LEx_TRACE_WPTR e) ((p + 1) % 4096)
  if s.rd (LEx_TRACE_STATE e) = 2 then
    let t := setTrace e { x with left := x.left - 1 } t
    if x.left ≤ 1 then t.wr (LEx_TRACE_STATE e) 3 else t
  else setTrace e x t

/-- Whether a level trigger comes at this sample: kind 2 rises to LEVEL, kind 3 falls to it (R398). -/
def levelHit (x : TraceSt) (v : Int) : Bool :=
  let lv := toSigned 16 x.w2
  match x.last with
  | some o =>
    (decide (x.w2 / 2 ^ 28 = 2) && decide (o < lv ∧ lv ≤ v)) || (decide (x.w2 / 2 ^ 28 = 3) && decide (lv < o ∧ v ≤ lv))
  | none => false

/-- A sample of an engine's loop, whose signals are `sig`: triggers, then a record every DEC + 1 samples (R399). -/
def traceSample (e : Nat) (sig : Nat → Int) (s : State) : State :=
  let st := s.rd (LEx_TRACE_STATE e)
  if st = 1 ∨ st = 2 then
    let x := traceOf s e
    let a := clampI (-32768) 32767 (sig (x.w1 / 2 ^ 28))
    let b := clampI (-32768) 32767 (sig (x.w1 / 2 ^ 24 % 16))
    let now := decide (x.w2 / 2 ^ 28 = 0) || levelHit x a
    let t := (setTrace e { x with last := some a } s).when now (traceFire e)
    let y := traceOf t e
    if y.skip = 0 then traceRecord e (ofSigned 16 a) (ofSigned 16 b) t else setTrace e { y with skip := y.skip - 1 } t
  else s

/-- TRACE_ARM (R398, R399). -/
def traceArm (o : Outst) (s : State) : Res :=
  let e := o.cmd.p0
  let w1 := o.cmd.w 1
  let w2 := o.cmd.w 2
  let top := if e = 0 then 8 else 7
  if 2 ≤ e ∨ w1 / 2 ^ 12 % 16 ≠ 0 ∨ w2 / 2 ^ 24 % 16 ≠ 0 ∨ top < w1 / 2 ^ 28 ∨ top < w1 / 2 ^ 24 % 16
      ∨ 6 ≤ w2 / 2 ^ 28 ∨ (w2 / 2 ^ 28 = 4 ∧ e = 1) then ans s .badParam
  else
    let x := traceOf s e
    ok (setTrace e { x with w1 := w1, w2 := w2, n := 0, skip := 0, left := 0, last := none }
      (s.wr (LEx_TRACE_STATE e) 1))

/-- Capture record `i` of engine `e` (R399). -/
def traceWord (s : State) (e i : Nat) : Nat := storeGet 0 (traceOf s e).buf ((s.rd (LEx_TRACE_WPTR e) + i) % 4096)

/-- TRACE_READ (R400). -/
def traceRead (o : Outst) (s : State) : Res :=
  let e := o.cmd.p0
  let i := o.cmd.w 1
  let n := o.cmd.w 2
  if 2 ≤ e ∨ n = 0 ∨ 511 < n ∨ 4096 < i + n then ans s .badParam
  else if s.rd (LEx_TRACE_STATE e) ≠ 3 then ans s .busy
  else okW s ((List.range n).map (fun k => traceWord s e (i + k)))

/-! ### Profile generators -/

/-- The sum of u, u - AMAX, u - 2 × AMAX and so on over its positive terms. -/
def brakeSum (u amax : Nat) : Nat :=
  let k := ceilDiv u amax
  k * u - amax * (k * (k - 1) / 2)

/-- min(VMAX, u_brake(d)) (R387). -/
def uBrake (d vmax amax : Nat) : Nat :=
  ((List.range (vmax + 1)).reverse.find? (fun u => decide (brakeSum u amax ≤ d))).getD 0

/-- A generator starts at a measured position. -/
def profStart (q : Int) : Prof := ⟨q, 0, List.replicate 63 q, q⟩

/-- One tick of a generator toward the target `x`, by a PROF register (R387, R388). -/
def profTick (step : Bool) (nj amax vmax : Nat) (x : Int) (p : Prof) : Prof :=
  if step then profStart x
  else
    let d := x - p.q
    let b : Int := uBrake d.natAbs vmax amax
    let want := if d < 0 then -b else if d = 0 then 0 else b
    let u := min (max want (p.u - amax)) (p.u + amax)
    let q := p.q + u
    let hist := (q :: p.hist).take 63
    let sum := (hist.take nj).foldl (fun a b : Int => a + b) 0
    ⟨q, u, hist, (2 * sum + nj) / (2 * nj)⟩

end Sys2Proof.Machine
end

