-- ==== Sys2Proof/Machine/Rail.lean ====
section
/-!
DEFINITION. Loop engine LE0: the inner law of the phases, the rail law of each sample, feed-forward, the gain schedule, holds,
starting and stopping the rail, and the supervision of its senses (R370 to R386).
-/
namespace Sys2Proof.Machine

/-! ### The gain schedule -/

/-- The built-in coefficient set as a schedule of one set (R375). -/
def gsBuiltIn : List Nat := [0x01000001, 128 * 2 ^ 24 + 25 * 2 ^ 16, 6400 * 2 ^ 16 + 3277, 24000 * 2 ^ 16 + (65536 - 4000)]

/-- The schedule in force. -/
def gsWords (s : State) : List Nat := if s.loops.gs.isEmpty then gsBuiltIn else s.loops.gs

/-- N of a schedule. -/
def gsCount (g : List Nat) : Nat := g.getD 0 0 % 16

/-- N of the newest accepted schedule: one that waits for its sample goes first. -/
def gsNewest (s : State) : Nat := gsCount (s.loops.gsNext.getD (gsWords s))

/-- Word `j` (1 to 3) of the set in effect. -/
def setWord (s : State) (j : Nat) : Nat := (gsWords s).getD (j + 3 * s.rd LE0_STAT_SET_ACT) 0

def gsFfGain (s : State) : Nat := setWord s 1 / 2 ^ 24
def gsBand (s : State) : Nat := setWord s 1 / 2 ^ 16 % 256
def gsKp (s : State) : Nat := setWord s 2 / 2 ^ 16
def gsKi (s : State) : Nat := setWord s 2 % 65536
def gsMax (s : State) : Int := toSigned 16 (setWord s 3 / 2 ^ 16) * 65536
def gsMin (s : State) : Int := toSigned 16 (setWord s 3) * 65536

/-- Checks 4 of R375 on set `i` of an image. -/
def gsSetOk (g : List Nat) (i : Nat) : Bool :=
  let w (j : Nat) : Nat := g.getD (j + 3 * i) 0
  let hi := toSigned 16 (w 3 / 2 ^ 16)
  let lo := toSigned 16 (w 3)
  decide (1 ≤ w 1 / 2 ^ 16 % 256 ∧ w 1 % 65536 ≤ 24000 ∧ hi ≤ 30000 ∧ -8000 ≤ lo ∧ lo < hi)

/-- The first failing check of R375: CODE and INDEX. -/
def gsCheck (nph set len : Nat) (g : List Nat) : Option (Nat × Nat) :=
  let w0 := g.getD 0 0
  let n := gsCount g
  let lo (i : Nat) : Nat := g.getD (1 + 3 * i) 0 % 65536
  if len ≠ 4 + 12 * n ∨ w0 / 2 ^ 24 ≠ 1 ∨ w0 / 16 % 2 ^ 20 ≠ 0 then some (1, 0)
  else if n = 0 ∨ 8 < n then some (2, 0)
  else if lo 0 ≠ 0 then some (3, 0)
  else match (List.range n).find? (fun i => decide (i ≠ 0 ∧ lo i ≤ lo (i - 1))) with
    | some i => some (3, i)
    | none =>
      match (List.range n).find? (fun i => !gsSetOk g i) with
      | some i => some (4, i)
      | none => if 3 ≤ nph ∧ n ≤ set then some (5, set) else none

/-- The rail is STARTING or ON. -/
def railRuns (s : State) : Bool := decide (s.rd LE0_STAT_UNIT = 1 ∨ s.rd LE0_STAT_UNIT = 2)

/-- A gain-schedule load is answered BUSY (R375). -/
def gsBusy (s : State) : Bool := decide (3 ≤ s.rd LE0_CFG_N_PH) && railRuns s && !s.bit LE0_STAT_HOLD

/-- An image of `len` bytes is checked and accepted, or rejected with LE0_LOAD_ERR (R375). -/
def gsLoad (len : Nat) (g : List Nat) (s : State) : State × Status :=
  match gsCheck (s.rd LE0_CFG_N_PH) (s.rd LE0_SET_SEL_SET) len g with
  | some (c, i) => ((s.wr LE0_LOAD_ERR_CODE c).wr LE0_LOAD_ERR_INDEX i, .tableRejected)
  | none => ({ s with loops := { s.loops with gsNext := some g } }.wr LE0_STAT_GS_LOADED 1, .ok)

/-- The set by operating region (R376): rising bounds first, then falling ones with hysteresis. -/
def regionSet (s : State) : Nat :=
  let g := gsWords s
  let n := gsCount g
  let i := s.loops.iTot
  let lo (k : Nat) : Nat := g.getD (1 + 3 * k) 0 % 65536
  let up := (List.range n).foldl (fun k j => if j = k ∧ k + 1 < n ∧ lo (k + 1) ≤ i then k + 1 else k)
    (min (s.rd LE0_STAT_SET_ACT) (n - 1))
  (List.range n).foldr (fun j k => if j = k ∧ 0 < k ∧ i + s.rd LE0_TIMING_REG_HYST < lo k then k - 1 else k) up

/-- I_int is held within the clamp of the set in effect (R377). -/
def clampInt (s : State) : State :=
  { s with loops := { s.loops with iInt := clampI (gsMin s) (gsMax s) s.loops.iInt } }

/-- A waiting schedule is in force (R375). -/
def takeLoad (s : State) : State :=
  match s.loops.gsNext with
  | some g => { s with loops := { s.loops with gs := g, gsNext := none } }.wr LE0_STAT_N_SETS_M1 (gsCount g - 1)
  | none => s

/-- The set in effect is the one that R376 names. DESIGN CHOICE (log entry 34): a SET that the schedule does not have, which a load
under N_PH ≤ 2 can leave, selects nothing new. -/
def takeSet (s : State) : State :=
  let want := if s.rd LE0_CFG_N_PH ≤ 2 then regionSet s else s.rd LE0_SET_SEL_SET
  if want = s.rd LE0_STAT_SET_ACT ∨ gsCount (gsWords s) ≤ want then s
  else (s.wr LE0_STAT_SET_ACT want).bump LE0_COUNT_SET_SWITCHES

/-- The sample's set change (R376, R377, R379): a waiting load first, then the set, and I_int is held within the clamp of the set that
then is in effect; during a hold I_int keeps its value (R378). -/
def chooseSet (s : State) : State :=
  let t := takeSet (takeLoad s)
  let same := decide (t.rd LE0_STAT_SET_ACT = s.rd LE0_STAT_SET_ACT ∧ s.loops.gsNext = none)
  if same ∨ s.bit LE0_STAT_HOLD then t else clampInt t

/-- A hold ends: R373 resumes with I_int as held, within the clamp of the set in effect (R378). -/
def endHold (s : State) : State := clampInt (s.wr LE0_STAT_HOLD 0)

/-- LE0_SET_SEL (R376). -/
def setSelWrite (v : Nat) (s : State) : State × Status :=
  if gsNewest s ≤ v % 8 then (s, .badParam)
  else if railRuns s ∧ !s.bit LE0_STAT_HOLD then (s, .busy)
  else (s.wr LE0_SET_SEL_SET v, .ok)

/-! ### Phases -/

/-- The output of phase `k` takes a level; a change is an edge of the phase. -/
def setPhase (k : Nat) (hi : Bool) (s : State) : State :=
  if storeGet false s.loops.pwm k = hi then s
  else { s with loops := { s.loops with pwm := storeSet false s.loops.pwm k hi, lastSw := some s.now } }

/-- Every PH_PWM goes low; phases that were high have an edge. -/
def allLow (s : State) : State := s.forN 6 (fun k t => setPhase k false t)

/-- PHASE_THRESHOLD_CROSSING (R371, R372): the current of phase `k` rises above the high threshold, or falls below the low
one, `since` ns after the phase's last edge. Within 50 ns the comparators are ignored. A crossing from then to 100 ns switches the
phase when its shortest on-time or off-time is over, which the model takes as one step with the crossing (DESIGN CHOICE, log entry
127). -/
def execPhaseThresholdCrossing (k : Fin 6) (rise : Bool) (since : Nat) (s : State) : State :=
  let k := k.val
  if s.rd LE0_CFG_N_PH ≤ k ∨ since < 50 then s
  else if rise then setPhase k false s
  else
    let t := { s with loops := { s.loops with tripped := storeSet false s.loops.tripped k false } }
    if !railRuns t ∨ t.loops.ovHold ∨ (t.loops.thHi = 0 ∧ t.loops.thLo = 0) then t
    else
      let t := if storeGet false t.loops.ocThis k then t
        else { t with loops := { t.loops with ocRun := storeSet 0 t.loops.ocRun k 0 } }
      setPhase k true { t with loops := { t.loops with ocThis := storeSet false t.loops.ocThis k false } }

/-- PHASE_OC_TRIP (R372). -/
def execPhaseOcTrip (k : Fin 6) (s : State) : State :=
  let k := k.val
  if s.rd LE0_CFG_N_PH ≤ k ∨ s.bit LE0_STAT_STOPPED then s
  else
    let t := setPhase k false (s.bump LE0_COUNT_OC_EVENTS)
    let l := t.loops
    let run := if storeGet false l.ocThis k then l.ocRun else storeSet 0 l.ocRun k (min 16 (storeGet 0 l.ocRun k + 1))
    let t := { t with loops := { l with tripped := storeSet false l.tripped k true,
                                        ocThis := storeSet false l.ocThis k true, ocRun := run, ocRaised := true } }
    if s.loops.ocRaised then t else raise 0x55 k t

/-- PHASE_OC_PERSIST (R372): the forced stop, and PHASE_OC as CRITICAL. -/
def execPhaseOcPersist (k : Fin 6) (s : State) : State :=
  if storeGet 0 s.loops.ocRun k.val < 16 ∨ !railRuns s then s
  else
    let t := { s with loops := { s.loops with ocRun := storeSet 0 s.loops.ocRun k.val 0 } }
    raiseSev 0x55 3 k.val (railForceStop t)

/-! ### The senses -/

/-- Whether a sense (0 A, 1 B) is usable (R384). -/
def senseOk (s : State) (k : Nat) : Bool := !(s.bitOf ⟨LE0_FB, 31, 0⟩ k || s.bitOf ⟨LE0_FB, 31, 0⟩ (k + 2))

/-- The sense that FB_SEL names, and the one in use by FB_USED (2 none), as 0 A, 1 B. -/
def senseSel (s : State) : Nat := if s.bit LE0_CFG_FB_SEL then 0 else 1
def senseUsed (s : State) : Nat := match s.rd LE0_STAT_FB_USED with
  | 0 => 1
  | 1 => 0
  | _ => 2

/-- FB_USED of a sample (R384): the sense of FB_SEL while usable, else the other while usable, else none. -/
def chooseSense (s : State) : State :=
  let sel := senseSel s
  let use := if senseOk s sel then sel else if senseOk s (1 - sel) then 1 - sel else 2
  s.wr LE0_STAT_FB_USED (if use = 1 then 0 else if use = 0 then 1 else 2)

/-- The voltage of the sense in use, in 0.25 mV; with none, that of the sense of FB_SEL (DEDUCED, log entry 35). -/
def vUsed (s : State) : Nat :=
  storeGet 0 s.loops.vSense (if senseUsed s = 2 then senseSel s else senseUsed s)

/-- A frozen run takes a sample (R383): the longest run that ends with it and lies within 1 code. -/
def frzStep (counts : Bool) (c : Int) (r : FrzRun) : FrzRun :=
  if !counts then ⟨c, 0, 0⟩
  else if r.down = 0 ∧ r.up = 0 then ⟨c, 1, 1⟩
  else if c = r.code then ⟨c, min 65535 (r.down + 1), min 65535 (r.up + 1)⟩
  else if c = r.code + 1 then ⟨c, min 65535 (r.up + 1), 1⟩
  else if c = r.code - 1 then ⟨c, 1, min 65535 (r.down + 1)⟩
  else ⟨c, 1, 1⟩

/-- A run that has taken no sample. -/
def frzNone : FrzRun := ⟨0, 0, 0⟩

/-- Samples of the run. -/
def frzLen (r : FrzRun) : Nat := max r.down r.up

/-- A count that saturates, cleared when its condition fails. -/
def runOf (c : Bool) (n : Nat) : Nat := if c then min 65535 (n + 1) else 0

/-- A sample of a sense is implausible (R382). -/
def implausible (s : State) (ovr : Bool) (v : Nat) : Bool :=
  let band : Int := s.rd LE0_SUPV_PL_DEV * 40
  ovr || (decide (s.rd LE0_STAT_UNIT = 2) && decide (band < ((v : Int) - s.loops.rail.ref).natAbs))
    || (decide (s.rd LE0_STAT_UNIT = 1) && decide (s.loops.rail.ref + band < (v : Int)))

/-- A phase has switched in the 10 µs before now (R383). -/
def switchedLately (s : State) : Bool := s.loops.lastSw.any (fun t => decide (s.now ≤ t + 10000))

/-- Supervision counts of one sense (R382, R383, R384, R386), and bits of LE0_FB that leave after LOST_N plausible samples. -/
def superviseSense (k code : Nat) (ovr : Bool) (s : State) : State :=
  let run := railRuns s
  let v := 5 * code
  let imp := implausible s ovr v
  let l := s.loops
  let pl (b : Nat) (m : List (Nat × Nat)) : List (Nat × Nat) := storeSet 0 m b (runOf (!imp) (storeGet 0 m b))
  let ovc := decide (4 * s.rd LE0_LIMITS_OV_MV < v) && senseOk s k && run
  let t := { s with loops := { l with
    impRun := storeSet 0 l.impRun k (runOf (imp && run) (storeGet 0 l.impRun k))
    plRun := pl k (pl (k + 2) l.plRun)
    frz := storeSet frzNone l.frz k (frzStep (switchedLately s && run) code (storeGet frzNone l.frz k))
    ovRun := storeSet 0 l.ovRun k (runOf ovc (storeGet 0 l.ovRun k)) } }
  t.forL [k, k + 2] (fun b u =>
    if u.loops.fbClr / 2 ^ b % 2 = 1 ∧ u.rd LE0_SUPV_LOST_N ≤ storeGet 0 u.loops.plRun b then
      { u with loops := { u.loops with fbClr := u.loops.fbClr - 2 ^ b } }.clrBit ⟨LE0_FB, 31, 0⟩ b
    else u)

/-- Both senses are judged; overvoltage lets the phases resume, and undervoltage is counted (R386). -/
def supervise (a b : Nat) (oa ob : Bool) (s : State) : State :=
  let t := superviseSense 1 b ob (superviseSense 0 a oa s)
  let low := (4 * s.rd LE0_LIMITS_OV_MV - 400)
  let calm := [0, 1].all (fun k => !senseOk t k || decide (storeGet 0 t.loops.vSense k < low))
  let uv := decide (t.rd LE0_STAT_UNIT = 2) && !t.bit LE0_STAT_HOLD && decide (senseUsed t ≠ 2)
    && decide ((vUsed t : Int) < t.loops.rail.ref - t.rd LE0_SUPV_UV_DEV * 40)
  { t with loops := { t.loops with
    ovHold := t.loops.ovHold && !calm
    uvRun := runOf uv t.loops.uvRun
    uvDone := t.loops.uvDone && uv } }

/-! ### The law of a sample -/

/-- R373 on the sense in use, of voltage `v`, while the unit is STARTING or ON. -/
def railLaw (v : Int) (s : State) : State :=
  let l := s.loops
  let e := l.rail.ref - v
  let p := ((gsKp s : Int) * e + 128) / 256
  let held := s.bit LE0_STAT_HOLD
  let i := if (l.satHi ∧ 0 < e) ∨ (l.satLo ∧ e < 0) then l.iInt else l.iInt + gsKi s * e
  let i := if held then l.iInt else clampI (gsMin s) (gsMax s) i
  let base := if held then l.base else p + i / 65536
  let n := s.rd LE0_CFG_N_PH
  let top : Int := n * s.rd LE0_CFG_I_PH_MAX * 10
  let raw := base + l.iFf
  let tot := (clampI 0 top raw).toNat
  let c := (2 * tot + 10 * n) / (20 * n)
  { s with loops := { l with
    iInt := i, base := base, iTot := tot, satHi := decide (top < raw), satLo := decide (raw < 0)
    thHi := min (c + gsBand s) 1023, thLo := c - gsBand s
    okRun := runOf (decide (e.natAbs ≤ 400)) l.okRun } }

/-- The integrator's clamp is noted (R377), and the registers show the sample. -/
def railShow (s : State) : State :=
  let l := s.loops
  let at' := decide (l.iInt = gsMin s ∨ l.iInt = gsMax s)
  let t := { s with loops := { l with clampRun := runOf at' l.clampRun, satDone := l.satDone && at' } }
  let t := t.wr LE0_STAT_INT_CLAMPED (boolNat at')
  let t := (t.wr LE0_RAIL_V_REF (l.rail.ref / 4).toNat).wr LE0_RAIL_V_FB (vUsed t / 4)
  let t := (t.wr LE0_SENSE_VAN_A (storeGet 0 l.vSense 0 / 4)).wr LE0_SENSE_VAN_B (storeGet 0 l.vSense 1 / 4)
  let t := (t.wr LE0_CURRENT_I_TOT l.iTot).wr LE0_CURRENT_I_FF l.iFf
  t.wr LE0_INT_I_INT (ofSigned 16 (l.iInt / 65536))

/-- Trace signals of LE0 (R398). -/
def le0Signal (s : State) (k : Nat) : Int :=
  match k with
  | 0 => (storeGet 0 s.loops.vSense 0 : Nat)
  | 1 => (storeGet 0 s.loops.vSense 1 : Nat)
  | 2 => s.loops.rail.ref
  | 3 => s.loops.rail.ref - vUsed s
  | 4 => s.loops.iTot
  | 5 => s.loops.iInt / 65536
  | 6 => s.loops.iFf
  | 7 => s.rd LE0_STAT_SET_ACT
  | _ => s.rd LE0_INT_VBAT

/-- A hold starts or ends at this sample, after the set change (R378, R379). -/
def holdStep (s : State) : State :=
  let t := if s.loops.holdReq = 1 ∧ s.rd LE0_STAT_UNIT = 2 then s.wr LE0_STAT_HOLD 1
    else if s.loops.holdReq = 2 then endHold s else s
  { t with loops := { t.loops with holdReq := 0 } }

/-- One rail sample (R373, R376 to R379, R382 to R386): codes of VAN_SNS_A and VAN_SNS_B. -/
def railSample (a b : Nat) (oa ob : Bool) (s : State) : State :=
  let t := holdStep (chooseSet s)
  let t := { t with loops := { t.loops with vSense := storeSet 0 (storeSet 0 t.loops.vSense 0 (5 * a)) 1 (5 * b) } }
  let t := chooseSense t
  let t := if railRuns t ∧ senseUsed t ≠ 2 then railLaw (vUsed t) t else t
  let t := railShow (supervise a b oa ob t)
  traceSample 0 (le0Signal t) t

/-! ### Supervision events -/

/-- A sense's counters stand at a loss, or at a frozen window. -/
def lossNow (s : State) (k : Nat) : Bool := decide (s.rd LE0_SUPV_LOST_N ≤ storeGet 0 s.loops.impRun k)
def frozenNow (s : State) (k : Nat) : Bool := decide (s.rd LE0_LIMITS_FROZEN_N ≤ frzLen (storeGet frzNone s.loops.frz k))

/-- Bit `b` of LE0_FB is set; a clear that waits is overtaken. -/
def fbSet (b : Nat) (s : State) : State :=
  let t := if s.loops.fbClr / 2 ^ b % 2 = 1 then { s with loops := { s.loops with fbClr := s.loops.fbClr - 2 ^ b } } else s
  t.setW1c LE0_FB (2 ^ b)

/-- Sense `k` becomes unusable by loss or freeze (R384, R385), and with no sense left the engine goes to DARK. The other sense, when
its counters stand there in the same sample, becomes unusable with it, and the report is then LOOP_FB_LOST. -/
def senseFails (k : Nat) (frozen : Bool) (s : State) : State :=
  let other := 1 - k
  let used := decide (senseUsed s = k)
  let was := senseOk s k
  let both := senseOk s other && (lossNow s other || frozenNow s other)
  let t := fbSet (if frozen then k + 2 else k) s
  let t := t.when both (fun u => (u.when (lossNow s other) (fbSet other)).when (frozenNow s other) (fbSet (other + 2)))
  if senseOk t other then
    (if used ∧ was then raiseSev (if frozen then 0x51 else 0x50) 1 k (t.bump LE0_COUNT_FB_SWITCHES) else t)
  else if was then
    let src := if frozen ∧ !both then 0x51 else 0x50
    requireRung 4 src (raiseSev src 3 k (railForceStop t))
  else t

/-- RAIL_SENSE_LOST (R382, R384, R385). -/
def execRailSenseLost (b : Bool) (s : State) : State :=
  let k := boolNat b
  if railRuns s ∧ lossNow s k ∧ (!s.bitOf ⟨LE0_FB, 31, 0⟩ k ∨ s.loops.fbClr / 2 ^ k % 2 = 1) then senseFails k false s else s

/-- RAIL_SENSE_FROZEN (R383, R384, R385). -/
def execRailSenseFrozen (b : Bool) (s : State) : State :=
  let k := boolNat b
  if railRuns s ∧ frozenNow s k ∧ (!s.bitOf ⟨LE0_FB, 31, 0⟩ (k + 2) ∨ s.loops.fbClr / 2 ^ (k + 2) % 2 = 1) then
    senseFails k true s
  else s

/-- LE0_FB_CLEAR (R7, R384): a cleared bit reads 1 until LOST_N consecutive plausible samples follow. -/
def le0FbClear (v : Nat) (s : State) : State :=
  let v := s.w1cMask LE0_FB v
  s.forN 4 (fun b t =>
    if v / 2 ^ b % 2 = 1 ∧ t.bitOf ⟨LE0_FB, 31, 0⟩ b then
      let l := t.loops
      { t with loops := { l with plRun := storeSet 0 l.plRun b 0,
                                 fbClr := if l.fbClr / 2 ^ b % 2 = 1 then l.fbClr else l.fbClr + 2 ^ b } }
    else t)

/-- LOOP_INT_SAT (R377). -/
def execLoopIntSat (s : State) : State :=
  if 10000 ≤ s.loops.clampRun ∧ !s.loops.satDone then
    raise 0x52 (s.rd LE0_STAT_SET_ACT) { s with loops := { s.loops with satDone := true } }
  else s

/-- RAIL_OV by sense (R386). -/
def execRailOv (b : Bool) (s : State) : State :=
  let k := boolNat b
  if railRuns s ∧ senseOk s k ∧ s.rd LE0_SUPV_OVUV_N ≤ storeGet 0 s.loops.ovRun k ∧ !s.loops.ovHold then
    let t := allLow s
    raise 0x53 (storeGet 0 s.loops.vSense k / 4) { t with loops := { t.loops with ovHold := true } }
  else s

/-- RAIL_UV (R386): raised once per excursion (DEDUCED, log entry 36). -/
def execRailUv (s : State) : State :=
  if s.rd LE0_STAT_UNIT = 2 ∧ s.rd LE0_SUPV_OVUV_N ≤ s.loops.uvRun ∧ !s.loops.uvDone then
    raise 0x54 (vUsed s / 4) { s with loops := { s.loops with uvDone := true } }
  else s

/-! ### Starting and stopping -/

/-- The rail starts with no sense usable: it stops at once, and the engine goes to DARK (R385; DEDUCED, log entry 128: no second loss
is reported, since none occurs). -/
def railBlind (s : State) : State := if senseUsed s = 2 then requireRung 4 0x50 (railForceStop s) else s

/-- The rail as a unit: a start clears the integrator and starts the profile at the measured rail (R380). -/
def railUnit : UnitF :=
  { unit := LE0_STAT_UNIT, en := LE0_CTRL_EN, pending := LE0_STAT_EN_PENDING,
    start := fun s =>
      let t := chooseSense (s.wr LE0_STAT_STOPPED 0)
      railBlind { t with loops := { t.loops with
        iInt := 0, satHi := false, satLo := false, okRun := 0, impRun := [], frz := [], ovRun := [], uvRun := 0
        uvDone := false, ovHold := false, ocRun := [], ocThis := [], tripped := [], holdReq := 0
        rail := profStart (vUsed t) } } }

/-- A start is allowed (R380): the rung is not DARK and SAFE_SNS conducts. -/
def railMay (s : State) : Bool := decide (s.rd DEV_LADDER_RUNG ≠ 4) && s.bit SMC_STAT_SAFE_SNS

/-- A normal stop begins: every PH_PWM goes low (R381). -/
def railStop (s : State) : State := allLow s

/-- ENABLE and DISABLE of loop 0 (R380, R381). -/
def railEnable (s : State) : State × Status := if railMay s then unitEnable railUnit s else (s, .safeState)
def railDisable (s : State) : State × Status :=
  if s.rd DEV_LADDER_RUNG = 4 then unitDisable railUnit railStop s else (s, .safeState)

/-- RAIL_AUTO_START (R380): `sns` is the level of SAFE_SNS. -/
def execRailAutoStart (sns : Bool) (s : State) : State :=
  let s := s.wr SMC_STAT_SAFE_SNS (boolNat sns)
  if s.bit LE0_CTRL_AUTO ∧ s.rd LE0_STAT_UNIT = 0 ∧ s.bit LE0_STAT_STOPPED ∧ !s.bit LE0_STAT_EN_PENDING ∧ railMay s then
    unitStart railUnit (s.wr LE0_CTRL_EN 1)
  else s

/-- RAIL_ON (R380). -/
def execRailOn (s : State) : State :=
  let p := s.loops.rail
  let x : Int := s.rd LE0_SP_SP_MV * 4
  if s.rd LE0_STAT_UNIT = 1 ∧ p.q = x ∧ p.ref = x ∧ 100 ≤ s.loops.okRun then s.wr LE0_STAT_UNIT 2 else s

/-- RAIL_START_TIMEOUT (R380): RAIL_UV, and a normal stop. EN keeps its value (DEDUCED, log entry 37). -/
def execRailStartTimeout (s : State) : State :=
  if s.rd LE0_STAT_UNIT = 1 then (railStop (raise 0x54 (vUsed s / 4) s)).wr LE0_STAT_UNIT 3 else s

/-- RAIL_STOP_COMPLETE (R381): PH_EN goes low, the phases are reported stopped, SAFE_OFF follows a DARK decision (R325), and
the unit reaches OFF. -/
def execRailStopComplete (s : State) : State :=
  if s.rd LE0_STAT_UNIT = 3 ∧ !s.bit LE0_STAT_STOPPED then
    let t := { s with loops := { s.loops with iFf := 0, ffNext := none, thHi := 0, thLo := 0 } }
    let t := (t.wr LE0_STAT_STOPPED 1).wr LE0_CURRENT_I_FF 0
    unitOff railUnit railMay (t.when t.smc.offWait safeOffLow)
  else s

/-! ### Holds -/

/-- LOOP_HOLD (R378). -/
def loopHold (o : Outst) (s : State) : Res :=
  let p := o.cmd.p0
  if p % 32768 ≠ 0 then ans s .badParam
  else if p / 32768 = 1 then
    (if s.rd LE0_STAT_UNIT = 2 then ok { s with loops := { s.loops with holdReq := 1 } } else ans s .busy)
  else ok (if s.bit LE0_STAT_HOLD ∨ s.loops.holdReq = 1 then { s with loops := { s.loops with holdReq := 2 } } else s)

/-- LOOP_HOLD_EXPIRY (R378); a hold that a waiting LOOP_HOLD restarts goes on. -/
def execLoopHoldExpiry (s : State) : State :=
  if s.bit LE0_STAT_HOLD ∧ s.loops.holdReq ≠ 1 then endHold s else s

/-! ### Feed-forward -/

/-- LE0 takes the zone sums of a LOOP_FF (R374); `sum` is ΣSUM_AT. -/
def railFf (sum : Nat) (s : State) : State :=
  if s.rd LE0_STAT_UNIT = 0 then s
  else
    let d := 8000 * 1024 * 128
    let i := (2 * sum * gsFfGain s * 5 + d) / (2 * d)
    traceEvent 4 0 { s with loops := { s.loops with ffNext := some i, ffGot := true } }

/-- FF_APPLY (R374). -/
def execFfApply (s : State) : State :=
  match s.loops.ffNext with
  | some i => { s with loops := { s.loops with iFf := i, ffNext := none } }.wr LE0_CURRENT_I_FF i
  | none => s

/-- A slot period starts: without a LOOP_FF in the one before, I_ff is 0 (R374). -/
def ffSlot (s : State) : State :=
  let t := if s.loops.ffGot then s else { s with loops := { s.loops with iFf := 0 } }.wr LE0_CURRENT_I_FF 0
  { t with loops := { t.loops with ffGot := false } }

/-- LE0_CTRL.CNT_CLR (R401). -/
def le0CntClr (s : State) : State := s.setReg LE0_COUNT 0#32

end Sys2Proof.Machine
end

