-- ==== Sys2Proof/Machine/Tables.lean ====
section
/-!
DEFINITION. TABLE_LOAD and TABLE_READ (R17, R263, R284, R512): the parameters, the checks of each table's chapter, and what an
accepted image installs (R66 to R79, R104, R121, R218, R340, R349, R375).
-/
namespace Sys2Proof.Machine

/-- Replace the keys from `base` on by the values of a list. -/
def storeBlock {α : Type} [DecidableEq α] (d : α) (m : List (Nat × α)) (base : Nat) (l : List α) : List (Nat × α) :=
  m.filter (fun p => decide (p.1 < base))
    ++ ((List.range l.length).zip l).filterMap (fun p => if p.2 = d then none else some (base + p.1, p.2))
    ++ m.filter (fun p => decide (base + l.length ≤ p.1))

/-- The 16-bit entries of an image (R1). -/
def halfWords : List Nat → List Nat
  | a :: b :: r => (a + 256 * b) :: halfWords r
  | _ => []

/-- Bytes of a list of 16-bit entries. -/
def bytesOfHalves : List Nat → List Nat
  | [] => []
  | h :: r => h % 256 :: h / 256 % 256 :: bytesOfHalves r

/-- A rejected PXA table (R17): PXA_LOAD_ERR. -/
def pxaReject (id code idx : Nat) (s : State) : State × Status :=
  (((s.wr PXA_LOAD_ERR_TABLE_ID id).wr PXA_LOAD_ERR_CODE code).wr PXA_LOAD_ERR_INDEX idx, .tableRejected)

/-! ### Patterns -/

/-- The first failing entry of a Pattern image and its lowest failing code (R67); `prev` is the charge of the entry before. -/
def patCheck : Nat → Nat → List Nat → Option (Nat × Nat)
  | _, _, [] => none
  | c, prev, e :: r =>
    let a := e / 1024
    let t := e % 1024
    if c = 0 ∧ e ≠ 0 then some (2, c)
    else if 1008 < t then some (3, c)
    else if decide (a = 0) ≠ decide (t = 0) then some (4, c)
    else if a * t < prev then some (5, c)
    else patCheck (c + 1) (a * t) r

/-- A Pattern index is in use (R68). -/
def patInUse (s : State) (k : Nat) : Bool := patSelected s k || decide (s.rd PXA_CTRL_PAT_DEFAULT = k)

/-- A Pattern image (R66, R67, R69). -/
def patLoad (k : Nat) (img : List Nat) (s : State) : State × Status :=
  if img.length ≠ 131072 then pxaReject 1 1 0 s
  else match patCheck 0 0 (halfWords img) with
    | some (c, i) => pxaReject 1 c i s
    | none =>
      let t := { s with pxa := { s.pxa with
        pats := storeBlock 0#16 s.pxa.pats (k * 65536) ((halfWords img).map (BitVec.ofNat 16)) } }
      ((t.setReg (PXA_PATn_CRC k) (BitVec.ofNat 32 (crc32 img))).setBit PXA_STAT_PAT_VALID k, .ok)

/-! ### Trim, spare-adjust, estimate -/

/-- The rows of a trim image, 3,072 bytes each, from row `r` on. -/
def trimRows (r n : Nat) (img : List Nat) : List (Nat × List Nat) :=
  (List.range n).map (fun i => (r + i, (img.drop (3072 * i)).take 3072))

/-- A trim image of `n` bytes from row `r` on (R71): the rows wait for the next boundary between loads (R74). -/
def trimLoad (r n : Nat) (img : List Nat) (s : State) : State × Status :=
  if n = 0 ∨ n % 3072 ≠ 0 ∨ 640 < r + n / 3072 then pxaReject 3 9 r s
  else ({ s with pxa := { s.pxa with trimNext := s.pxa.trimNext ++ trimRows r (n / 3072) img } }.wr PXA_STAT_TRIM_LOADED 1, .ok)

/-- A spare-adjust image (R76, R77). -/
def spadjLoad (img : List Nat) (s : State) : State × Status :=
  let h := halfWords img
  if img.length ≠ 256 then pxaReject 9 1 0 s
  else match (List.range 128).find? (fun i => decide (h.getD i 0 < 512 ∨ 2047 < h.getD i 0)) with
    | some i => pxaReject 9 6 i s
    | none => ({ s with pxa := { s.pxa with spadjNext := some h } }.wr PXA_STAT_SPADJ_LOADED 1, .ok)

/-- A current-estimate image (R78). DEDUCED: the lowest entry that fails is reported, with its lowest code, as R67 reports a
Pattern's (log entry 40). -/
def estLoad (img : List Nat) (s : State) : State × Status :=
  let b (i : Nat) : Nat := img.getD i 0
  if img.length ≠ 256 then pxaReject 10 1 0 s
  else match (List.range 256).find? (fun i => decide (63 < b i ∨ (i ≠ 0 ∧ b i < b (i - 1)))) with
    | some i => pxaReject 10 (if 63 < b i then 7 else 8) i s
    | none => ({ s with pxa := { s.pxa with estNext := some img } }.wr PXA_STAT_EST_LOADED 1, .ok)

/-! ### Layer lookups and the fallback image -/

/-- A layer lookup (R121). -/
def lutLoad (k : Nat) (img : List Nat) (s : State) : State × Status :=
  if img.length ≠ 512 then (s, .tableRejected)
  else
    let t := { s with cmp := { s.cmp with
      lutSh := storeBlock 0#16 s.cmp.lutSh (k * 256) ((halfWords img).map (BitVec.ofNat 16)) } }
    (t.setBit CMP_LUT_STAT_LUT_SHADOW k, .ok)

/-- FB_CRC of the SPB in effect. -/
def spbFbCrc (s : State) : Option Nat := s.smc.spb.map (fun w => w.getD 25 0)

/-- A fallback image of `n` bytes (R349). -/
def fbLoad (n : Nat) (img : List Nat) (s : State) : State × Status :=
  let rd (i : Nat) : Nat := img.getD i 0
  if n % 64 ≠ 0 ∨ n < 64 ∨ 262144 < n then (smcLoadErr 7 1 0 s, .tableRejected)
  else match pleatHeaderFails rd n 8 2048 640 with
    | i :: _ => (smcLoadErr 7 2 i s, .tableRejected)
    | [] =>
      match pleatBadTiles rd n 8 2048 640 with
      | i :: _ => (smcLoadErr 7 3 i s, .tableRejected)
      | [] =>
        let c := crc32 img
        if (spbFbCrc s).any (fun x => decide (x ≠ c)) then (smcLoadErr 7 4 0 s, .tableRejected)
        else ({ s with smc := { s.smc with fbImage := storeBlock 0 [] 0 img, fbLen := n, fbCrc := c } }
          |>.setReg CRC_REF_FB (BitVec.ofNat 32 c) |>.wr SMC_STAT_FB_VALID 1, .ok)

/-! ### TABLE_LOAD -/

/-- Table ID and SELECT are legal (R284). -/
def selectOk (id sel : Nat) : Bool :=
  match id with
  | 1 | 6 => decide (sel < 8)
  | 2 => decide (sel / 512 = 0 ∧ sel / 16 % 16 = 0 ∧ sel % 16 ≠ 0)
  | 3 => decide (sel < 1024)
  | 4 | 5 | 7 | 8 | 9 | 10 => decide (sel = 0)
  | _ => false

/-- The load is answered BUSY before its image is looked at (R68, R104, R349, R375, R512). -/
def tableBusy (id sel : Nat) (s : State) : Bool :=
  match id with
  | 1 => patInUse s sel
  | 2 => (List.range 4).any (fun q => decide (sel / 2 ^ q % 2 = 1) && bufInUse s q (sel / 256 % 2))
  | 7 => decide (s.rd DEV_LADDER_RUNG = 1)
  | 8 => gsBusy s
  | _ => false

/-- A byte count that no image of the table has. -/
def tableLenBad (id sel n : Nat) : Bool :=
  match id with
  | 1 => decide (n ≠ 131072)
  | 2 => decide (n % 4 ≠ 0 ∨ 16392 < n ∨ n = 0)
  | 3 => decide (n = 0 ∨ n % 3072 ≠ 0 ∨ 640 < sel + n / 3072)
  | 4 => decide (n ≠ 64)
  | 6 => decide (n ≠ 512)
  | 7 => decide (n % 64 ≠ 0 ∨ n < 64 ∨ 262144 < n)
  | 8 => decide (n % 12 ≠ 4 ∨ 184 < n)
  | _ => decide (n ≠ 256)

/-- The table's header, as far as the opening command carries it, fails a check (R263). -/
def tableHeaderBad (id n : Nat) (g : List Nat) : Bool :=
  let w0 := le32 g 0
  match id with
  | 2 => decide (4 ≤ g.length) && decide (w0 / 2 ^ 24 ≠ 1 ∨ w0 / 8 % 2 ^ 21 ≠ 0 ∨ 4 < w0 % 8)
  | 7 => decide (64 ≤ g.length) && !(pleatHeaderFails (fun i => g.getD i 0) n 8 2048 640).isEmpty
  | 8 => decide (4 ≤ g.length)
      && decide (w0 / 2 ^ 24 ≠ 1 ∨ w0 / 16 % 2 ^ 20 ≠ 0 ∨ n ≠ 4 + 12 * (w0 % 16) ∨ w0 % 16 = 0 ∨ 8 < w0 % 16)
  | _ => false

/-- A table whose header fails is rejected on what the opening command carries (R263): a schedule with CODE 2 at word 0 (R103,
R509), the others by their own checks. -/
def headerReject (id sel n : Nat) (g : List Nat) (s : State) : State × Status :=
  match id with
  | 2 =>
    (s.forN 4 (fun q t => if sel / 2 ^ q % 2 = 1 then
      ((t.wr (SEQ_LOAD_ERR_CODE q) 2).wr (SEQ_LOAD_ERR_SLOT q) 0).wr (SEQ_LOAD_ERR_WORD q) 0 else t), .tableRejected)
  | 7 => fbLoad n g s
  | _ => gsLoad n (wordsOfBytes g) s

/-- An image of `n` bytes is checked and installed, or rejected. -/
def tableInstall (id sel n : Nat) (img : List Nat) (s : State) : State × Status :=
  if tableBusy id sel s then (s, .busy)
  else match id with
    | 1 => patLoad sel img s
    | 2 => seqLoad (sel % 16) (sel / 256 % 2) img s
    | 3 => trimLoad sel n img s
    | 4 => hemLoad img s
    | 5 => derateLoad img s
    | 6 => lutLoad sel img s
    | 7 => fbLoad n img s
    | 8 => gsLoad n (wordsOfBytes img) s
    | 9 => spadjLoad img s
    | _ => estLoad img s

/-- A TABLE_LOAD transfer has ended: a check field that differs rejects the image unseen (R459), else it is installed. -/
def endTable (u : Option Nat) (id sel n : Nat) (img field : List Nat) (s : State) : State × Ans :=
  let r := checkField u field s
  match r.2 with
  | some (c, f) =>
    if c = f then let t := tableInstall id sel n img r.1; (t.1, ⟨t.2, [], none⟩) else (r.1, ⟨.tableRejected, [c, f], none⟩)
  | none => let t := tableInstall id sel n img r.1; (t.1, ⟨t.2, [], none⟩)

/-- TABLE_LOAD (R263, R284, R459, R512). -/
def tableLoad (o : Outst) (s : State) : Res :=
  let id := o.cmd.p0
  let sel := o.cmd.w 1
  let n := o.cmd.w 2
  let g := givenBytes o
  let u := unitIn o s
  let m := dataLen u n
  let d := g.take m
  if !selectOk id sel then refuseXfer o .badParam s
  else if id = 6 ∧ cmpOff s then answerOff (CMP_Lk_CTRL sel) (if g.length < n then openXfer o n g true s else s)
  else if tableBusy id sel s then refuseXfer o .busy s
  else if n < 4 ∧ u.isSome then refuseXfer o .badParam s
  else if tableLenBad id sel m then
    let r := tableInstall id sel m [] s
    refuseXfer o r.2 r.1
  else if tableHeaderBad id m d then
    let r := headerReject id sel m d s
    refuseXfer o r.2 r.1
  else
    let t := feedUnit u d (openUnit u s)
    if g.length = n then
      let r := endTable u id sel m d (g.drop m) t
      (r.1, some r.2)
    else answerLater (openXfer o n g false t)

/-! ### TABLE_READ -/

/-- The readable image of a table: its length and its bytes (R512). DESIGN CHOICE: of the trim map the records in effect are read, not
the accepted rows that wait for their boundary (log entry 126). -/
def tableImage (id sel : Nat) (s : State) : Option (Nat × (Nat → Nat)) :=
  let ofHalf (f : Nat → Nat) (i : Nat) : Nat := f (i / 2) / 256 ^ (i % 2) % 256
  let ofWord (f : Nat → Nat) (i : Nat) : Nat := f (i / 4) / 256 ^ (i % 4) % 256
  match id with
  | 1 => if s.bitOf PXA_STAT_PAT_VALID sel then some (131072, ofHalf (patOf s sel)) else none
  | 2 =>
    let b := sel / 256 % 2
    match (List.range 4).filter (fun q => decide (sel / 2 ^ q % 2 = 1)) with
    | [q] =>
      if s.bitOf (SEQ_STAT_BUF_VALID q) b then
        let n := storeGet 0 s.seq.lens (q * 2 + b)
        let word (i : Nat) : Nat :=
          if i = 0 then (s.reg (SEQ_BUFb_HDR q b)).toNat else if i = 1 then (s.reg (SEQ_BUFb_ID q b)).toNat
          else bufWord s q b (i - 2)
        some (4 * (n + 2), ofWord word)
      else none
    | _ => none
  | 3 =>
    let rec_ (p : Nat) : Nat := trimOf s (sel * 2048 + p)
    let byte (i : Nat) : Nat :=
      let p := i / 3 * 2
      if i % 3 = 0 then rec_ p % 256 else if i % 3 = 1 then rec_ p / 256 + rec_ (p + 1) % 16 * 16 else rec_ (p + 1) / 16
    if sel < 640 then some ((640 - sel) * 3072, byte) else none
  | 4 => some (64, ofHalf (fun g => (s.smc.hemNext.getD s.smc.hem).getD g 0))
  | 5 => some (256, fun i => match s.thm.derNext with
    | some l => l.getD i 0
    | none => derateOf s i)
  | 6 => if s.bitOf CMP_LUT_STAT_LUT_SHADOW sel then
      some (512, ofHalf (fun i => (storeGet 0#16 s.cmp.lutSh (sel * 256 + i)).toNat)) else none
  | 7 => if s.bit SMC_STAT_FB_VALID then some (s.smc.fbLen, fbByte s) else none
  | 8 =>
    let g := s.loops.gsNext.getD (gsWords s)
    some (4 * g.length, ofWord (fun i => g.getD i 0))
  | 9 => some (256, ofHalf (spadjOf s))
  | _ => some (256, estOf s)

/-- A host read of on-chip SRAM meets these errors (R167, R349). -/
def sramMeets (errs : List EccErr) (s : State) : State :=
  fbRegionUe errs (noteErrs (errs.filter (fun e => inSram e.addr)) s)

/-- A host read of on-chip SRAM meets an uncorrectable word. -/
def sramUe (errs : List EccErr) : Bool := errs.any (fun e => e.ue && inSram e.addr)

/-- TABLE_READ (R284, R512). -/
def tableRead (o : Outst) (s : State) : Res :=
  let id := o.cmd.p0
  let sel := o.cmd.w 1
  let i := o.cmd.w 2
  let n := o.cmd.w 3
  let one := decide (id ≠ 2 ∨ sel % 16 ∈ [1, 2, 4, 8])
  if !selectOk id sel ∨ !one ∨ i % 4 ≠ 0 ∨ n % 4 ≠ 0 ∨ n < 4 ∨ 2044 < n then ans s .badParam
  else if id = 6 ∧ cmpOff s then answerOff (CMP_Lk_CTRL sel) s
  else match tableImage id sel s with
    | none => ans s .badParam
    | some (len, f) =>
      let at_ := 0x1500000 + 3072 * sel + i
      let errs := o.cmd.errs ++ leftBad (fun w => id = 3 && decide (at_ < w * 8 + 8 ∧ w * 8 < at_ + n)) o.cmd.errs s
      if len < i + n then ans s .badParam
      else if sramUe errs then ans (sramMeets errs s) .internalError
      else okW (sramMeets errs s) (wordsOfBytes ((List.range n).map (fun k => f (i + k))))

end Sys2Proof.Machine
end

