-- ==== Sys2Proof/Machine/Reads.lean ====
section
/-!
DEFINITION. What reads return: registers (R5, R6, R10), with the fields that show elapsed time or other state; the on-chip SRAM
window (R165 to R167); the surface window (R158 to R160); and READ_REG and READ_BLOCK (R282).
-/
namespace Sys2Proof.Machine

/-! ### Registers that follow other state -/

/-- Whole ms left until time `t`, rounded up (DEDUCED, log entry 42). -/
def msLeft (s : State) (t : Nat) : Nat := ceilDiv (t - s.now) 1000000

/-- CMD_THIMBLEn as it reads. -/
def thimbleWord (s : State) (n : Nat) : Nat :=
  let h := s.rd (CMD_THIMBLEn_HOLDER n)
  let lease := if h = 0 then 0 else min 16383 (msLeft s (storeGet 0 s.cmd.thLease n))
  match storeGet none s.cmd.thWait n with
  | some w => h * 2 ^ 30 + (w.o.cmd.port.num + 1) * 2 ^ 28 + min 255 (msLeft s w.deadline) * 2 ^ 16 + lease
  | none => h * 2 ^ 30 + lease

/-- A path of a host has beaten within HOST_HB_TIMEOUT (R290). -/
def beatRecent (s : State) (b : Option Nat) : Bool :=
  b.any (fun t => decide (s.now ≤ t + s.rd CCX_HOST_TO_TIMEOUT_MS * 1000000))

def linkBeatOf (s : State) (p : Nat) : Option Nat := if p % 2 = 0 then s.ccx.linkBeatA else s.ccx.linkBeatB
def pinBeatOf (s : State) (p : Nat) : Option Nat := if p % 2 = 0 then s.ccx.pinBeatA else s.ccx.pinBeatB

/-- CCX_HOST_x as it reads. -/
def hostWord (s : State) (p : Nat) : Nat :=
  s.rd (CCX_HOSTx_STATE p) * 2 ^ 30 + boolNat (beatRecent s (linkBeatOf s p)) * 2 ^ 29
    + boolNat (beatRecent s (pinBeatOf s p)) * 2 ^ 28 + s.rd (CCX_HOSTx_EPOCH p)

/-- Time since a core's last beat, in 10 µs. -/
def coreAge (s : State) (t : Nat) : Nat := min 65535 ((s.now - t) / 10000)

/-- HLx_HB as it reads. -/
def hbWord (s : State) (p : Nat) : Nat :=
  let age := match pinBeatOf s p with
    | some t => min 0xFFFFFF ((s.now - t) / 1000)
    | none => 0xFFFFFF
  s.rd (HLx_HB_LEVEL p) * 2 ^ 31 + s.rd (HLx_HB_BEATS p) * 2 ^ 24 + age

/-- CCX_BASTE as it reads while a baste runs: LEFT counts the journal entries after the slot's J_ck (log entry 49). -/
def basteWord (s : State) : Nat :=
  let j := if s.ccx.basteSlot = 0 then s.ccx.slot0.jck else s.ccx.slot1.jck
  let n := (s.ccx.journal.filter (fun e => later 32 e.jseq j)).length
  (s.reg CCX_BASTE).toNat / 2 ^ 24 * 2 ^ 24 + min 0xFFFFFF n

def calUnitFld (t : Nat) : Fld := ⟨CAL_STAT, 2 * t + 1, 2 * t⟩
def calRunIdle : CalRun := ⟨0, [], 0, 0, 0, 0, 0, none⟩
def calRunOf (s : State) (t : Nat) : CalRun := storeGet calRunIdle s.integ.runs t

/-- State of a calibration target's run: 0 OFF, 1 STARTING, 2 ON, 3 STOPPING. STARTING lasts one CORE cycle (R467): a run whose
start lies before this moment is ON. -/
def calUnit (s : State) (t : Nat) : Nat :=
  let v := s.rd (calUnitFld t)
  if v = 1 ∧ (calRunOf s t).start < s.now then 2 else v

/-- CAL_STAT as it reads. -/
def calWord (s : State) : Nat :=
  s.rd CAL_STAT_PENDING * 65536 + (List.range 7).foldl (fun n t => n + calUnit s t * 4 ^ t) 0

/-- The domain that CKU_MEAS names is none, or is stopped (R436): 6 is CMP, 8 is SMEM. -/
def measStopped (s : State) : Bool :=
  let d := s.rd CKU_MEAS_DOMAIN
  decide (d = 0) || (decide (d = 6) && cmpOff s) || (decide (d = 8) && smemOff s)

/-- A register as it reads (R5, R6). -/
def shown (s : State) (a : Nat) : Nat :=
  if a = DEV_GUARANTEE then guarantee s
  else if CMD_THIMBLEn 0 ≤ a ∧ a < CMD_THIMBLEn 8 then thimbleWord s ((a - CMD_THIMBLEn 0) / 4)
  else if CMD_KEY_STAGEn 0 ≤ a ∧ a < CMD_KEY_STAGEn 4 then 0
  else if a = CCX_HOST_A then hostWord s 0
  else if a = CCX_HOST_B then hostWord s 1
  else if a = CCX_CORE_HB then coreAge s s.ccx.beatB * 65536 + coreAge s s.ccx.beatA
  else if a = HLx_HB 0 then hbWord s 0
  else if a = HLx_HB 1 then hbWord s 1
  else if a = CCX_BASTE ∧ s.rd CCX_BASTE_RESULT = 1 then basteWord s
  else if CRC_Un_RESULT 0 ≤ a ∧ a ≤ CRC_Un_STAT 3 ∧ a % 0x20 = 0x0C then unitResult s ((a - CRC_Un_RESULT 0) / 0x20)
  else if CRC_Un_RESULT 0 ≤ a ∧ a ≤ CRC_Un_STAT 3 ∧ a % 0x20 = 0x10 then
    let n := (a - CRC_Un_STAT 0) / 0x20
    boolNat (unitBusy s n) * 2 ^ 31 + s.rd (CRC_Un_STAT_MISMATCH n)
  else if a = CKU_STAT then (s.reg CKU_STAT).toNat + boolNat (decide (s.rd SCN_STAT_STATE = 2)) * 32
  else if a = SCN_POS then s.rd SCN_POS_SLOT + stitchNow s * 65536
  else if a = CAL_STAT then calWord s
  else if a = CKU_MEAS ∧ measStopped s then s.rd CKU_MEAS_DOMAIN * 2 ^ 28
  else if a = LME_TEST_TIME ∧ s.bit LME_TEST_RUNNING then testElapsed s
  else (s.reg a).toNat

/-! ### The SRAM window -/

/-- The regions of R165: first address, end, and whether the host may read them. -/
def sramRegions : List (Nat × Nat × Bool) := [
  (0x1000000, 0x1280000, false), (0x1280000, 0x1500000, false), (0x1500000, 0x16E0000, true), (0x16E0000, 0x1780000, true),
  (0x1780000, 0x1880000, true), (0x1880000, 0x1900000, false), (0x1900000, 0x1980000, false), (0x1980000, 0x1A00000, false),
  (0x1A00000, 0x1A40000, false), (0x1A40000, 0x1A60000, true), (0x1A60000, 0x1A80000, true), (0x1A80000, 0x1A90000, false),
  (0x1A90000, 0x1B10000, false), (0x1B10000, 0x1B50000, true), (0x1B50000, 0x1BD0000, false), (0x1BD0000, 0x1C00000, false)]

/-- The region of an SRAM address. -/
def sramRegion (a : Nat) : Option (Nat × Nat × Bool) := sramRegions.find? (fun r => decide (r.1 ≤ a ∧ a < r.2.1))

/-- A byte of the trim map, of the health map and of the Pattern tables (R66, R70, R165). -/
def trimByte (s : State) (i : Nat) : Nat :=
  let p := i / 3 * 2
  if i % 3 = 0 then trimOf s p % 256
  else if i % 3 = 1 then trimOf s p / 256 + trimOf s (p + 1) % 16 * 16
  else trimOf s (p + 1) / 16
def healthByte (s : State) (i : Nat) : Nat := healthOf s (2 * i) + healthOf s (2 * i + 1) * 16
def patByte (s : State) (i : Nat) : Nat := patOf s (i / 131072) (i % 131072 / 2) / 256 ^ (i % 2) % 256

/-- The word at four bytes of a region. -/
def wordAt (f : Nat → Nat) (i : Nat) : Nat := f i + f (i + 1) * 0x100 + f (i + 2) * 0x10000 + f (i + 3) * 0x1000000

/-- A word of a host-readable region; memory that nothing lays out is a free value (log entry 43). -/
def sramWord (a : Nat) (s : State) : State × Nat :=
  if a < 0x16E0000 then (s, wordAt (trimByte s) (a - 0x1500000))
  else if a < 0x1780000 then (s, wordAt (healthByte s) (a - 0x16E0000))
  else if a < 0x1A40000 then (s, wordAt (patByte s) (a - 0x1780000))
  else if a < 0x1A60000 then
    (s, bufWord s ((a - 0x1A40000) / 0x8000) ((a - 0x1A40000) / 0x4000 % 2) ((a - 0x1A40000) % 0x4000 / 4))
  else if a < 0x1A80000 then
    let e := (a - 0x1A60000) / 0x10000
    if 0xC000 ≤ a % 0x10000 then (s, storeGet 0 (traceOf s e).buf ((a % 0x10000 - 0xC000) / 4))
    else
      let f := s.fresh
      (f.2, (Config.freeLoopMem f.1).toNat)
  else (s, wordAt (fbByte s) (a - 0x1B10000))

/-! ### Reading one word -/

/-- The block at a register address is off (R436, R442). -/
def blockOff (s : State) (a : Nat) : Bool :=
  (decide (a / 0x10000 = 6) && cmpOff s) || (decide (a / 0x10000 = 0x14) && smemOff s)

/-- Whether an address is that of a register, or of the Bobbin pool's alias (R10, R413). -/
def isReg (a : Nat) : Bool := (regInfo a).isSome || decide (0xE8000 ≤ a ∧ a < 0xF0000)

/-- Whether FCR has the source whose register this is: unassigned sources have none (R427). -/
def srcAssigned (a : Nat) : Bool :=
  if 0xF0400 ≤ a ∧ a < 0xF0800 then sourceAssigned ((a - 0xF0400) / 8)
  else if 0xF0800 ≤ a ∧ a < 0xF0C00 then sourceAssigned ((a - 0xF0800) / 4)
  else true

/-- The errors of a step that lie in the 64-bit word of an address. -/
def errsAt (errs : List EccErr) (a : Nat) : List EccErr := errs.filter (fun e => decide (e.addr / 8 = a / 8))

/-- A host reads the word at `a` (R10, R158 to R160, R165 to R167, R442). -/
def readWord (errs : List EccErr) (a : Nat) (s : State) : State × Except Status Nat :=
  if a % 4 ≠ 0 then (s, .error .badAddress)
  else if inSram a then
    (match sramRegion a with
     | some (_, _, true) =>
       let e := errsAt errs a ++ leftBad (fun w => decide (w = a / 8)) errs s
       let t := sramMeets e s
       if sramUe e then (t, .error .internalError)
       else
         let r := sramWord a t
         (r.1, .ok r.2)
     | _ => (s, .error .notPrivileged))
  else if inSurface a then
    (if !s.bit DEV_CONFIG_SMEM_TRAINED then (s, .error .blockOff)
     else if smemOff s then (raise 0x27 a s, .error .blockOff)
     else if !inUsable s a 4 then (s, .error .badAddress)
     else
       let t := noteErrs (readErrs errs a 4 s) s
       if readUe errs a 4 s then (t, .error .internalError) else (t, .ok (wordAt (smemByte s) a)))
  else if !isReg a || !srcAssigned a then (s, .error .badAddress)
  else if blockOff s a then (raise 0x27 a s, .error .blockOff)
  else if 0xE8000 ≤ a ∧ a < 0xF0000 then (s, .ok (poolWord s ((a - 0xE8000) / 4)))
  else (s, .ok (shown s a))

/-- READ_REG. -/
def readRegCmd (o : Outst) (s : State) : Res :=
  if o.cmd.p0 ≠ 0 then ans s .badParam
  else
    match readWord o.cmd.errs (o.cmd.w 1) s with
    | (t, .ok v) => okW t [v]
    | (t, .error e) => ans t e

/-- A READ_BLOCK range lies within one register block or one SRAM region (R282). -/
def oneRegion (a n : Nat) : Bool :=
  let z := a + 4 * n - 4
  if inSram a then
    match sramRegion a with
    | some (_, e, _) => decide (z < e)
    | none => false
  else decide (a / 0x10000 = z / 0x10000 ∧ a / 0x10000 ≤ 0x15)

/-- The words of a range, until one cannot be read. -/
def readWords (errs : List EccErr) : List Nat → State → State × Except Status (List Nat)
  | [], s => (s, .ok [])
  | a :: as, s =>
    match readWord errs a s with
    | (t, .error e) => (t, .error e)
    | (t, .ok v) =>
      match readWords errs as t with
      | (u, .ok vs) => (u, .ok (v :: vs))
      | (u, .error e) => (u, .error e)

/-- READ_BLOCK (R282). -/
def readBlock (o : Outst) (s : State) : Res :=
  let n := o.cmd.p0
  let a := o.cmd.w 1
  if n = 0 ∨ 511 < n then ans s .badParam
  else if a % 4 ≠ 0 then ans s .badAddress
  else if inSurface a ∧ !s.bit DEV_CONFIG_SMEM_TRAINED then ans s .blockOff
  else if !oneRegion a n then ans s .badAddress
  else
    match readWords o.cmd.errs ((List.range n).map (fun i => a + 4 * i)) s with
    | (t, .ok vs) => okW t vs
    | (t, .error e) => ans t e

end Sys2Proof.Machine
end

