-- ==== Sys2Proof/Machine/Channels.lean ====
section
/-!
DEFINITION. The command manager's own commands: NOP, PING, FENCE, Thimbles (R275 to R278), the channel table (R269, R270), keys
(R272, R273), DEVICE_INFO (R30, R31), data packets and their timeouts (R261 to R263, R300), and absent channels (R268).
-/
namespace Sys2Proof.Machine

/-! ### Commands without an action of their own -/

/-- NOP, FENCE and FENCE_GLOBAL are answered when they start (R274, R506). -/
def plainCmd (o : Outst) (s : State) : Res := if o.cmd.p0 ≠ 0 then ans s .badParam else ok s

/-- PING: the words come back. -/
def ping (o : Outst) (s : State) : Res := okW s (o.cmd.words.map BitVec.toNat)

/-- DEVICE_INFO (R30, R31). -/
def deviceInfo (o : Outst) (s : State) : Res :=
  if o.cmd.p0 ≠ 0 then ans s .badParam
  else okW s ([DEV_ID, DEV_STEPPING, DEV_UID_LO, DEV_UID_HI, DEV_CONFIG, DEV_FW, DEV_FN, DEV_LADDER, DEV_GUARANTEE].map (shown s))

/-! ### Thimbles -/

/-- A Thimble is granted to a port, or its lease restarts (R275). -/
def grantThimble (t port lease : Nat) (s : State) : State :=
  let u := (s.wr (CMD_THIMBLEn_HOLDER t) (port + 1)).setBit CMD_THIMBLE_STAT_HELD t
  { u with cmd := { u.cmd with thLease := storeSet 0 u.cmd.thLease t (u.now + lease * 1000000) } }

/-- The holder of a Thimble renews its lease (R275). -/
def renewThimble (t port lease : Nat) (s : State) : State :=
  let u := grantThimble t port lease s
  { u with cmd := { u.cmd with thRenew := storeSet 0 u.cmd.thRenew t (u.now + 1) } }

/-- The lease of an acquire, in ms: LEASE 0 takes LEASE_DEF as it stands when the lease starts (R275, R286). -/
def leaseOf (s : State) (lease : Nat) : Nat := if lease = 0 then s.rd CMD_THIMBLE_CFG_LEASE_DEF else lease

/-- The waiting acquire of a Thimble, if there is one, is removed. -/
def dropWaiter (t : Nat) (s : State) : State :=
  { s with cmd := { s.cmd with thWait := storeSet none s.cmd.thWait t none } }.wr (CMD_THIMBLEn_WAITER t) 0

/-- A Thimble that is free goes to the acquire that waits for it, if one does (R277). -/
def grantWaiter (t : Nat) (s : State) : State :=
  match storeGet none s.cmd.thWait t with
  | some w =>
    replyTo w.o ⟨.ok, [leaseOf s w.lease], none⟩ (grantThimble t w.o.cmd.port.num (leaseOf s w.lease) (dropWaiter t s))
  | none => s

/-- A Thimble is released; a waiting request is granted at once (R277). -/
def releaseThimble (t : Nat) (s : State) : State :=
  let u := (s.wr (CMD_THIMBLEn_HOLDER t) 0).clrBit CMD_THIMBLE_STAT_HELD t
  grantWaiter t { u with cmd := { u.cmd with thLease := storeSet 0 u.cmd.thLease t 0 } }

/-- An acquire that meets a Thimble it does not get (R275). -/
def waitThimble (o : Outst) (t lease : Nat) (s : State) : Res :=
  let wait := o.cmd.p0 / 256
  if wait = 0 then ans s .thimbleHeld
  else if (storeGet none s.cmd.thWait t).isSome then ans s .busy
  else
    let w : ThWait := ⟨o, lease, s.now + wait * 1000000⟩
    answerLater ({ s with cmd := { s.cmd with thWait := storeSet none s.cmd.thWait t (some w) } }.wr
      (CMD_THIMBLEn_WAITER t) (o.cmd.port.num + 1))

/-- THIMBLE_ACQUIRE (R275, R276). The observation 1 says that the other port requests the same Thimble in the same cycle: the
contest is decided here, and the other request is a command of its own. -/
def thimbleAcquire (o : Outst) (s : State) : Res :=
  let p0 := o.cmd.p0
  let t := p0 % 8
  let lease := leaseOf s (o.cmd.w 1)
  let port := o.cmd.port.num
  let h := s.rd (CMD_THIMBLEn_HOLDER t)
  if p0 / 8 % 32 ≠ 0 ∨ 10000 < o.cmd.w 1 then ans s .badParam
  else if h = 0 ∧ o.cmd.obs.getD 0 0 = 1 then
    let win := s.rd CMD_THIMBLE_STAT_PRIO
    let u := (s.bump CMD_COUNT2_CONTESTED).wr CMD_THIMBLE_STAT_PRIO (1 - win)
    if win = port then okW (grantThimble t port lease u) [lease] else waitThimble o t (o.cmd.w 1) u
  else if h = 0 then okW (grantThimble t port lease s) [lease]
  else if h = port + 1 then okW (renewThimble t port lease s) [lease]
  else waitThimble o t (o.cmd.w 1) s

/-- THIMBLE_RELEASE (R277). -/
def thimbleRelease (o : Outst) (s : State) : Res :=
  let t := o.cmd.p0
  if 8 ≤ t then ans s .badParam
  else
    let h := s.rd (CMD_THIMBLEn_HOLDER t)
    if h = 0 then ok s
    else if h = o.cmd.port.num + 1 then ok (releaseThimble t s)
    else ans s .thimbleHeld

/-- THIMBLE_QUERY (R278). -/
def thimbleQuery (o : Outst) (s : State) : Res :=
  if o.cmd.p0 ≠ 0 then ans s .badParam
  else okW s (shown s CMD_THIMBLE_STAT :: (List.range 8).map (thimbleWord s))

/-- THIMBLE_LEASE_EXPIRY (R277). A renewal in the cycle of the expiry keeps the Thimble with its holder. -/
def execThimbleLeaseExpiry (t : Fin 8) (s : State) : State :=
  let h := s.rd (CMD_THIMBLEn_HOLDER t.val)
  if h = 0 ∨ storeGet 0 s.cmd.thRenew t.val = s.now + 1 then s else releaseThimble t.val (raise 0x15 (t.val + (h - 1) * 256) s)

/-- The waiting acquire of a Thimble is answered THIMBLE_HELD (R275, R293). -/
def endWait (t : Nat) (s : State) : State :=
  match storeGet none s.cmd.thWait t with
  | some w => replyTo w.o ⟨.thimbleHeld, [], none⟩ (dropWaiter t s)
  | none => s

/-- THIMBLE_WAIT_EXPIRY (R275). -/
def execThimbleWaitExpiry (t : Fin 8) (s : State) : State := endWait t.val s

/-! ### The channel table -/

/-- Why a CHAN_CFG is refused (R269, R270). -/
def chanCfgBad (s : State) (ch w0 w1 : Nat) : Bool :=
  let ports := w1 / 2 ^ 29 % 4
  decide (256 ≤ ch ∨ ch = 0 ∨ ch = 255 ∨ 2 ^ 31 ≤ w0 ∨ w1 / 2 ^ 18 % 16 ≠ 0)
    || decide (2 ^ 31 ≤ w1 ∧ ports = 0) || decide (w1 / 2 ^ 28 % 2 = 1 ∧ ports ≠ 3) || decide (1000 < w1 / 256 % 1024)
    || (decide (w1 / 2 ^ 25 % 2 = 1) && !s.bitOf CMD_KEY_STAT_LOADED (w1 / 2 ^ 22 % 8))

/-- CHAN_CFG (R262, R270): closing a channel abandons its transfers. -/
def chanCfg (o : Outst) (s : State) : Res :=
  let ch := o.cmd.p0
  let w0 := o.cmd.w 1
  let w1 := o.cmd.w 2
  if chanCfgBad s ch w0 w1 then ans s .badParam
  else
    let t := (s.setReg (CMD_CHANn_W0 ch) (BitVec.ofNat 32 w0)).setReg (CMD_CHANn_W1 ch) (BitVec.ofNat 32 w1)
    ok (if w1 < 2 ^ 31 then abandonWhere (fun x => decide (x.o.cmd.ch = ch)) t else t)

/-- CHAN_QUERY (R270). -/
def chanQuery (o : Outst) (s : State) : Res :=
  let ch := o.cmd.p0
  if 256 ≤ ch then ans s .badParam else okW s [(s.reg (CMD_CHANn_W0 ch)).toNat, (s.reg (CMD_CHANn_W1 ch)).toNat]

/-! ### Keys -/

/-- Once the SPB is sealed, keys are closed (R273). -/
def keysClosed (s : State) : Bool := s.bit DEV_CONFIG_SPB_SEALED

/-- A slot is named by an open channel's KEY (R272), whether or not its KEY_EN is 1. -/
def keyNamed (s : State) (k : Nat) : Bool :=
  (List.range 255).any (fun ch => s.bit (CMD_CHANn_W1_OPEN ch) && decide (s.rd (CMD_CHANn_W1_KEY ch) = k))

/-- KEY_EN of channel 0 follows LOADED[0] (R269). -/
def syncKeyEn (s : State) : State := s.wr (CMD_CHANn_W1_KEY_EN 0) (s.rd CMD_KEY_STAT_LOADED % 2)

/-- The staged key. -/
def stagedKey (s : State) : BitVec 128 :=
  BitVec.ofNat 128 ((List.range 4).foldl (fun n i => n + (s.reg (CMD_KEY_STAGEn i)).toNat * 2 ^ (32 * i)) 0)

/-- CMD_KEY_CTRL: LOAD and CLR bits (R272, R273). -/
def keyCtrl (load clr : Nat) (s : State) : State × Status :=
  if keysClosed s then (s, .notPrivileged)
  else if load &&& clr ≠ 0 ∨ (List.range 8).any (fun k => decide (clr / 2 ^ k % 2 = 1) && keyNamed s k) then (s, .badParam)
  else
    let key := stagedKey s
    let t := s.forN 8 (fun k u =>
      if load / 2 ^ k % 2 = 1 then
        { u with cmd := { u.cmd with keys := storeSet 0 u.cmd.keys k key } }.setBit CMD_KEY_STAT_LOADED k
      else if clr / 2 ^ k % 2 = 1 then
        { u with cmd := { u.cmd with keys := storeSet 0 u.cmd.keys k 0 } }.clrBit CMD_KEY_STAT_LOADED k
      else u)
    let t := if load = 0 then t else t.forN 4 (fun i u => u.setReg (CMD_KEY_STAGEn i) 0#32)
    (syncKeyEn t, .ok)

/-- A staging word is written (R272, R273). -/
def keyStage (i v : Nat) (s : State) : State × Status :=
  if keysClosed s then (s, .notPrivileged) else (s.setReg (CMD_KEY_STAGEn i) (BitVec.ofNat 32 v), .ok)

/-- CMD_CTRL.CNT_CLR (R286). -/
def cmdCntClr (s : State) : State := ((s.setReg CMD_COUNT0 0#32).setReg CMD_COUNT1 0#32).setReg CMD_COUNT2 0#32

/-! ### Data packets -/

/-- A data packet's stray discard (R262). DESIGN CHOICE (log entry 44): a packet whose flags, claim or SEQ R261 does not allow
is stray too. -/
def strayData (s : State) : State := s.bump CMD_COUNT1_ERR_DROPPED

/-- The open transfer of a channel and port. -/
def xferFor (s : State) (ch p : Nat) : Option Xfer := s.cmd.xfers.find? (fun x => xferOn x ch p)

/-- INDEX of a data packet (R261). -/
def dataIndex (d : DataPkt) : Nat := (d.words.getD 0 0#32).toNat % 65536

/-- Header words 0 and 1 and the payload of a data packet (R257). -/
def dataWords (d : DataPkt) : List Nat :=
  [3 * 2 ^ 28 + d.chan.toNat * 2 ^ 20 + boolNat d.f * 2 ^ 19 + boolNat d.a * 2 ^ 18 + boolNat d.dup * 2 ^ 17 + d.seq.toNat,
   d.claim.toNat * 65536 + d.words.length % 4096] ++ d.words.map BitVec.toNat

/-- The flags, the trailer and the claim of a data packet are what R261 requires of a transfer's packets. -/
def dataHeaderOk (d : DataPkt) (x : Xfer) : Bool :=
  let key := match keyOf x.o.w1 with
    | some _ => d.a && d.tagOk
    | none => !d.a
  !d.f && decide (d.dup = dupOf x.o.w1 ∧ d.claim = x.o.cmd.claim) && key

/-- The packet is the transfer's next one: its TAG and INDEX (R262). -/
def dataInTurn (d : DataPkt) (x : Xfer) : Bool :=
  decide ((d.words.getD 0 0#32).toNat / 65536 % 256 = x.o.cmd.tag.toNat ∧ dataIndex d = x.nextIdx % 65536)

/-- SEQ counts on with the command's (R261). -/
def dataSeqOk (d : DataPkt) (x : Xfer) : Bool := decide (d.seq.toNat = (x.o.cmd.seq.toNat + dataIndex d) % 65536)

/-- The twin of a packet that has been taken on a DUP channel, whose words were `ws`: it is compared, and changes nothing else
(R296, R300). -/
def twinData (d : DataPkt) (ws : List Nat) (s : State) : State :=
  if ws = dataWords d then s
  else raise 0x71 (d.port.num + d.chan.toNat * 256) (s.bump CCX_COUNT2_DUP_DIVERGE)

/-- The words of the packet of this INDEX and SEQ in the last transfer that ended on the channel (R300). -/
def lateData (d : DataPkt) (s : State) : Option (List Nat) :=
  match storeGet none s.cmd.dupXfer d.chan.toNat with
  | some x =>
    if d.seq.toNat = (x.seq + dataIndex d) % 65536 then
      (x.taken.find? (fun q => decide (q.1 = dataIndex d))).map (fun q => q.2)
    else none
  | none => none

/-- Replace an open transfer. -/
def putXfer (x y : Xfer) (s : State) : State :=
  { s with cmd := { s.cmd with xfers := s.cmd.xfers.map (fun z => if z.o = x.o then y else z) } }

/-- The image of a TABLE_LOAD, or the last byte of a SURF_WRITE, has arrived (R263, R284). -/
def endXfer (x : Xfer) (s : State) : State :=
  let t := dropXfer x s
  let t := if dupOf x.o.w1 then
      { t with cmd := { t.cmd with dupXfer := storeSet none t.cmd.dupXfer x.o.cmd.ch (some ⟨x.o.cmd.seq.toNat, x.taken⟩) } }
    else t
  if x.absorb then t
  else if x.o.op = .surfWrite then
    let r := endSurf x.unit x.need x.field t
    replyTo x.o r.2 r.1
  else
    let r := endTable x.unit x.o.cmd.p0 (x.o.cmd.w 1) (dataLen x.unit x.need) x.data x.field t
    replyTo x.o r.2 r.1

/-- A packet in turn: its data go on where the last ones ended; data beyond the byte count are ignored (R261, R263). -/
def takeData (d : DataPkt) (x : Xfer) (s : State) : State :=
  let bs := (bytesOfWords ((d.words.drop 1).map BitVec.toNat)).take (x.need - x.got)
  let n := dataLen x.unit x.need - x.got
  let surf := decide (x.o.op = .surfWrite) && !x.absorb
  let t := if surf then smemWrite d.errs (x.o.cmd.w 1 + x.got) (bs.take n) s else s
  let t := if x.absorb then t else feedUnit x.unit (bs.take n) t
  let keep := !surf && !x.absorb
  let taken := if dupOf x.o.w1 then x.taken ++ [(x.nextIdx, dataWords d)] else []
  let y : Xfer := { x with got := x.got + bs.length, data := if keep then x.data ++ bs.take n else x.data, nextIdx := x.nextIdx + 1
                           field := x.field ++ bs.drop n
                           taken := taken, lastAt := s.now }
  let t := putXfer x y t
  if y.need ≤ y.got then endXfer y t else t

/-- Whether a buffered packet is this data packet. -/
def carriesData (d : DataPkt) (r : RxPkt) : Bool :=
  decide (r.ptype = 3 ∧ r.chan = d.chan.toNat ∧ r.seq = d.seq.toNat ∧ r.words = d.words.map BitVec.toNat)

/-- A data packet that CMD has taken, of an open transfer (R261 to R263, R300). -/
def dataOf (d : DataPkt) (x : Xfer) (s : State) : State :=
  match x.taken.find? (fun q => decide (q.1 = dataIndex d)) with
  | some q => twinData d q.2 s
  | none =>
    if !dataHeaderOk d x then strayData s
    else if !dataInTurn d x then abandonXfer x s
    else if !dataSeqOk d x then strayData s
    else takeData d x s

/-- DATA_PACKET (R261 to R263, R267, R295, R300). -/
def execDataPacket (d : DataPkt) (s : State) : State :=
  let p := d.port.num
  let ch := d.chan.toNat
  if waitsTurn d.port ch d.seq.toNat (carriesData d) s then s
  else
    let s := heard ch p 3 (takePacket p ch (carriesData d) s)
    match lateData d s, xferFor s ch p with
    | some ws, _ => twinData d ws s
    | none, some x => dataOf d x s
    | none, none => strayData s

/-- XFER_TIMEOUT: no data packet of the transfer on this channel and port has come within XFER_TO (R262). -/
def execXferTimeout (p : Port) (ch : BitVec 8) (s : State) : State :=
  abandonWhere (fun x => xferOn x ch.toNat p.num) s

/-- CHAN_TIMEOUT (R268): raised once until the channel's next packet, when none has come for TIMEOUT ticks. -/
def execChanTimeout (ch : BitVec 8) (s : State) : State :=
  let ch := ch.toNat
  let n := s.rd (CMD_CHANn_W1_TIMEOUT ch)
  if n ≠ 0 ∧ n ≤ storeGet 0 s.cmd.quiet ch ∧ storeGet false s.cmd.absent ch = false then
    let t := { s with cmd := { s.cmd with absent := storeSet false s.cmd.absent ch true } }
    abandonWhere (fun x => decide (x.o.cmd.ch = ch)) (raise 0x14 ch t)
  else s

/-- A tick for the absence counts of the open channels (R268); 255 is the largest TIMEOUT. -/
def quietTick (s : State) : State :=
  s.forN 255 (fun ch t =>
    let q := storeGet 0 t.cmd.quiet ch
    if t.bit (CMD_CHANn_W1_OPEN ch) ∧ q < 255 then
      { t with cmd := { t.cmd with quiet := storeSet 0 t.cmd.quiet ch (q + 1) } }
    else t)

end Sys2Proof.Machine
end

