-- ==== Sys2Proof/Machine/Integrity.lean ====
section
/-!
DEFINITION. CRC_RUN and the registers of the check-value units (R455 to R458), and the memory scan engine (R461 to R464).
-/
namespace Sys2Proof.Machine

/-! ### CRC_RUN -/

/-- A MEM range lies within one host-readable region of on-chip SRAM, or within the usable surface memory (R457). -/
def memRangeOk (a n : Nat) (s : State) : Bool :=
  match sramRegion a with
  | some (_, e, true) => decide (a + n ≤ e)
  | _ => inSurface a && inUsable s a n

/-- Word `i` of a MEM run from the aligned address `a` on: memory that nothing lays out is a free value (log entry 43). -/
def memWord (s : State) (a i : Nat) : Nat :=
  let x := a + 4 * i
  if inSurface x then wordAt (smemByte s) x
  else if 0x1A60000 ≤ x ∧ x < 0x1A80000 ∧ x % 0x10000 < 0xC000 then (Config.freeLoopMem (s.freeCtr + i)).toNat
  else (sramWord x s).2

/-- The bytes of a MEM range. -/
def memBytes (s : State) (a n : Nat) : List Nat :=
  let b := a / 4 * 4
  ((bytesOfWords ((List.range ((a + n + 3) / 4 - a / 4)).map (memWord s b))).drop (a - b)).take n

/-- Set or clear a unit's MEM run. -/
def setMemRun (n : Nat) (o : Option Outst) (s : State) : State :=
  { s with integ := { s.integ with memRuns := storeSet none s.integ.memRuns n o } }

/-- CRC_RUN (R457). -/
def crcRun (o : Outst) (s : State) : Res :=
  let p0 := o.cmd.p0
  let op := p0 / 4096
  let n := p0 % 4
  if p0 / 4 % 1024 ≠ 0 ∨ 4 ≤ op ∨ (n = 3 ∧ op ≠ 3) then ans s .badParam
  else if op ≠ 3 ∧ (s.bit (CRC_Un_BIND_EN n) || memRunning s n) then ans s .busy
  else match op with
    | 0 => ok (unitInit n s)
    | 1 =>
      let k := o.cmd.w 1
      if k = 0 ∨ 2040 < k then ans s .badParam
      else
        let t := unitFeed n ((bytesOfWords ((o.cmd.words.drop 1).map BitVec.toNat)).take k) s
        okW t [unitResult t n]
    | 2 =>
      let a := o.cmd.w 1
      let k := o.cmd.w 2
      if k = 0 ∨ 16777216 < k then ans s .badParam
      else if !memRangeOk a k s then ans s .badAddress
      else if inSurface a ∧ smemOff s then answerOff a s
      else answerLater (holdCmd o (setMemRun n (some o) s))
    | _ => okW s [unitValue s n, unitResult s n]

/-- CRC_MEM_RUN_END (R457): `errs` are the errors that the run's reads have met. -/
def execCrcMemRunEnd (n : Fin 3) (errs : List EccErr) (s : State) : State :=
  let n := n.val
  match storeGet none s.integ.memRuns n with
  | none => s
  | some o =>
    let a := o.cmd.w 1
    let k := o.cmd.w 2
    let mine := if inSurface a then readErrs errs a k s
      else errs.filter (fun e => inSram e.addr && decide (a / 8 ≤ e.addr / 8 ∧ e.addr < a + k))
        ++ leftBad (fun w => decide (a / 8 ≤ w ∧ w * 8 < a + k)) errs s
    let t := setMemRun n none (fbRegionUe mine (noteErrs mine s))
    if mine.any (fun e => e.ue) then finishSt o .internalError t
    else
      let t := unitFeed n (memBytes s a k) t
      let t := { t with freeCtr := t.freeCtr + (k + 7) / 4 }
      finish o ⟨.ok, [unitResult t n], none⟩ t

/-! ### Registers of the units -/

/-- A write of CRC_Un_CFG (R455, R456). -/
def crcCfgWrite (n v : Nat) (s : State) : State × Status :=
  if n = 3 then (s, .ok)
  else if unitBusy s n then (s, .busy)
  else (unitInit n (s.wr (CRC_Un_CFG_ALG n) v), .ok)

/-- A write of CRC_Un_VALUE (R455, R456). -/
def crcValueWrite (n v : Nat) (s : State) : State × Status :=
  if n = 3 then (s, .ok)
  else if unitBusy s n then (s, .busy)
  else if 2 ^ algWidth (unitAlg s n) ≤ v then (s, .badParam)
  else (setUnitValue n v s, .ok)

/-- A channel has an open transfer, or a data reply that is still to come (R458). -/
def chanBusy (s : State) (ch : Nat) : Bool :=
  s.cmd.xfers.any (fun x => !x.absorb && decide (x.o.cmd.ch = ch))
    || s.cmd.waiting.any (fun o => dataReply o.op && decide (o.cmd.ch = ch))

/-- A write of CRC_Un_BIND (R456, R458). -/
def crcBindWrite (n v : Nat) (s : State) : State × Status :=
  let ch := v % 256
  let dir := v / 2 ^ 30 % 2
  let en := decide (v / 2 ^ 31 % 2 = 1)
  let taken := (List.range 3).any (fun m => decide (m ≠ n) && s.bit (CRC_Un_BIND_EN m)
    && decide (s.rd (CRC_Un_BIND_DIR m) = dir ∧ s.rd (CRC_Un_BIND_CHAN m) = ch))
  if n = 3 then (s, .ok)
  else if ch = 255 ∨ (en && taken) then (s, .badParam)
  else if unitBusy s n || chanBusy s ch || (s.bit (CRC_Un_BIND_EN n) && chanBusy s (s.rd (CRC_Un_BIND_CHAN n))) then (s, .busy)
  else
    let t := s.wrWord (CRC_Un_BIND n) (BitVec.ofNat 32 v)
    (if en && !t.bit (CRC_Un_BIND_CHAIN n) then unitInit n t else t, .ok)

/-- A write of CRC_SCAN_CTRL (R464). -/
def crcScanCtrlWrite (v : Nat) (s : State) : State × Status :=
  let surf := decide (v / 2 % 2 = 1)
  if surf && !s.bit DEV_CONFIG_SMEM_TRAINED then (s, .busy)
  else if surf && !inUsable s (s.rd CRC_SCAN_START_VALUE * 64) (s.rd CRC_SCAN_LEN_VALUE * 64) then (s, .badAddress)
  else
    let t := if surf && !s.bit CRC_SCAN_CTRL_SURF_EN then { s with integ := { s.integ with surfPos := 0 } } else s
    ((t.wr CRC_SCAN_CTRL_SURF_EN (boolNat surf)).wr CRC_SCAN_CTRL_SRAM_EN (v % 2), .ok)

/-- CRC_CTRL.CNT_CLR (R476). -/
def crcCntClr (s : State) : State := (s.setReg CRC_SCAN_COUNT 0#32).forN 4 (fun n t => t.wr (CRC_Un_STAT_MISMATCH n) 0)

/-! ### The memory scan engine -/

/-- SRAM_SCAN_READ (R461, R462): the scan reads its next 64-bit word, which reads clean, with a correctable or with an
uncorrectable error; a word that a partial write left uncorrectable reads so (R161, R167). `raced` says that another writer has written the word since: the scrub write is dropped. -/
def execSramScanRead (err : Option Bool) (raced : Bool) (s : State) : State :=
  if !s.bit CRC_SCAN_CTRL_SRAM_EN then s
  else
    let i := s.integ.sramPos
    let last := decide (1572864 ≤ i + 1)
    let t := { s with integ := { s.integ with sramPos := if last then 0 else i + 1 } }
    let t := t.when last (fun u => u.bump CRC_SCAN_STAT_SRAM_PASSES)
    let err := if storeGet false s.smem.sramBad (0x200000 + i) then some true else err
    match err with
    | none => t
    | some ue => (sramErr ⟨0x1000000 + 8 * i, ue⟩ t).when (!ue && !raced) (fun u => u.bump CRC_SCAN_COUNT_SCRUBBED)

/-- SURF_SCAN_READ (R461, R464): as SRAM_SCAN_READ, over the surface range; a word that every read reports as uncorrectable
reads so here. The scan pauses while the memory's clock is stopped. -/
def execSurfScanRead (err : Option Bool) (raced : Bool) (s : State) : State :=
  let n := s.rd CRC_SCAN_LEN_VALUE * 8
  if !s.bit CRC_SCAN_CTRL_SURF_EN ∨ smemOff s ∨ n = 0 then s
  else
    let i := s.integ.surfPos % n
    let a := s.rd CRC_SCAN_START_VALUE * 64 + 8 * i
    let last := decide (n ≤ i + 1)
    let t := { s with integ := { s.integ with surfPos := if last then 0 else i + 1 } }
    let t := t.when last (fun u => u.bump CRC_SCAN_STAT_SURF_PASSES)
    let err := if storeGet false s.smem.bad (a / 8) then some true else err
    match err with
    | none => t
    | some ue => (smemErr ⟨a, ue⟩ t).when (!ue && !raced) (fun u => u.bump CRC_SCAN_COUNT_SCRUBBED)

/-- Base address of a checked region: 0 to 7 Pattern n, 8 + 2 × q + b SEQq BUFb, 16 the fallback image (R463). -/
def regionBase (r : Nat) : Nat :=
  if r < 8 then 0x1780000 + r * 0x20000 else if r < 16 then 0x1A40000 + (r - 8) * 0x4000 else 0x1B10000

/-- The region is checked now (R463). -/
def regionChecked (s : State) (r : Nat) : Bool :=
  if r < 8 then s.bitOf PXA_STAT_PAT_VALID r
  else if r < 16 then s.bitOf (SEQ_STAT_BUF_VALID ((r - 8) / 2)) (r % 2)
  else s.bit SMC_STAT_FB_VALID

/-- The region's reference (R463). -/
def regionRef (s : State) (r : Nat) : Nat :=
  (s.reg (if r < 8 then PXA_PATn_CRC r else if r < 16 then CRC_REF_SEQq_BUFb ((r - 8) / 2) (r % 2) else CRC_REF_FB)).toNat

/-- A buffer in use fails its check: as an uncorrectable event word (R110, R463). -/
def bufferFails (q b : Nat) (s : State) : State :=
  let act := (seqOne s q).active && decide (s.rd (SEQ_STAT_ACT_BUF q) = b)
  if act then seqWordUe q s
  else if bufInUse s q b then
    let t := setSeqOne q { seqOne s q with dark := true } s
    { t.clrBit (SEQ_STAT_BUF_VALID q) b with seq := { t.seq with goPlain := true } }
  else s.clrBit (SEQ_STAT_BUF_VALID q) b

/-- A region is found different from its reference (R463). -/
def regionMismatch (r : Nat) (s : State) : State :=
  let t := ((s.bump CRC_SCAN_COUNT_MISMATCH).wr CRC_SCAN_LAST_REGION r).wr CRC_SCAN_LAST_VALID 1
  let t := raise 0x26 (regionBase r) t
  if r < 8 then needGone 0x26 ((t.clrBit PXA_STAT_PAT_VALID r).setReg (PXA_PATn_CRC r) 0#32)
  else if r < 16 then bufferFails ((r - 8) / 2) (r % 2) t
  else fbClear 0x26 t

/-- REGION_CHECK_END (R463): U3 has read region `r` and computed `crc`. -/
def execRegionCheckEnd (r : Fin 17) (crc : Word) (s : State) : State :=
  if !s.bit CRC_SCAN_CTRL_SRAM_EN || !regionChecked s r.val then s
  else
    let t := setUnitValue 3 (crc.toNat ^^^ 0xFFFFFFFF) s
    if crc.toNat = regionRef s r.val then t else regionMismatch r.val t

end Sys2Proof.Machine
end

