-- ==== Sys2Proof/Machine/Cal.lean ====
section
/-!
DEFINITION. Calibration (R465 to R477): runs and their states, the procedures of the column references, the lanes and the
converters, drift, and the calibration records. The measurements are observations that the commands carry.
-/
namespace Sys2Proof.Machine

/-! ### Units and targets -/

def calPendFld (t : Nat) : Fld := ⟨CAL_STAT, 16 + t, 16 + t⟩
def setCalRun (t : Nat) (r : CalRun) (s : State) : State :=
  { s with integ := { s.integ with runs := storeSet calRunIdle s.integ.runs t r } }

/-- The sensors of a target (R465). -/
def calSensors (t : Nat) : List Nat :=
  if t < 4 then (List.range 64).filter (fun k => decide (k % 16 / 4 = t))
  else if t = 4 then [68] else if t = 5 then [69] else [71]

/-- T_max: the highest temperature in use of a target's sensors (R466). -/
def calTemp (s : State) (t : Nat) : Int := (highest ((calSensors t).map (tempIn s))).getD 0

/-- A column, lane and converter entry in effect (R474). The fused production trims of the columns are not in the spec (DESIGN
CHOICE, log entry 45): SEL 0, TRIM 32, QUAL 0. -/
def colEntry (s : State) (c : Nat) : Nat := (storeGet 0x2000#16 s.integ.cols c).toNat
def laneEntry (s : State) (i : Nat) : Nat := (storeGet 0#16 s.integ.lanes i).toNat

/-- An entry waits to be applied; a later one of the same element replaces it. -/
def putWait (k v : Nat) (l : List (Nat × BitVec 16)) : List (Nat × BitVec 16) := storeIns k (BitVec.ofNat 16 v) (storeDel k l)

/-! ### The run as a unit -/

/-- A run starts: STARTING for this moment, then ON (R467). -/
def calStart (t : Nat) (wait : Option Outst) (s : State) : State :=
  let u := setCalRun t { calRunIdle with temp := calTemp s t, start := s.now, wait := wait } s
  ((u.wr (CAL_Tt_STAT_RESULT t) 1).setReg (CAL_Tt_QUAL t) 0#32).wr (calUnitFld t) 1

/-- A run is STARTING or ON. What a run measures, and its timeout, lie after its STARTING cycle (R467). -/
def calRuns (s : State) (t : Nat) : Bool := decide (calUnit s t = 1 ∨ calUnit s t = 2)

/-- ENABLE of a target's run (R279, R468). -/
def calEnable (t : Nat) (wait : Option Outst) (s : State) : State × Option Status :=
  match calUnit s t with
  | 0 =>
    (match wait with
     | some o => (holdCmd o (calStart t wait s), none)
     | none => (calStart t none s, some .ok))
  | 3 => (s.wr (calPendFld t) 1, some .acceptedPending)
  | _ => (s, some .ok)

/-- A run goes to STOPPING with a RESULT (R467). -/
def calStop (t result : Nat) (s : State) : State := (s.wr (CAL_Tt_STAT_RESULT t) result).wr (calUnitFld t) 3

/-- DISABLE of a target's run (R279, R467). -/
def calDisable (t : Nat) (s : State) : State :=
  match calUnit s t with
  | 0 => s
  | 3 => s.wr (calPendFld t) 0
  | _ => calStop t 6 s

/-- The last step of a run has ended. DEDUCED: a run with both kinds of failing steps shows disagree (R467, log entry 47). -/
def calDone (t : Nat) (s : State) : State :=
  let r := calRunOf s t
  calStop t (if r.disag ≠ 0 then 3 else if r.range ≠ 0 then 4 else 2) s

/-- A stopping run reaches OFF (R466 to R469), and a pending enable starts it again (R280). -/
def calOff (t : Nat) (s : State) : State :=
  let r := calRunOf s t
  let bad := decide (r.disag + r.range ≠ 0)
  let u := (s.bump CAL_COUNT_RUNS).when bad (fun v => raise 0x66 t (v.bump CAL_COUNT_DISAGREE))
  let u := u.when (decide (r.applied ≠ 0)) (fun v => (v.wr (CAL_Tt_STAT_T_REF t) (ofSigned 16 r.temp)).wr (CAL_Tt_STAT_VALID t) 1)
  let u := setCalRun t calRunIdle (u.wr (calUnitFld t) 0)
  let u := match r.wait with
    | some o => finish o (if bad then ⟨.calDisagree, [(u.reg (CAL_Tt_STAT t)).toNat], none⟩ else ⟨.ok, [], none⟩) u
    | none => u
  if u.bit (calPendFld t) then calStart t none (u.wr (calPendFld t) 0) else u

/-- A step is recorded: 0 applied, 1 disagrees, 2 out of range (R469). -/
def calStep (t kind : Nat) (s : State) : State :=
  let r := calRunOf s t
  let r := { r with pos := r.pos + 1, first := [], applied := r.applied + boolNat (decide (kind = 0)),
                    disag := r.disag + boolNat (decide (kind = 1)), range := r.range + boolNat (decide (kind = 2)) }
  (setCalRun t r s).when (decide (kind ≠ 0)) (fun u => u.bump (CAL_Tt_QUAL_DISAGREE t))

/-! ### Column references -/

/-- One element's result (R470): its trim, its residual and whether it is usable. -/
def colElem (d1 d2 : Int) : Int × Int × Bool :=
  let d := (d1 + d2 + 1) / 2
  let trim := 32 - (d + 2) / 4
  (trim, d - 4 * (32 - trim), decide (-10 ≤ d1 - d2 ∧ d1 - d2 ≤ 10 ∧ 0 ≤ trim ∧ trim ≤ 63))

/-- The new SEL (R471). -/
def colChoose (sel : Nat) (es : List (Int × Int × Bool)) : Option Nat :=
  let q (i : Nat) : Nat := (es.getD i (0, 0, false)).2.1.natAbs
  let us := (List.range 4).filter (fun i => (es.getD i (0, 0, false)).2.2)
  let best := us.foldl (fun b i => match b with
    | none => some i
    | some j => if q i < q j then some i else some j) (none : Option Nat)
  if sel ∈ us ∧ us.all (fun i => decide (q sel ≤ q i + 2)) then some sel else best

/-- A column's step, from its two measurements (R470, R471). -/
def colStep (t : Nat) (a b : List Int) (s : State) : State :=
  let es := (a.zip b).map (fun x => colElem x.1 x.2)
  let c := 512 * t + (calRunOf s t).pos
  let sel := colEntry s c / 0x4000
  match colChoose sel es with
  | none =>
    let disagree := (a.zip b).any (fun x : Int × Int => decide (10 < (x.1 - x.2).natAbs))
    calStep t (if disagree then 1 else 2) s
  | some i =>
    let e := es.getD i (0, 0, false)
    let v := i * 0x4000 + e.1.toNat * 0x100 + ofSigned 8 e.2.1
    let u := { s with integ := { s.integ with colNext := putWait c v s.integ.colNext } }
    let u := u.when (decide (i ≠ sel)) (fun w => w.bump (CAL_Tt_QUAL_SWITCHES t))
    calStep t 0 (u.wr (CAL_Tt_QUAL_WORST t) (max (u.rd (CAL_Tt_QUAL_WORST t)) e.2.1.natAbs))

/-- One measurement in one stitch of a CAL_WIN of sequencer `t` (R470). -/
def colMeasure (t : Nat) (e : ColErr) (s : State) : State :=
  let r := calRunOf s t
  let d := [e.e0, e.e1, e.e2, e.e3]
  if !calRuns s t then s
  else if r.first.isEmpty then setCalRun t { r with first := d } s
  else
    let u := colStep t r.first d s
    if 512 ≤ (calRunOf u t).pos then calDone t u else u

/-- A CAL_WIN of sequencer `q`, of LEN stitches (R99, R470). -/
def calWin (q len : Nat) (es : List ColErr) (s : State) : State := s.forL (es.take len) (colMeasure q)

/-- A TRANSFER applies the column steps that wait, and a stopping column run reaches OFF with it (R467, R471). -/
def colTransfer (s : State) : State :=
  let n := s.integ.colNext
  if n.isEmpty then s
  else
    let u := { s with integ := { s.integ with cols := n.foldl (fun (m : List (Nat × BitVec 16)) (x : Nat × BitVec 16) => storeSet 0x2000#16 m x.1 x.2) s.integ.cols, colNext := [] } }
    u.forN 4 (fun t v => if calUnit v t = 3 ∧ n.any (fun x => decide (x.1 / 512 = t)) then calOff t v else v)

/-! ### Lanes -/

/-- One slice's result (R472): whether its repeats agree, its new phase, and the sum of its widths. -/
def sliceRes (phase : Int) (m : SliceMeas) : Bool × Int × Nat :=
  (decide ((m.c1 - m.c2).natAbs ≤ 3), phase + (m.c1 + m.c2 + 1) / 2, m.w1 + m.w2)

/-- A lane's step (R472). DEDUCED: the mean width is rounded half up (log entry 48). -/
def laneStep (p i : Nat) (m0 m1 : SliceMeas) (s : State) : State :=
  let t := 4 + p
  let old := laneEntry s i
  let sl := old / 0x8000
  let phase := toSigned 6 (old / 0x100 % 64)
  let own := sliceRes phase (if sl = 0 then m0 else m1)
  let oth := sliceRes phase (if sl = 0 then m1 else m0)
  let swap := oth.1 && decide (own.2.2 + 8 ≤ oth.2.2)
  let r := if swap then oth else own
  if !r.1 then calStep t 1 s
  else if r.2.1 < -32 ∨ 31 < r.2.1 then calStep t 2 s
  else
    let eye := min 255 ((r.2.2 + 1) / 2)
    let sl' := if swap then 1 - sl else sl
    let v := sl' * 0x8000 + ofSigned 6 r.2.1 * 0x100 + eye
    let w := if (calRunOf s t).applied = 0 then eye else min (s.rd (CAL_Tt_QUAL_WORST t)) eye
    let u := { s with integ := { s.integ with laneNext := putWait i v s.integ.laneNext } }
    calStep t 0 ((u.when swap (fun x => x.bump (CAL_Tt_QUAL_SWITCHES t))).wr (CAL_Tt_QUAL_WORST t) w)

/-- CAL_LANE_MEASURE (R472): the slices of the lane that is next on port `p`. A lane whose port is not in L0 is skipped. -/
def execCalLaneMeasure (p : Port) (m0 m1 : SliceMeas) (s : State) : State :=
  let t := 4 + p.num
  let r := calRunOf s t
  if !calRuns s t then s
  else
    let u := if s.rd (HLx_STAT_LINK p.num) = 5 then laneStep p.num (2 * p.num + r.pos) m0 m1 s
      else setCalRun t { r with pos := r.pos + 1 } s
    if 2 ≤ r.pos + 1 then calDone t u else u

/-- A SKIP ordered set of port `p` in L0 applies its lanes' steps that wait (R472, R475), and a stopping run reaches OFF with
it. -/
def laneApply (p : Nat) (s : State) : State :=
  let n := s.integ.laneNext.filter (fun x => decide (x.1 / 2 = p % 2))
  if n.isEmpty ∨ s.rd (HLx_STAT_LINK p) ≠ 5 then s
  else
    let u := { s with integ := { s.integ with
      lanes := n.foldl (fun m x => storeSet 0#16 m x.1 x.2) s.integ.lanes
      laneNext := s.integ.laneNext.filter (fun x => decide (x.1 / 2 ≠ p % 2)) } }
    if calUnit u (4 + p % 2) = 3 then calOff (4 + p % 2) u else u

/-! ### Converters -/

/-- Round half up of a quotient with a divisor of either sign. -/
def roundDiv (n d : Int) : Int := if d < 0 then roundHalfUpI (-n) (-d).toNat else roundHalfUpI n d.toNat

/-- GAIN of a set (R473); a set whose sums are equal has no quotient: a free value. -/
def convGain (s : State) (s0 s1 : Nat) : Int :=
  let d : Int := (s1 : Int) - s0
  if d = 0 then toSigned 16 (Config.freeGain s.freeCtr).toNat else roundDiv (4096 * 1920 * 64 - 4096 * d) d

/-- OFS of a set with its GAIN (R473). -/
def convOfs (s0 : Nat) (g : Int) : Int := roundHalfUpI (8 * 128 * 4096 * 64 - 8 * (s0 : Int) * (4096 + g)) (4096 * 64)

/-- A value of eight signed bits that may be applied. -/
def trimOk (x : Int) : Bool := decide (-127 ≤ x ∧ x ≤ 127)

/-- The step of converter `m` (R473). -/
def convStep (m s0 s1 r0 r1 : Nat) (s : State) : State :=
  let g1 := convGain s s0 s1
  let g2 := convGain s r0 r1
  let o1 := convOfs s0 g1
  let o2 := convOfs r0 g2
  let g := (g1 + g2 + 1) / 2
  let o := (o1 + o2 + 1) / 2
  let s := { s with freeCtr := s.freeCtr + 1 }
  if 2 < (g1 - g2).natAbs ∨ 4 < (o1 - o2).natAbs then calStep 6 1 s
  else if !trimOk g || !trimOk o then calStep 6 2 s
  else
    let u := (s.wr (ADC_TRIMn_GAIN m) (ofSigned 8 g)).wr (ADC_TRIMn_OFS m) (ofSigned 8 o)
    calStep 6 0 (u.wr (CAL_Tt_QUAL_WORST 6) (max (u.rd (CAL_Tt_QUAL_WORST 6)) o.natAbs))

/-- The step of the pair's skew (R473). DEDUCED: its mean is rounded as the other means are (log entry 48). -/
def skewStep (a b : Int) (s : State) : State :=
  let m := (a + b + 1) / 2
  if 2 < (a - b).natAbs then calStep 6 1 s
  else if !trimOk m then calStep 6 2 s
  else calStep 6 0 (s.wr ADC_SKEW_SKEW (ofSigned 8 m))

/-- The step `i` of a converter run can run now: the converter is powered; for the skew, both of the pair are, and no
interleaved sequence is ON (R473). -/
def convCan (s : State) (i : Nat) : Bool :=
  if i < 4 then s.bitOf ADC_STAT_PWR i
  else s.bitOf ADC_STAT_PWR 2 && s.bitOf ADC_STAT_PWR 3
    && !(List.range 8).any (fun n => s.bit (ADC_SQn_CFG_INTERLEAVE n) && decide (s.rd (ADC_SQn_STAT_UNIT n) = 2))

/-- The next step that can run, from step `i` on; 5 when none is left. -/
def convNext (s : State) (i : Nat) : Nat := ((List.range 5).find? (fun j => decide (i ≤ j) && convCan s j)).getD 5

/-- CAL_CONVERTER_SET (R473): the measurements of the step that is next; steps that cannot run are skipped. -/
def execCalConverterSet (m : ConvMeas) (s : State) : State :=
  if !calRuns s 6 then s
  else
    let r := calRunOf s 6
    let i := convNext s r.pos
    let s1 := setCalRun 6 { r with pos := i } s
    let u := match m with
      | .trim s0 t0 r0 r1 => if i < 4 then convStep i s0 t0 r0 r1 s1 else s1
      | .skew a b => if i = 4 then skewStep a b s1 else s1
    if 5 ≤ convNext u (calRunOf u 6).pos then calDone 6 u else u

/-! ### Ends of runs, drift -/

/-- CAL_RUN_TIMEOUT (R467). -/
def execCalRunTimeout (t : Fin 7) (s : State) : State := if calRuns s t.val then calStop t.val 5 s else s

/-- A target has a step that waits to be applied. -/
def calWaits (s : State) (t : Nat) : Bool :=
  if t < 4 then s.integ.colNext.any (fun x => decide (x.1 / 512 = t))
  else if t < 6 then s.integ.laneNext.any (fun x => decide (x.1 / 2 = t - 4))
  else false

/-- CAL_RUN_OFF (R467): a stopping run without a step that waits reaches OFF. -/
def execCalRunOff (t : Fin 7) (s : State) : State := if calUnit s t.val = 3 ∧ !calWaits s t.val then calOff t.val s else s

/-- Drift is judged after a conversion of the sensors `ks` (R466). -/
def calDrift (ks : List Nat) (s : State) : State :=
  s.forN 7 (fun t u =>
    let far := decide ((u.rd CAL_CFG_DRIFT * 16 : Nat) < (calTemp u t - toSigned 16 (u.rd (CAL_Tt_STAT_T_REF t))).natAbs)
    let go := if u.bit (CAL_Tt_STAT_VALID t) then far else decide (t = 6)
    if u.bitOf CAL_CTRL_AUTO t && (calSensors t).any (fun k => decide (k ∈ ks)) && go then (calEnable t none u).1 else u)

/-- CAL_CTRL.CNT_CLR (R477). -/
def calCntClr (s : State) : State := s.setReg CAL_COUNT 0#32

/-! ### Commands -/

/-- CAL_RUN (R468). -/
def calRun (o : Outst) (s : State) : Res :=
  let p0 := o.cmd.p0
  let t := p0 % 8
  let stop := decide (p0 / 2 ^ 15 = 1)
  let wait := decide (p0 / 2 ^ 14 % 2 = 1)
  if t = 7 ∨ p0 / 8 % 2048 ≠ 0 ∨ (stop && wait) then ans s .badParam
  else if stop then ok (calDisable t s)
  else
    let r := calEnable t (if wait then some o else none) s
    (r.1, r.2.map (fun st => ⟨st, [], none⟩))

/-- The entries of a target's record (R474). -/
def calEntries (s : State) (t : Nat) : List Nat :=
  if t < 4 then (List.range 512).map (fun c => colEntry s (512 * t + c))
  else if t < 6 then [laneEntry s (2 * (t - 4)), laneEntry s (2 * (t - 4) + 1)]
  else (List.range 4).map (fun m => s.rd (ADC_TRIMn_GAIN m) * 256 + s.rd (ADC_TRIMn_OFS m)) ++ [s.rd ADC_SKEW_SKEW, 0]

/-- Pairs of entries in words. -/
def packHalves : List Nat → List Nat
  | a :: b :: r => (a + b * 65536) :: packHalves r
  | _ => []

/-- A target's calibration record (R474). -/
def calRecord (s : State) (t : Nat) : List Nat :=
  let es := calEntries s t
  let ws := [0x01000000 + t * 65536 + es.length, s.rd (CAL_Tt_STAT_T_REF t)] ++ packHalves es
  ws ++ [crc32 (bytesOfWords ws)]

/-- CAL_READ (R475). -/
def calRead (o : Outst) (s : State) : Res := if 7 ≤ o.cmd.p0 then ans s .badParam else okW s (calRecord s o.cmd.p0)

/-- Number of entries of a target (R474). -/
def calCount (t : Nat) : Nat := if t < 4 then 512 else if t < 6 then 2 else 6

/-- The 16-bit entries of words. -/
def unpackHalves (ws : List Nat) : List Nat := ws.flatMap (fun w => [w % 65536, w / 65536 % 65536])

/-- An entry keeps the fields of R474. -/
def calEntryOk (t i e : Nat) : Bool :=
  if t < 4 then true
  else if t < 6 then decide (e / 0x4000 % 2 = 0)
  else if i < 4 then decide (e / 256 ≠ 128 ∧ e % 256 ≠ 128)
  else if i = 4 then decide (e < 256 ∧ e ≠ 128) else decide (e = 0)

/-- A record may be restored (R475). -/
def calRecordOk (t : Nat) (ws : List Nat) : Bool :=
  let n := ws.length
  let es := unpackHalves ((ws.drop 2).take (n - 3))
  decide (ws.getD 0 0 = 0x01000000 + t * 65536 + calCount t ∧ ws.getD 1 0 < 65536 ∧ ws.getD (n - 1) 0 = crc32 (bytesOfWords (ws.take (n - 1))))
    && (List.range (calCount t)).all (fun i => calEntryOk t i (es.getD i 0))

/-- A restored record's entries wait for their moment, or act at once on the converters (R475). -/
def calTake (t : Nat) (es : List Nat) (s : State) : State :=
  if t < 4 then
    { s with integ := { s.integ with colNext := (List.range 512).foldl (fun m i => putWait (512 * t + i) (es.getD i 0) m) s.integ.colNext } }
  else if t < 6 then
    { s with integ := { s.integ with laneNext := (List.range 2).foldl (fun m i => putWait (2 * (t - 4) + i) (es.getD i 0) m) s.integ.laneNext } }
  else
    let u := s.forN 4 (fun m v => (v.wr (ADC_TRIMn_GAIN m) (es.getD m 0 / 256)).wr (ADC_TRIMn_OFS m) (es.getD m 0))
    u.wr ADC_SKEW_SKEW (es.getD 4 0)

/-- CAL_WRITE (R475). -/
def calWrite (o : Outst) (s : State) : Res :=
  let t := o.cmd.p0
  let ws := o.cmd.words.map BitVec.toNat
  if 7 ≤ t then ans s .badParam
  else if calUnit s t ≠ 0 then ans s .busy
  else if ws.length ≠ 3 + ws.getD 0 0 % 4096 / 2 then ans s .badLength
  else if !calRecordOk t ws then ans s .badParam
  else
    let u := calTake t (unpackHalves ((ws.drop 2).take (ws.length - 3))) s
    ok (((u.wr (CAL_Tt_STAT_T_REF t) (ws.getD 1 0)).wr (CAL_Tt_STAT_VALID t) 1).wr (CAL_Tt_STAT_RESULT t) 7)

end Sys2Proof.Machine
end

