-- ==== Sys2Proof/Machine/Cores.lean ====
section
/-!
DEFINITION. Hosts, duplicate streams and the control-core pair (11): Tacks and beats (R290 to R292), the loss of a host (R293,
R294), STATE_READ and RESYNC (R319, R320), the cores' beats and states (R302 to R310), checkpoints (R314 to R316) and
basting (R317, R318).
-/
namespace Sys2Proof.Machine

/-! ### Beats of the hosts -/

/-- A beat on either path: ABSENT becomes PRESENT (R292). -/
def hostBeat (p : Nat) (s : State) : State := if s.rd (CCX_HOSTx_STATE p) = 0 then s.wr (CCX_HOSTx_STATE p) 1 else s

/-- The link path beats (R290). -/
def linkBeat (p : Nat) (s : State) : State :=
  hostBeat p (if p % 2 = 0 then { s with ccx := { s.ccx with linkBeatA := some s.now } }
    else { s with ccx := { s.ccx with linkBeatB := some s.now } })

/-- TACK (R291): the beat, and its reply. -/
def tack (c : Cmd) (s : State) : State :=
  let t := linkBeat c.port.num s
  queueReply (mkReply c.port c.ch (keyOf (chanW1 t c.ch)) c ⟨.ok, [guarantee t, (t.reg DEV_LADDER).toNat], none⟩ t) t

/-- HEARTBEAT_BEAT: HB_x has changed and stayed (R248, R290, R355). -/
def execHeartbeatBeat (p : Port) (s : State) : State :=
  let n := p.num
  let t := s.wr (HLx_HB_LEVEL n) (1 - s.rd (HLx_HB_LEVEL n))
  let t := t.wr (HLx_HB_BEATS n) (t.rd (HLx_HB_BEATS n) + 1)
  let t := match p with
    | .a => { t with ccx := { t.ccx with pinBeatA := some t.now }, smc := { t.smc with hbSeenA := some t.now } }
    | .b => { t with ccx := { t.ccx with pinBeatB := some t.now }, smc := { t.smc with hbSeenB := some t.now } }
  hostBeat n t

/-! ### Loss and return of a host -/

/-- A lost host's Thimbles are released; its waiting acquires are answered first (R293). -/
def dropThimbles (p : Nat) (s : State) : State :=
  let t := s.forN 8 (fun k u =>
    if (storeGet none u.cmd.thWait k).any (fun w => decide (w.o.cmd.port.num = p)) then endWait k u else u)
  t.forN 8 (fun k u => if u.rd (CMD_THIMBLEn_HOLDER k) = p + 1 then releaseThimble k u else u)

/-- No host is present (R294): the duplicate stream dies, and DEGRADED-F is required. -/
def noHost (s : State) : State :=
  let t := (s.wr CCX_DUP_LIVE 0).wr CCX_DUP_SEPOCH (s.rd CCX_DUP_SEPOCH + 1)
  requireRung 1 0x70 (abandonWhere (fun x => dupOf x.o.w1) t)

/-- PORT_x_UP: the port's link is up and its host PRESENT (R292). -/
def portUp (s : State) (p : Nat) : Bool := linkUp s p && hostPresent s p

/-- HOST_HB_TIMEOUT: neither path of a PRESENT host has beaten for HOST_HB_TIMEOUT (R292 to R294, R322). With the other port not up
this is a second fault, from which recovery is refused (R22, R23). Events and requirements of the moment come in the order of their
source IDs (R421, R424). -/
def execHostHbTimeout (p : Port) (s : State) : State :=
  let n := p.num
  if s.rd (CCX_HOSTx_STATE n) ≠ 1 then s
  else
    let can := recoverable s && portUp s p.other.num
    let t := (s.wr (CCX_HOSTx_STATE n) 2).wr (CCX_HOSTx_EPOCH n) (s.rd (CCX_HOSTx_EPOCH n) + 1)
    let t := dropThimbles n (raise 0x70 n t)
    let t := abandonWhere (fun x => !dupOf x.o.w1 && decide (x.o.cmd.port.num = n)) t
    let t := journalEvent (if hostPresent t p.other.num then t else noHost t)
    if can then recoveryBegin 0x70 (awaited t) t else recoveryRefuse 0x70 t

/-- STATE_READ (R319). NEXT_SEQ of a channel on which nothing has been admitted is a free value. -/
def stateRead (o : Outst) (s : State) : Res :=
  let ch := o.cmd.p0
  if 256 ≤ ch then ans s .badParam
  else
    let p := o.cmd.port.num
    let k := streamKey (chanW1 s ch) ch p
    let st := match storeGet none s.cmd.lastRep k with
      | some r => r.status
      | none => 0xFF
    let nx : Nat × State := match storeGet none s.cmd.lastSeq k with
      | some q => ((q + 1) % 65536, s)
      | none => let f := s.fresh; ((Config.freeNextSeq f.1).toNat, f.2)
    okW nx.2 [hostWord s p, (s.reg CCX_DUP).toNat, st * 65536 + nx.1, (s.reg CCX_JHEAD).toNat, (s.reg CCX_JBASE).toNat,
      (s.reg DEV_FN).toNat, (s.reg SMEM_RETIRE).toNat, guarantee s, (s.reg DEV_LADDER).toNat]

/-- RESYNC (R320). -/
def resync (o : Outst) (s : State) : Res :=
  let c := o.cmd
  let n := c.port.num
  let port := decide (c.p0 % 2 = 1)
  let stream := decide (2 ≤ c.p0)
  if c.p0 = 0 ∨ 4 ≤ c.p0 ∨ dupOf o.w1 then ans s .badParam
  else if (port ∧ c.w 1 ≠ s.rd (CCX_HOSTx_EPOCH n)) ∨ (stream ∧ c.w 2 ≠ s.rd CCX_DUP_SEPOCH) then ans s .stale
  else
    let t := s.when port (fun u => (u.wr (CCX_HOSTx_EPOCH n) (u.rd (CCX_HOSTx_EPOCH n) + 1)).wr (CCX_HOSTx_STATE n) 1)
    let t := t.when stream (fun u => u.wr CCX_DUP_LIVE 1)
    let t := journal 2 n c.ch (cmdWords o.op c) t
    okW t [t.rd (CCX_HOSTx_EPOCH n), t.rd CCX_DUP_SEPOCH]

/-! ### The cores -/

/-- State of a core: 0 CCA, 1 CCB. -/
def coreFld (k : Nat) : Fld := if k % 2 = 0 then CCX_STAT_CCA_STATE else CCX_STAT_CCB_STATE
def coreState (s : State) (k : Nat) : Nat := s.rd (coreFld k)

/-- The core that ACTIVE names, and whether it runs as ACTIVE. -/
def activeCore (s : State) : Nat := s.rd CCX_STAT_ACTIVE
def activeRuns (s : State) : Bool := decide (coreState s (activeCore s) = 5)

/-- CEPOCH advances. -/
def bumpCepoch (n : Nat) (s : State) : State := s.wr CCX_STAT_CEPOCH (s.rd CCX_STAT_CEPOCH + n)

/-- CORE_BEAT (R305); a write of CCX_CFG takes effect at a beat check (R323). -/
def execCoreBeat (core : Fin 2) (s : State) : State :=
  if coreState s core.val = 0 then s
  else
    let t := s.takeAct [CCX_CFG]
    if core.val = 0 then { t with ccx := { t.ccx with beatA := t.now } } else { t with ccx := { t.ccx with beatB := t.now } }

/-- The stand-ins are gone (R304). -/
def dropStandins (s : State) : State := { s with ccx := { s.ccx with standins := [], applied := [] } }

/-- The active core is lost while no core is in STANDBY (R309): the pair restarts. Commands that a fence holds are answered
BUSY, as every command is until a core runs. -/
def pairRestart (s : State) : State :=
  let t := recoveryRefuse 0x72 (basteFail 6 s)
  let t := t.forL t.cmd.waiting (fun o u => replyTo o ⟨.busy, [], none⟩ u)
  let t := (t.wr CCX_STAT_CCA_STATE 1).wr CCX_STAT_CCB_STATE 1
  let t := ((t.wr DEV_GUARANTEE_CKPT_COMMITTED 0).wr DEV_GUARANTEE_JOURNAL_UNBROKEN 0).wr CCX_JFILL_WORDS 0
  let t := ((t.wr CCX_CKPT_WRITING 0).wr CCX_CKPT_VALID0 0).wr CCX_CKPT_VALID1 0
  let x := { t.ccx with journal := [], standins := [], applied := [], grpWait := [], recWait := [], basteHold := false }
  syncFence { t with ccx := x, cmd := { t.cmd with busyAll := true, waiting := [] } }

/-- CORE_RESTART_DONE: a core of a restarting pair has finished (R309). The first becomes ACTIVE, with a checkpoint; the
other is DEMOTED until it bastes. -/
def execCoreRestartDone (core : Fin 2) (s : State) : State :=
  let k := core.val
  if coreState s k ≠ 1 ∨ !s.bit PMU_STAT_BOOT_DONE then s
  else if s.cmd.busyAll then
    let t := (bumpCepoch 2 s).wr CCX_STAT_ACTIVE k
    startCkpt { t.wr (coreFld k) 5 with cmd := { t.cmd with busyAll := false } }
  else s.wr (coreFld k) 2

/-- RECOVERY_END: every command admitted before the detection of a host's or a core's loss has completed; an armed COMMIT
counts as complete (R306). -/
def execRecoveryEnd (s : State) : State :=
  let l := (s.cmd.outst ++ s.cmd.waiting).map (fun o => o.jseq) ++ s.cmd.xfers.map (fun x => x.o.jseq)
    ++ s.cmd.thWait.filterMap (fun p => p.2.map (fun x => x.o.jseq))
  if (s.ccx.recCause = 0x70 ∨ s.ccx.recCause = 0x72) ∧ s.ccx.recWait.all (fun j => !l.contains j) then recoveryEnd s else s

/-- CCX_CTRL.CKPT written 1 (R314): ignored without an active core. -/
def ccxCkpt (s : State) : State := if activeRuns s then startCkpt s else s

/-- CCX_CTRL.SWAP written 1 (R310). The active core has finished its started groups; a stand-in that is left has no twin. -/
def ccxSwap (s : State) : State × Status :=
  if !pairReady s then (s, .busy)
  else
    let a := activeCore s
    let t := ((bumpCepoch 1 s).wr CCX_STAT_ACTIVE (1 - a)).wr (coreFld a) 4
    let u := dropStandins (t.wr (coreFld (1 - a)) 5)
    ({ u with ccx := { u.ccx with swapAt := some u.now } }, .ok)

/-- CCX_CTRL.RST_CCA or RST_CCB written 1 (R308, R310): the core passes through OFF to DEMOTED (log entry 50). -/
def ccxRstCore (k : Nat) (s : State) : State × Status :=
  if k = activeCore s then (s, .busy)
  else
    let t := if coreState s k = 3 then basteFail 5 s else s
    (dropStandins (t.wr (coreFld k) 2), .ok)

/-- CCX_CTRL.CNT_CLR (R323). -/
def ccxCntClr (s : State) : State :=
  (((s.setReg CCX_COUNT0 0#32).setReg CCX_COUNT1 0#32).setReg CCX_COUNT2 0#32).setReg CCX_COUNT3 0#32

/-! ### Checkpoints and basting -/

/-- Journal entries after index `j`. -/
def entriesAfter (j : Nat) (l : List JEntry) : List JEntry := l.filter (fun e => later 32 e.jseq j)

/-- A slot as its writer leaves it: the header, the body, the commit record (R315). -/
def writtenSlot (j cepoch : Nat) (body : List Nat) : CkptSlot :=
  let k : CkptSlot := { ver := 1, jck := j, bodyWords := body.length, cepoch := cepoch, body := body, magic := ckptMagic, jck2 := j,
                        crc := 0, ue := false }
  { k with crc := crc32c (bytesOfWords (slotHead k ++ k.body)) }

/-- CHECKPOINT_COMMIT: MAGIC of the slot being written is written (R312, R315, R316). `body` is the firmware state that the core has
written, at most 32,760 words. -/
def execCheckpointCommit (body : List Word) (s : State) : State :=
  if !s.bit CCX_CKPT_WRITING then s
  else
    let tg := s.rd CCX_CKPT_TARGET
    let j := s.ccx.writingJ
    let k := writtenSlot j (s.rd CCX_STAT_CEPOCH) ((body.map BitVec.toNat).take 32760)
    let l := entriesAfter j s.ccx.journal
    let t := { s with ccx := { s.ccx with journal := l, basteHold := false,
                                          slot0 := if tg = 0 then k else s.ccx.slot0,
                                          slot1 := if tg = 0 then s.ccx.slot1 else k } }
    let t := ((t.wr CCX_CKPT_WRITING 0).wr CCX_CKPT_NEWEST tg).wr (if tg = 0 then CCX_CKPT_VALID0 else CCX_CKPT_VALID1) 1
    let t := (t.setReg CCX_JBASE (BitVec.ofNat 32 j)).wr CCX_JFILL_WORDS (journalWords l)
    let t := t.wr DEV_GUARANTEE_CKPT_COMMITTED 1
    let t := if t.ccx.ckClean then t.wr DEV_GUARANTEE_JOURNAL_UNBROKEN 1 else t
    if 32768 ≤ t.rd CCX_JFILL_WORDS ∨ !t.ccx.ckClean then startCkpt t else t

/-- Slot `n`, and its VALID bit. -/
def slotAt (s : State) (n : Nat) : CkptSlot := if n = 0 then s.ccx.slot0 else s.ccx.slot1
def validFld (n : Nat) : Fld := if n = 0 then CCX_CKPT_VALID0 else CCX_CKPT_VALID1

/-- A slot holds a committed checkpoint of this run (R315). -/
def slotValid (s : State) (n : Nat) : Bool := s.bit (validFld n) && slotCommitted (slotAt s n)

/-- The newest committed slot, if there is one. -/
def newestSlot (s : State) : Option Nat :=
  let n := s.rd CCX_CKPT_NEWEST
  if slotValid s n then some n else none

/-- The lowest address of a checkpoint slot (R165). -/
def slotAddr (n : Nat) : Nat := 0x1AD0000 + n * 0x20000

/-- A word of slot `n` reads as uncorrectable: the slot is committed no longer (R315). The older one is then the newest, if it is
committed; the journal no longer holds every entry after its J_ck (log entry 79). -/
def slotLost (n : Nat) (s : State) : State :=
  let k := { slotAt s n with ue := true }
  let t := { s with ccx := { s.ccx with slot0 := if n = 0 then k else s.ccx.slot0, slot1 := if n = 0 then s.ccx.slot1 else k } }
  let t := t.wr (validFld n) 0
  let m := 1 - n
  if slotValid t m then
    ((t.wr CCX_CKPT_NEWEST m).setReg CCX_JBASE (BitVec.ofNat 32 (slotAt t m).jck)).wr DEV_GUARANTEE_JOURNAL_UNBROKEN 0
  else t.wr DEV_GUARANTEE_CKPT_COMMITTED 0

/-- BASTE_START: a DEMOTED core loads the newest committed slot (R308, R317, R318); `errs` are the errors of the words read. -/
def execBasteStart (core : Fin 2) (errs : List EccErr) (s : State) : State :=
  let k := core.val
  match newestSlot s with
  | none => s
  | some n =>
    if coreState s k ≠ 2 ∨ !s.bit CCX_CTRL_AUTO_BASTE ∨ !activeRuns s ∨ s.ccx.basteHold then s
    else
      let j := if n = 0 then s.ccx.slot0.jck else s.ccx.slot1.jck
      let t := ((s.wr (coreFld k) 3).wr CCX_BASTE_RESULT 1).wr CCX_BASTE_CORE k
      let t := t.wr CCX_BASTE_LEFT (min 0xFFFFFF (entriesAfter j t.ccx.journal).length)
      let t := noteErrs errs { t with ccx := { t.ccx with basteSlot := n } }
      if ueIn errs (slotAddr n) 0x20000 then basteFail 4 (slotLost n t) else t

/-- BASTE_JOIN: a basting core reaches the live head of the journal (R313, R317); `errs` are the errors of the journal words
it has read. -/
def execBasteJoin (core : Fin 2) (errs : List EccErr) (s : State) : State :=
  let k := core.val
  if coreState s k ≠ 3 ∨ s.rd CCX_BASTE_RESULT ≠ 1 then s
  else
    let t := noteErrs errs s
    if ueIn errs 0x1A90000 0x40000 then startCkpt (journalOverflow (t.reg CCX_JHEAD).toNat t)
    else ((t.wr (coreFld k) 4).wr CCX_BASTE_RESULT 2).wr CCX_BASTE_LEFT 0

/-- BASTE_TIMEOUT: the baste has not reached the live head within BASTE_MAX (R318). -/
def execBasteTimeout (s : State) : State := basteFail 1 s

end Sys2Proof.Machine
end

