-- ==== Sys2Proof/Machine/Levelling.lean ====
section
/-!
DEFINITION. Loop engine LE1: levelling (R390 to R394) and the fan (R395, R396); the loop slots' samples (R404); and the loop
commands (R378, R389, R397).
-/
namespace Sys2Proof.Machine

/-! ### Levelling -/

/-- POS16 and r of the levelling loop, signed. -/
def pos16 (s : State) : Int := toSigned 16 (s.rd LE1_LVL_STAT_POS16)

/-- Bounds of R392. -/
def lvlLo (s : State) : Int := toSigned 16 (s.rd LE1_LVL_LIM_POS_MIN) - s.rd LE1_LVL_SUPV_LIM_MARGIN
def lvlHi (s : State) : Int := toSigned 16 (s.rd LE1_LVL_LIM_POS_MAX) + s.rd LE1_LVL_SUPV_LIM_MARGIN

/-- AIM_VALID follows its conditions (R394). -/
def syncAim (s : State) : State :=
  s.wr LE1_LVL_STAT_AIM_VALID (boolNat (s.bit LE1_CTRL_HALL_EN && !s.bit LE1_FB_LOST && !s.bit LE1_FB_FROZEN
    && decide (s.rd LE1_LVL_SUPV_LOST_N ≤ s.loops.lvlPl)))

/-- A drive away from the permitted range is replaced by BRAKE (R392). -/
def limitDrive (s : State) (d : Nat) : Nat :=
  if s.bit LE1_LVL_STAT_LIMIT && ((decide (lvlHi s < pos16 s) && decide (d = 1)) || (decide (pos16 s < lvlLo s) && decide (d = 2)))
  then 0 else d

/-- A duty in % in 1/1023 of full scale, rounded up as D_min of R395 is (DEDUCED, log entry 38). -/
def dutyOf (pct : Nat) : Nat := ceilDiv (pct * 1023) 100

/-- The drive of a sample while ON (R391). -/
def lvlDrive (s : State) : State :=
  let e := s.loops.lvl.ref - pos16 s
  let out := s.rd LE1_LVL_CFG_BAND_OUT
  let d := s.rd LE1_LVL_STAT_DRIVE
  let d := if d = 0 ∧ out < e.natAbs then (if 0 < e then 1 else 2) else d
  let d := if d ≠ 0 ∧ (e.natAbs ≤ s.rd LE1_LVL_CFG_BAND_IN ∨ (d = 1 ∧ e < 0) ∨ (d = 2 ∧ 0 < e)) then 0 else d
  let d := limitDrive s d
  let duty := dutyOf (if e.natAbs < 8 * out then s.rd LE1_LVL_CFG_DUTY_SLOW else s.rd LE1_LVL_CFG_DUTY_MAX)
  let x := toSigned 16 (s.rd LE1_LVL_SP_SP)
  let p := s.loops.lvl
  let done := decide (p.q = x ∧ p.ref = x ∧ p.u = 0) && decide (e.natAbs ≤ s.rd LE1_LVL_CFG_BAND_IN)
  { s with loops := { s.loops with duty := if d = 0 then 0 else duty } }.wr LE1_LVL_STAT_DRIVE d |>.wr LE1_LVL_STAT_AT_TARGET
    (boolNat done)

/-- Both inputs of the bridge are low (R391). -/
def lvlBrake (s : State) : State :=
  ({ s with loops := { s.loops with duty := 0 } }.wr LE1_LVL_STAT_DRIVE 0).wr LE1_LVL_STAT_AT_TARGET 0

/-- Trace signals of LE1 (R398). -/
def le1Signal (s : State) (k : Nat) : Int :=
  match k with
  | 0 => pos16 s
  | 1 => s.loops.lvl.ref
  | 2 => s.loops.lvl.ref - pos16 s
  | 3 => if s.rd LE1_LVL_STAT_DRIVE = 2 then -(s.loops.duty : Int) else s.loops.duty
  | 4 => s.rd LE1_HALL_RAW_HALL_A
  | 5 => s.rd LE1_HALL_RAW_HALL_B
  | 6 => s.rd LE1_FAN_STAT_RPM
  | _ => s.rd LE1_FAN_STAT_DUTY

/-- One hall sample (R390 to R394): codes of the two tracks, and whether either is flagged OVR. -/
def hallSample (a b : Nat) (ovr : Bool) (s : State) : State :=
  let prod := ((a : Int) - b - toSigned 16 (s.rd LE1_HALL_CAL_ZERO)) * s.rd LE1_HALL_CAL_GAIN
  let pos := clampI (-2048) 2047 ((prod * 2 + 1024) / 2048)
  let imp := ovr || decide (a + b < s.rd LE1_HALL_SUM_SUM_LO ∨ s.rd LE1_HALL_SUM_SUM_HI < a + b)
  let on := decide (s.rd LE1_LVL_STAT_UNIT = 2)
  let driven := on && decide (s.rd LE1_LVL_STAT_DRIVE ≠ 0)
  let out := decide (pos < lvlLo s ∨ lvlHi s < pos)
  let l := s.loops
  let t := { s with loops := { l with
    lvlPl := runOf (!imp) l.lvlPl
    lvlImp := runOf (imp && on) l.lvlImp
    lvlStart := runOf (!imp && decide (s.rd LE1_LVL_STAT_UNIT = 1)) l.lvlStart
    lvlFrz := frzStep driven ((a : Int) - b) l.lvlFrz
    limRun := runOf out l.limRun } }
  let t := ((t.wr LE1_HALL_RAW_HALL_A a).wr LE1_HALL_RAW_HALL_B b).wr LE1_LVL_STAT_POS16 (ofSigned 16 pos)
  let t := syncAim (t.when (!out) (fun u => u.wr LE1_LVL_STAT_LIMIT 0))
  let t := if on then lvlDrive t else t
  traceSample 1 (le1Signal t) t

/-- Levelling as a unit (R393). -/
def lvlUnit : UnitF :=
  { unit := LE1_LVL_STAT_UNIT, en := LE1_CTRL_LVL_EN, pending := LE1_LVL_STAT_EN_PENDING,
    start := fun s => { s with loops := { s.loops with lvlStart := 0, lvlImp := 0, lvlFrz := frzNone } } }

def lvlEnable (s : State) : State × Status := if s.bit LE1_CTRL_HALL_EN then unitEnable lvlUnit s else (s, .busy)
def lvlDisable (s : State) : State × Status := unitDisable lvlUnit lvlBrake s

/-- LVL_ON (R393). -/
def execLvlOn (s : State) : State :=
  if s.rd LE1_LVL_STAT_UNIT = 1 ∧ s.rd LE1_LVL_SUPV_LOST_N ≤ s.loops.lvlStart then
    { s with loops := { s.loops with lvl := profStart (pos16 s) } }.wr LE1_LVL_STAT_UNIT 2
  else s

/-- LVL_START_TIMEOUT (R393). -/
def execLvlStartTimeout (s : State) : State :=
  if s.rd LE1_LVL_STAT_UNIT = 1 then (raise 0x56 3 s).wr LE1_LVL_STAT_UNIT 0 else s

/-- LVL_STOP_COMPLETE (R393); a pending enable starts while hall sampling runs. -/
def execLvlStopComplete (s : State) : State :=
  if s.rd LE1_LVL_STAT_UNIT = 3 then unitOff lvlUnit (fun t => t.bit LE1_CTRL_HALL_EN) s else s

/-- The feedback is lost or frozen (R394): brake, the bit, AIM_VALID 0, the report, and the stop. -/
def lvlFails (f : Fld) (detail : Nat) (s : State) : State :=
  let t := syncAim ((lvlBrake s).setW1c LE1_FB (2 ^ f.lsb))
  raise 0x56 detail (t.wr LE1_LVL_STAT_UNIT 3)

/-- LVL_FB_LOST (R394). -/
def execLvlFbLost (s : State) : State :=
  if s.rd LE1_LVL_STAT_UNIT = 2 ∧ s.rd LE1_LVL_SUPV_LOST_N ≤ s.loops.lvlImp then lvlFails LE1_FB_LOST 1 s else s

/-- LVL_FB_FROZEN (R394). -/
def execLvlFbFrozen (s : State) : State :=
  if s.rd LE1_LVL_STAT_UNIT = 2 ∧ s.rd LE1_LVL_SUPV_FROZEN_N ≤ frzLen s.loops.lvlFrz then lvlFails LE1_FB_FROZEN 2 s else s

/-- LVL_LIMIT (R392). -/
def execLvlLimit (s : State) : State :=
  if s.rd LE1_LVL_SUPV_LOST_N ≤ s.loops.limRun ∧ !s.bit LE1_LVL_STAT_LIMIT then
    let t := (s.setW1c LE1_FB (2 ^ LE1_FB_LIMIT.lsb)).wr LE1_LVL_STAT_LIMIT 1
    let d := limitDrive t (t.rd LE1_LVL_STAT_DRIVE)
    let t := if d = 0 then { t with loops := { t.loops with duty := 0 } }.wr LE1_LVL_STAT_DRIVE 0 else t
    raise 0x57 (s.rd LE1_LVL_STAT_POS16) t
  else s

/-- LE1_FB_CLEAR (R7, R394): a write of `v` clears the bits where it has a 1. -/
def le1FbClear (v : Nat) (s : State) : State :=
  let v := s.w1cMask LE1_FB v
  syncAim (s.forN 3 (fun b t => if v / 2 ^ b % 2 = 1 then t.clrBit ⟨LE1_FB, 2, 0⟩ b else t))

/-! ### Fan -/

/-- D_min (R395). -/
def dMin (s : State) : Nat := dutyOf (s.rd LE1_FAN_CFG_DUTY_MIN)

/-- The fan as a unit (R396): a run begins with no stall of its own. -/
def fanUnit : UnitF :=
  { unit := LE1_FAN_STAT_UNIT, en := LE1_CTRL_FAN_EN, pending := LE1_FAN_STAT_EN_PENDING,
    start := fun s => (s.wr LE1_FAN_STAT_DUTY 1023).wr LE1_FAN_STAT_STALL 0 }

def fanEnable (s : State) : State × Status := unitEnable fanUnit s
def fanDisable (s : State) : State × Status := unitDisable fanUnit (fun t => t.wr LE1_FAN_STAT_DUTY 0) s

/-- FAN_TACH_EDGE (R395, R396): a falling edge `p` µs after the previous one. A quotient that does not fit RPM, or has
divisor 0, is a free value (log entry 39). -/
def execFanTachEdge (p : Nat) (s : State) : State :=
  let t := s.wr LE1_FAN_STAT_STALL 0
  if !s.loops.tachSeen then { t with loops := { t.loops with tachSeen := true } }
  else
    let d := s.rd LE1_FAN_CFG_PPR * p
    let r := 60000000 / d
    if d = 0 ∨ 65535 < r then
      let f := t.fresh
      f.2.wr LE1_FAN_STAT_RPM (Config.freeRpm f.1).toNat
    else t.wr LE1_FAN_STAT_RPM r

/-- FAN_TACH_TIMEOUT (R395, R396). -/
def execFanTachTimeout (s : State) : State :=
  let t := s.wr LE1_FAN_STAT_RPM 0
  if s.rd LE1_FAN_STAT_UNIT = 2 ∧ dMin s ≤ s.rd LE1_FAN_STAT_DUTY ∧ !s.bit LE1_FAN_STAT_STALL then
    (raise 0x58 (s.rd LE1_FAN_STAT_DUTY) (t.wr LE1_FAN_STAT_STALL 1)).wr LE1_FAN_STAT_DUTY 1023
  else t

/-- rpm_set (R395). -/
def rpmSet (s : State) : Nat :=
  if s.bit LE1_FAN_SP_AUTO then
    let v := ((List.range 64).map (tempIn s)).foldl max (tempIn s 0)
    let lo := s.rd LE1_FAN_MAP_T_LO * 16
    let hi := s.rd LE1_FAN_MAP_T_HI * 16
    let a := s.rd LE1_FAN_MAP_RPM_LO * 100
    let b := s.rd LE1_FAN_MAP_RPM_HI * 100
    if v ≤ lo then a else if hi ≤ v then b else a + (v.toNat - lo) * (b - a) / (hi - lo)
  else s.rd LE1_FAN_SP_RPM

/-- FAN_DUTY_UPDATE (R395); a stalled fan keeps full duty (R396). -/
def execFanDutyUpdate (s : State) : State :=
  if s.rd LE1_FAN_STAT_UNIT = 2 ∧ !s.bit LE1_FAN_STAT_STALL then
    let step := (2 * ((rpmSet s : Int) - s.rd LE1_FAN_STAT_RPM) * s.rd LE1_FAN_CFG_KF + 256) / 512
    let d := min (max ((s.rd LE1_FAN_STAT_DUTY : Int) + step) (dMin s)) 1023
    s.wr LE1_FAN_STAT_DUTY d.toNat
  else s

/-- FAN_KICK_END (R396). -/
def execFanKickEnd (s : State) : State :=
  if s.rd LE1_FAN_STAT_UNIT = 1 then (s.wr LE1_FAN_STAT_UNIT 2).wr LE1_FAN_STAT_DUTY (dMin s) else s

/-- FAN_STOP_COMPLETE (R396). -/
def execFanStopComplete (s : State) : State :=
  if s.rd LE1_FAN_STAT_UNIT = 3 then unitOff fanUnit (fun _ => true) s else s

/-! ### Samples and profile ticks -/

/-- LOOP_SLOT_CONVERSION (R404): the conversions of a reserved loop slot go to ADC_LAST, and to their loop; LE1 takes the hall tracks
while HALL_EN is 1 (R390). -/
def execLoopSlotConversion (x : LoopSlot) (s : State) : State :=
  match x with
  | .rail a b =>
    railSample (convCode 0 a s) (convCode 1 b s) a.ovr.isSome b.ovr.isSome (loopSample 1 7 b (loopSample 0 6 a s))
  | .hall a b =>
    let t := loopSample 1 10 b (loopSample 0 9 a s)
    if s.bit LE1_CTRL_HALL_EN then hallSample (convCode 0 a s) (convCode 1 b s) (a.ovr.isSome || b.ovr.isSome) t else t
  | .vbat x => (loopSample 0 8 x s).wr LE0_INT_VBAT (5 * convCode 0 x s)

/-- PROFILE_TICK of the rail (false) or of levelling (true), while its loop runs (R387, R388). -/
def execProfileTick (lvl : Bool) (s : State) : State :=
  let l := s.loops
  if lvl then
    let p := profTick false (s.rd LE1_LVL_PROF_NJ) (s.rd LE1_LVL_PROF_AMAX) (s.rd LE1_LVL_PROF_VMAX)
      (toSigned 16 (s.rd LE1_LVL_SP_SP)) l.lvl
    if s.rd LE1_LVL_STAT_UNIT = 2 then { s with loops := { l with lvl := p } } else s
  else
    let p := profTick (s.bit LE0_PROF_STEP) (s.rd LE0_PROF_NJ) (s.rd LE0_PROF_AMAX) (s.rd LE0_PROF_VMAX)
      ((s.rd LE0_SP_SP_MV * 4 : Nat) : Int) l.rail
    if railRuns s then { s with loops := { l with rail := p } } else s

/-! ### Commands -/

/-- LOOP_ENABLE and LOOP_DISABLE (R279, R380, R381, R393, R396); PARAM0 other than a loop's number is BAD_PARAM. -/
def loopEnable (o : Outst) (s : State) : Res :=
  match o.cmd.p0 with
  | 0 => resOf (railEnable s)
  | 1 => resOf (lvlEnable s)
  | 2 => resOf (fanEnable s)
  | _ => ans s .badParam
def loopDisable (o : Outst) (s : State) : Res :=
  match o.cmd.p0 with
  | 0 => resOf (railDisable s)
  | 1 => resOf (lvlDisable s)
  | 2 => resOf (fanDisable s)
  | _ => ans s .badParam

/-- A levelling target lies from POS_MIN to POS_MAX of a limits word. -/
def lvlSpOk (lim : Word) (x : Int) : Bool :=
  decide (toSigned 16 (fv lim LE1_LVL_LIM_POS_MIN) ≤ x ∧ x ≤ toSigned 16 (fv lim LE1_LVL_LIM_POS_MAX))

/-- SETPOINT (R389). -/
def setpoint (o : Outst) (s : State) : Res :=
  let v := o.cmd.w 1
  match o.cmd.p0 with
  | 0 => if 3000 ≤ v ∧ v ≤ 4200 then ok (s.wr LE0_SP_SP_MV v) else ans s .badParam
  | 1 =>
    let x := toSigned 32 v
    if lvlSpOk (s.reg LE1_LVL_LIM) x then ok (s.wr LE1_LVL_SP_SP (ofSigned 16 x)) else ans s .badParam
  | 2 => if 12000 < v then ans s .badParam else if s.bit LE1_FAN_SP_AUTO then ans s .busy else ok (s.wr LE1_FAN_SP_RPM v)
  | _ => ans s .badParam

/-- The registers of a LOOP_CFG, in order (R397). -/
def loopRegs (loop : Nat) : List Nat :=
  match loop with
  | 0 => [LE0_CFG, LE0_SP, LE0_PROF, LE0_SUPV, LE0_LIMITS, LE0_TIMING]
  | 1 => [LE1_LVL_CFG, LE1_LVL_LIM, LE1_LVL_SP, LE1_LVL_PROF, LE1_HALL_CAL, LE1_HALL_SUM, LE1_LVL_SUPV]
  | 2 => [LE1_FAN_CFG, LE1_FAN_SP, LE1_FAN_MAP]
  | _ => []

/-- A write of `v` would change a register that may change only in OFF, while the unit is not OFF (R397). -/
def loopRegBusy (a : Nat) (v : Word) (s : State) : Bool :=
  (decide (a = LE0_CFG) && decide (s.maskWord a v ≠ s.reg a) && decide (s.rd LE0_STAT_UNIT ≠ 0))
    || (decide (a = LE1_HALL_CAL) && decide (s.maskWord a v ≠ s.reg a) && decide (s.rd LE1_LVL_STAT_UNIT ≠ 0))

/-- LOOP_CFG (R397): a levelling target is checked against the limits of the same command. -/
def loopCfg (o : Outst) (s : State) : Res :=
  let l := (loopRegs o.cmd.p0).zip o.cmd.words
  if 3 ≤ o.cmd.p0 ∨ !l.all (fun x => rangeOk x.1 x.2)
      ∨ (o.cmd.p0 = 1 ∧ !lvlSpOk (o.cmd.words.getD 1 0#32) (toSigned 16 (fv (o.cmd.words.getD 2 0#32) LE1_LVL_SP_SP))) then
    ans s .badParam
  else if l.any (fun x => loopRegBusy x.1 x.2 s) then ans s .busy
  else ok (s.forL l (fun x t => t.wrWord x.1 x.2))

end Sys2Proof.Machine
end

