-- ==== Sys2Proof/Machine/Power.lean ====
section
/-!
DEFINITION. Power states, clocks, resets and boot (16): the refusers and POWER_ENTER (R436 to R442), operating points (R443),
power pins (R444, R445), resets (R446), boot (R447), firmware patches (R448, R449), and the clock unit (R451, R452).
-/
namespace Sys2Proof.Machine

/-! ### Refusers -/

/-- A sequence that holds ADC2 or ADC3 (R402). -/
def sqOnPair (s : State) (n : Nat) : Bool :=
  decide (s.rd (ADC_SQn_STAT_UNIT n) ≠ 0) && decide (2 ≤ s.rd (ADC_SQn_CFG_CONV n))

/-- Whether a port refuses D2 (R438): it runs a LINK_TEST, or it has refused L2 during the entry. -/
def portRefuses (s : State) (p : Nat) : Bool :=
  decide (linkOf s p = 9) || (decide (s.pmu.askedL2 / 2 ^ p % 2 = 1) && !(portLink s p).l2Req && decide (linkOf s p ≠ 7))

/-- Whether refuser `i` of R438 applies to the entry into state `t`. -/
def refuserHolds (t i : Nat) (s : State) : Bool :=
  let d2 := decide (t = 2)
  match i with
  | 0x01 => decide (s.rd DEV_LADDER_RUNG ≠ 4)
  | 0x02 => d2 && decide (s.rd LE0_STAT_UNIT ≠ 0)
  | 0x03 => d2 && decide (s.rd LE1_LVL_STAT_UNIT ≠ 0)
  | 0x04 => d2 && decide (s.rd LE1_FAN_STAT_UNIT ≠ 0)
  | 0x05 => (List.range 8).any (fun n => decide (s.rd (ADC_SQn_STAT_UNIT n) ≠ 0) && (d2 || sqOnPair s n || bobSurface s n))
  | 0x06 => (List.range 7).any (fun k => decide (calUnit s k ≠ 0))
  | 0x07 => !s.cmd.xfers.isEmpty || s.bit CMD_STAT_GFENCE || commitAhead s
  | 0x08 => d2 && (s.bit CCX_CKPT_WRITING || decide (s.rd CCX_BASTE_RESULT = 1))
  | 0x09 => s.bit SMEM_STAT_TRAINING
  | 0x0A => d2 && portRefuses s 0
  | 0x0B => d2 && portRefuses s 1
  | 0x0C => s.pmu.activate.isSome || s.pmu.patch.any (fun p => !p.verified)
  | 0x0D => s.bit PMU_OP_CHANGING
  | _ => false

/-- The lowest refuser that applies. -/
def refuser (t : Nat) (s : State) : Option Nat := (List.range 0x0E).find? (fun i => refuserHolds t i s)

/-- What aborts an entry under way (R439, R440): the wake source of an admitted command, or the lowest of refusers 0x01 to 0x0C. -/
def aborts (t : Nat) (s : State) : Option Nat :=
  match s.pmu.hit with
  | some n => some (0x10 + n)
  | none => (List.range 0x0D).find? (fun i => refuserHolds t i s)

/-- The reply of the POWER_ENTER is still to be sent on a port (R439). -/
def replyDue (s : State) : Bool :=
  s.pmu.reply.any (fun x => s.cmd.replies.any (fun r => decide (r.chan = x.1 ∧ r.seq = x.2)))

/-- VSEL is driven. -/
def driveVsel (v : Nat) (s : State) : State := let t := s.wr PMU_OP_VSEL v; { t with pmu := { t.pmu with vselAt := t.now } }

/-! ### Entering and leaving D1 and D2 -/

/-- PWR_REFUSED with a refuser as its detail. -/
def refusedBy (i : Nat) (s : State) : State := raise 0x64 i (s.wr PMU_REFUSE_LAST i)

/-- The operating point that the CORE domain runs at. -/
def setOp (op : Nat) (s : State) : State :=
  ((driveVsel (10 * (op + 1)) s).wr PMU_OP_V_OK op).wr PMU_OP_F_OP op

/-- CORE returns to the operating point held before D1, and SMEM to what its self-refresh was (R440, R441). -/
def leaveSleep (s : State) : State :=
  let u := setOp s.pmu.opBefore s
  if u.bit CKU_GATE_SMEM then u else u.wr SMEM_STAT_SR (boolNat s.pmu.srBefore)

/-- An entry is aborted (R440): what has been done of it is undone. -/
def abortEntry (i : Nat) (s : State) : State :=
  let t := refusedBy i ((s.wr PMU_STAT_ARM 0).bump PMU_REFUSE_ABORTS)
  let t :=
    if s.pmu.down ∧ s.rd PMU_STAT_STATE = 0 then
      leaveSleep t
    else t
  let t := t.forN 2 (fun p u => if s.pmu.askedL2 / 2 ^ p % 2 = 1 then startL2Exit p (dropL2 p u) else u)
  { t with pmu := { t.pmu with down := false, askedL2 := 0, reply := none, hit := none } }

/-- POWER_ENTER (R438). -/
def powerEnter (o : Outst) (s : State) : Res :=
  let t := o.cmd.p0
  if 3 ≤ t then ans s .badParam
  else
    let s := s.wr PMU_WAKE_EN_SRC (o.cmd.w 1 % 256 ||| 0x81)
    if t = s.rd PMU_STAT_STATE then ok s
    else if t = 0 then ok { s with pmu := { s.pmu with waking := true } }
    else
      match refuser t s with
      | some i => ((refusedBy i (s.bump PMU_REFUSE_REFUSALS)), some ⟨.powerRefused, [i], none⟩)
      | none =>
        let u := s.wr PMU_STAT_ARM t
        ok { u with pmu := { u.pmu with reply := some (o.cmd.ch, o.cmd.seq.toNat) } }

/-- The steps of D1 (R439): CMP stops, SMEM enters self-refresh, and CORE moves to OP0. -/
def sleepSteps (s : State) : State :=
  if s.rd PMU_STAT_STATE = 0 then
    let t := (abandonComp s).wr SMEM_STAT_SR 1
    setOp 0 { t with pmu := { t.pmu with opBefore := s.rd PMU_OP_V_OK, srBefore := s.bit SMEM_STAT_SR } }
  else s

/-- POWER_DOWN_START: the POWER_ENTER reply has been sent, and the cores execute WAIT (R439). -/
def execPowerDownStart (s : State) : State :=
  let t := s.rd PMU_STAT_ARM
  if t = 0 ∨ s.pmu.down ∨ replyDue s then s
  else
    match aborts t s with
    | some i => abortEntry i s
    | none =>
      let ask := if t = 2 then (List.range 2).filter (fun p => decide (linkOf s p = 5 ∨ linkOf s p = 6)) else []
      let u := s.forL ask (fun p v => askL2 p (if linkOf v p = 6 then leaveL1 p v else v))
      sleepSteps { u with pmu := { u.pmu with down := true, askedL2 := ask.foldl (fun n p => n + 2 ^ p) 0 } }

/-- POWER_DOWN_COMPLETE: entry completes (R437, R439). A port that still trains toward L2 holds D2 back. -/
def execPowerDownComplete (s : State) : State :=
  let t := s.rd PMU_STAT_ARM
  if t = 0 ∨ !s.pmu.down then s
  else
    match aborts t s with
    | some i => abortEntry i s
    | none =>
      if (List.range 2).any (fun p => decide (s.pmu.askedL2 / 2 ^ p % 2 = 1 ∧ linkOf s p ≠ 7)) then s
      else
        let u := (s.wr PMU_STAT_STATE t).wr PMU_STAT_ARM 0
        let u := { u with pmu := { u.pmu with down := false, askedL2 := 0, reply := none } }
        if t = 2 then
          let v := (u.wr SMC_STAT_SAFE_OFF 0).wr SMC_STAT_LIMP_REQ 1
          { v with smc := { v.smc with alive := false } }
        else refreshCeiling 0 u

/-- RETURN_TO_D0: the wake from D1 completes (R441). -/
def execReturnToD0 (s : State) : State :=
  if s.pmu.waking ∧ s.rd PMU_STAT_STATE = 1 ∧ s.rd PMU_STAT_ARM = 0 then
    let t := leaveSleep (s.wr PMU_STAT_STATE 0)
    refreshCeiling 0 { t with pmu := { t.pmu with waking := false, hit := none } }
  else s

/-! ### Resets -/

/-- The registers of a list keep their values. -/
def keepRegs (l : List Nat) (old s : State) : State := s.forL l (fun a t => t.setReg a (old.reg a))

/-- What every reset but power-on keeps: the AON registers and the CMAC keys (R269, R273, R446, R450); the HB pins' levels. -/
def keepAon (old s : State) : State :=
  let t := keepRegs [PMU_CFG, PMU_WAKE_EN, PMU_WAKE_STAT, PMU_REFUSE, PMU_TIMER] old s
  let t := (t.wr PMU_STAT_PWR_EN (old.rd PMU_STAT_PWR_EN)).wr PMU_STAT_VCORE_PG (old.rd PMU_STAT_VCORE_PG)
  let t := t.wr CMD_KEY_STAT_LOADED (old.rd CMD_KEY_STAT_LOADED)
  let t := { t with cmd := { t.cmd with keys := old.cmd.keys } }
  let t := (t.wr (HLx_HB_LEVEL 0) (old.rd (HLx_HB_LEVEL 0))).wr (HLx_HB_LEVEL 1) (old.rd (HLx_HB_LEVEL 1))
  syncKeyEn t

/-- What a wake reset keeps besides (R446): the trim map, the health map, the straps latched, and the surface memory. -/
def keepWake (old s : State) : State :=
  let t := keepRegs [SMEM_CFG, SMEM_STAT, SMEM_EYE, SMEM_USABLE, SMC_STRAPS] old s
  let t := (t.wr SMC_STRAPS_CHANGED 0).wr PXA_STAT_TRIM_LOADED 1
  let t := (t.wr DEV_CONFIG_SMEM_TRAINED (old.rd DEV_CONFIG_SMEM_TRAINED)).wr DEV_CONFIG_SMEM_SIZE (old.rd DEV_CONFIG_SMEM_SIZE)
  syncHealth { t with smem := { old.smem with recentred := 0 },
                      pxa := { t.pxa with trim := old.pxa.trim },
                      pxh := { t.pxh with health := old.pxh.health },
                      pmu := { t.pmu with strapD2 := old.pmu.strapD2 } }

/-- A reset with a cause (R446). Fuses stay programmed; the model's own clock, queue and counter go on. -/
def engineReset (cause : Nat) (s : State) : State :=
  let t := { State.reset with now := s.now, pending := s.pending, freeCtr := s.freeCtr,
                              smc := { State.reset.smc with sealFuse := s.smc.sealFuse, jtagFuse := s.smc.jtagFuse } }
  let t := showFuses t
  let t := if cause = 0 then t else keepAon s t
  let t := if cause = 5 then keepWake s t else t
  t.wr PMU_RST_CAUSE_CAUSE (2 ^ cause)

/-- POWER_ON_RESET: VDD18 rises, or drops below 1.60 V (R446). -/
def execPowerOnReset (s : State) : State := engineReset 0 s

/-- RESET_N_LOW: RESET_N has been low for 1 µs (R446). In D3 nothing runs that it would reset. -/
def execResetNLow (s : State) : State := if s.pmu.off then s else engineReset 2 s

/-! ### Wake sources -/

/-- A wake source fires (R440, R441). In D0 with no entry under way it has nothing to wake. -/
def wakeFire (n : Nat) (s : State) : State :=
  if s.pmu.off ∨ !(s.bitOf PMU_WAKE_EN_SRC n) then s
  else
    let t := s.setBit PMU_WAKE_STAT_SRC n
    if s.rd PMU_STAT_ARM ≠ 0 then abortEntry (0x10 + n) t
    else if s.rd PMU_STAT_STATE = 1 then { t with pmu := { t.pmu with waking := true } }
    else if s.rd PMU_STAT_STATE = 2 then engineReset 5 t
    else s

/-- WAKE_SOURCE_FIRE (R440, R441). -/
def execWakeSourceFire (n : Fin 8) (s : State) : State := wakeFire n.val s

/-- PMU_TIMER_EXPIRY (R441): the timer counts from the completion of entry. -/
def execPmuTimerExpiry (s : State) : State :=
  if s.rd PMU_TIMER_MS ≠ 0 ∧ s.rd PMU_STAT_STATE ≠ 0 then wakeFire 5 s else s

/-! ### Power pins -/

/-- PWR_EN_HIGH: PWR_EN is qualified high (R441, R444 to R446). -/
def execPwrEnHigh (s : State) : State :=
  let t := s.wr PMU_STAT_PWR_EN 1
  if s.pmu.off then engineReset 1 t else if s.rd PMU_STAT_STATE ≠ 0 then wakeFire 0 t else t

/-- What D3 clears from D2: the retained regions and the SMEM training state (R445). -/
def loseRetained (s : State) : State :=
  let t := (s.wr SMEM_STAT_TRAINED 0).wr DEV_CONFIG_SMEM_TRAINED 0
  { t with pxa := { t.pxa with trim := [] }, pxh := { t.pxh with health := [] }, smem := { t.smem with mem := [], bad := [] } }

/-- PWR_EN_LOW: PWR_EN is qualified low, and the engine goes to D3 (R445). -/
def execPwrEnLow (s : State) : State :=
  let t := s.wr PMU_STAT_PWR_EN 0
  if s.pmu.off then t
  else
    let u :=
      if s.rd PMU_STAT_STATE = 2 then loseRetained t
      else
        let v := railForceStop (goDark 0 t)
        let v := (fanDisable (lvlDisable v).1).1
        (v.forN 8 (fun n w => (sqDisable n w).1)).wr SMEM_STAT_SR 1
    let u := (u.wr SMC_STAT_SAFE_OFF 0).wr SMC_STAT_LIMP_REQ 1
    { u with smc := { u.smc with alive := false }, pmu := { u.pmu with off := true, released := false } }

/-- VCORE_PG_LOW: VCORE_PG has been low for longer than PG_FILT (R444); the VSETTLE after a write of VSEL is left out. -/
def execVcorePgLow (s : State) : State :=
  if s.now < s.pmu.vselAt + s.rd PMU_CFG_VSETTLE * 10000 then s
  else raise 0x65 (s.rd PMU_OP_VSEL) ((s.wr PMU_STAT_VCORE_PG 0).wr PMU_OP_BYPASS 1)

/-- VCORE_PG_RESET: VCORE_PG has stayed low for 1 ms (R444). -/
def execVcorePgReset (s : State) : State := if s.bit PMU_STAT_VCORE_PG then s else engineReset 4 s

/-! ### Boot -/

/-- INTERNAL_RESET_RELEASE: the internal reset is released, unless TEST_MODE holds it (R447, R483); VCORE_PG has been high for
VSETTLE. The SMC starts, the PLLs lock, and both ports go to DETECT. -/
def execInternalResetRelease (testMode : Bool) (s : State) : State :=
  if s.pmu.released ∨ s.pmu.off ∨ testMode ∨ !s.bit PMU_STAT_PWR_EN then s
  else
    let t := { s with pmu := { s.pmu with released := true }, smc := { s.smc with startAt := s.now } }
    let t := ((t.wr PMU_STAT_VCORE_PG 1).wr CKU_STAT_REF_OK 1).wr CKU_STAT_LOCK 0x1F
    t.forN 2 (fun p u => (portEnable p u).1)

/-- CORE_BOOT_DONE: both cores have checked their ROM (R302, R447); `romOk` says whether both checks passed. -/
def execCoreBootDone (romOk : Bool) (s : State) : State :=
  if !s.pmu.released ∨ s.pmu.off ∨ s.bit PMU_STAT_BOOT_DONE ∨ s.bit PMU_STAT_BOOT_ERR then s
  else if romOk then
    let t := ((s.wr PMU_STAT_BOOT_DONE 1).wr CCX_STAT_CCA_STATE 5).wr CCX_STAT_CCB_STATE 4
    let t := { t with ccx := { t.ccx with beatA := t.now, beatB := t.now } }
    if t.bit PMU_CFG_AUTO_RUN then scnStart (t.wr SCN_CTRL_RUN 1) else t
  else ((s.wr PMU_STAT_BOOT_ERR 1).wr CCX_STAT_CCA_STATE 0).wr CCX_STAT_CCB_STATE 0

/-! ### Operating points -/

/-- A VSCALE is complete: its answer (R443). -/
def vscaleEnd (s : State) : State :=
  let t := s.wr PMU_OP_CHANGING 0
  let t := { t with pmu := { t.pmu with vscale := none } }
  match s.pmu.vscale with
  | some o => finish o ⟨.ok, [(t.reg PMU_OP).toNat], none⟩ t
  | none => t

/-- VSCALE (R443). -/
def vscale (o : Outst) (s : State) : Res :=
  let op := o.cmd.p0
  if 4 ≤ op then ans s .badParam
  else if s.bit PMU_OP_CHANGING ∨ s.rd PMU_STAT_STATE ≠ 0 then ans s .busy
  else
    let now := s.rd PMU_OP_V_OK
    let t := s.wr PMU_OP_TARGET op
    if op = now then okW t [(t.reg PMU_OP).toNat]
    else
      let t := holdCmd o { t with pmu := { t.pmu with vscale := some o, vselOld := t.rd PMU_OP_VSEL } }
      let t := t.wr PMU_OP_CHANGING 1
      answerLater (if now < op then driveVsel (10 * (op + 1)) t else t.wr PMU_OP_BYPASS 1)

/-- A raise waits for VCORE_PG. -/
def raiseWaits (s : State) : Bool :=
  s.bit PMU_OP_CHANGING && decide (s.rd PMU_OP_V_OK < s.rd PMU_OP_TARGET)

/-- VSCALE_SETTLED: VCORE_PG has been high for VSETTLE after a raise (R443). -/
def execVscaleSettled (s : State) : State :=
  if raiseWaits s then (s.wr PMU_OP_V_OK (s.rd PMU_OP_TARGET)).wr PMU_OP_BYPASS 1 else s

/-- VSCALE_TIMEOUT: a raise has not been confirmed within 1 ms (R443). -/
def execVscaleTimeout (s : State) : State :=
  if raiseWaits s then
    let t := (driveVsel s.pmu.vselOld s).wr PMU_OP_CHANGING 0
    let t := refusedBy 0x0D (t.bump PMU_REFUSE_REFUSALS)
    let u := { t with pmu := { t.pmu with vscale := none } }
    match s.pmu.vscale with
    | some o => finish o ⟨.powerRefused, [0x0D], none⟩ u
    | none => u
  else s

/-- CORE_PLL_RELOCK: the core PLL has relocked, and CORE leaves the bypass clock (R443). Without a VSCALE it ends the bypass
that a VCORE_PG dip caused, the pin being high again (DEDUCED, log entry 54). -/
def execCorePllRelock (s : State) : State :=
  if !s.bit PMU_OP_BYPASS then s
  else
    let t := s.wr PMU_OP_BYPASS 0
    if s.bit PMU_OP_CHANGING then
      let op := s.rd PMU_OP_TARGET
      vscaleEnd (if t.rd PMU_OP_VSEL = 10 * (op + 1) then t.wr PMU_OP_F_OP op else setOp op t)
    else t.wr PMU_STAT_VCORE_PG 1

/-- POWER_QUERY (R450). -/
def powerQuery (o : Outst) (s : State) : Res :=
  if o.cmd.p0 ≠ 0 then ans s .badParam
  else okW s ([PMU_STAT, PMU_OP, PMU_WAKE_STAT, PMU_REFUSE, PMU_RST_CAUSE].map (fun a => (s.reg a).toNat))

/-- PMU_CTRL.CNT_CLR (R450). -/
def pmuCntClr (s : State) : State := (s.wr PMU_REFUSE_REFUSALS 0).wr PMU_REFUSE_ABORTS 0

/-! ### Firmware patches -/

/-- The first failing check of a whole patch image (R448). -/
def patchCheck (b : List Nat) (s : State) : Option Nat :=
  let code := le32 b 8
  let w0 := le32 b 0
  if b.length ≠ 80 + code ∨ code < 4 ∨ 65456 < code ∨ code % 4 ≠ 0 then some 1
  else if w0 / 65536 ≠ 0x5046 ∨ w0 / 256 % 256 ≠ 1 ∨ w0 % 256 ≠ 0 ∨ le32 b 12 ≠ 0 then some 2
  else if le32 b 4 / 65536 ≠ s.rd DEV_FW_ROM_VER then some 3
  else if le32 b 4 % 65536 ≤ s.rd DEV_FW_PATCH_LVL then some 4
  else if !Config.patchSigned b then some 5
  else none

/-- FW_PATCH_LOAD (R448). -/
def fwPatchLoad (o : Outst) (s : State) : Res :=
  let c := o.cmd
  let last := decide (2 ^ 15 ≤ c.p0)
  let off := c.w 1
  let old := match s.pmu.patch with
    | some p => p.bytes
    | none => []
  if c.p0 % 2 ^ 15 ≠ 0 ∨ (off ≠ 0 ∧ off ≠ old.length) then ans s .badParam
  else
    let b := (if off = 0 then [] else old) ++ bytesOfWords ((c.words.drop 1).map BitVec.toNat)
    if 65536 < b.length then ans s .badLength
    else if last then
      match patchCheck b s with
      | some code => ({ s with pmu := { s.pmu with patch := none } }, some ⟨.tableRejected, [code], none⟩)
      | none => ok { s with pmu := { s.pmu with patch := some ⟨b, true⟩ } }
    else ok { s with pmu := { s.pmu with patch := some ⟨b, false⟩ } }

/-- The activation's checkpoint starts once every admitted command is complete (R449). -/
def patchCkpt (s : State) : State :=
  if s.pmu.activate.isSome ∧ !s.pmu.actCkpt ∧ (incomplete s).isEmpty ∧ !s.bit CCX_CKPT_WRITING then
    startCkpt { s with pmu := { s.pmu with actCkpt := true } }
  else s

/-- FW_PATCH_ACTIVATE (R449): accepted, it stops CMD, and its checkpoint starts once CMD has drained. -/
def fwPatchActivate (o : Outst) (s : State) : Res :=
  if o.cmd.p0 ≠ 0 then ans s .badParam
  else if !s.pmu.patch.any (fun p => p.verified) ∨ !pairReady s ∨ s.bit CCX_CKPT_WRITING then ans s .busy
  else answerLater (patchCkpt { s with pmu := { s.pmu with activate := some o, actCkpt := false } })

/-- PATCH_RESTART_DONE: both cores have restarted with the patch and loaded the checkpoint (R449). -/
def execPatchRestartDone (s : State) : State :=
  match s.pmu.activate, s.pmu.patch with
  | some o, some p =>
    if s.pmu.actCkpt ∧ !s.bit CCX_CKPT_WRITING then
      let t := (bumpCepoch 2 s).wr DEV_FW_PATCH_LVL (le32 p.bytes 4)
      let t := { t with pmu := { t.pmu with activate := none, actCkpt := false, patch := none } }
      replyTo o ⟨.ok, [(t.reg DEV_FW).toNat], none⟩ t
    else s
  | _, _ => s

/-! ### Clocks -/

/-- REF_LOSS (R231, R452): both ports go down; a port that is OFF or in TEST has no link (DEDUCED, log entry 132). -/
def execRefLoss (s : State) : State :=
  if s.bit CKU_STAT_BACKUP then s
  else
    let t := ((s.wr CKU_STAT_REF_OK 0).wr CKU_STAT_BACKUP 1).bump CKU_STAT_REF_LOSSES
    t.forN 2 (fun p u => if u.rd (HLx_STAT_UNIT p) = 0 then u else linkDown p 5 u)

/-- REF_RESTORE (R452). -/
def execRefRestore (s : State) : State := if s.bit CKU_STAT_BACKUP then (s.wr CKU_STAT_REF_OK 1).wr CKU_STAT_BACKUP 0 else s

/-- A range of surface memory is in use by R176. -/
def surfaceUsed (s : State) : Bool := decide (inUseBits s 0x40000000 0x20000000 ≠ 0)

/-- A write of CKU_GATE (R164, R451): BUSY when a domain that it would stop has active users. -/
def gateWrite (v : Nat) (s : State) : State × Status :=
  let cmp := decide (v % 2 = 1) && !s.bit CKU_GATE_CMP
  let smem := decide (v / 2 % 2 = 1) && !s.bit CKU_GATE_SMEM
  let adcp := decide (v / 4 % 2 = 1) && !s.bit CKU_GATE_ADCP
  if (cmp && (decide (s.rd DEV_LADDER_RUNG ≤ 1) || commitAhead s))
      || (smem && (surfaceUsed s || s.bit SMEM_STAT_TRAINING))
      || (adcp && (List.range 8).any (sqOnPair s)) then (s, .busy)
  else
    let t := s.wrWord CKU_GATE (BitVec.ofNat 32 v)
    let t := if cmp then abandonComp t else t
    (if smem then t.wr SMEM_STAT_SR 1 else t, .ok)

/-- A write of CKU_MEAS (R436): a measurement starts. -/
def measWrite (v : Nat) (s : State) : State × Status :=
  if 12 ≤ v / 2 ^ 28 % 16 then (s, .badParam) else (s.wr CKU_MEAS_DOMAIN (v / 2 ^ 28), .ok)

/-- CKU_MEAS_DONE: a measurement ends with the frequency found, in 10 kHz (R436). -/
def execCkuMeasDone (freq : BitVec 18) (s : State) : State :=
  s.wr CKU_MEAS_FREQ (if measStopped s then 0 else freq.toNat)

end Sys2Proof.Machine
end

