-- ==== Sys2Proof/Machine/Frame.lean ====
section
/-!
DEFINITION. The tick, the slot-period start and the events of the slot schedules (R28, R33, R52, R87 to R101, R107 to R113),
which bring together what each unit does at those moments.
-/
namespace Sys2Proof.Machine

/-! ### The tick -/

/-- CMD at a tick: the rate counts and the reply caps of the new frame (R264, R266), and the absence counts (R268). -/
def cmdTick (s : State) : State := quietTick { s with cmd := { s.cmd with rate := [], errSent := [] } }

/-- The SMC's test of the frame that ends, where there was one (R328). -/
def offTick (was : Bool) (s : State) : State :=
  let t := if was ∧ !s.smc.offSeen then offPulseMissing s else s
  { t with smc := { t.smc with offSeen := false } }

/-- The units whose settings and counts belong to a frame: SMC_CFG (R369), THM, PXH, the converters and LE0 (R372). -/
def unitsTick (s : State) : State :=
  let t := adcTick (pxhTick (thmTick (seqActivate (s.takeAct [SMC_CFG]))))
  { t with loops := { t.loops with ocRaised := false } }

/-- FSYNC_LOST of a lock that ACQUIRE did not find: tick 1 is the expiry of its time (R38). -/
def lostTick (was : Bool) (s : State) : State := if !was ∧ 4 ≤ s.rd SCN_STAT_STATE then raise 0x63 4 s else s

/-- Banks, what moves the engine down, then the moves up the ladder that wait for a tick (R52, R199, R328, R360, R361, R511). The
events of the tick are raised in ascending source ID (R421). `was` says that the PLL has ticked since RUN, `first` that it is tick
1 after reset. -/
def moveTick (was first : Bool) (s : State) : State :=
  let r := cmpTick s
  let t := releaseTick r.swapped r.fallback r.repeated (offTick was (stuckTick r.state))
  let t := lostTick was (thmDarkCheck (if first then startUpPlain t else t))
  match r.refused with
  | some src => recoveryRefuse src t
  | none => t

/-- The slot period in play is at its end: every sequencer's walk is over (R51, R87). -/
def slotDone (s : State) : Bool := (List.range 4).all (fun q => (nextEvent s q).isNone)

/-- The stitch counter is about to wrap from the last slot period of the frame (R33), or no tick has come since RUN. -/
def frameDone (s : State) : Bool := !s.frame.ticked || (decide (slotsOf s ≤ s.frame.slotNext) && slotDone s)

/-- TICK: the stitch counter wraps to slot 0 (R28, R33), after the S slot periods of the frame. No tick comes while the PLL is
OFF or in ACQUIRE (R38). -/
def execTick (s : State) : State :=
  if !pllTicks s ∨ !frameDone s then s
  else
    let first := !s.frame.ticked && decide (s.rd DEV_FN_FN = 0)
    let t := modeTick (hemTick (spbTick (unitsTick (scnTick s))))
    plainLevel (traceEvent 5 0 (cmdTick (moveTick s.frame.ticked first t)))

/-! ### The slot-period start -/

/-- What waits for the boundary between two slot periods' loads: records, trim rows, the spare-adjust table (R74, R77, R194). -/
def slotTables (errs : List EccErr) (s : State) : State :=
  let t := trimWrite (retireAll errs s)
  match t.pxa.spadjNext with
  | some l =>
    { t with pxa := { t.pxa with spadj := (List.range 128).foldl (fun m i => storeSet 1024 m i (l.getD i 0)) [], spadjNext := none } }
  | none => t

/-- A bad schedule word of the slot period before takes the engine to DEGRADED-P (R110). -/
def slotPlain (s : State) : State :=
  if s.seq.goPlain then requireRung 2 0x26 { s with seq := { s.seq with goPlain := false } } else s

/-- SLOT_PERIOD_START: the next slot period of the frame starts, after the whole of the one before (R33, R63, R85, R92, R108,
R112). -/
def execSlotPeriodStart (errs : List EccErr) (s : State) : State :=
  let k := s.frame.slotNext
  if !pllTicks s ∨ !s.frame.ticked ∨ slotsOf s ≤ k ∨ (k ≠ 0 ∧ !slotDone s) then s
  else
    let t := slotPlain { s with frame := { s.frame with slotNext := k + 1, slotAt := s.now } }
    let t := ffSlot (thmSlot (pxhSlot k errs (slotTables errs (modeSlot (noteErrs errs t)))))
    let was := s.rd (SEQ_STAT_MODE 0)
    let u := seqSlotStart k (clearSums t)
    if u.rd (SEQ_STAT_MODE 0) = 2 ∧ was ≠ 2 then plainLevel u else u

/-! ### Schedule events -/

/-- LOAD (R58, R89). -/
def execLoad (q : Fin 4) (errs : List EccErr) (s : State) : State :=
  walk evLoad q.val errs (fun _ a t =>
    loadRows (t.rd (SEQ_STAT_MODE q.val)) errs q.val (seqOne t q.val).pat (a % 1024) (a / 1024 + 1) t) s

/-- TRANSFER (R59, R91, R110, R360, R471): the columns of a sequencer that met a bad word load dark, once. `sns` is the level of
SAFE_SNS. -/
def execTransfer (q : Fin 4) (sns : Bool) (errs : List EccErr) (s : State) : State :=
  walkArray evTransfer q.val errs (fun _ _ t =>
    let t := t.wr SMC_STAT_SAFE_SNS (boolNat sns)
    let u := colTransfer (transferLatches (t.rd (SEQ_STAT_MODE q.val)) ((List.range 4).filter (fun j => (seqOne t j).dark)) t)
    u.forN 4 (fun j v => setSeqOne j { seqOne v j with dark := false } v)) s

/-- MEAS (R95): `hr` and `vf` are the pixels whose headroom and low forward-voltage comparators trip. -/
def execMeas (q : Fin 4) (hr vf : List Nat) (errs : List EccErr) (s : State) : State :=
  walk evMeas q.val errs (fun st a t => measEvent q.val st (a % 4) hr vf errs t) s

/-- PROOF (R96). -/
def execProof (q : Fin 4) (errs : List EccErr) (s : State) : State := walkArray evProof q.val errs proofEvent s

/-- OFFPULSE (R97, R328, R329): `b` is what the readbacks show. -/
def execOffpulse (q : Fin 4) (b : OffObs) (errs : List EccErr) (s : State) : State :=
  walkArray evOffpulse q.val errs (fun _ _ t => offPulse b t) s

/-- DARKSCAN (R98, R199, R200): bit z of `sense` says that zone z shows emission. -/
def execDarkscan (q : Fin 4) (sense : BitVec 8) (errs : List EccErr) (s : State) : State :=
  walkArray evDarkscan q.val errs (fun _ a t => darkscanEvent a sense.toNat t) s

/-- TEMP_DEMAND (R100, R210). -/
def execTempDemand (q : Fin 4) (tie : Bool) (errs : List EccErr) (s : State) : State :=
  walk evTempDemand q.val errs (fun st a t => tempDemand tie (issueKey q.val st t) a t) s

/-- ADC_TRIG (R100, R405). -/
def execAdcTrig (q : Fin 4) (errs : List EccErr) (s : State) : State := walk evAdcTrig q.val errs (fun st a t => adcTrig (issueKey q.val st t) a t) s

/-- CAL_WIN (R99, R470): the measurements of its stitches, in order. -/
def execCalWin (q : Fin 4) (es : List ColErr) (errs : List EccErr) (s : State) : State :=
  walk evCalWin q.val errs (fun _ a t => calWin q.val a es t) s

/-- LOOP_FF (R94, R374). -/
def execLoopFf (q : Fin 4) (errs : List EccErr) (s : State) : State :=
  walkArray evLoopFf q.val errs (fun _ _ t =>
    railFf ((List.range 8).foldl (fun n z => n + storeGet 0 t.pxa.ffAT z) 0) t) s

/-- PATTERN_SEL (R93). -/
def execPatternSel (q : Fin 4) (errs : List EccErr) (s : State) : State :=
  walk evPatternSel q.val errs (fun _ a t => setSeqOne q.val { seqOne t q.val with pat := a % 8 } t) s

/-- STAGGER (R60, R92). -/
def execStagger (q : Fin 4) (errs : List EccErr) (s : State) : State :=
  walk evStagger q.val errs (fun _ a t =>
    { t with seq := { t.seq with stagBack := storeSet 0 t.seq.stagBack (a / 1024) (a % 1024) } }) s

/-- END (R87). -/
def execEnd (q : Fin 4) (errs : List EccErr) (s : State) : State :=
  walk evEnd q.val errs (fun _ _ t => setSeqOne q.val { seqOne t q.val with ended := true } t) s

end Sys2Proof.Machine
end

