-- ==== Sys2Proof/Machine/RegWrite.lean ====
section
/-!
DEFINITION. What a register write does (R5 to R10, R282): the checks of the address, of the access type and of the fields'
ranges, and the effects that the chapters give the writes of single registers. A write is a word `x` with the bits `m` that
it acts on: WRITE_REG acts on all 32 bits, MODIFY_REG on those of its mask; in the other bits `x` has what the register holds.
-/
namespace Sys2Proof.Machine

/-- A field is acted on, and takes a 1 in some bit. -/
def hits (f : Fld) (x m : Word) : Bool := decide (fv (x &&& m) f ≠ 0)

/-- A field is acted on. -/
def actsOn (f : Fld) (m : Word) : Bool := decide (fv m f ≠ 0)

/-- SMC_CTRL.CNT_CLR (R369). -/
def smcCntClr (s : State) : State := (s.setReg SMC_COUNT0 0#32).setReg SMC_COUNT1 0#32

/-! ### Counter clears -/

/-- The registers with a CNT_CLR bit, and what each clears. -/
def cntClrOf (a : Nat) : Option (Fld × (State → State)) :=
  match a with
  | 0x10000 => some (HLx_CTRL_CNT_CLR 0, hlCntClr 0)
  | 0x20000 => some (HLx_CTRL_CNT_CLR 1, hlCntClr 1)
  | 0x30000 => some (CMD_CTRL_CNT_CLR, cmdCntClr)
  | 0x40000 => some (CCX_CTRL_CNT_CLR, ccxCntClr)
  | 0x50000 => some (SMC_CTRL_CNT_CLR, smcCntClr)
  | 0x60000 => some (CMP_CTRL_CNT_CLR, cmpCntClr)
  | 0x70000 => some (SCN_CTRL_CNT_CLR, scnCntClr)
  | 0x80000 => some (SEQ_CTRL_CNT_CLR 0, seqCntClr 0)
  | 0x84000 => some (SEQ_CTRL_CNT_CLR 1, seqCntClr 1)
  | 0x88000 => some (SEQ_CTRL_CNT_CLR 2, seqCntClr 2)
  | 0x8C000 => some (SEQ_CTRL_CNT_CLR 3, seqCntClr 3)
  | 0x90000 => some (PXA_CTRL_CNT_CLR, pxaCntClr)
  | 0xA0000 => some (PXH_CTRL_CNT_CLR, pxhCntClr)
  | 0xB0000 => some (THM_CTRL_CNT_CLR, thmCntClr)
  | 0xC0000 => some (LE0_CTRL_CNT_CLR, le0CntClr)
  | 0xE0000 => some (ADC_CTRL_CNT_CLR, adcCntClr)
  | 0xF0000 => some (FCR_CTRL_CNT_CLR, fcrCntClr)
  | 0x100000 => some (PMU_CTRL_CNT_CLR, pmuCntClr)
  | 0x120000 => some (CRC_CTRL_CNT_CLR, crcCntClr)
  | 0x130000 => some (CAL_CTRL_CNT_CLR, calCntClr)
  | 0x140000 => some (SMEM_CTRL_CNT_CLR, smemCntClr)
  | 0x150000 => some (LME_CTRL_CNT_CLR, lmeCntClr)
  | _ => none

/-- The counter clear of a write. -/
def cntClr (a : Nat) (x m : Word) (s : State) : State :=
  match cntClrOf a with
  | some (f, g) => if hits f x m then g s else s
  | none => s

/-! ### Effects of single registers -/

/-- A write succeeded so far. -/
def went (x : State × Status) : Bool := decide (x.2 = .ok ∨ x.2 = .acceptedPending)

/-- Two effects of one write: the second is judged after the first, and a refusal of either refuses the write. Of two
accepted ones the later unit's status answers. -/
def andThen (x : State × Status) (g : State → State × Status) : State × Status :=
  if went x then
    let y := g x.1
    (y.1, if y.2 = .ok then x.2 else y.2)
  else x

/-- An enable bit acts as ENABLE or DISABLE of its unit (R279, R401). -/
def enableBit (f : Fld) (x m : Word) (en dis : State → State × Status) (s : State) : State × Status :=
  if actsOn f m then (if hits f x m then en s else dis s) else (s, .ok)

/-- HLx_CTRL and HLx_ATTN_STAT (R231, R249, R250). -/
def hlWrite (p a : Nat) (x m : Word) (s : State) : State × Status :=
  if a = HLx_CTRL p then
    let r := enableBit (HLx_CTRL_EN p) x m (portEnable p) (portDisable p) s
    if went r ∧ hits (HLx_CTRL_RETRAIN p) x m then (retrain p r.1, r.2) else r
  else (s.wrWord a x, .ok)

/-- CMD_KEY_CTRL and the staging words (R272, R273). -/
def cmdWrite (a : Nat) (x m : Word) (s : State) : State × Status :=
  if a = CMD_KEY_CTRL then keyCtrl (fv (x &&& m) CMD_KEY_CTRL_LOAD) (fv (x &&& m) CMD_KEY_CTRL_CLR) s
  else if CMD_KEY_STAGEn 0 ≤ a ∧ a < CMD_KEY_STAGEn 4 then keyStage ((a - CMD_KEY_STAGEn 0) / 4) x.toNat s
  else (s.wrWord a x, .ok)

/-- What a field's 1 starts, if the write puts a 1 there. -/
def onHit (f : Fld) (x m : Word) (g : State → State × Status) (s : State) : State × Status :=
  if hits f x m then g s else (s, .ok)

/-- CCX_CTRL (R308, R310, R314): checkpoint, core resets, handover. A refusal of one of them refuses the write. -/
def ccxWrite (a : Nat) (x m : Word) (s : State) : State × Status :=
  if a = CCX_CTRL then
    andThen (andThen (andThen (onHit CCX_CTRL_CKPT x m (fun u => (ccxCkpt u, .ok)) (s.wrWord a x))
      (onHit CCX_CTRL_RST_CCA x m (ccxRstCore 0))) (onHit CCX_CTRL_RST_CCB x m (ccxRstCore 1)))
      (onHit CCX_CTRL_SWAP x m ccxSwap)
  else (s.wrWord a x, .ok)

/-- SO_EN alone (R45). -/
def soWrite (so : Bool) (s : State) : State :=
  let t := s.wr SCN_CTRL_SO_EN (boolNat so)
  if so then t else { t with frame := { t.frame with syncOut := false } }

/-- SCN_CTRL (R38, R43, R45). -/
def scnWrite (a : Nat) (x m : Word) (s : State) : State × Status :=
  if a = SCN_CTRL then
    let so := decide (fv x SCN_CTRL_SO_EN = 1)
    if actsOn SCN_CTRL_RUN m then
      match scnCtrlWrite (hits SCN_CTRL_RUN x m) so s with
      | some t => (t, .ok)
      | none => (s, .busy)
    else (if actsOn SCN_CTRL_SO_EN m then soWrite so s else s, .ok)
  else (s.wrWord a x, .ok)

/-- THM_CTRL and THM_BROKENn (R216, R217). -/
def thmWrite (a : Nat) (x m : Word) (s : State) : State × Status :=
  if a = THM_CTRL then
    let t := s.wrWord a x
    (if hits THM_CTRL_XCHK_RUN x m then xchkRun t else t, .ok)
  else if THM_BROKEN0 ≤ a ∧ a ≤ THM_BROKEN2 then (thmBrokenClear ((a - THM_BROKEN0) / 4) (x &&& m).toNat s, .ok)
  else (s.wrWord a x, .ok)

/-- Registers of LE0 (R376, R380, R381, R384, R397). -/
def le0Write (a : Nat) (x m : Word) (s : State) : State × Status :=
  if a = LE0_CTRL then
    andThen (enableBit LE0_CTRL_EN x m railEnable railDisable s)
      (fun t => (t.wr LE0_CTRL_AUTO (fv x LE0_CTRL_AUTO), .ok))
  else if a = LE0_SET_SEL then setSelWrite (fv x LE0_SET_SEL_SET) s
  else if a = LE0_FB then (le0FbClear (x &&& m).toNat s, .ok)
  else if loopRegBusy a x s then (s, .busy)
  else (s.wrWord a x, .ok)

/-- Registers of LE1 (R389, R390, R393, R394, R396, R397). HALL_EN of the same write is judged first (DEDUCED, log entry 55). -/
def le1Write (a : Nat) (x m : Word) (s : State) : State × Status :=
  if a = LE1_CTRL then
    let t := syncAim (s.wr LE1_CTRL_HALL_EN (fv x LE1_CTRL_HALL_EN))
    andThen (enableBit LE1_CTRL_LVL_EN x m lvlEnable lvlDisable t) (enableBit LE1_CTRL_FAN_EN x m fanEnable fanDisable)
  else if a = LE1_LVL_SP then
    if lvlSpOk (s.reg LE1_LVL_LIM) (toSigned 16 (fv x LE1_LVL_SP_SP)) then (s.wrWord a x, .ok) else (s, .badParam)
  else if a = LE1_FB then (le1FbClear (x &&& m).toNat s, .ok)
  else if loopRegBusy a x s then (s, .busy)
  else (s.wrWord a x, .ok)

/-- The sequence whose register lies at an offset of the ADC block. -/
def sqOfAddr (a : Nat) : Nat := (a - ADC_SQn_CTRL 0) / 0x20

/-- Registers of the converters (R410, R415, R416, R418, R473). -/
def adcWrite (a : Nat) (x m : Word) (s : State) : State × Status :=
  if ADC_SQn_CTRL 0 ≤ a ∧ a < ADC_SQn_CTRL 8 ∧ a % 0x20 = 0 then
    enableBit (ADC_SQn_CTRL_EN (sqOfAddr a)) x m (sqEnable (sqOfAddr a)) (sqDisable (sqOfAddr a)) s
  else if ADC_SQn_CTRL 0 ≤ a ∧ a < ADC_SQn_CTRL 8 ∧ a % 0x20 = 0x14 then rptrWrite (sqOfAddr a) x.toNat s
  else if adcRegBusy a s then (s, .busy)
  else if ADC_SQn_CTRL 0 ≤ a ∧ a < ADC_SQn_CTRL 8 ∧ a % 0x20 = 0xC then (syncFill (sqOfAddr a) (s.wrWord a x), .ok)
  else (s.wrWord a x, .ok)

/-- PMU_CTRL and PMU_WAKE_EN (R441, R446). -/
def pmuWrite (a : Nat) (x m : Word) (s : State) : State × Status :=
  if a = PMU_CTRL then (if hits PMU_CTRL_SWRST x m then engineReset 3 s else s, .ok)
  else if a = PMU_WAKE_EN then (s.wrWord a (x ||| 0x81#32), .ok)
  else (s.wrWord a x, .ok)

/-- CKU_GATE and CKU_MEAS (R436, R451). -/
def ckuWrite (a : Nat) (x m : Word) (s : State) : State × Status :=
  if a = CKU_GATE then gateWrite x.toNat s
  else if a = CKU_MEAS then (if actsOn CKU_MEAS_DOMAIN m then measWrite x.toNat s else (s, .ok))
  else (s.wrWord a x, .ok)

/-- Registers of the check-value units and of the scan (R455, R458, R464). -/
def crcWrite (a : Nat) (x m : Word) (s : State) : State × Status :=
  if CRC_Un_CFG 0 ≤ a ∧ a < CRC_Un_CFG 4 then
    let n := (a - CRC_Un_CFG 0) / 0x20
    if a % 0x20 = 0 then (if actsOn (CRC_Un_CFG_ALG n) m then crcCfgWrite n (fv x (CRC_Un_CFG_ALG n)) s else (s, .ok))
    else if a % 0x20 = 4 then (if m = 0#32 then (s, .ok) else crcBindWrite n x.toNat s)
    else crcValueWrite n x.toNat s
  else if a = CRC_SCAN_CTRL then
    if actsOn CRC_SCAN_CTRL_SURF_EN m then crcScanCtrlWrite x.toNat s
    else (s.wr CRC_SCAN_CTRL_SRAM_EN (fv x CRC_SCAN_CTRL_SRAM_EN), .ok)
  else (s.wrWord a x, .ok)

/-- Registers of SMEM (R156, R157, R178). -/
def smemRegWrite (a : Nat) (x m : Word) (s : State) : State × Status :=
  if a = SMEM_CTRL then
    andThen (if hits SMEM_CTRL_TRAIN x m then smemTrain s else (s, .ok))
      (fun t => (t.wr SMEM_CTRL_GUARD (fv x SMEM_CTRL_GUARD), .ok))
  else if a = SMEM_CFG then (if smemCfgBusy s then (s, .busy) else (s.wrWord a x, .ok))
  else (s.wrWord a x, .ok)

/-- The effect of a write on the register at `a`, counter clears apart. -/
def regHook (a : Nat) (x m : Word) (s : State) : State × Status :=
  match a / 0x10000 with
  | 0x1 => hlWrite 0 a x m s
  | 0x2 => hlWrite 1 a x m s
  | 0x3 => cmdWrite a x m s
  | 0x4 => ccxWrite a x m s
  | 0x7 => scnWrite a x m s
  | 0xB => thmWrite a x m s
  | 0xC => le0Write a x m s
  | 0xD => le1Write a x m s
  | 0xE => adcWrite a x m s
  | 0x10 => pmuWrite a x m s
  | 0x11 => ckuWrite a x m s
  | 0x12 => crcWrite a x m s
  | 0x14 => smemRegWrite a x m s
  | _ => (s.wrWord a x, .ok)

/-- The W1C bits of a write clear, where the register has no effect of its own; a bit that hardware sets in the same cycle stays
(R5, R7). -/
def w1cClear (c a : Nat) (x m : Word) (s : State) : State :=
  if a = LE0_FB ∨ a = LE1_FB ∨ (THM_BROKEN0 ≤ a ∧ a ≤ THM_BROKEN2) then s
  else s.setReg a (s.reg a &&& ~~~(BitVec.ofNat 32 (s.w1cMask a (x &&& m &&& BitVec.ofNat 32 c).toNat)))

/-! ### The write -/

/-- The layer whose register lies at an address, its aliases included (R117). -/
def layerOf (a : Nat) : Option Nat :=
  if 0x60400 ≤ a ∧ a < 0x60600 then some ((a - 0x60400) / 0x40)
  else if 0x60C00 ≤ a ∧ a < 0x60E00 then some ((a - 0x60C00) / 0x40)
  else none

/-- The channel that writes a layer's register does not own the layer, by the entry the command was admitted by (R117, R270); writes
of the block itself have no channel. -/
def layerDenied (chan : Option (Nat × Nat)) (a : Nat) : Bool :=
  match chan, layerOf a with
  | some c, some k => !entryOwns c.2 k
  | _, _ => false

/-- An accepted write of a layer's shadow is recorded (R117). -/
def layerNote (chan : Option (Nat × Nat)) (a : Nat) (s : State) : State :=
  match chan, layerOf a with
  | some c, some k => ownerNote c.1 k s
  | _, _ => s

/-- The safety parameter block is sealed: RWL registers are read-only (R5). -/
def spbSealed (s : State) : Bool := s.bit DEV_CONFIG_SPB_SEALED

/-- The steps that wait for CAL own the converter trims while a converter run is not OFF (DEDUCED, log entry 56). -/
def trimBusy (a : Nat) (s : State) : Bool :=
  (decide (a = ADC_SKEW) || decide (ADC_TRIMn 0 ≤ a ∧ a < ADC_TRIMn 4)) && decide (calUnit s 6 ≠ 0)

/-- A write to a register that exists and whose block is reachable. Counters clear before the write's other effects, which may count
in the same cycle (R323, R401); a refused write changes nothing. -/
def regApply (chan : Option (Nat × Nat)) (r : RegInfo) (a : Nat) (x m : Word) (s : State) : State × Status :=
  if layerDenied chan a then (s, .notPrivileged)
  else if r.acc = .ro then (s, .ok)
  else if r.acc = .rwl ∧ spbSealed s then (s, if s.maskWord a x = s.reg a then .ok else .notPrivileged)
  else if !rangeOk a x then (s, .badParam)
  else if trimBusy a s then (s, .busy)
  else
    let h := regHook a x m (cntClr a x m s)
    if went h then (layerNote chan a (if r.cmask = 0 then h.1 else w1cClear r.cmask a x m h.1), h.2) else (s, h.2)

/-- A write of a word of surface memory by a register command (R158, R159, R161, R442). -/
def surfWordWrite (errs : List EccErr) (a : Nat) (v : Word) (s : State) : State × Status :=
  if !s.bit DEV_CONFIG_SMEM_TRAINED then (s, .blockOff)
  else if smemOff s then (raise 0x27 a s, .blockOff)
  else if !inUsable s a 4 then (s, .badAddress)
  else (smemWrite errs a (bytesOf v.toNat) s, .ok)

/-- A register write: the value `v` in the bits `m` of the word at `a` (R10, R16, R166, R282, R435, R442). `chan` is the channel of a
host's command, and word W0 of the entry it was admitted by. -/
def regWrite (chan : Option (Nat × Nat)) (errs : List EccErr) (a : Nat) (v m : Word) (s : State) : State × Status :=
  if a % 4 ≠ 0 then (s, .badAddress)
  else if inSram a then (s, .notPrivileged)
  else if inSurface a then surfWordWrite errs a v s
  else if !isReg a || !srcAssigned a then (s, .badAddress)
  else if blockOff s a then (raise 0x27 a s, .blockOff)
  else
    match regInfo a with
    | some r => regApply chan r a ((s.reg a &&& ~~~m) ||| (v &&& m)) m s
    | none => (s, .ok)

/-- A write of all 32 bits, as the block itself or a core makes it. -/
def regPut (a : Nat) (v : Word) (s : State) : State := (regWrite none [] a v 0xFFFFFFFF#32 (s.apart false)).1

/-! ### Write groups -/

/-- The writes of a group, in the order in which the core issued them, all in one step (R304). -/
def applyWrites (l : List RegWrite) (s : State) : State := s.forL l (fun w t => regPut w.addr w.value t)

/-- A group applied whole, with its reply (R304). -/
def applyGroup (g : Group) (s : State) : State :=
  let t := applyWrites g.writes s
  match g.reply with
  | some r => queueReply r t
  | none => t

/-- The group of a list with a journal index. -/
def twinIn (j : Nat) (l : List Group) : Option Group := l.find? (fun g => decide (g.jseq = j))

/-- A list of groups without those of a journal index. -/
def withoutJ (j : Nat) (l : List Group) : List Group := l.filter (fun g => decide (g.jseq ≠ j))

/-- Two groups write a register in common. -/
def sharesReg (g h : Group) : Bool := g.writes.any (fun w => h.writes.any (fun v => decide (v.addr = w.addr)))

/-- A group waits for an earlier one of the same register that has not been applied (R304). The stages see the writes of such a group
in the stand-in that has ended before it, or among the groups that wait themselves. -/
def mustWait (g : Group) (s : State) : Bool :=
  (s.ccx.standins ++ s.ccx.grpWait).any (fun h => later 32 g.jseq h.jseq && sharesReg g h)

/-- Insert a group into a list that rises in JSEQ order. -/
def insertGroup (g : Group) : List Group → List Group
  | [] => [g]
  | h :: hs => if later 32 g.jseq h.jseq then h :: insertGroup g hs else g :: h :: hs

/-- Groups in JSEQ order (R304). -/
def byJseq (l : List Group) : List Group := l.foldl (fun m g => insertGroup g m) []

/-- A group that waits is applied, unless it must still wait. -/
def tryWaiting (g : Group) (s : State) : State :=
  let t := { s with ccx := { s.ccx with grpWait := withoutJ g.jseq s.ccx.grpWait } }
  if mustWait g t then s else applyGroup g t

/-- The groups that wait are applied in JSEQ order as far as they may be (R304). -/
def drainWait (s : State) : State := s.forL (byJseq s.ccx.grpWait) tryWaiting

/-- A register command's outcome; the groups that may now be applied are. -/
def afterWrite (x : State × Status) : Res := resOf (drainWait x.1, x.2)

/-! ### The commands -/

/-- WRITE_REG (R5 to R10). -/
def writeRegCmd (o : Outst) (s : State) : Res :=
  if o.cmd.p0 ≠ 0 then ans s .badParam
  else afterWrite (regWrite (some (o.cmd.ch, o.w0)) o.cmd.errs (o.cmd.w 1) (o.cmd.words.getD 1 0#32) 0xFFFFFFFF#32 (s.apart o.cmd.tie))

/-- MODIFY_REG (R282): word 1 the address, word 2 the mask, word 3 the value. In the surface window the word is read first. -/
def modifyRegCmd (o : Outst) (s : State) : Res :=
  let a := o.cmd.w 1
  if o.cmd.p0 ≠ 0 then ans s .badParam
  else if a % 4 = 0 ∧ inSram a then ans s .notPrivileged
  else
    match readWord o.cmd.errs a s with
    | (t, .error e) => ans t e
    | (t, .ok old) =>
      let m := o.cmd.words.getD 1 0#32
      let v := o.cmd.words.getD 2 0#32
      let w := if inSurface a then (BitVec.ofNat 32 old &&& ~~~m) ||| (v &&& m) else v
      match regWrite (some (o.cmd.ch, o.w0)) o.cmd.errs a w m (t.apart o.cmd.tie) with
      | (u, .ok) => okW (drainWait u) [old]
      | (u, .acceptedPending) => (drainWait u, some ⟨.acceptedPending, [old], none⟩)
      | (u, st) => ans u st

end Sys2Proof.Machine
end

