-- ==== Sys2Proof/Machine/Groups.lean ====
section
/-!
DEFINITION. The output stages in front of the blocks: write groups of the two control cores (R303, R304), and the loss of a
core with the takeover by its standby (R305 to R309).
-/
namespace Sys2Proof.Machine

/-- STALE_WRITE_REJECT: a write of `core` carries an EPOCH that is not CEPOCH (R303, R308). A standby that it demotes leaves no
stand-in. -/
def execStaleWriteReject (core : Fin 2) (epoch : BitVec 15) (s : State) : State :=
  let k := core.val
  if epoch.toNat = s.rd CCX_STAT_CEPOCH then s
  else
    let t := raise 0x76 k ((if coreState s k = 3 then basteFail 5 s else s).bump CCX_COUNT0_STALE_REJECT)
    if k = activeCore t then t.wr (coreFld k) 2 else drainWait (dropStandins (t.wr (coreFld k) 2))

/-- The active and the stand-in group of one index have both ended: they are compared, writes and reply, and the stand-in is discarded
(R304). -/
def compareGroups (g h : Group) (s : State) : State :=
  let t := { s with ccx := { s.ccx with standins := withoutJ g.jseq s.ccx.standins, applied := withoutJ g.jseq s.ccx.applied } }
  if g = h then t
  else
    let t := raise 0x77 g.jseq (t.bump CCX_COUNT1_DIVERGE)
    drainWait (dropStandins (t.wr (coreFld (1 - activeCore t)) 2))

/-- An ended group of the active core is compared with its stand-in, or kept for it while a standby runs (R304). -/
def meetTwin (g : Group) (s : State) : State :=
  match twinIn g.jseq s.ccx.standins with
  | some h => compareGroups g h s
  | none =>
    if coreState s (1 - activeCore s) = 4 then { s with ccx := { s.ccx with applied := s.ccx.applied ++ [g] } } else s

/-- A group of the active core ends (R304): it is compared, and applied in its turn, with the groups that waited for it. -/
def endActive (g : Group) (s : State) : State :=
  let t := meetTwin g s
  drainWait (if mustWait g t then { t with ccx := { t.ccx with grpWait := t.ccx.grpWait ++ [g] } } else applyGroup g t)

/-- A group of the standby ends (R303): a stand-in, compared when the active core's group has ended already. -/
def endStandin (g : Group) (s : State) : State :=
  match twinIn g.jseq s.ccx.applied with
  | some h => compareGroups h g s
  | none => { s with ccx := { s.ccx with standins := s.ccx.standins ++ [g] } }

/-- WRITE_GROUP_APPLY: END of a group of `core` with the claim's EPOCH (R303, R304). A group of another epoch is rejected as
STALE_WRITE_REJECT says; one of a core that is neither active nor in STANDBY is discarded. -/
def execWriteGroupApply (core : Fin 2) (epoch : BitVec 15) (jseq : Word) (writes : List RegWrite) (reply : Option Reply)
    (s : State) : State :=
  let g : Group := ⟨jseq.toNat, writes, reply⟩
  if epoch.toNat ≠ s.rd CCX_STAT_CEPOCH then execStaleWriteReject core epoch s
  else if core.val = activeCore s then endActive g s
  else if coreState s core.val = 4 then endStandin g s
  else s

/-- The takeover (R306) of core `k`'s role by the other core, in the cycle of detection; the groups that have ended are applied in
JSEQ order as the new active core's own, and it starts a checkpoint. The events of the cycle come in the order of their source IDs
(R421). -/
def takeover (k : Nat) (s : State) : State :=
  let can := recoverable s
  let t := (bumpCepoch 2 s).wr CCX_STAT_ACTIVE (1 - k)
  let t := ((t.wr (coreFld (1 - k)) 5).wr (coreFld k) 2).bump CCX_COUNT0_TAKEOVERS
  let t := journalEvent ((raise 0x73 (t.rd CCX_STAT_CEPOCH) t).wr CCX_CKPT_WRITING 0)
  let t := if can then recoveryBegin 0x72 (awaited t) t else recoveryRefuse 0x72 t
  let l := byJseq (t.ccx.standins ++ t.ccx.grpWait)
  startCkpt ({ t with ccx := { t.ccx with standins := [], applied := [], grpWait := [], tookAt := some t.now } }.forL l applyGroup)

/-- A standby or a basting core is lost (R307, R318). -/
def standbyLost (k : Nat) (s : State) : State :=
  let t := if coreState s k = 3 then basteFail 5 s else s
  let was := coreState s k = 4
  let t := { t.wr (coreFld k) 2 with ccx := { t.ccx with lostAt := if was then some t.now else t.ccx.lostAt,
                                                         lostLeft := if was then t.ccx.standins else t.ccx.lostLeft } }
  drainWait (dropStandins t)

/-- The standby was lost in this very cycle: CCX acts only on the active core's loss (R307), so its stand-ins stand. -/
def backInStandby (k : Nat) (s : State) : State :=
  { s.wr (coreFld (1 - k)) 4 with ccx := { s.ccx with standins := s.ccx.lostLeft, lostAt := none } }

/-- A handover of this very cycle is discarded: core `k` is the active one again (R310). -/
def unswap (k : Nat) (s : State) : State :=
  let t := ((s.wr CCX_STAT_CEPOCH (s.rd CCX_STAT_CEPOCH + 2 ^ 15 - 1)).wr CCX_STAT_ACTIVE k).wr (coreFld k) 5
  { t.wr (coreFld (1 - k)) 4 with ccx := { t.ccx with swapAt := none } }

/-- The active core `k` is lost (R306, R309). -/
def activeLost (tie : Bool) (k : Nat) (s : State) : State :=
  if coreState s (1 - k) = 4 then takeover k s
  else if tie ∧ s.ccx.lostAt = some s.now ∧ coreState s (1 - k) = 2 then takeover k (backInStandby k s)
  else pairRestart s

/-- CORE_HB_TIMEOUT: the age of a running core's last beat has reached CC_HB_TIMEOUT (R305 to R310). A core that is OFF or
STARTING does not run; a DEMOTED one makes no writes and stays DEMOTED. Of two losses in one cycle only the active core's is acted on
(R307), and a handover of that cycle is discarded (R310); `tie` says that this loss falls into the cycle of what the block did last. -/
def execCoreHbTimeout (core : Fin 2) (tie : Bool) (s : State) : State :=
  let k := core.val
  let s := s.takeAct [CCX_CFG]
  if coreState s k < 2 then s
  else
    let t := raise 0x72 k s
    if k = activeCore s then (if tie ∧ s.ccx.tookAt = some s.now then t else activeLost tie k t)
    else if tie ∧ s.ccx.swapAt = some s.now ∧ coreState s k = 4 then activeLost tie k (unswap k t)
    else standbyLost k t

end Sys2Proof.Machine
end

