-- ==== Sys2Proof/Machine/Commands.lean ====
section
/-!
DEFINITION. The execution of an admitted command by its opcode, and the two moments at which a command that waited goes on:
the release of a fence (R274) and the end of a first copy's hold (R295).
-/
namespace Sys2Proof.Machine

/-- What the execution of each opcode is. An opcode that the table does not have never executes (R264); TACK is not
admitted as other commands are (R291). -/
def runBody : Opcode → Outst → State → Res
  | .nop => plainCmd
  | .ping => ping
  | .tack => fun o s => (tack o.cmd s, none)
  | .readReg => readRegCmd
  | .writeReg => writeRegCmd
  | .modifyReg => modifyRegCmd
  | .readBlock => readBlock
  | .fence => plainCmd
  | .fenceGlobal => plainCmd
  | .thimbleAcquire => thimbleAcquire
  | .thimbleRelease => thimbleRelease
  | .thimbleQuery => thimbleQuery
  | .surfWrite => surfWrite
  | .surfRead => surfRead
  | .surfFill => surfFill
  | .surfCopy => surfCopy
  | .tableLoad => tableLoad
  | .tableRead => tableRead
  | .layerSet => layerSet
  | .layerEnable => layerEnable
  | .layerDisable => layerDisable
  | .commit => commit
  | .commitAt => commitAt
  | .retireQuery => retireQuery
  | .safeMsg => safeMsg
  | .spbLoad => spbLoad
  | .safeStatus => safeStatus
  | .safeTest => safeTest
  | .loopCfg => loopCfg
  | .loopEnable => loopEnable
  | .loopDisable => loopDisable
  | .setpoint => setpoint
  | .loopHold => loopHold
  | .traceArm => traceArm
  | .traceRead => traceRead
  | .adcSeqCfg => adcSeqCfg
  | .adcStart => adcStart
  | .adcStop => adcStop
  | .tempMeasure => tempMeasure
  | .calRun => calRun
  | .calRead => calRead
  | .calWrite => calWrite
  | .powerEnter => powerEnter
  | .powerQuery => powerQuery
  | .vscale => vscale
  | .faultRead => faultRead
  | .faultClear => faultClear
  | .faultCfg => faultCfg
  | .healthRead => healthRead
  | .spareForce => spareForce
  | .proofReq => proofReq
  | .crcRun => crcRun
  | .linkTest => linkTest
  | .linkInject => linkInject
  | .chanCfg => chanCfg
  | .chanQuery => chanQuery
  | .fwPatchLoad => fwPatchLoad
  | .fwPatchActivate => fwPatchActivate
  | .stateRead => stateRead
  | .resync => resync
  | .deviceInfo => deviceInfo
  | .unknown _ => fun _ s => ans s .badOpcode

/-- A host's command of an opcode. -/
def hostRun (op : Opcode) (c : Cmd) (s : State) : State := hostCommand runBody op c s

/-- The commands admitted before a command that are not complete (R274). -/
def earlierThan (o : Outst) (s : State) : List Outst := (incomplete s).filter (fun e => later 32 o.jseq e.jseq)

/-- The oldest waiting command that no fence holds any more. -/
def releasable (s : State) : Option Outst := s.cmd.waiting.find? (fun o => !fenceHolds o (earlierThan o s))

/-- FENCE_RELEASE: the commands that a fence waited for are complete, and the oldest command that it held starts (R274). With
the last of them complete, a patch activation goes on (R449). -/
def execFenceRelease (s : State) : State :=
  patchCkpt (match releasable s with
    | none => s
    | some o =>
      execute (runBody o.op) o
        (syncFence { s with cmd := { s.cmd with waiting := s.cmd.waiting.filter (fun x => decide (x ≠ o)) } }))

/-- DUP_HOLD_EXPIRY: the first copy held on a DUP channel is admitted alone (R295). -/
def execDupHoldExpiry (ch : BitVec 8) (s : State) : State :=
  match heldOn s ch.toNat with
  | none => s
  | some o => admitTail o.op (runBody o.op) o.cmd false ((unhold o s).bump CCX_COUNT3_SOLO)

end Sys2Proof.Machine
end

