-- ==== Sys2Proof/Machine/OwnRows.lean ====
section
/-!
DEFINITION. Register writes that have rows of their own, and REGISTER_WRITE: each is a write of one field as the register
sees it, and its answer's status code is recorded in the model's own output `cmd.answer`.
-/
namespace Sys2Proof.Machine

/-- The answer of a register write is recorded. -/
def answered (x : State × Status) : State := { x.1 with cmd := { x.1.cmd with answer := x.2 } }

/-- The groups of the active core that waited for stand-ins that a write has discarded are applied (R304). -/
def groupsAfter (s : State) : State := drainWait s

/-- A write that acts on one field of a register. -/
def writeField (f : Fld) (v : Nat) (s : State) : State :=
  answered (regWrite none [] f.addr (setBits 0#32 f.msb f.lsb v) (setBits 0#32 f.msb f.lsb f.top) s)

/-- A write of all bits of a register. -/
def writeWord (a : Nat) (v : Word) (s : State) : State := answered (regWrite none [] a v 0xFFFFFFFF#32 s)

def execPortEnable (p : Port) (s : State) : State := writeField (HLx_CTRL_EN p.num) 1 s
def execPortDisable (p : Port) (s : State) : State := writeField (HLx_CTRL_EN p.num) 0 s
def execPortRetrain (p : Port) (s : State) : State := writeField (HLx_CTRL_RETRAIN p.num) 1 s
/-- The clears of W1C bits: `tie` says that the write falls into the cycle of what the block did last (R7). -/
def execAttnClear (p : Port) (mask : BitVec 4) (tie : Bool) (s : State) : State :=
  writeField ⟨HLx_ATTN_STAT p.num, 3, 0⟩ mask.toNat (s.apart tie)
def execHlxCntClr (p : Port) (s : State) : State := writeField (HLx_CTRL_CNT_CLR p.num) 1 s
def execLmeCntClr (s : State) : State := writeField LME_CTRL_CNT_CLR 1 s
def execScnRunStart (s : State) : State := writeField SCN_CTRL_RUN 1 s
def execScnRunStop (s : State) : State := writeField SCN_CTRL_RUN 0 s
def execSoEn (on : Bool) (s : State) : State := writeField SCN_CTRL_SO_EN (boolNat on) s
def execScnCntClr (s : State) : State := writeField SCN_CTRL_CNT_CLR 1 s
def execSmcCntClr (s : State) : State := writeField SMC_CTRL_CNT_CLR 1 s
def execPxhStuckClear (mask : BitVec 8) (tie : Bool) (s : State) : State := writeField PXH_STUCK_ZONES mask.toNat (s.apart tie)
def execPxhCntClr (s : State) : State := writeField PXH_CTRL_CNT_CLR 1 s
def execXchkRun (s : State) : State := writeField THM_CTRL_XCHK_RUN 1 s
def execThmBrokenClear (n : Fin 3) (mask : Word) (tie : Bool) (s : State) : State :=
  writeWord (THM_BROKEN0 + 4 * n.val) mask (s.apart tie)
def execThmCntClr (s : State) : State := writeField THM_CTRL_CNT_CLR 1 s
def execLe0En (on : Bool) (s : State) : State := writeField LE0_CTRL_EN (boolNat on) s
def execLvlEn (on : Bool) (s : State) : State := writeField LE1_CTRL_LVL_EN (boolNat on) s
def execFanEn (on : Bool) (s : State) : State := writeField LE1_CTRL_FAN_EN (boolNat on) s
def execLe0SetSelWrite (v : BitVec 3) (s : State) : State := writeField LE0_SET_SEL_SET v.toNat s
def execLe0FbClear (mask : BitVec 4) (tie : Bool) (s : State) : State := writeField ⟨LE0_FB, 3, 0⟩ mask.toNat (s.apart tie)
def execLe1FbClear (mask : BitVec 3) (tie : Bool) (s : State) : State := writeField ⟨LE1_FB, 2, 0⟩ mask.toNat (s.apart tie)
def execLe0CntClr (s : State) : State := writeField LE0_CTRL_CNT_CLR 1 s
def execAdcSqEn (n : Fin 8) (on : Bool) (s : State) : State := writeField (ADC_SQn_CTRL_EN n.val) (boolNat on) s
def execAdcRptrWrite (n : Fin 8) (v : BitVec 24) (s : State) : State := writeField (ADC_SQn_RPTR_PTR n.val) v.toNat s
def execAdcCntClr (s : State) : State := writeField ADC_CTRL_CNT_CLR 1 s
def execFcrCntClr (s : State) : State := writeField FCR_CTRL_CNT_CLR 1 s
def execCmdCntClr (s : State) : State := writeField CMD_CTRL_CNT_CLR 1 s
def execKeyLoad (mask : BitVec 8) (s : State) : State := writeField CMD_KEY_CTRL_LOAD mask.toNat s
def execKeyClr (mask : BitVec 8) (s : State) : State := writeField CMD_KEY_CTRL_CLR mask.toNat s
def execCcxCkpt (s : State) : State := writeField CCX_CTRL_CKPT 1 s
def execCcxSwap (s : State) : State := groupsAfter (writeField CCX_CTRL_SWAP 1 s)
def execCcxRstCore (core : Fin 2) (s : State) : State :=
  groupsAfter (writeField (if core.val = 0 then CCX_CTRL_RST_CCA else CCX_CTRL_RST_CCB) 1 s)
def execCcxAutoBaste (s : State) : State := writeField CCX_CTRL_AUTO_BASTE 1 s
def execCcxCntClr (s : State) : State := writeField CCX_CTRL_CNT_CLR 1 s
def execPxaCntClr (s : State) : State := writeField PXA_CTRL_CNT_CLR 1 s
def execSeqCntClr (q : Fin 4) (s : State) : State := writeField (SEQ_CTRL_CNT_CLR q.val) 1 s
def execCmpCntClr (s : State) : State := writeField CMP_CTRL_CNT_CLR 1 s
def execSmemTrain (s : State) : State := writeField SMEM_CTRL_TRAIN 1 s
def execSmemCntClr (s : State) : State := writeField SMEM_CTRL_CNT_CLR 1 s
def execCrcCfgWrite (n : Fin 4) (v : Word) (s : State) : State := writeWord (CRC_Un_CFG n.val) v s
def execCrcValueWrite (n : Fin 4) (v : Word) (s : State) : State := writeWord (CRC_Un_VALUE n.val) v s
def execCrcBindWrite (n : Fin 4) (v : Word) (s : State) : State := writeWord (CRC_Un_BIND n.val) v s
def execCrcScanCtrlWrite (v : Word) (s : State) : State := writeWord CRC_SCAN_CTRL v s
def execCrcCntClr (s : State) : State := writeField CRC_CTRL_CNT_CLR 1 s
def execCalCntClr (s : State) : State := writeField CAL_CTRL_CNT_CLR 1 s
def execSwrst (s : State) : State := writeField PMU_CTRL_SWRST 1 s
def execPmuCntClr (s : State) : State := writeField PMU_CTRL_CNT_CLR 1 s
def execCkuGateWrite (v : Word) (s : State) : State := writeWord CKU_GATE v s
def execCkuMeasWrite (v : Word) (s : State) : State := writeWord CKU_MEAS v s

/-- REGISTER_WRITE: the write of a whole register by a host on a channel (R5 to R10); `errs` are the errors that the read
of a word of surface memory written in part meets, and `tie` says that it falls into the cycle of what the block did last (R7). -/
def execRegisterWrite (chan : BitVec 8) (addr value : Word) (tie : Bool) (errs : List EccErr) (s : State) : State :=
  groupsAfter (answered (regWrite (some (chan.toNat, (s.reg (CMD_CHANn_W0 chan.toNat)).toNat)) errs addr.toNat value 0xFFFFFFFF#32
    (s.apart tie)))

end Sys2Proof.Machine
end

