-- ==== Sys2Proof/Machine/Rows.lean ====
section
/-!
DEFINITION. The meaning of every row of the opcode table: the operation of its chapter, run while the block is powered and out of
reset. The rows of the always-on domain run in every state (R436).
-/
namespace Sys2Proof.Machine

/-- The domains other than AON are powered and released from reset (R436, R447): the block is in D0 or D1, or on its way. -/
def isPowered (s : State) : Bool := s.pmu.released && !s.pmu.off && decide (s.rd PMU_STAT_STATE ≤ 1)

/-- An operation of a domain that is powered only outside reset, D2 and D3; there nothing happens. -/
def powered (f : State → State) (s : State) : State := if isPowered s then f s else s

/-- NOP (R506). -/
def runNop (c : Cmd) (s : State) : Host.Outcome State Fault Refusal :=
  .next (powered (hostRun .nop c) s)
/-- PING (R259). -/
def runPing (c : Cmd) (s : State) : Host.Outcome State Fault Refusal :=
  .next (powered (hostRun .ping c) s)
/-- TACK (R291). -/
def runTack (c : Cmd) (s : State) : Host.Outcome State Fault Refusal :=
  .next (powered (fun t => hostTack tack c t) s)
/-- READ_REG (R10). -/
def runReadReg (c : Cmd) (s : State) : Host.Outcome State Fault Refusal :=
  .next (powered (hostRun .readReg c) s)
/-- WRITE_REG (R10). -/
def runWriteReg (c : Cmd) (s : State) : Host.Outcome State Fault Refusal :=
  .next (powered (hostRun .writeReg c) s)
/-- MODIFY_REG (R282). -/
def runModifyReg (c : Cmd) (s : State) : Host.Outcome State Fault Refusal :=
  .next (powered (hostRun .modifyReg c) s)
/-- READ_BLOCK (R282). -/
def runReadBlock (c : Cmd) (s : State) : Host.Outcome State Fault Refusal :=
  .next (powered (hostRun .readBlock c) s)
/-- FENCE (R274). -/
def runFence (c : Cmd) (s : State) : Host.Outcome State Fault Refusal :=
  .next (powered (hostRun .fence c) s)
/-- FENCE_GLOBAL (R274). -/
def runFenceGlobal (c : Cmd) (s : State) : Host.Outcome State Fault Refusal :=
  .next (powered (hostRun .fenceGlobal c) s)
/-- THIMBLE_ACQUIRE (R275). -/
def runThimbleAcquire (c : Cmd) (s : State) : Host.Outcome State Fault Refusal :=
  .next (powered (hostRun .thimbleAcquire c) s)
/-- THIMBLE_RELEASE (R277). -/
def runThimbleRelease (c : Cmd) (s : State) : Host.Outcome State Fault Refusal :=
  .next (powered (hostRun .thimbleRelease c) s)
/-- THIMBLE_QUERY (R278). -/
def runThimbleQuery (c : Cmd) (s : State) : Host.Outcome State Fault Refusal :=
  .next (powered (hostRun .thimbleQuery c) s)
/-- SURF_WRITE (R283). -/
def runSurfWrite (c : Cmd) (s : State) : Host.Outcome State Fault Refusal :=
  .next (powered (hostRun .surfWrite c) s)
/-- SURF_READ (R283). -/
def runSurfRead (c : Cmd) (s : State) : Host.Outcome State Fault Refusal :=
  .next (powered (hostRun .surfRead c) s)
/-- SURF_FILL (R283). -/
def runSurfFill (c : Cmd) (s : State) : Host.Outcome State Fault Refusal :=
  .next (powered (hostRun .surfFill c) s)
/-- SURF_COPY (R283). -/
def runSurfCopy (c : Cmd) (s : State) : Host.Outcome State Fault Refusal :=
  .next (powered (hostRun .surfCopy c) s)
/-- TABLE_LOAD (R284). -/
def runTableLoad (c : Cmd) (s : State) : Host.Outcome State Fault Refusal :=
  .next (powered (hostRun .tableLoad c) s)
/-- TABLE_READ (R512). -/
def runTableRead (c : Cmd) (s : State) : Host.Outcome State Fault Refusal :=
  .next (powered (hostRun .tableRead c) s)
/-- LAYER_SET (R118). -/
def runLayerSet (c : Cmd) (s : State) : Host.Outcome State Fault Refusal :=
  .next (powered (hostRun .layerSet c) s)
/-- LAYER_ENABLE (R119). -/
def runLayerEnable (c : Cmd) (s : State) : Host.Outcome State Fault Refusal :=
  .next (powered (hostRun .layerEnable c) s)
/-- LAYER_DISABLE (R119). -/
def runLayerDisable (c : Cmd) (s : State) : Host.Outcome State Fault Refusal :=
  .next (powered (hostRun .layerDisable c) s)
/-- COMMIT (R129). -/
def runCommit (c : Cmd) (s : State) : Host.Outcome State Fault Refusal :=
  .next (powered (hostRun .commit c) s)
/-- COMMIT_AT (R134). -/
def runCommitAt (c : Cmd) (s : State) : Host.Outcome State Fault Refusal :=
  .next (powered (hostRun .commitAt c) s)
/-- RETIRE_QUERY (R177). -/
def runRetireQuery (c : Cmd) (s : State) : Host.Outcome State Fault Refusal :=
  .next (powered (hostRun .retireQuery c) s)
/-- SAFE_MSG (R352). -/
def runSafeMsg (c : Cmd) (s : State) : Host.Outcome State Fault Refusal :=
  .next (powered (hostRun .safeMsg c) s)
/-- SPB_LOAD (R338). -/
def runSpbLoad (c : Cmd) (s : State) : Host.Outcome State Fault Refusal :=
  .next (powered (hostRun .spbLoad c) s)
/-- SAFE_STATUS (R367). -/
def runSafeStatus (c : Cmd) (s : State) : Host.Outcome State Fault Refusal :=
  .next (powered (hostRun .safeStatus c) s)
/-- SAFE_TEST (R368). -/
def runSafeTest (c : Cmd) (s : State) : Host.Outcome State Fault Refusal :=
  .next (powered (hostRun .safeTest c) s)
/-- LOOP_CFG (R397). -/
def runLoopCfg (c : Cmd) (s : State) : Host.Outcome State Fault Refusal :=
  .next (powered (hostRun .loopCfg c) s)
/-- LOOP_ENABLE (R279). -/
def runLoopEnable (c : Cmd) (s : State) : Host.Outcome State Fault Refusal :=
  .next (powered (hostRun .loopEnable c) s)
/-- LOOP_DISABLE (R279). -/
def runLoopDisable (c : Cmd) (s : State) : Host.Outcome State Fault Refusal :=
  .next (powered (hostRun .loopDisable c) s)
/-- SETPOINT (R389). -/
def runSetpoint (c : Cmd) (s : State) : Host.Outcome State Fault Refusal :=
  .next (powered (hostRun .setpoint c) s)
/-- LOOP_HOLD (R378). -/
def runLoopHold (c : Cmd) (s : State) : Host.Outcome State Fault Refusal :=
  .next (powered (hostRun .loopHold c) s)
/-- TRACE_ARM (R399). -/
def runTraceArm (c : Cmd) (s : State) : Host.Outcome State Fault Refusal :=
  .next (powered (hostRun .traceArm c) s)
/-- TRACE_READ (R400). -/
def runTraceRead (c : Cmd) (s : State) : Host.Outcome State Fault Refusal :=
  .next (powered (hostRun .traceRead c) s)
/-- ADC_SEQ_CFG (R417). -/
def runAdcSeqCfg (c : Cmd) (s : State) : Host.Outcome State Fault Refusal :=
  .next (powered (hostRun .adcSeqCfg c) s)
/-- ADC_START (R416). -/
def runAdcStart (c : Cmd) (s : State) : Host.Outcome State Fault Refusal :=
  .next (powered (hostRun .adcStart c) s)
/-- ADC_STOP (R416). -/
def runAdcStop (c : Cmd) (s : State) : Host.Outcome State Fault Refusal :=
  .next (powered (hostRun .adcStop c) s)
/-- TEMP_MEASURE (R211). -/
def runTempMeasure (c : Cmd) (s : State) : Host.Outcome State Fault Refusal :=
  .next (powered (hostRun .tempMeasure c) s)
/-- CAL_RUN (R468). -/
def runCalRun (c : Cmd) (s : State) : Host.Outcome State Fault Refusal :=
  .next (powered (hostRun .calRun c) s)
/-- CAL_READ (R475). -/
def runCalRead (c : Cmd) (s : State) : Host.Outcome State Fault Refusal :=
  .next (powered (hostRun .calRead c) s)
/-- CAL_WRITE (R475). -/
def runCalWrite (c : Cmd) (s : State) : Host.Outcome State Fault Refusal :=
  .next (powered (hostRun .calWrite c) s)
/-- POWER_ENTER (R438). -/
def runPowerEnter (c : Cmd) (s : State) : Host.Outcome State Fault Refusal :=
  .next (powered (hostRun .powerEnter c) s)
/-- POWER_QUERY (R450). -/
def runPowerQuery (c : Cmd) (s : State) : Host.Outcome State Fault Refusal :=
  .next (powered (hostRun .powerQuery c) s)
/-- VSCALE (R443). -/
def runVscale (c : Cmd) (s : State) : Host.Outcome State Fault Refusal :=
  .next (powered (hostRun .vscale c) s)
/-- FAULT_READ (R431). -/
def runFaultRead (c : Cmd) (s : State) : Host.Outcome State Fault Refusal :=
  .next (powered (hostRun .faultRead c) s)
/-- FAULT_CLEAR (R432). -/
def runFaultClear (c : Cmd) (s : State) : Host.Outcome State Fault Refusal :=
  .next (powered (hostRun .faultClear c) s)
/-- FAULT_CFG (R433). -/
def runFaultCfg (c : Cmd) (s : State) : Host.Outcome State Fault Refusal :=
  .next (powered (hostRun .faultCfg c) s)
/-- HEALTH_READ (R202). -/
def runHealthRead (c : Cmd) (s : State) : Host.Outcome State Fault Refusal :=
  .next (powered (hostRun .healthRead c) s)
/-- SPARE_FORCE (R203). -/
def runSpareForce (c : Cmd) (s : State) : Host.Outcome State Fault Refusal :=
  .next (powered (hostRun .spareForce c) s)
/-- PROOF_REQ (R205). -/
def runProofReq (c : Cmd) (s : State) : Host.Outcome State Fault Refusal :=
  .next (powered (hostRun .proofReq c) s)
/-- CRC_RUN (R457). -/
def runCrcRun (c : Cmd) (s : State) : Host.Outcome State Fault Refusal :=
  .next (powered (hostRun .crcRun c) s)
/-- LINK_TEST (R253). -/
def runLinkTest (c : Cmd) (s : State) : Host.Outcome State Fault Refusal :=
  .next (powered (hostRun .linkTest c) s)
/-- LINK_INJECT (R254). -/
def runLinkInject (c : Cmd) (s : State) : Host.Outcome State Fault Refusal :=
  .next (powered (hostRun .linkInject c) s)
/-- CHAN_CFG (R270). -/
def runChanCfg (c : Cmd) (s : State) : Host.Outcome State Fault Refusal :=
  .next (powered (hostRun .chanCfg c) s)
/-- CHAN_QUERY (R270). -/
def runChanQuery (c : Cmd) (s : State) : Host.Outcome State Fault Refusal :=
  .next (powered (hostRun .chanQuery c) s)
/-- FW_PATCH_LOAD (R448). -/
def runFwPatchLoad (c : Cmd) (s : State) : Host.Outcome State Fault Refusal :=
  .next (powered (hostRun .fwPatchLoad c) s)
/-- FW_PATCH_ACTIVATE (R449). -/
def runFwPatchActivate (c : Cmd) (s : State) : Host.Outcome State Fault Refusal :=
  .next (powered (hostRun .fwPatchActivate c) s)
/-- STATE_READ (R319). -/
def runStateRead (c : Cmd) (s : State) : Host.Outcome State Fault Refusal :=
  .next (powered (hostRun .stateRead c) s)
/-- RESYNC (R320). -/
def runResync (c : Cmd) (s : State) : Host.Outcome State Fault Refusal :=
  .next (powered (hostRun .resync c) s)
/-- DEVICE_INFO (R30). -/
def runDeviceInfo (c : Cmd) (s : State) : Host.Outcome State Fault Refusal :=
  .next (powered (hostRun .deviceInfo c) s)
/-- DATA_PACKET (R261). -/
def runDataPacket (d : DataPkt) (s : State) : Host.Outcome State Fault Refusal :=
  .next (powered (execDataPacket d) s)
/-- XFER_TIMEOUT (R262). -/
def runXferTimeout (p : Port) (ch : BitVec 8) (s : State) : Host.Outcome State Fault Refusal :=
  .next (powered (execXferTimeout p ch) s)
/-- CHAN_TIMEOUT (R268). -/
def runChanTimeout (ch : BitVec 8) (s : State) : Host.Outcome State Fault Refusal :=
  .next (powered (execChanTimeout ch) s)
/-- DUP_HOLD_EXPIRY (R295). -/
def runDupHoldExpiry (ch : BitVec 8) (s : State) : Host.Outcome State Fault Refusal :=
  .next (powered (execDupHoldExpiry ch) s)
/-- THIMBLE_LEASE_EXPIRY (R277). -/
def runThimbleLeaseExpiry (t : Fin 8) (s : State) : Host.Outcome State Fault Refusal :=
  .next (powered (execThimbleLeaseExpiry t) s)
/-- THIMBLE_WAIT_EXPIRY (R275). -/
def runThimbleWaitExpiry (t : Fin 8) (s : State) : Host.Outcome State Fault Refusal :=
  .next (powered (execThimbleWaitExpiry t) s)
/-- FENCE_RELEASE (R274). -/
def runFenceRelease (s : State) : Host.Outcome State Fault Refusal :=
  .next (powered execFenceRelease s)
/-- WRITE_GROUP_APPLY (R304). -/
def runWriteGroupApply (core : Fin 2) (epoch : BitVec 15) (jseq : Word) (writes : List RegWrite) (reply : Option Reply) (s : State) : Host.Outcome State Fault Refusal :=
  .next (powered (execWriteGroupApply core epoch jseq writes reply) s)
/-- STALE_WRITE_REJECT (R303). -/
def runStaleWriteReject (core : Fin 2) (epoch : BitVec 15) (s : State) : Host.Outcome State Fault Refusal :=
  .next (powered (execStaleWriteReject core epoch) s)
/-- CORE_BEAT (R305). -/
def runCoreBeat (core : Fin 2) (s : State) : Host.Outcome State Fault Refusal :=
  .next (powered (execCoreBeat core) s)
/-- CORE_HB_TIMEOUT (R305). -/
def runCoreHbTimeout (core : Fin 2) (tie : Bool) (s : State) : Host.Outcome State Fault Refusal :=
  .next (powered (execCoreHbTimeout core tie) s)
/-- CORE_RESTART_DONE (R309). -/
def runCoreRestartDone (core : Fin 2) (s : State) : Host.Outcome State Fault Refusal :=
  .next (powered (execCoreRestartDone core) s)
/-- RECOVERY_END (R306). -/
def runRecoveryEnd (s : State) : Host.Outcome State Fault Refusal :=
  .next (powered execRecoveryEnd s)
/-- CHECKPOINT_COMMIT (R316). -/
def runCheckpointCommit (body : List Word) (s : State) : Host.Outcome State Fault Refusal :=
  .next (powered (execCheckpointCommit body) s)
/-- BASTE_START (R317). -/
def runBasteStart (core : Fin 2) (errs : List EccErr) (s : State) : Host.Outcome State Fault Refusal :=
  .next (powered (execBasteStart core errs) s)
/-- BASTE_JOIN (R317). -/
def runBasteJoin (core : Fin 2) (errs : List EccErr) (s : State) : Host.Outcome State Fault Refusal :=
  .next (powered (execBasteJoin core errs) s)
/-- BASTE_TIMEOUT (R318). -/
def runBasteTimeout (s : State) : Host.Outcome State Fault Refusal :=
  .next (powered execBasteTimeout s)
/-- HEARTBEAT_BEAT (R248). -/
def runHeartbeatBeat (p : Port) (s : State) : Host.Outcome State Fault Refusal :=
  .next (powered (execHeartbeatBeat p) s)
/-- HOST_HB_TIMEOUT (R293). -/
def runHostHbTimeout (p : Port) (s : State) : Host.Outcome State Fault Refusal :=
  .next (powered (execHostHbTimeout p) s)
/-- LANE_SIGNAL_DETECT (R229). -/
def runLaneSignalDetect (p : Port) (s : State) : Host.Outcome State Fault Refusal :=
  .next (powered (execLaneSignalDetect p) s)
/-- TRAINING_SET_RECEIVE (R229). -/
def runTrainingSetReceive (p : Port) (t0 t1 : TrainSet) (run sent skew : Nat) (s : State) : Host.Outcome State Fault Refusal :=
  .next (powered (execTrainingSetReceive p t0 t1 run sent skew) s)
/-- TRAINING_TIMEOUT (R229). -/
def runTrainingTimeout (p : Port) (s : State) : Host.Outcome State Fault Refusal :=
  .next (powered (execTrainingTimeout p) s)
/-- CODE_VIOLATION_LIMIT (R231). -/
def runCodeViolationLimit (p : Port) (bad misplaced : Nat) (s : State) : Host.Outcome State Fault Refusal :=
  .next (powered (execCodeViolationLimit p bad misplaced) s)
/-- RETRAIN_TIMEOUT (R231). -/
def runRetrainTimeout (p : Port) (s : State) : Host.Outcome State Fault Refusal :=
  .next (powered (execRetrainTimeout p) s)
/-- LINK_PACKET_RECEIVE (R238). -/
def runLinkPacketReceive (p : Port) (l0 l1 : List Byte) (edb : Bool) (errs : List EccErr) (s : State) : Host.Outcome State Fault Refusal :=
  .next (powered (execLinkPacketReceive p l0 l1 edb errs) s)
/-- ACK_LATENCY_EXPIRY (R238). -/
def runAckLatencyExpiry (p : Port) (s : State) : Host.Outcome State Fault Refusal :=
  .next (powered (execAckLatencyExpiry p) s)
/-- ACK (R237). -/
def runAck (p : Port) (v : BitVec 16) (s : State) : Host.Outcome State Fault Refusal :=
  .next (powered (execAck p v) s)
/-- NAK (R239). -/
def runNak (p : Port) (v : BitVec 16) (s : State) : Host.Outcome State Fault Refusal :=
  .next (powered (execNak p v) s)
/-- CREDIT (R240). -/
def runCredit (p : Port) (v : BitVec 16) (s : State) : Host.Outcome State Fault Refusal :=
  .next (powered (execCredit p v) s)
/-- REPLAY_TIMEOUT (R239). -/
def runReplayTimeout (p : Port) (s : State) : Host.Outcome State Fault Refusal :=
  .next (powered (execReplayTimeout p) s)
/-- CREDIT_ADVERTISE (R240). -/
def runCreditAdvertise (p : Port) (s : State) : Host.Outcome State Fault Refusal :=
  .next (powered (execCreditAdvertise p) s)
/-- CREDIT_STALL_TIMEOUT (R241). -/
def runCreditStallTimeout (p : Port) (s : State) : Host.Outcome State Fault Refusal :=
  .next (powered (execCreditStallTimeout p) s)
/-- PACKET_TRANSMIT (R242). -/
def runPacketTransmit (p : Port) (errs : List EccErr) (s : State) : Host.Outcome State Fault Refusal :=
  .next (powered (execPacketTransmit p errs) s)
/-- SKIP_SET_DUE (R227). -/
def runSkipSetDue (p : Port) (s : State) : Host.Outcome State Fault Refusal :=
  .next (powered (execSkipSetDue p) s)
/-- L1_IDLE_EXPIRY (R243). -/
def runL1IdleExpiry (p : Port) (s : State) : Host.Outcome State Fault Refusal :=
  .next (powered (execL1IdleExpiry p) s)
/-- L1_REQ (R243). -/
def runL1Req (p : Port) (s : State) : Host.Outcome State Fault Refusal :=
  .next (powered (execL1Req p) s)
/-- L1_ACK (R243). -/
def runL1Ack (p : Port) (s : State) : Host.Outcome State Fault Refusal :=
  .next (powered (execL1Ack p) s)
/-- L1_NAK (R243). -/
def runL1Nak (p : Port) (s : State) : Host.Outcome State Fault Refusal :=
  .next (powered (execL1Nak p) s)
/-- L2_REQ (R246). -/
def runL2Req (p : Port) (s : State) : Host.Outcome State Fault Refusal :=
  .next (powered (execL2Req p) s)
/-- L2_ACK (R246). -/
def runL2Ack (p : Port) (s : State) : Host.Outcome State Fault Refusal :=
  .next (powered (execL2Ack p) s)
/-- L2_NAK (R246). -/
def runL2Nak (p : Port) (s : State) : Host.Outcome State Fault Refusal :=
  .next (powered (execL2Nak p) s)
/-- L1_EXIT (R245). -/
def runL1Exit (p : Port) (s : State) : Host.Outcome State Fault Refusal :=
  .next (powered (execL1Exit p) s)
/-- L2_WAKE (R247). -/
def runL2Wake (p : Port) (s : State) : Host.Outcome State Fault Refusal :=
  .next (powered (execL2Wake p) s)
/-- ENGINE_L2_EXIT (R247). -/
def runEngineL2Exit (p : Port) (s : State) : Host.Outcome State Fault Refusal :=
  .next (powered (execEngineL2Exit p) s)
/-- WAKE_PATTERN_END (R247). -/
def runWakePatternEnd (p : Port) (s : State) : Host.Outcome State Fault Refusal :=
  .next (powered (execWakePatternEnd p) s)
/-- PORT_STOP_COMPLETE (R250). -/
def runPortStopComplete (p : Port) (s : State) : Host.Outcome State Fault Refusal :=
  .next (powered (execPortStopComplete p) s)
/-- LINK_TEST_END (R253). -/
def runLinkTestEnd (e0 : Nat) (e1 : Nat) (e2 : Nat) (e3 : Nat) (s : State) : Host.Outcome State Fault Refusal :=
  .next (powered (execLinkTestEnd e0 e1 e2 e3) s)
/-- EYE_MEASURE (R255). -/
def runEyeMeasure (lane : Fin 4) (width : BitVec 8) (s : State) : Host.Outcome State Fault Refusal :=
  .next (powered (execEyeMeasure lane width) s)
/-- PORT_ENABLE (R250). -/
def runPortEnable (p : Port) (s : State) : Host.Outcome State Fault Refusal :=
  .next (powered (execPortEnable p) s)
/-- PORT_DISABLE (R250). -/
def runPortDisable (p : Port) (s : State) : Host.Outcome State Fault Refusal :=
  .next (powered (execPortDisable p) s)
/-- PORT_RETRAIN (R231). -/
def runPortRetrain (p : Port) (s : State) : Host.Outcome State Fault Refusal :=
  .next (powered (execPortRetrain p) s)
/-- ATTN_CLEAR (R249). -/
def runAttnClear (p : Port) (mask : BitVec 4) (tie : Bool) (s : State) : Host.Outcome State Fault Refusal :=
  .next (powered (execAttnClear p mask tie) s)
/-- HLX_CNT_CLR (R256). -/
def runHlxCntClr (p : Port) (s : State) : Host.Outcome State Fault Refusal :=
  .next (powered (execHlxCntClr p) s)
/-- LME_CNT_CLR (R256). -/
def runLmeCntClr (s : State) : Host.Outcome State Fault Refusal :=
  .next (powered execLmeCntClr s)
/-- FSYNC_EDGE (R507). -/
def runFsyncEdge (rise : Nat) (high : Nat) (s : State) : Host.Outcome State Fault Refusal :=
  .next (powered (execFsyncEdge rise high) s)
/-- FSYNC_WINDOW_END (R38). -/
def runFsyncWindowEnd (s : State) : Host.Outcome State Fault Refusal :=
  .next (powered execFsyncWindowEnd s)
/-- ACQUIRE_TIMEOUT (R38). -/
def runAcquireTimeout (at_ : Nat) (s : State) : Host.Outcome State Fault Refusal :=
  .next (powered (execAcquireTimeout at_) s)
/-- RELOCK_TIMEOUT (R38). -/
def runRelockTimeout (s : State) : Host.Outcome State Fault Refusal :=
  .next (powered execRelockTimeout s)
/-- SCN_RUN_START (R38). -/
def runScnRunStart (s : State) : Host.Outcome State Fault Refusal :=
  .next (powered execScnRunStart s)
/-- SCN_RUN_STOP (R43). -/
def runScnRunStop (s : State) : Host.Outcome State Fault Refusal :=
  .next (powered execScnRunStop s)
/-- SO_EN (R45). -/
def runSoEn (on : Bool) (s : State) : Host.Outcome State Fault Refusal :=
  .next (powered (execSoEn on) s)
/-- SCN_CNT_CLR (R56). -/
def runScnCntClr (s : State) : Host.Outcome State Fault Refusal :=
  .next (powered execScnCntClr s)
/-- SYNC_OUT_RISE (R44). -/
def runSyncOutRise (s : State) : Host.Outcome State Fault Refusal :=
  .next (powered execSyncOutRise s)
/-- SYNC_OUT_FALL (R44). -/
def runSyncOutFall (s : State) : Host.Outcome State Fault Refusal :=
  .next (powered execSyncOutFall s)
/-- TICK (R33). -/
def runTick (s : State) : Host.Outcome State Fault Refusal :=
  .next (powered execTick s)
/-- THM_AUTO_DEMAND (R212). -/
def runThmAutoDemand (s : State) : Host.Outcome State Fault Refusal :=
  .next (powered execThmAutoDemand s)
/-- SLOT_PERIOD_START (R108). -/
def runSlotPeriodStart (errs : List EccErr) (s : State) : Host.Outcome State Fault Refusal :=
  .next (powered (execSlotPeriodStart errs) s)
/-- LOAD (R89). -/
def runLoad (q : Fin 4) (errs : List EccErr) (s : State) : Host.Outcome State Fault Refusal :=
  .next (powered (execLoad q errs) s)
/-- TRANSFER (R91). -/
def runTransfer (q : Fin 4) (sns : Bool) (errs : List EccErr) (s : State) : Host.Outcome State Fault Refusal :=
  .next (powered (execTransfer q sns errs) s)
/-- MEAS (R95). -/
def runMeas (q : Fin 4) (hr : List Nat) (vf : List Nat) (errs : List EccErr) (s : State) : Host.Outcome State Fault Refusal :=
  .next (powered (execMeas q hr vf errs) s)
/-- PROOF (R96). -/
def runProof (q : Fin 4) (errs : List EccErr) (s : State) : Host.Outcome State Fault Refusal :=
  .next (powered (execProof q errs) s)
/-- PROOF_LIST_FIX (R197). -/
def runProofListFix (scan : Nat) (reach : Nat) (errs : List EccErr) (s : State) : Host.Outcome State Fault Refusal :=
  .next (powered (execProofListFix scan reach errs) s)
/-- OFFPULSE (R329). -/
def runOffpulse (q : Fin 4) (b : OffObs) (errs : List EccErr) (s : State) : Host.Outcome State Fault Refusal :=
  .next (powered (execOffpulse q b errs) s)
/-- DARKSCAN (R199). -/
def runDarkscan (q : Fin 4) (sense : BitVec 8) (errs : List EccErr) (s : State) : Host.Outcome State Fault Refusal :=
  .next (powered (execDarkscan q sense errs) s)
/-- TEMP_DEMAND (R210). -/
def runTempDemand (q : Fin 4) (tie : Bool) (errs : List EccErr) (s : State) : Host.Outcome State Fault Refusal :=
  .next (powered (execTempDemand q tie errs) s)
/-- ADC_TRIG (R100). -/
def runAdcTrig (q : Fin 4) (errs : List EccErr) (s : State) : Host.Outcome State Fault Refusal :=
  .next (powered (execAdcTrig q errs) s)
/-- CAL_WIN (R99). -/
def runCalWin (q : Fin 4) (es : List ColErr) (errs : List EccErr) (s : State) : Host.Outcome State Fault Refusal :=
  .next (powered (execCalWin q es errs) s)
/-- LOOP_FF (R94). -/
def runLoopFf (q : Fin 4) (errs : List EccErr) (s : State) : Host.Outcome State Fault Refusal :=
  .next (powered (execLoopFf q errs) s)
/-- FF_APPLY (R374). -/
def runFfApply (s : State) : Host.Outcome State Fault Refusal :=
  .next (powered execFfApply s)
/-- PATTERN_SEL (R93). -/
def runPatternSel (q : Fin 4) (errs : List EccErr) (s : State) : Host.Outcome State Fault Refusal :=
  .next (powered (execPatternSel q errs) s)
/-- STAGGER (R92). -/
def runStagger (q : Fin 4) (errs : List EccErr) (s : State) : Host.Outcome State Fault Refusal :=
  .next (powered (execStagger q errs) s)
/-- END (R87). -/
def runEnd (q : Fin 4) (errs : List EccErr) (s : State) : Host.Outcome State Fault Refusal :=
  .next (powered (execEnd q errs) s)
/-- COMPOSITION_START (R129). -/
def runCompositionStart (s : State) : Host.Outcome State Fault Refusal :=
  .next (powered execCompositionStart s)
/-- COMPOSITION_COMPLETE (R144). -/
def runCompositionComplete (errs : List EccErr) (s : State) : Host.Outcome State Fault Refusal :=
  .next (powered (execCompositionComplete errs) s)
/-- SAFE_MSG_WINDOW_END (R353). -/
def runSafeMsgWindowEnd (s : State) : Host.Outcome State Fault Refusal :=
  .next (powered execSafeMsgWindowEnd s)
/-- SAFE_REQ_QUALIFY (R331). -/
def runSafeReqQualify (s : State) : Host.Outcome State Fault Refusal :=
  .next (powered execSafeReqQualify s)
/-- SAFE_REQ_END (R331). -/
def runSafeReqEnd (s : State) : Host.Outcome State Fault Refusal :=
  .next (powered execSafeReqEnd s)
/-- SAFE_OFF_TIMEOUT (R325). -/
def runSafeOffTimeout (s : State) : Host.Outcome State Fault Refusal :=
  .next (powered execSafeOffTimeout s)
/-- SAFE_SNS_TIMEOUT (R326). -/
def runSafeSnsTimeout (sns : Bool) (s : State) : Host.Outcome State Fault Refusal :=
  .next (powered (execSafeSnsTimeout sns) s)
/-- STRAP_LATCH (R332). -/
def runStrapLatch (v0 v1 : BitVec 16) (s : State) : Host.Outcome State Fault Refusal :=
  .next (powered (execStrapLatch v0 v1) s)
/-- STRAP_READ (R332). -/
def runStrapRead (v0 v1 : BitVec 16) (s : State) : Host.Outcome State Fault Refusal :=
  .next (if isPowered s || decide (s.rd PMU_STAT_STATE = 2) then execStrapRead v0 v1 s else s)
/-- SELF_CHECK (R365). -/
def runSelfCheck (code : Fin 6) (fails : Bool) (s : State) : Host.Outcome State Fault Refusal :=
  .next (powered (execSelfCheck code fails) s)
/-- BOOT_SELF_CHECK_DONE (R363). -/
def runBootSelfCheckDone (s : State) : Host.Outcome State Fault Refusal :=
  .next (powered execBootSelfCheckDone s)
/-- ALIVE_TOGGLE (R363). -/
def runAliveToggle (s : State) : Host.Outcome State Fault Refusal :=
  .next (powered execAliveToggle s)
/-- SPB_SEAL_DONE (R339). -/
def runSpbSealDone (s : State) : Host.Outcome State Fault Refusal :=
  .next (powered execSpbSealDone s)
/-- SMC_CNT_CLR (R369). -/
def runSmcCntClr (s : State) : Host.Outcome State Fault Refusal :=
  .next (powered execSmcCntClr s)
/-- RETIRE_WRITE (R194). -/
def runRetireWrite (errs : List EccErr) (s : State) : Host.Outcome State Fault Refusal :=
  .next (powered (execRetireWrite errs) s)
/-- PXH_STUCK_CLEAR (R201). -/
def runPxhStuckClear (mask : BitVec 8) (tie : Bool) (s : State) : Host.Outcome State Fault Refusal :=
  .next (powered (execPxhStuckClear mask tie) s)
/-- PXH_CNT_CLR (R207). -/
def runPxhCntClr (s : State) : Host.Outcome State Fault Refusal :=
  .next (powered execPxhCntClr s)
/-- THM_CONVERSION (R213). -/
def runThmConversion (counts : List (Fin 72 × BitVec 20)) (s : State) : Host.Outcome State Fault Refusal :=
  .next (powered (execThmConversion counts) s)
/-- XCHK_RUN (R217). -/
def runXchkRun (s : State) : Host.Outcome State Fault Refusal :=
  .next (powered execXchkRun s)
/-- XCHK_END (R217). -/
def runXchkEnd (counts : List (Fin 72 × BitVec 20)) (s : State) : Host.Outcome State Fault Refusal :=
  .next (powered (execXchkEnd counts) s)
/-- THM_BROKEN_CLEAR (R216). -/
def runThmBrokenClear (n : Fin 3) (mask : Word) (tie : Bool) (s : State) : Host.Outcome State Fault Refusal :=
  .next (powered (execThmBrokenClear n mask tie) s)
/-- THM_CNT_CLR (R224). -/
def runThmCntClr (s : State) : Host.Outcome State Fault Refusal :=
  .next (powered execThmCntClr s)
/-- LOOP_SLOT_CONVERSION (R404). -/
def runLoopSlotConversion (x : LoopSlot) (s : State) : Host.Outcome State Fault Refusal :=
  .next (powered (execLoopSlotConversion x) s)
/-- PHASE_OC_TRIP (R372). -/
def runPhaseOcTrip (k : Fin 6) (s : State) : Host.Outcome State Fault Refusal :=
  .next (powered (execPhaseOcTrip k) s)
/-- PHASE_OC_PERSIST (R372). -/
def runPhaseOcPersist (k : Fin 6) (s : State) : Host.Outcome State Fault Refusal :=
  .next (powered (execPhaseOcPersist k) s)
/-- RAIL_AUTO_START (R380). -/
def runRailAutoStart (sns : Bool) (s : State) : Host.Outcome State Fault Refusal :=
  .next (powered (execRailAutoStart sns) s)
/-- RAIL_ON (R380). -/
def runRailOn (s : State) : Host.Outcome State Fault Refusal :=
  .next (powered execRailOn s)
/-- RAIL_START_TIMEOUT (R380). -/
def runRailStartTimeout (s : State) : Host.Outcome State Fault Refusal :=
  .next (powered execRailStartTimeout s)
/-- RAIL_STOP_COMPLETE (R381). -/
def runRailStopComplete (s : State) : Host.Outcome State Fault Refusal :=
  .next (powered execRailStopComplete s)
/-- RAIL_SENSE_LOST (R382). -/
def runRailSenseLost (b : Bool) (s : State) : Host.Outcome State Fault Refusal :=
  .next (powered (execRailSenseLost b) s)
/-- RAIL_SENSE_FROZEN (R383). -/
def runRailSenseFrozen (b : Bool) (s : State) : Host.Outcome State Fault Refusal :=
  .next (powered (execRailSenseFrozen b) s)
/-- LOOP_INT_SAT (R377). -/
def runLoopIntSat (s : State) : Host.Outcome State Fault Refusal :=
  .next (powered execLoopIntSat s)
/-- RAIL_OV (R386). -/
def runRailOv (b : Bool) (s : State) : Host.Outcome State Fault Refusal :=
  .next (powered (execRailOv b) s)
/-- RAIL_UV (R386). -/
def runRailUv (s : State) : Host.Outcome State Fault Refusal :=
  .next (powered execRailUv s)
/-- LOOP_HOLD_EXPIRY (R378). -/
def runLoopHoldExpiry (s : State) : Host.Outcome State Fault Refusal :=
  .next (powered execLoopHoldExpiry s)
/-- PROFILE_TICK (R387). -/
def runProfileTick (lvl : Bool) (s : State) : Host.Outcome State Fault Refusal :=
  .next (powered (execProfileTick lvl) s)
/-- LVL_ON (R393). -/
def runLvlOn (s : State) : Host.Outcome State Fault Refusal :=
  .next (powered execLvlOn s)
/-- LVL_START_TIMEOUT (R393). -/
def runLvlStartTimeout (s : State) : Host.Outcome State Fault Refusal :=
  .next (powered execLvlStartTimeout s)
/-- LVL_STOP_COMPLETE (R393). -/
def runLvlStopComplete (s : State) : Host.Outcome State Fault Refusal :=
  .next (powered execLvlStopComplete s)
/-- LVL_FB_LOST (R394). -/
def runLvlFbLost (s : State) : Host.Outcome State Fault Refusal :=
  .next (powered execLvlFbLost s)
/-- LVL_FB_FROZEN (R394). -/
def runLvlFbFrozen (s : State) : Host.Outcome State Fault Refusal :=
  .next (powered execLvlFbFrozen s)
/-- LVL_LIMIT (R392). -/
def runLvlLimit (s : State) : Host.Outcome State Fault Refusal :=
  .next (powered execLvlLimit s)
/-- FAN_TACH_EDGE (R395). -/
def runFanTachEdge (us : Nat) (s : State) : Host.Outcome State Fault Refusal :=
  .next (powered (execFanTachEdge us) s)
/-- FAN_TACH_TIMEOUT (R396). -/
def runFanTachTimeout (s : State) : Host.Outcome State Fault Refusal :=
  .next (powered execFanTachTimeout s)
/-- FAN_DUTY_UPDATE (R395). -/
def runFanDutyUpdate (s : State) : Host.Outcome State Fault Refusal :=
  .next (powered execFanDutyUpdate s)
/-- FAN_KICK_END (R396). -/
def runFanKickEnd (s : State) : Host.Outcome State Fault Refusal :=
  .next (powered execFanKickEnd s)
/-- FAN_STOP_COMPLETE (R396). -/
def runFanStopComplete (s : State) : Host.Outcome State Fault Refusal :=
  .next (powered execFanStopComplete s)
/-- LE0_EN (R380). -/
def runLe0En (on : Bool) (s : State) : Host.Outcome State Fault Refusal :=
  .next (powered (execLe0En on) s)
/-- LVL_EN (R393). -/
def runLvlEn (on : Bool) (s : State) : Host.Outcome State Fault Refusal :=
  .next (powered (execLvlEn on) s)
/-- FAN_EN (R396). -/
def runFanEn (on : Bool) (s : State) : Host.Outcome State Fault Refusal :=
  .next (powered (execFanEn on) s)
/-- LE0_SET_SEL_WRITE (R376). -/
def runLe0SetSelWrite (v : BitVec 3) (s : State) : Host.Outcome State Fault Refusal :=
  .next (powered (execLe0SetSelWrite v) s)
/-- LE0_FB_CLEAR (R384). -/
def runLe0FbClear (mask : BitVec 4) (tie : Bool) (s : State) : Host.Outcome State Fault Refusal :=
  .next (powered (execLe0FbClear mask tie) s)
/-- LE1_FB_CLEAR (R394). -/
def runLe1FbClear (mask : BitVec 3) (tie : Bool) (s : State) : Host.Outcome State Fault Refusal :=
  .next (powered (execLe1FbClear mask tie) s)
/-- LE0_CNT_CLR (R401). -/
def runLe0CntClr (s : State) : Host.Outcome State Fault Refusal :=
  .next (powered execLe0CntClr s)
/-- ADC_TIMER_TRIGGER (R405). -/
def runAdcTimerTrigger (n : Fin 8) (s : State) : Host.Outcome State Fault Refusal :=
  .next (powered (execAdcTimerTrigger n) s)
/-- ADC_ENTRY_COMPLETE (R407). -/
def runAdcEntryComplete (n : Fin 8) (convs : List Conv) (s : State) : Host.Outcome State Fault Refusal :=
  .next (powered (execAdcEntryComplete n convs) s)
/-- BOBBIN_BLOCK_ACCEPT (R414). -/
def runBobbinBlockAccept (n : Fin 8) (s : State) : Host.Outcome State Fault Refusal :=
  .next (powered (execBobbinBlockAccept n) s)
/-- ADC_SEQ_ON (R416). -/
def runAdcSeqOn (n : Fin 8) (s : State) : Host.Outcome State Fault Refusal :=
  .next (powered (execAdcSeqOn n) s)
/-- ADC_SEQ_OFF (R416). -/
def runAdcSeqOff (n : Fin 8) (s : State) : Host.Outcome State Fault Refusal :=
  .next (powered (execAdcSeqOff n) s)
/-- ADC_SQ_EN (R416). -/
def runAdcSqEn (n : Fin 8) (on : Bool) (s : State) : Host.Outcome State Fault Refusal :=
  .next (powered (execAdcSqEn n on) s)
/-- ADC_RPTR_WRITE (R415). -/
def runAdcRptrWrite (n : Fin 8) (v : BitVec 24) (s : State) : Host.Outcome State Fault Refusal :=
  .next (powered (execAdcRptrWrite n v) s)
/-- ADC_CNT_CLR (R418). -/
def runAdcCntClr (s : State) : Host.Outcome State Fault Refusal :=
  .next (powered execAdcCntClr s)
/-- FAULT_EVENT (R423). -/
def runFaultEvent (src : BitVec 8) (sev : BitVec 2) (detail : Word) (drop : Bool) (s : State) : Host.Outcome State Fault Refusal :=
  .next (powered (execFaultEvent src sev detail drop) s)
/-- FCR_CNT_CLR (R435). -/
def runFcrCntClr (s : State) : Host.Outcome State Fault Refusal :=
  .next (powered execFcrCntClr s)
/-- CMD_CNT_CLR (R286). -/
def runCmdCntClr (s : State) : Host.Outcome State Fault Refusal :=
  .next (powered execCmdCntClr s)
/-- KEY_LOAD (R272). -/
def runKeyLoad (mask : BitVec 8) (s : State) : Host.Outcome State Fault Refusal :=
  .next (powered (execKeyLoad mask) s)
/-- KEY_CLR (R272). -/
def runKeyClr (mask : BitVec 8) (s : State) : Host.Outcome State Fault Refusal :=
  .next (powered (execKeyClr mask) s)
/-- CCX_CKPT (R314). -/
def runCcxCkpt (s : State) : Host.Outcome State Fault Refusal :=
  .next (powered execCcxCkpt s)
/-- CCX_SWAP (R310). -/
def runCcxSwap (s : State) : Host.Outcome State Fault Refusal :=
  .next (powered execCcxSwap s)
/-- CCX_RST_CORE (R308). -/
def runCcxRstCore (core : Fin 2) (s : State) : Host.Outcome State Fault Refusal :=
  .next (powered (execCcxRstCore core) s)
/-- CCX_AUTO_BASTE (R308). -/
def runCcxAutoBaste (s : State) : Host.Outcome State Fault Refusal :=
  .next (powered execCcxAutoBaste s)
/-- CCX_CNT_CLR (R323). -/
def runCcxCntClr (s : State) : Host.Outcome State Fault Refusal :=
  .next (powered execCcxCntClr s)
/-- PXA_CNT_CLR (R86). -/
def runPxaCntClr (s : State) : Host.Outcome State Fault Refusal :=
  .next (powered execPxaCntClr s)
/-- SEQ_CNT_CLR (R114). -/
def runSeqCntClr (q : Fin 4) (s : State) : Host.Outcome State Fault Refusal :=
  .next (powered (execSeqCntClr q) s)
/-- CMP_CNT_CLR (R153). -/
def runCmpCntClr (s : State) : Host.Outcome State Fault Refusal :=
  .next (powered execCmpCntClr s)
/-- SMEM_TRAIN (R156). -/
def runSmemTrain (s : State) : Host.Outcome State Fault Refusal :=
  .next (powered execSmemTrain s)
/-- TRAINING_COMPLETE (R157). -/
def runTrainingComplete (fail : Fin 8) (rdEye : BitVec 8) (wrEye : BitVec 8) (s : State) : Host.Outcome State Fault Refusal :=
  .next (powered (execTrainingComplete fail rdEye wrEye) s)
/-- SMEM_CNT_CLR (R179). -/
def runSmemCntClr (s : State) : Host.Outcome State Fault Refusal :=
  .next (powered execSmemCntClr s)
/-- MR4_READ (R163). -/
def runMr4Read (code : BitVec 3) (s : State) : Host.Outcome State Fault Refusal :=
  .next (powered (execMr4Read code) s)
/-- DQS_OSC_READ (R163). -/
def runDqsOscRead (drift : Nat) (s : State) : Host.Outcome State Fault Refusal :=
  .next (powered (execDqsOscRead drift) s)
/-- SELF_REFRESH_EXIT (R164). -/
def runSelfRefreshExit (s : State) : Host.Outcome State Fault Refusal :=
  .next (powered execSelfRefreshExit s)
/-- CRC_MEM_RUN_END (R457). -/
def runCrcMemRunEnd (n : Fin 3) (errs : List EccErr) (s : State) : Host.Outcome State Fault Refusal :=
  .next (powered (execCrcMemRunEnd n errs) s)
/-- CRC_CFG_WRITE (R455). -/
def runCrcCfgWrite (n : Fin 4) (v : Word) (s : State) : Host.Outcome State Fault Refusal :=
  .next (powered (execCrcCfgWrite n v) s)
/-- CRC_VALUE_WRITE (R455). -/
def runCrcValueWrite (n : Fin 4) (v : Word) (s : State) : Host.Outcome State Fault Refusal :=
  .next (powered (execCrcValueWrite n v) s)
/-- CRC_BIND_WRITE (R458). -/
def runCrcBindWrite (n : Fin 4) (v : Word) (s : State) : Host.Outcome State Fault Refusal :=
  .next (powered (execCrcBindWrite n v) s)
/-- CRC_SCAN_CTRL_WRITE (R464). -/
def runCrcScanCtrlWrite (v : Word) (s : State) : Host.Outcome State Fault Refusal :=
  .next (powered (execCrcScanCtrlWrite v) s)
/-- CRC_CNT_CLR (R476). -/
def runCrcCntClr (s : State) : Host.Outcome State Fault Refusal :=
  .next (powered execCrcCntClr s)
/-- SRAM_SCAN_READ (R462). -/
def runSramScanRead (err : Option Bool) (raced : Bool) (s : State) : Host.Outcome State Fault Refusal :=
  .next (powered (execSramScanRead err raced) s)
/-- REGION_CHECK_END (R463). -/
def runRegionCheckEnd (r : Fin 17) (crc : Word) (s : State) : Host.Outcome State Fault Refusal :=
  .next (powered (execRegionCheckEnd r crc) s)
/-- SURF_SCAN_READ (R464). -/
def runSurfScanRead (err : Option Bool) (raced : Bool) (s : State) : Host.Outcome State Fault Refusal :=
  .next (powered (execSurfScanRead err raced) s)
/-- CAL_LANE_MEASURE (R472). -/
def runCalLaneMeasure (p : Port) (m0 : SliceMeas) (m1 : SliceMeas) (s : State) : Host.Outcome State Fault Refusal :=
  .next (powered (execCalLaneMeasure p m0 m1) s)
/-- CAL_CONVERTER_SET (R473). -/
def runCalConverterSet (m : ConvMeas) (s : State) : Host.Outcome State Fault Refusal :=
  .next (powered (execCalConverterSet m) s)
/-- CAL_RUN_TIMEOUT (R467). -/
def runCalRunTimeout (t : Fin 7) (s : State) : Host.Outcome State Fault Refusal :=
  .next (powered (execCalRunTimeout t) s)
/-- CAL_RUN_OFF (R467). -/
def runCalRunOff (t : Fin 7) (s : State) : Host.Outcome State Fault Refusal :=
  .next (powered (execCalRunOff t) s)
/-- CAL_CNT_CLR (R477). -/
def runCalCntClr (s : State) : Host.Outcome State Fault Refusal :=
  .next (powered execCalCntClr s)
/-- POWER_DOWN_START (R439). -/
def runPowerDownStart (s : State) : Host.Outcome State Fault Refusal :=
  .next (powered execPowerDownStart s)
/-- POWER_DOWN_COMPLETE (R439). -/
def runPowerDownComplete (s : State) : Host.Outcome State Fault Refusal :=
  .next (powered execPowerDownComplete s)
/-- WAKE_SOURCE_FIRE (R441). -/
def runWakeSourceFire (n : Fin 8) (s : State) : Host.Outcome State Fault Refusal :=
  .next (execWakeSourceFire n s)
/-- PMU_TIMER_EXPIRY (R441). -/
def runPmuTimerExpiry (s : State) : Host.Outcome State Fault Refusal :=
  .next (execPmuTimerExpiry s)
/-- PWR_EN_HIGH (R444). -/
def runPwrEnHigh (s : State) : Host.Outcome State Fault Refusal :=
  .next (execPwrEnHigh s)
/-- PWR_EN_LOW (R445). -/
def runPwrEnLow (s : State) : Host.Outcome State Fault Refusal :=
  .next (execPwrEnLow s)
/-- POWER_ON_RESET (R446). -/
def runPowerOnReset (s : State) : Host.Outcome State Fault Refusal :=
  .next (execPowerOnReset s)
/-- RESET_N_LOW (R446). -/
def runResetNLow (s : State) : Host.Outcome State Fault Refusal :=
  .next (execResetNLow s)
/-- SWRST (R446). -/
def runSwrst (s : State) : Host.Outcome State Fault Refusal :=
  .next (powered execSwrst s)
/-- PMU_CNT_CLR (R450). -/
def runPmuCntClr (s : State) : Host.Outcome State Fault Refusal :=
  .next (powered execPmuCntClr s)
/-- VCORE_PG_LOW (R444). -/
def runVcorePgLow (s : State) : Host.Outcome State Fault Refusal :=
  .next (powered execVcorePgLow s)
/-- VCORE_PG_RESET (R444). -/
def runVcorePgReset (s : State) : Host.Outcome State Fault Refusal :=
  .next (powered execVcorePgReset s)
/-- INTERNAL_RESET_RELEASE (R447). -/
def runInternalResetRelease (testMode : Bool) (s : State) : Host.Outcome State Fault Refusal :=
  .next (execInternalResetRelease testMode s)
/-- CORE_BOOT_DONE (R447). -/
def runCoreBootDone (romOk : Bool) (s : State) : Host.Outcome State Fault Refusal :=
  .next (powered (execCoreBootDone romOk) s)
/-- VSCALE_SETTLED (R443). -/
def runVscaleSettled (s : State) : Host.Outcome State Fault Refusal :=
  .next (powered execVscaleSettled s)
/-- VSCALE_TIMEOUT (R443). -/
def runVscaleTimeout (s : State) : Host.Outcome State Fault Refusal :=
  .next (powered execVscaleTimeout s)
/-- CORE_PLL_RELOCK (R443). -/
def runCorePllRelock (s : State) : Host.Outcome State Fault Refusal :=
  .next (powered execCorePllRelock s)
/-- PATCH_RESTART_DONE (R449). -/
def runPatchRestartDone (s : State) : Host.Outcome State Fault Refusal :=
  .next (powered execPatchRestartDone s)
/-- REF_LOSS (R452). -/
def runRefLoss (s : State) : Host.Outcome State Fault Refusal :=
  .next (powered execRefLoss s)
/-- REF_RESTORE (R452). -/
def runRefRestore (s : State) : Host.Outcome State Fault Refusal :=
  .next (powered execRefRestore s)
/-- CKU_GATE_WRITE (R451). -/
def runCkuGateWrite (v : Word) (s : State) : Host.Outcome State Fault Refusal :=
  .next (powered (execCkuGateWrite v) s)
/-- CKU_MEAS_WRITE (R436). -/
def runCkuMeasWrite (v : Word) (s : State) : Host.Outcome State Fault Refusal :=
  .next (powered (execCkuMeasWrite v) s)
/-- CKU_MEAS_DONE (R436). -/
def runCkuMeasDone (freq : BitVec 18) (s : State) : Host.Outcome State Fault Refusal :=
  .next (powered (execCkuMeasDone freq) s)
/-- REGISTER_WRITE (R5). -/
def runRegisterWrite (chan : BitVec 8) (addr : Word) (value : Word) (tie : Bool) (errs : List EccErr) (s : State) : Host.Outcome State Fault Refusal :=
  .next (powered (execRegisterWrite chan addr value tie errs) s)
/-- PHASE_THRESHOLD_CROSSING (R371). -/
def runPhaseThresholdCrossing (k : Fin 6) (rise : Bool) (since : Nat) (s : State) : Host.Outcome State Fault Refusal :=
  .next (powered (execPhaseThresholdCrossing k rise since) s)
/-- CHECKER_IN_SYNC (R252). -/
def runCheckerInSync (lane : Fin 4) (l : List Bool) (s : State) : Host.Outcome State Fault Refusal :=
  .next (powered (execCheckerInSync lane l) s)
/-- CHECKER_SYNC_LOSS (R252). -/
def runCheckerSyncLoss (lane : Fin 4) (n : Nat) (s : State) : Host.Outcome State Fault Refusal :=
  .next (powered (execCheckerSyncLoss lane n) s)
/-- RETURN_TO_D0 (R441). -/
def runReturnToD0 (s : State) : Host.Outcome State Fault Refusal :=
  .next (powered execReturnToD0 s)

end Sys2Proof.Machine
end

