-- ==== Sys2Proof/Machine/Dispatch.lean ====
section
/-!
DEFINITION. The dispatch: one arm per constructor of Instr.
-/
namespace Sys2Proof.Machine

def exec (i : Instr) (s : State) : Host.Outcome State Fault Refusal :=
  match i with
  | .nop c => Sys2Proof.Machine.runNop c s
  | .ping c => Sys2Proof.Machine.runPing c s
  | .tack c => Sys2Proof.Machine.runTack c s
  | .readReg c => Sys2Proof.Machine.runReadReg c s
  | .writeReg c => Sys2Proof.Machine.runWriteReg c s
  | .modifyReg c => Sys2Proof.Machine.runModifyReg c s
  | .readBlock c => Sys2Proof.Machine.runReadBlock c s
  | .fence c => Sys2Proof.Machine.runFence c s
  | .fenceGlobal c => Sys2Proof.Machine.runFenceGlobal c s
  | .thimbleAcquire c => Sys2Proof.Machine.runThimbleAcquire c s
  | .thimbleRelease c => Sys2Proof.Machine.runThimbleRelease c s
  | .thimbleQuery c => Sys2Proof.Machine.runThimbleQuery c s
  | .surfWrite c => Sys2Proof.Machine.runSurfWrite c s
  | .surfRead c => Sys2Proof.Machine.runSurfRead c s
  | .surfFill c => Sys2Proof.Machine.runSurfFill c s
  | .surfCopy c => Sys2Proof.Machine.runSurfCopy c s
  | .tableLoad c => Sys2Proof.Machine.runTableLoad c s
  | .tableRead c => Sys2Proof.Machine.runTableRead c s
  | .layerSet c => Sys2Proof.Machine.runLayerSet c s
  | .layerEnable c => Sys2Proof.Machine.runLayerEnable c s
  | .layerDisable c => Sys2Proof.Machine.runLayerDisable c s
  | .commit c => Sys2Proof.Machine.runCommit c s
  | .commitAt c => Sys2Proof.Machine.runCommitAt c s
  | .retireQuery c => Sys2Proof.Machine.runRetireQuery c s
  | .safeMsg c => Sys2Proof.Machine.runSafeMsg c s
  | .spbLoad c => Sys2Proof.Machine.runSpbLoad c s
  | .safeStatus c => Sys2Proof.Machine.runSafeStatus c s
  | .safeTest c => Sys2Proof.Machine.runSafeTest c s
  | .loopCfg c => Sys2Proof.Machine.runLoopCfg c s
  | .loopEnable c => Sys2Proof.Machine.runLoopEnable c s
  | .loopDisable c => Sys2Proof.Machine.runLoopDisable c s
  | .setpoint c => Sys2Proof.Machine.runSetpoint c s
  | .loopHold c => Sys2Proof.Machine.runLoopHold c s
  | .traceArm c => Sys2Proof.Machine.runTraceArm c s
  | .traceRead c => Sys2Proof.Machine.runTraceRead c s
  | .adcSeqCfg c => Sys2Proof.Machine.runAdcSeqCfg c s
  | .adcStart c => Sys2Proof.Machine.runAdcStart c s
  | .adcStop c => Sys2Proof.Machine.runAdcStop c s
  | .tempMeasure c => Sys2Proof.Machine.runTempMeasure c s
  | .calRun c => Sys2Proof.Machine.runCalRun c s
  | .calRead c => Sys2Proof.Machine.runCalRead c s
  | .calWrite c => Sys2Proof.Machine.runCalWrite c s
  | .powerEnter c => Sys2Proof.Machine.runPowerEnter c s
  | .powerQuery c => Sys2Proof.Machine.runPowerQuery c s
  | .vscale c => Sys2Proof.Machine.runVscale c s
  | .faultRead c => Sys2Proof.Machine.runFaultRead c s
  | .faultClear c => Sys2Proof.Machine.runFaultClear c s
  | .faultCfg c => Sys2Proof.Machine.runFaultCfg c s
  | .healthRead c => Sys2Proof.Machine.runHealthRead c s
  | .spareForce c => Sys2Proof.Machine.runSpareForce c s
  | .proofReq c => Sys2Proof.Machine.runProofReq c s
  | .crcRun c => Sys2Proof.Machine.runCrcRun c s
  | .linkTest c => Sys2Proof.Machine.runLinkTest c s
  | .linkInject c => Sys2Proof.Machine.runLinkInject c s
  | .chanCfg c => Sys2Proof.Machine.runChanCfg c s
  | .chanQuery c => Sys2Proof.Machine.runChanQuery c s
  | .fwPatchLoad c => Sys2Proof.Machine.runFwPatchLoad c s
  | .fwPatchActivate c => Sys2Proof.Machine.runFwPatchActivate c s
  | .stateRead c => Sys2Proof.Machine.runStateRead c s
  | .resync c => Sys2Proof.Machine.runResync c s
  | .deviceInfo c => Sys2Proof.Machine.runDeviceInfo c s
  | .dataPacket d => Sys2Proof.Machine.runDataPacket d s
  | .xferTimeout p ch => Sys2Proof.Machine.runXferTimeout p ch s
  | .chanTimeout ch => Sys2Proof.Machine.runChanTimeout ch s
  | .dupHoldExpiry ch => Sys2Proof.Machine.runDupHoldExpiry ch s
  | .thimbleLeaseExpiry t => Sys2Proof.Machine.runThimbleLeaseExpiry t s
  | .thimbleWaitExpiry t => Sys2Proof.Machine.runThimbleWaitExpiry t s
  | .fenceRelease => Sys2Proof.Machine.runFenceRelease s
  | .writeGroupApply core epoch jseq writes reply => Sys2Proof.Machine.runWriteGroupApply core epoch jseq writes reply s
  | .staleWriteReject core epoch => Sys2Proof.Machine.runStaleWriteReject core epoch s
  | .coreBeat core => Sys2Proof.Machine.runCoreBeat core s
  | .coreHbTimeout core tie => Sys2Proof.Machine.runCoreHbTimeout core tie s
  | .coreRestartDone core => Sys2Proof.Machine.runCoreRestartDone core s
  | .recoveryEnd => Sys2Proof.Machine.runRecoveryEnd s
  | .checkpointCommit body => Sys2Proof.Machine.runCheckpointCommit body s
  | .basteStart core errs => Sys2Proof.Machine.runBasteStart core errs s
  | .basteJoin core errs => Sys2Proof.Machine.runBasteJoin core errs s
  | .basteTimeout => Sys2Proof.Machine.runBasteTimeout s
  | .heartbeatBeat p => Sys2Proof.Machine.runHeartbeatBeat p s
  | .hostHbTimeout p => Sys2Proof.Machine.runHostHbTimeout p s
  | .laneSignalDetect p => Sys2Proof.Machine.runLaneSignalDetect p s
  | .trainingSetReceive p t0 t1 run sent skew => Sys2Proof.Machine.runTrainingSetReceive p t0 t1 run sent skew s
  | .trainingTimeout p => Sys2Proof.Machine.runTrainingTimeout p s
  | .codeViolationLimit p bad misplaced => Sys2Proof.Machine.runCodeViolationLimit p bad misplaced s
  | .retrainTimeout p => Sys2Proof.Machine.runRetrainTimeout p s
  | .linkPacketReceive p l0 l1 edb errs => Sys2Proof.Machine.runLinkPacketReceive p l0 l1 edb errs s
  | .ackLatencyExpiry p => Sys2Proof.Machine.runAckLatencyExpiry p s
  | .ack p v => Sys2Proof.Machine.runAck p v s
  | .nak p v => Sys2Proof.Machine.runNak p v s
  | .credit p v => Sys2Proof.Machine.runCredit p v s
  | .replayTimeout p => Sys2Proof.Machine.runReplayTimeout p s
  | .creditAdvertise p => Sys2Proof.Machine.runCreditAdvertise p s
  | .creditStallTimeout p => Sys2Proof.Machine.runCreditStallTimeout p s
  | .packetTransmit p errs => Sys2Proof.Machine.runPacketTransmit p errs s
  | .skipSetDue p => Sys2Proof.Machine.runSkipSetDue p s
  | .l1IdleExpiry p => Sys2Proof.Machine.runL1IdleExpiry p s
  | .l1Req p => Sys2Proof.Machine.runL1Req p s
  | .l1Ack p => Sys2Proof.Machine.runL1Ack p s
  | .l1Nak p => Sys2Proof.Machine.runL1Nak p s
  | .l2Req p => Sys2Proof.Machine.runL2Req p s
  | .l2Ack p => Sys2Proof.Machine.runL2Ack p s
  | .l2Nak p => Sys2Proof.Machine.runL2Nak p s
  | .l1Exit p => Sys2Proof.Machine.runL1Exit p s
  | .l2Wake p => Sys2Proof.Machine.runL2Wake p s
  | .engineL2Exit p => Sys2Proof.Machine.runEngineL2Exit p s
  | .wakePatternEnd p => Sys2Proof.Machine.runWakePatternEnd p s
  | .portStopComplete p => Sys2Proof.Machine.runPortStopComplete p s
  | .linkTestEnd e0 e1 e2 e3 => Sys2Proof.Machine.runLinkTestEnd e0 e1 e2 e3 s
  | .eyeMeasure lane width => Sys2Proof.Machine.runEyeMeasure lane width s
  | .portEnable p => Sys2Proof.Machine.runPortEnable p s
  | .portDisable p => Sys2Proof.Machine.runPortDisable p s
  | .portRetrain p => Sys2Proof.Machine.runPortRetrain p s
  | .attnClear p mask tie => Sys2Proof.Machine.runAttnClear p mask tie s
  | .hlxCntClr p => Sys2Proof.Machine.runHlxCntClr p s
  | .lmeCntClr => Sys2Proof.Machine.runLmeCntClr s
  | .fsyncEdge rise high => Sys2Proof.Machine.runFsyncEdge rise high s
  | .fsyncWindowEnd => Sys2Proof.Machine.runFsyncWindowEnd s
  | .acquireTimeout at_ => Sys2Proof.Machine.runAcquireTimeout at_ s
  | .relockTimeout => Sys2Proof.Machine.runRelockTimeout s
  | .scnRunStart => Sys2Proof.Machine.runScnRunStart s
  | .scnRunStop => Sys2Proof.Machine.runScnRunStop s
  | .soEn on => Sys2Proof.Machine.runSoEn on s
  | .scnCntClr => Sys2Proof.Machine.runScnCntClr s
  | .syncOutRise => Sys2Proof.Machine.runSyncOutRise s
  | .syncOutFall => Sys2Proof.Machine.runSyncOutFall s
  | .tick => Sys2Proof.Machine.runTick s
  | .thmAutoDemand => Sys2Proof.Machine.runThmAutoDemand s
  | .slotPeriodStart errs => Sys2Proof.Machine.runSlotPeriodStart errs s
  | .load q errs => Sys2Proof.Machine.runLoad q errs s
  | .transfer q sns errs => Sys2Proof.Machine.runTransfer q sns errs s
  | .meas q hr vf errs => Sys2Proof.Machine.runMeas q hr vf errs s
  | .proof q errs => Sys2Proof.Machine.runProof q errs s
  | .proofListFix scan reach errs => Sys2Proof.Machine.runProofListFix scan reach errs s
  | .offpulse q b errs => Sys2Proof.Machine.runOffpulse q b errs s
  | .darkscan q sense errs => Sys2Proof.Machine.runDarkscan q sense errs s
  | .tempDemand q tie errs => Sys2Proof.Machine.runTempDemand q tie errs s
  | .adcTrig q errs => Sys2Proof.Machine.runAdcTrig q errs s
  | .calWin q es errs => Sys2Proof.Machine.runCalWin q es errs s
  | .loopFf q errs => Sys2Proof.Machine.runLoopFf q errs s
  | .ffApply => Sys2Proof.Machine.runFfApply s
  | .patternSel q errs => Sys2Proof.Machine.runPatternSel q errs s
  | .stagger q errs => Sys2Proof.Machine.runStagger q errs s
  | .endList q errs => Sys2Proof.Machine.runEnd q errs s
  | .compositionStart => Sys2Proof.Machine.runCompositionStart s
  | .compositionComplete errs => Sys2Proof.Machine.runCompositionComplete errs s
  | .safeMsgWindowEnd => Sys2Proof.Machine.runSafeMsgWindowEnd s
  | .safeReqQualify => Sys2Proof.Machine.runSafeReqQualify s
  | .safeReqEnd => Sys2Proof.Machine.runSafeReqEnd s
  | .safeOffTimeout => Sys2Proof.Machine.runSafeOffTimeout s
  | .safeSnsTimeout sns => Sys2Proof.Machine.runSafeSnsTimeout sns s
  | .strapLatch v0 v1 => Sys2Proof.Machine.runStrapLatch v0 v1 s
  | .strapRead v0 v1 => Sys2Proof.Machine.runStrapRead v0 v1 s
  | .selfCheck code fails => Sys2Proof.Machine.runSelfCheck code fails s
  | .bootSelfCheckDone => Sys2Proof.Machine.runBootSelfCheckDone s
  | .aliveToggle => Sys2Proof.Machine.runAliveToggle s
  | .spbSealDone => Sys2Proof.Machine.runSpbSealDone s
  | .smcCntClr => Sys2Proof.Machine.runSmcCntClr s
  | .retireWrite errs => Sys2Proof.Machine.runRetireWrite errs s
  | .pxhStuckClear mask tie => Sys2Proof.Machine.runPxhStuckClear mask tie s
  | .pxhCntClr => Sys2Proof.Machine.runPxhCntClr s
  | .thmConversion counts => Sys2Proof.Machine.runThmConversion counts s
  | .xchkRun => Sys2Proof.Machine.runXchkRun s
  | .xchkEnd counts => Sys2Proof.Machine.runXchkEnd counts s
  | .thmBrokenClear n mask tie => Sys2Proof.Machine.runThmBrokenClear n mask tie s
  | .thmCntClr => Sys2Proof.Machine.runThmCntClr s
  | .loopSlotConversion x => Sys2Proof.Machine.runLoopSlotConversion x s
  | .phaseOcTrip k => Sys2Proof.Machine.runPhaseOcTrip k s
  | .phaseOcPersist k => Sys2Proof.Machine.runPhaseOcPersist k s
  | .railAutoStart sns => Sys2Proof.Machine.runRailAutoStart sns s
  | .railOn => Sys2Proof.Machine.runRailOn s
  | .railStartTimeout => Sys2Proof.Machine.runRailStartTimeout s
  | .railStopComplete => Sys2Proof.Machine.runRailStopComplete s
  | .railSenseLost b => Sys2Proof.Machine.runRailSenseLost b s
  | .railSenseFrozen b => Sys2Proof.Machine.runRailSenseFrozen b s
  | .loopIntSat => Sys2Proof.Machine.runLoopIntSat s
  | .railOv b => Sys2Proof.Machine.runRailOv b s
  | .railUv => Sys2Proof.Machine.runRailUv s
  | .loopHoldExpiry => Sys2Proof.Machine.runLoopHoldExpiry s
  | .profileTick lvl => Sys2Proof.Machine.runProfileTick lvl s
  | .lvlOn => Sys2Proof.Machine.runLvlOn s
  | .lvlStartTimeout => Sys2Proof.Machine.runLvlStartTimeout s
  | .lvlStopComplete => Sys2Proof.Machine.runLvlStopComplete s
  | .lvlFbLost => Sys2Proof.Machine.runLvlFbLost s
  | .lvlFbFrozen => Sys2Proof.Machine.runLvlFbFrozen s
  | .lvlLimit => Sys2Proof.Machine.runLvlLimit s
  | .fanTachEdge us => Sys2Proof.Machine.runFanTachEdge us s
  | .fanTachTimeout => Sys2Proof.Machine.runFanTachTimeout s
  | .fanDutyUpdate => Sys2Proof.Machine.runFanDutyUpdate s
  | .fanKickEnd => Sys2Proof.Machine.runFanKickEnd s
  | .fanStopComplete => Sys2Proof.Machine.runFanStopComplete s
  | .le0En on => Sys2Proof.Machine.runLe0En on s
  | .lvlEn on => Sys2Proof.Machine.runLvlEn on s
  | .fanEn on => Sys2Proof.Machine.runFanEn on s
  | .le0SetSelWrite v => Sys2Proof.Machine.runLe0SetSelWrite v s
  | .le0FbClear mask tie => Sys2Proof.Machine.runLe0FbClear mask tie s
  | .le1FbClear mask tie => Sys2Proof.Machine.runLe1FbClear mask tie s
  | .le0CntClr => Sys2Proof.Machine.runLe0CntClr s
  | .adcTimerTrigger n => Sys2Proof.Machine.runAdcTimerTrigger n s
  | .adcEntryComplete n convs => Sys2Proof.Machine.runAdcEntryComplete n convs s
  | .bobbinBlockAccept n => Sys2Proof.Machine.runBobbinBlockAccept n s
  | .adcSeqOn n => Sys2Proof.Machine.runAdcSeqOn n s
  | .adcSeqOff n => Sys2Proof.Machine.runAdcSeqOff n s
  | .adcSqEn n on => Sys2Proof.Machine.runAdcSqEn n on s
  | .adcRptrWrite n v => Sys2Proof.Machine.runAdcRptrWrite n v s
  | .adcCntClr => Sys2Proof.Machine.runAdcCntClr s
  | .faultEvent src sev detail drop => Sys2Proof.Machine.runFaultEvent src sev detail drop s
  | .fcrCntClr => Sys2Proof.Machine.runFcrCntClr s
  | .cmdCntClr => Sys2Proof.Machine.runCmdCntClr s
  | .keyLoad mask => Sys2Proof.Machine.runKeyLoad mask s
  | .keyClr mask => Sys2Proof.Machine.runKeyClr mask s
  | .ccxCkpt => Sys2Proof.Machine.runCcxCkpt s
  | .ccxSwap => Sys2Proof.Machine.runCcxSwap s
  | .ccxRstCore core => Sys2Proof.Machine.runCcxRstCore core s
  | .ccxAutoBaste => Sys2Proof.Machine.runCcxAutoBaste s
  | .ccxCntClr => Sys2Proof.Machine.runCcxCntClr s
  | .pxaCntClr => Sys2Proof.Machine.runPxaCntClr s
  | .seqCntClr q => Sys2Proof.Machine.runSeqCntClr q s
  | .cmpCntClr => Sys2Proof.Machine.runCmpCntClr s
  | .smemTrain => Sys2Proof.Machine.runSmemTrain s
  | .trainingComplete fail rdEye wrEye => Sys2Proof.Machine.runTrainingComplete fail rdEye wrEye s
  | .smemCntClr => Sys2Proof.Machine.runSmemCntClr s
  | .mr4Read code => Sys2Proof.Machine.runMr4Read code s
  | .dqsOscRead drift => Sys2Proof.Machine.runDqsOscRead drift s
  | .selfRefreshExit => Sys2Proof.Machine.runSelfRefreshExit s
  | .crcMemRunEnd n errs => Sys2Proof.Machine.runCrcMemRunEnd n errs s
  | .crcCfgWrite n v => Sys2Proof.Machine.runCrcCfgWrite n v s
  | .crcValueWrite n v => Sys2Proof.Machine.runCrcValueWrite n v s
  | .crcBindWrite n v => Sys2Proof.Machine.runCrcBindWrite n v s
  | .crcScanCtrlWrite v => Sys2Proof.Machine.runCrcScanCtrlWrite v s
  | .crcCntClr => Sys2Proof.Machine.runCrcCntClr s
  | .sramScanRead err raced => Sys2Proof.Machine.runSramScanRead err raced s
  | .regionCheckEnd r crc => Sys2Proof.Machine.runRegionCheckEnd r crc s
  | .surfScanRead err raced => Sys2Proof.Machine.runSurfScanRead err raced s
  | .calLaneMeasure p m0 m1 => Sys2Proof.Machine.runCalLaneMeasure p m0 m1 s
  | .calConverterSet m => Sys2Proof.Machine.runCalConverterSet m s
  | .calRunTimeout t => Sys2Proof.Machine.runCalRunTimeout t s
  | .calRunOff t => Sys2Proof.Machine.runCalRunOff t s
  | .calCntClr => Sys2Proof.Machine.runCalCntClr s
  | .powerDownStart => Sys2Proof.Machine.runPowerDownStart s
  | .powerDownComplete => Sys2Proof.Machine.runPowerDownComplete s
  | .wakeSourceFire n => Sys2Proof.Machine.runWakeSourceFire n s
  | .pmuTimerExpiry => Sys2Proof.Machine.runPmuTimerExpiry s
  | .pwrEnHigh => Sys2Proof.Machine.runPwrEnHigh s
  | .pwrEnLow => Sys2Proof.Machine.runPwrEnLow s
  | .powerOnReset => Sys2Proof.Machine.runPowerOnReset s
  | .resetNLow => Sys2Proof.Machine.runResetNLow s
  | .swrst => Sys2Proof.Machine.runSwrst s
  | .pmuCntClr => Sys2Proof.Machine.runPmuCntClr s
  | .vcorePgLow => Sys2Proof.Machine.runVcorePgLow s
  | .vcorePgReset => Sys2Proof.Machine.runVcorePgReset s
  | .internalResetRelease testMode => Sys2Proof.Machine.runInternalResetRelease testMode s
  | .coreBootDone romOk => Sys2Proof.Machine.runCoreBootDone romOk s
  | .vscaleSettled => Sys2Proof.Machine.runVscaleSettled s
  | .vscaleTimeout => Sys2Proof.Machine.runVscaleTimeout s
  | .corePllRelock => Sys2Proof.Machine.runCorePllRelock s
  | .patchRestartDone => Sys2Proof.Machine.runPatchRestartDone s
  | .refLoss => Sys2Proof.Machine.runRefLoss s
  | .refRestore => Sys2Proof.Machine.runRefRestore s
  | .ckuGateWrite v => Sys2Proof.Machine.runCkuGateWrite v s
  | .ckuMeasWrite v => Sys2Proof.Machine.runCkuMeasWrite v s
  | .ckuMeasDone freq => Sys2Proof.Machine.runCkuMeasDone freq s
  | .registerWrite chan addr value tie errs => Sys2Proof.Machine.runRegisterWrite chan addr value tie errs s
  | .phaseThresholdCrossing k rise since => Sys2Proof.Machine.runPhaseThresholdCrossing k rise since s
  | .checkerInSync lane l => Sys2Proof.Machine.runCheckerInSync lane l s
  | .checkerSyncLoss lane n => Sys2Proof.Machine.runCheckerSyncLoss lane n s
  | .returnToD0 => Sys2Proof.Machine.runReturnToD0 s

end Sys2Proof.Machine
end

