-- ==== Sys2Proof/Safety.lean ====
section
/-!
DEFINITION. What a sound state of the light engine is, and what an admitted host command is, in the terms that statements use: the
canonical form of the stores, and the conditions of the ten admission steps with the state that they leave.
-/
namespace Sys2Proof.Machine

/-- The register store, the values in effect and the bytes of surface memory are in canonical form. -/
def State.canonical (s : State) : Bool :=
  storeWf regReset s.regs && storeWf regReset s.act && storeWf (fun _ => 0#8) s.smem.mem

/-- The machine answers a next state. -/
def isNext (x : Host.Outcome State Fault Refusal) : Prop := ∃ t, x = .next t

/-! ### An admitted command -/

/-- CMD has taken the packet of a command from the port's buffer (R240, R262, R268). -/
def taken (op : Opcode) (c : Cmd) (s : State) : State :=
  cutTransfer c (heard c.ch c.port.num c.ptype.toNat (takePacket c.port.num c.ch (carries op c) (drained s)))

/-- The packet is the one that CMD takes now: CMD takes packets of the port, no first copy of the channel is held on it, and no
other ready packet goes before it (R264, R267, R295). -/
def takes (op : Opcode) (c : Cmd) (s : State) : Bool := !waitsTurn c.port c.ch c.seq.toNat (carries op c) (drained s)

/-- Steps 1 and 2 of R264 pass: the channel is open to the port, and the packet is authentic (R234). -/
def passesOpen (c : Cmd) (u : State) : Bool :=
  decide (c.ch ≠ 255) && decide (chanW1 u c.ch / 2 ^ 31 % 2 = 1) && decide (chanW1 u c.ch / 2 ^ (29 + c.port.num) % 2 = 1)
    && (match keyOf (chanW1 u c.ch) with
        | some _ => c.a && c.tagOk
        | none => !c.a)

/-- Step 3 passes: fewer commands than RATE came on the channel and port in this frame. -/
def passesRate (c : Cmd) (u : State) : Bool :=
  decide (u.rd (CMD_CHANn_W0_RATE c.ch) = 0 ∨ storeGet 0 u.cmd.rate (rateKey c) < u.rd (CMD_CHANn_W0_RATE c.ch))

/-- Step 6 passes on a SINGLE channel: the SEQ is later than the last admitted one of the stream. -/
def passesSeq (c : Cmd) (u : State) : Bool :=
  (storeGet none u.cmd.lastSeq (streamKey (chanW1 u c.ch) c.ch c.port.num)).all (fun q => later 16 c.seq.toNat q)

/-- Step 7 passes: the claim is current, or the opcode needs none (R264, R288). -/
def passesClaim (op : Opcode) (c : Cmd) (u : State) : Bool :=
  decide (op = .stateRead ∨ op = .resync ∨ op = .deviceInfo) || decide (claimFault c u = 0)

/-- Steps 8 to 10 pass: class bits, length, and Thimbles. -/
def passesRights (op : Opcode) (c : Cmd) (u : State) : Bool :=
  (classesOf op c).all (fun b => decide (u.rd (CMD_CHANn_W0_CLASS c.ch) / 2 ^ b % 2 = 1)) && lenOk op c
    && (thimblesOf op c).all (holdsThimble c u)

/-- The state in which an admitted command of a SINGLE channel executes: its packet taken, its rate counted, its SEQ and its
journal entry recorded (R264, R265, R311). -/
def admitted (op : Opcode) (c : Cmd) (s : State) : State := recordAdmit op c false (countRate c (taken op c s))

/-- The admitted command as CMD holds it. -/
def issued (op : Opcode) (c : Cmd) (s : State) : Outst :=
  let u := countRate c (taken op c s)
  ⟨op, c, nextJseq u, (u.reg (CMD_CHANn_W0 c.ch)).toNat, chanW1 u c.ch⟩

/-- A command on a SINGLE channel is admitted by R264 and executes at once: the block runs, CMD takes the packet, the ten steps
pass, no fence holds it back (R274), the cores execute commands (R309, R447), and its reply is not too long for the channel. -/
def admits (op : Opcode) (c : Cmd) (s : State) : Bool :=
  let u := taken op c s
  let t := admitted op c s
  isPowered s && takes op c s && passesOpen c u && passesRate c u && ptypeOk op c && !c.d && !dupOf (chanW1 u c.ch)
    && passesSeq c u && passesClaim op c (countRate c u) && passesRights op c (countRate c u)
    && !badFence op c && !(!t.cmd.busyAll && fenceHolds (issued op c s) (incomplete t))
    && !(t.bit PMU_STAT_BOOT_ERR && decide (op ≠ .deviceInfo))
    && !(t.cmd.busyAll && decide (op ≠ .tack ∧ op ≠ .deviceInfo ∧ op ≠ .stateRead))
    && !replyTooLong (issued op c s) t

/-- The state after an execution `r` of an admitted command: with its reply, unless it is answered later (R259). -/
def settled (o : Outst) (r : Res) : State :=
  match r with
  | (t, some a) => replyTo o (appendCheck o a t).2 (appendCheck o a t).1
  | (t, none) => t

/-- The state after the admitted command has executed with the result `r` (R259). -/
def completed (op : Opcode) (c : Cmd) (s : State) (r : Res) : State := settled (issued op c s) r

end Sys2Proof.Machine
end

