-- ==== Sys2Proof/Certificates/Slice0/Obligations.lean ====
section
/-!
DEFINITION. The statements about the model. Each says what a family of commands leaves, as the whole next state: the parts of the state
that the equation does not name are unchanged. `admits op c s` says that a host's command is admitted and executes at once,
`completed op c s r` is the state with the result `r` and its reply, `isPowered s` says that the engine runs in D0 or D1.
-/

open Sys2Proof Sys2Proof.Machine

/-- The register at `a` exists, and no chapter gives its writes an effect beside the value it stores. -/
def Obligations.plainRegister (a : Nat) : Bool :=
  decide (a % 4 = 0) && srcAssigned a && !inSram a && !inSurface a && (layerOf a).isNone && (cntClrOf a).isNone
    && decide (a / 0x10000 ∈ [0x5, 0x6, 0x8, 0x9, 0xA, 0xF, 0x13, 0x15])

/-- Thimble `k` of a state is held by port number `p` with a lease that ends `lease` ms from now (R275). -/
def Obligations.held (k p lease : Nat) (t : State) : State :=
  let u := (t.wr (CMD_THIMBLEn_HOLDER k) (p + 1)).setBit CMD_THIMBLE_STAT_HELD k
  { u with cmd := { u.cmd with thLease := storeSet 0 u.cmd.thLease k (u.now + lease * 1000000) } }

/-- The state after Thimble `k` of `v` is freed: no holder, and no lease (R277). -/
def Obligations.freed (k : Nat) (v : State) : State :=
  let u := (v.wr (CMD_THIMBLEn_HOLDER k) 0).clrBit CMD_THIMBLE_STAT_HELD k
  { u with cmd := { u.cmd with thLease := storeSet 0 u.cmd.thLease k 0 } }

/-- The state without the acquire that waits for Thimble `k`. -/
def Obligations.unwaited (k : Nat) (v : State) : State :=
  ({ v with cmd := { v.cmd with thWait := storeSet none v.cmd.thWait k none } } : State).wr (CMD_THIMBLEn_WAITER k) 0

/-- The registers of a list read 0, the state otherwise as it was. -/
def Obligations.zeroed (l : List Nat) (s : State) : State := l.foldl (fun t a => t.setReg a 0#32) s

/-- The next word of sequencer `q`'s slot list is `w`, of code `code`, and no read of the step meets an uncorrectable error in it. -/
def Obligations.due (code : Nat) (q : Fin 4) (w : Nat) (errs : List EccErr) (s : State) : Bool :=
  match nextEvent s q.val with
  | some (v, a) => decide (v = w) && decide (evCode w = code) && !a.any (fun a => ueIn errs a 4)
  | none => false

/-- The walk has passed the event: the position is the next word, the stitch has reached the event's, and the read's errors are
recorded (R57, R87, R110). -/
def Obligations.passed (q : Fin 4) (w : Nat) (errs : List EccErr) (s : State) : State :=
  noteErrs errs ((s.wr (SEQ_POS_WORD q.val) (s.rd (SEQ_POS_WORD q.val) + 1)).wr SCN_POS_STITCH
    (max (s.rd SCN_POS_STITCH) (evStitch w)))

/-- The row of a host command other than TACK, which CMD hands on without a count (R291). -/
def Obligations.hostRow (op : Opcode) (c : Cmd) : Option Instr :=
  match op with
  | .nop => some (.nop c)
  | .ping => some (.ping c)
  | .readReg => some (.readReg c)
  | .writeReg => some (.writeReg c)
  | .modifyReg => some (.modifyReg c)
  | .readBlock => some (.readBlock c)
  | .fence => some (.fence c)
  | .fenceGlobal => some (.fenceGlobal c)
  | .thimbleAcquire => some (.thimbleAcquire c)
  | .thimbleRelease => some (.thimbleRelease c)
  | .thimbleQuery => some (.thimbleQuery c)
  | .surfWrite => some (.surfWrite c)
  | .surfRead => some (.surfRead c)
  | .surfFill => some (.surfFill c)
  | .surfCopy => some (.surfCopy c)
  | .tableLoad => some (.tableLoad c)
  | .tableRead => some (.tableRead c)
  | .layerSet => some (.layerSet c)
  | .layerEnable => some (.layerEnable c)
  | .layerDisable => some (.layerDisable c)
  | .commit => some (.commit c)
  | .commitAt => some (.commitAt c)
  | .retireQuery => some (.retireQuery c)
  | .safeMsg => some (.safeMsg c)
  | .spbLoad => some (.spbLoad c)
  | .safeStatus => some (.safeStatus c)
  | .safeTest => some (.safeTest c)
  | .loopCfg => some (.loopCfg c)
  | .loopEnable => some (.loopEnable c)
  | .loopDisable => some (.loopDisable c)
  | .setpoint => some (.setpoint c)
  | .loopHold => some (.loopHold c)
  | .traceArm => some (.traceArm c)
  | .traceRead => some (.traceRead c)
  | .adcSeqCfg => some (.adcSeqCfg c)
  | .adcStart => some (.adcStart c)
  | .adcStop => some (.adcStop c)
  | .tempMeasure => some (.tempMeasure c)
  | .calRun => some (.calRun c)
  | .calRead => some (.calRead c)
  | .calWrite => some (.calWrite c)
  | .powerEnter => some (.powerEnter c)
  | .powerQuery => some (.powerQuery c)
  | .vscale => some (.vscale c)
  | .faultRead => some (.faultRead c)
  | .faultClear => some (.faultClear c)
  | .faultCfg => some (.faultCfg c)
  | .healthRead => some (.healthRead c)
  | .spareForce => some (.spareForce c)
  | .proofReq => some (.proofReq c)
  | .crcRun => some (.crcRun c)
  | .linkTest => some (.linkTest c)
  | .linkInject => some (.linkInject c)
  | .chanCfg => some (.chanCfg c)
  | .chanQuery => some (.chanQuery c)
  | .fwPatchLoad => some (.fwPatchLoad c)
  | .fwPatchActivate => some (.fwPatchActivate c)
  | .stateRead => some (.stateRead c)
  | .resync => some (.resync c)
  | .deviceInfo => some (.deviceInfo c)
  | .tack => none
  | .unknown _ => none

/-- The rows that may give the array another drive or another frame: TRANSFER, the tick, and the release of the internal reset, at
which the engine starts. -/
def Obligations.drives (i : Instr) : Bool :=
  match i with
  | .transfer _ _ _ | .tick | .internalResetRelease _ => true
  | _ => false

/-- The rows that act on the AON domain, which runs in every power state (R436). -/
def Obligations.alwaysOn (i : Instr) : Bool :=
  match i with
  | .powerOnReset | .resetNLow | .wakeSourceFire _ | .pmuTimerExpiry | .pwrEnHigh | .pwrEnLow | .internalResetRelease _
  | .strapRead _ _ => true
  | _ => false

/-- A step on a queue whose front is `c` is `exec c` on the state with the queue's rest; a step on an empty queue lets the model's clock
advance by 1 ns and changes nothing else (the model's choice, log entry 1). -/
def Obligations.StepRunsFront : Prop :=
  (∀ (c : Instr) (cs : List Instr) (s : State), s.pending = c :: cs → step s = exec c { s with pending := cs }) ∧
  (∀ s : State, s.pending = [] → step s = .next { s with now := s.now + 1 })

/-- After reset no command waits, the stores are canonical, every register reads the reset value of its map, the ladder stands at DARK (R29),
the power-on cause is set (R446), the operating point is OP0 (R443), and no latch drives the array. -/
def Obligations.ResetState : Prop :=
  State.reset.pending = [] ∧ State.reset.canonical ∧ (∀ a, State.reset.reg a = regReset a) ∧
  State.reset.rd DEV_LADDER_RUNG = 4 ∧ State.reset.reg PMU_RST_CAUSE = 1#32 ∧ State.reset.rd PMU_OP_VSEL = 10 ∧
  State.reset.reg PMU_WAKE_EN = 0x81#32 ∧ State.reset.pxa.front = [] ∧ isPowered State.reset = false

/-- Every step keeps the canonical form of the register store, of the values in effect and of surface memory: two states that hold the same
values are equal data. It is an invariant of every state, not of the runs from reset only. -/
def Obligations.CanonicalKept : Prop := ∀ s t : State, s.canonical → step s = .next t → t.canonical

/-- Every command, in every state, answers a next state: no command faults and none is refused. It leaves the queue and the model's clock as
they were, and a programmed fuse stays programmed (R336, R339). -/
def Obligations.EveryCommandGoesOn : Prop := ∀ (i : Instr) (s : State), ∃ t, exec i s = .next t ∧
  t.pending = s.pending ∧ t.now = s.now ∧ s.freeCtr ≤ t.freeCtr ∧
  (∀ d, s.smc.sealFuse = some d → t.smc.sealFuse = some d) ∧ (s.smc.jtagFuse → t.smc.jtagFuse)

/-- No other event, data arrival or command changes the light in the middle of a slot's emission window (R11): a command other than TRANSFER
and the tick leaves the levels that the array's latches hold and the frame in play as they were, or resets the engine, which darkens the
array. -/
def Obligations.DriveFrame : Prop := ∀ (i : Instr) (s t : State), Obligations.drives i = false → exec i s = .next t →
  (t.pxa.front = s.pxa.front ∧ t.cmp.play = s.cmp.play) ∨
  (t.pmu.released = false ∧ t.pxa.front = [] ∧ t.cmp.play = 0)

/-- While the engine is in reset, in D2 or in D3, every domain but AON is gated, and a row of a gated domain changes nothing (R436). The
samples of the straps are the one row that also runs in D2 (R437). -/
def Obligations.GatedRows : Prop := ∀ (i : Instr) (s : State), isPowered s = false →
  (Obligations.alwaysOn i = false → exec i s = .next s) ∧
  (∀ v0 v1, s.rd PMU_STAT_STATE ≠ 2 → exec (.strapRead v0 v1) s = .next s)

/-- Admission (R264, R266): a command that CMD takes and that fails one of the ten steps is answered with the status of the first step that
fails, and is not executed: the failures of steps 1 to 3, and 7 count toward the cap of refusals; a fault is raised and counted as the
table says. A transfer that steps 9 or 10 refuse opens only to absorb its data packets (R263). The refusal changes nothing else. -/
def Obligations.AdmissionRefusals : Prop := ∀ (op : Opcode) (c : Cmd) (i : Instr) (s u v : State),
  Obligations.hostRow op c = some i → isPowered s → takes op c s → u = taken op c s → v = countRate c u →
  (c.ch = 255 ∨ chanW1 u c.ch / 2 ^ 31 % 2 = 0 ∨ chanW1 u c.ch / 2 ^ (29 + c.port.num) % 2 = 0 →
    exec i s = .next (refuse .notPrivileged true true [] op c (raise 0x10 (cmdDetail op c) (u.bump CMD_COUNT0_PRIV)))) ∧
  (c.ch ≠ 255 → chanW1 u c.ch / 2 ^ 31 % 2 = 1 → chanW1 u c.ch / 2 ^ (29 + c.port.num) % 2 = 1 →
    ((keyOf (chanW1 u c.ch)).isSome → ¬ (c.a ∧ c.tagOk) →
      exec i s = .next (refuse .authFail true false [] op c (raise 0x12 (cmdDetail op c) (u.bump CMD_COUNT0_AUTH)))) ∧
    (keyOf (chanW1 u c.ch) = none → c.a →
      exec i s = .next (refuse .authFail true false [] op c (raise 0x12 (cmdDetail op c) (u.bump CMD_COUNT0_AUTH))))) ∧
  (passesOpen c u →
    (passesRate c u = false → exec i s
      = .next (refuse .rateLimited true false [] op c (raise 0x11 (cmdDetail op c) (v.bump CMD_COUNT1_RATE)))) ∧
    (passesRate c u →
      (ptypeOk op c = false → exec i s = .next (refuse .badOpcode false false [] op c v)) ∧
      (ptypeOk op c → c.d ≠ dupOf (chanW1 u c.ch) → exec i s = .next (refuse .badParam false false [] op c v)) ∧
      (ptypeOk op c → c.d = false → dupOf (chanW1 u c.ch) = false →
        (passesSeq c u = false → exec i s = .next (refuse .duplicate false false
          [dupWord (streamKey (chanW1 u c.ch) c.ch c.port.num) c false v] op c
          (v.bump CMD_COUNT2_DUPLICATE))) ∧
        (passesSeq c u →
          (passesClaim op c v = false → claimFault c v ≠ 0x71 →
            exec i s = .next (refuse .stale true false [] op c (raise (claimFault c v) (cmdDetail op c) v))) ∧
          (passesClaim op c v = false → claimFault c v = 0x71 →
            exec i s = .next (refuse .stale true false [] op c (raise 0x71 (c.port.num + c.ch * 256) v))) ∧
          (passesClaim op c v →
            ((classesOf op c).all (fun b => decide (v.rd (CMD_CHANn_W0_CLASS c.ch) / 2 ^ b % 2 = 1)) = false →
              exec i s = .next (refuse .notPrivileged false false [] op c
                (raise 0x10 (cmdDetail op c) (v.bump CMD_COUNT0_PRIV)))) ∧
            ((classesOf op c).all (fun b => decide (v.rd (CMD_CHANn_W0_CLASS c.ch) / 2 ^ b % 2 = 1)) →
              (lenOk op c = false → exec i s = .next (absorbRefused op c (refuse .badLength false false [] op c v))) ∧
              (lenOk op c → (thimblesOf op c).all (holdsThimble c v) = false →
                exec i s = .next (absorbRefused op c (refuse .thimbleRequired false false [] op c v)))))))))

/-- Copies on a duplicate stream (R295 to R299). With no copy held, a copy that is the next of the stream is held until the other copy comes
or DUP_HOLD ends; the second copy, equal to the held one, admits the command once for both and is absorbed; a second copy that differs is
answered DUPLICATE after the first was admitted, and the divergence is counted and reported. Of two copies that arrive in one cycle the
port that CCX_DUP.PREF names brings the first. A late copy of a SEQ in the history is absorbed where it is equal. -/
def Obligations.DuplicateCopies : Prop := ∀ (op : Opcode) (c : Cmd) (i : Instr) (s u v : State),
  Obligations.hostRow op c = some i → isPowered s → takes op c s → u = taken op c s → v = countRate c u → passesOpen c u →
  passesRate c u → ptypeOk op c → c.d → dupOf (chanW1 u c.ch) →
  ∀ k, k = streamKey (chanW1 u c.ch) c.ch c.port.num →
  (heldOn v c.ch = none → seqInHist v c.ch c.seq.toNat = none →
    (∀ l, storeGet none v.cmd.lastSeq k = some l → c.seq.toNat = (l + 1) % 65536) →
    (v.rd (CMD_CHANn_W1_DUP_HOLD c.ch) ≠ 0 → hostLost v c.port.other.num = false →
      exec i s = .next { v with cmd := { v.cmd with held :=
        v.cmd.held ++ [(⟨op, c, 0, (v.reg (CMD_CHANn_W0 c.ch)).toNat, chanW1 v c.ch⟩, v.now)] } }) ∧
    (v.rd (CMD_CHANn_W1_DUP_HOLD c.ch) = 0 ∨ hostLost v c.port.other.num →
      exec i s = .next (admitTail op (runBody op) c false v))) ∧
  (∀ h, v.cmd.held.find? (fun x => decide (x.1.cmd.ch = c.ch)) = some h → h.1.cmd.seq = c.seq →
    (cmdWords h.1.op h.1.cmd = cmdWords op c →
      exec i s = .next ((admitTail h.1.op (runBody h.1.op) h.1.cmd true (unhold h.1 v)).bump CCX_COUNT3_ABSORBED)) ∧
    (∀ x, cmdWords h.1.op h.1.cmd ≠ cmdWords op c → twinFirst h c v = false →
      x = raise 0x71 (c.port.num + c.ch * 256)
        ((admitTail h.1.op (runBody h.1.op) h.1.cmd false (unhold h.1 v)).bump CCX_COUNT2_DUP_DIVERGE) →
      exec i s = .next (refuse .duplicate false false [dupWord k c true x] op c
        (x.bump CMD_COUNT2_DUPLICATE))) ∧
    (∀ x, cmdWords h.1.op h.1.cmd ≠ cmdWords op c → twinFirst h c v →
      x = raise 0x71 (h.1.cmd.port.num + h.1.cmd.ch * 256)
        ((admitTail op (runBody op) c false (unhold h.1 v)).bump CCX_COUNT2_DUP_DIVERGE) →
      exec i s = .next (refuse .duplicate false false [dupWord k h.1.cmd true x] h.1.op h.1.cmd
        (x.bump CMD_COUNT2_DUPLICATE)))) ∧
  (∀ e x, (∀ h, heldOn v c.ch = some h → h.cmd.seq ≠ c.seq) → seqInHist v c.ch c.seq.toNat = some e →
    x = raise 0x71 (c.port.num + c.ch * 256) (v.bump CCX_COUNT2_DUP_DIVERGE) →
    (e.words = cmdWords op c → exec i s = .next (v.bump CCX_COUNT3_ABSORBED)) ∧
    (e.words ≠ cmdWords op c → exec i s
      = .next (refuse .duplicate false false [dupWord k c true x] op c (x.bump CMD_COUNT2_DUPLICATE)))) ∧
  (∀ l, heldOn v c.ch = none → seqInHist v c.ch c.seq.toNat = none → storeGet none v.cmd.lastSeq k = some l →
    (later 16 c.seq.toNat ((l + 1) % 65536) →
      exec i s = .next (refuse .badParam false false [] op c (raise 0x71 (c.port.num + c.ch * 256) v))) ∧
    (later 16 c.seq.toNat ((l + 1) % 65536) = false → c.seq.toNat ≠ (l + 1) % 65536 →
      exec i s = .next (refuse .duplicate false false [0xFFFFFFFF] op c (v.bump CMD_COUNT2_DUPLICATE))))

/-- NOP, FENCE and FENCE_GLOBAL are answered OK when they start (R274, R506); PING sends its words back (R259 gives the reply's form);
DEVICE_INFO answers the nine words of R30. A read of a register answers OK with its value as it reads; READ_BLOCK answers the words of its
range (R10, R282). A read at an address that is not a multiple of 4, or at an unassigned one, is answered BAD_ADDRESS. -/
def Obligations.ReadCommands : Prop :=
  (∀ (c : Cmd) (s : State),
  (admits .nop c s → c.p0 = 0 → exec (.nop c) s = .next (completed .nop c s (ok (admitted .nop c s)))) ∧
  (admits .fence c s → c.p0 = 0 → exec (.fence c) s = .next (completed .fence c s (ok (admitted .fence c s)))) ∧
  (admits .fenceGlobal c s → c.p0 = 0 →
    exec (.fenceGlobal c) s = .next (completed .fenceGlobal c s (ok (admitted .fenceGlobal c s)))) ∧
  (admits .ping c s → exec (.ping c) s = .next (completed .ping c s (okW (admitted .ping c s) (c.words.map BitVec.toNat)))) ∧
  (admits .deviceInfo c s → c.p0 = 0 →
    exec (.deviceInfo c) s = .next (completed .deviceInfo c s (okW (admitted .deviceInfo c s)
      ([DEV_ID, DEV_STEPPING, DEV_UID_LO, DEV_UID_HI, DEV_CONFIG, DEV_FW, DEV_FN, DEV_LADDER, DEV_GUARANTEE].map
        (shown (admitted .deviceInfo c s))))))) ∧
  (∀ (c : Cmd) (s : State),
  (admits .readReg c s → c.p0 = 0 → c.w 1 % 4 = 0 → (regInfo (c.w 1)).isSome → srcAssigned (c.w 1) →
    blockOff (admitted .readReg c s) (c.w 1) = false → inSram (c.w 1) = false → inSurface (c.w 1) = false →
    ¬ (0xE8000 ≤ c.w 1 ∧ c.w 1 < 0xF0000) →
    exec (.readReg c) s
      = .next (completed .readReg c s (okW (admitted .readReg c s) [shown (admitted .readReg c s) (c.w 1)]))) ∧
  (admits .readReg c s → c.p0 = 0 → c.w 1 % 4 ≠ 0 →
    exec (.readReg c) s = .next (completed .readReg c s (ans (admitted .readReg c s) .badAddress))) ∧
  (admits .readReg c s → c.p0 = 0 → c.w 1 % 4 = 0 → isReg (c.w 1) = false → inSram (c.w 1) = false → inSurface (c.w 1) = false →
    exec (.readReg c) s = .next (completed .readReg c s (ans (admitted .readReg c s) .badAddress))) ∧
  (∀ vs t, admits .readBlock c s → 1 ≤ c.p0 → c.p0 ≤ 511 → c.w 1 % 4 = 0 → oneRegion (c.w 1) c.p0 → inSurface (c.w 1) = false →
    readWords c.errs ((List.range c.p0).map (fun i => c.w 1 + 4 * i)) (admitted .readBlock c s) = (t, .ok vs) →
    exec (.readBlock c) s = .next (completed .readBlock c s (okW t vs))) ∧
  (∀ t e, admits .readBlock c s → 1 ≤ c.p0 → c.p0 ≤ 511 → c.w 1 % 4 = 0 → oneRegion (c.w 1) c.p0 → inSurface (c.w 1) = false →
    readWords c.errs ((List.range c.p0).map (fun i => c.w 1 + 4 * i)) (admitted .readBlock c s) = (t, .error e) →
    exec (.readBlock c) s = .next (completed .readBlock c s (ans t e))))

/-- WRITE_REG of a read-write register stores the write in the register's stored bits and answers OK; a write of a read-only register changes
nothing and is answered OK; a register that the safety parameter block locks, once that is sealed, answers NOT_PRIVILEGED to a write that
would change it; a value outside a field's range is BAD_PARAM (R5, R6, R10). Nothing else changes, but that the write groups that waited
for a write of the same register are applied as far as they may be (R304). MODIFY_REG of a plain register replaces the masked bits by
those of its value, keeps the others, and answers the value that the register read as before (R282); the write groups that waited are
applied as far as they may be (R304). REGISTER_WRITE on a channel is one write of all 32 bits: of a plain read-write register it stores
the writable bits, of a read-only one it changes nothing, a misaligned or unassigned address is BAD_ADDRESS, and on-chip SRAM is
NOT_PRIVILEGED (R5, R6, R10, R166). The answer's status is recorded, and the write groups that waited are applied as far as they may be
(R304). -/
def Obligations.RegisterCommands : Prop :=
  (∀ (c : Cmd) (s t : State) (r : RegInfo),
  admits .writeReg c s → t = (admitted .writeReg c s).apart c.tie → c.p0 = 0 → regInfo (c.w 1) = some r →
  Obligations.plainRegister (c.w 1) → blockOff t (c.w 1) = false →
  (r.acc = .rw → rangeOk (c.w 1) (c.words.getD 1 0#32) → r.cmask = 0 → trimBusy (c.w 1) t = false →
    exec (.writeReg c) s
      = .next (completed .writeReg c s (afterWrite (t.setReg (c.w 1) (t.maskWord (c.w 1) (c.words.getD 1 0#32)), .ok)))) ∧
  (r.acc = .ro → exec (.writeReg c) s = .next (completed .writeReg c s (afterWrite (t, .ok)))) ∧
  (r.acc = .rwl → spbSealed t → t.maskWord (c.w 1) (c.words.getD 1 0#32) ≠ t.reg (c.w 1) →
    exec (.writeReg c) s = .next (completed .writeReg c s (afterWrite (t, .notPrivileged)))) ∧
  (r.acc = .rw → rangeOk (c.w 1) (c.words.getD 1 0#32) = false →
    exec (.writeReg c) s = .next (completed .writeReg c s (afterWrite (t, .badParam))))) ∧
  (∀ (c : Cmd) (s : State) (r : RegInfo),
  admits .modifyReg c s → c.p0 = 0 → regInfo (c.w 1) = some r → Obligations.plainRegister (c.w 1) →
  r.acc = .rw → r.cmask = 0 →
  blockOff (admitted .modifyReg c s) (c.w 1) = false → trimBusy (c.w 1) (admitted .modifyReg c s) = false →
  let t := (admitted .modifyReg c s).apart c.tie
  let x := (t.reg (c.w 1) &&& ~~~(c.words.getD 1 0#32)) ||| (c.words.getD 2 0#32 &&& c.words.getD 1 0#32)
  rangeOk (c.w 1) x →
  exec (.modifyReg c) s
    = .next (completed .modifyReg c s (okW (drainWait (t.setReg (c.w 1) (t.maskWord (c.w 1) x))) [shown (admitted .modifyReg c s) (c.w 1)]))) ∧
  (∀ (ch : BitVec 8) (addr value : Word) (tie : Bool) (errs : List EccErr) (s t : State)
  (r : RegInfo), isPowered s → t = s.apart tie →
  (regInfo addr.toNat = some r → Obligations.plainRegister addr.toNat → blockOff s addr.toNat = false →
    (r.acc = .rw → rangeOk addr.toNat value → r.cmask = 0 → trimBusy addr.toNat s = false →
      exec (.registerWrite ch addr value tie errs) s
        = .next (groupsAfter (answered (t.setReg addr.toNat (t.maskWord addr.toNat value), .ok)))) ∧
    (r.acc = .ro → exec (.registerWrite ch addr value tie errs) s = .next (groupsAfter (answered (t, .ok)))) ∧
    (r.acc = .rw → rangeOk addr.toNat value = false →
      exec (.registerWrite ch addr value tie errs) s = .next (groupsAfter (answered (t, .badParam))))) ∧
  (addr.toNat % 4 ≠ 0 → exec (.registerWrite ch addr value tie errs) s = .next (groupsAfter (answered (t, .badAddress)))) ∧
  (addr.toNat % 4 = 0 → inSram addr.toNat →
    exec (.registerWrite ch addr value tie errs) s = .next (groupsAfter (answered (t, .notPrivileged)))) ∧
  (addr.toNat % 4 = 0 → inSram addr.toNat = false → inSurface addr.toNat = false → isReg addr.toNat = false →
    exec (.registerWrite ch addr value tie errs) s = .next (groupsAfter (answered (t, .badAddress)))))

/-- THIMBLE_ACQUIRE takes a free Thimble, or renews the lease of one that its port holds, and answers the lease; one held by the other port is
THIMBLE_HELD at once without WAIT; with it, BUSY while another acquire waits for it, and else it waits (R275, R276). A request that meets
another for the same free Thimble in its cycle is decided by PRIO, which then turns. THIMBLE_RELEASE frees a Thimble that its port holds
and that no acquire waits for, and is OK for one that is free, THIMBLE_HELD for one that the other port holds; THIMBLE_QUERY answers
CMD_THIMBLE_STAT and the eight Thimbles (R277, R278). The end of a lease raises THIMBLE_LEASE and frees the Thimble: without a waiting
acquire it is free, with one it goes to that acquire, which is answered OK, with LEASE_DEF as it then stands for a LEASE of 0; a renewal
in the same cycle keeps the Thimble with its holder (R277, R286). The end of a wait answers the acquire THIMBLE_HELD (R275). -/
def Obligations.Thimbles : Prop :=
  (∀ (c : Cmd) (s : State), admits .thimbleAcquire c s →
  c.p0 / 8 % 32 = 0 → c.w 1 ≤ 10000 →
  let t := admitted .thimbleAcquire c s
  let k := c.p0 % 8
  let lease := if c.w 1 = 0 then t.rd CMD_THIMBLE_CFG_LEASE_DEF else c.w 1
  let h := t.rd (CMD_THIMBLEn_HOLDER k)
  (h = 0 → c.obs.getD 0 0 ≠ 1 →
    exec (.thimbleAcquire c) s = .next (completed .thimbleAcquire c s (okW (Obligations.held k c.port.num lease t) [lease]))) ∧
  (h = c.port.num + 1 →
    let u := Obligations.held k c.port.num lease t
    exec (.thimbleAcquire c) s = .next (completed .thimbleAcquire c s
      (okW { u with cmd := { u.cmd with thRenew := storeSet 0 u.cmd.thRenew k (u.now + 1) } } [lease]))) ∧
  (h = 0 → c.obs.getD 0 0 = 1 → t.rd CMD_THIMBLE_STAT_PRIO = c.port.num →
    exec (.thimbleAcquire c) s = .next (completed .thimbleAcquire c s (okW (Obligations.held k c.port.num lease
      ((t.bump CMD_COUNT2_CONTESTED).wr CMD_THIMBLE_STAT_PRIO (1 - c.port.num))) [lease]))) ∧
  (h ≠ 0 → h ≠ c.port.num + 1 → (storeGet none t.cmd.thWait k).isSome → c.p0 / 256 ≠ 0 →
    exec (.thimbleAcquire c) s = .next (completed .thimbleAcquire c s (ans t .busy))) ∧
  (h ≠ 0 → h ≠ c.port.num + 1 → c.p0 / 256 = 0 →
    exec (.thimbleAcquire c) s = .next (completed .thimbleAcquire c s (ans t .thimbleHeld))) ∧
  (h ≠ 0 → h ≠ c.port.num + 1 → storeGet none t.cmd.thWait k = none → c.p0 / 256 ≠ 0 →
    let w : ThWait := ⟨issued .thimbleAcquire c s, c.w 1, t.now + c.p0 / 256 * 1000000⟩
    exec (.thimbleAcquire c) s = .next
      (({ t with cmd := { t.cmd with thWait := storeSet none t.cmd.thWait k (some w) } } : State).wr
        (CMD_THIMBLEn_WAITER k) (c.port.num + 1)))) ∧
  (∀ (c : Cmd) (s : State),
  (admits .thimbleRelease c s → c.p0 < 8 →
    let t := admitted .thimbleRelease c s
    let h := t.rd (CMD_THIMBLEn_HOLDER c.p0)
    (h = 0 → exec (.thimbleRelease c) s = .next (completed .thimbleRelease c s (ok t))) ∧
    (h = c.port.num + 1 → storeGet none t.cmd.thWait c.p0 = none →
      exec (.thimbleRelease c) s = .next (completed .thimbleRelease c s (ok (Obligations.freed c.p0 t)))) ∧
    (h ≠ 0 → h ≠ c.port.num + 1 →
      exec (.thimbleRelease c) s = .next (completed .thimbleRelease c s (ans t .thimbleHeld)))) ∧
  (admits .thimbleQuery c s → c.p0 = 0 →
    exec (.thimbleQuery c) s = .next (completed .thimbleQuery c s (okW (admitted .thimbleQuery c s)
      (shown (admitted .thimbleQuery c s) CMD_THIMBLE_STAT :: (List.range 8).map (thimbleWord (admitted .thimbleQuery c s))))))) ∧
  (∀ (k : Fin 8) (s f : State), isPowered s →
  (s.rd (CMD_THIMBLEn_HOLDER k.val) ≠ 0 → storeGet 0 s.cmd.thRenew k.val = s.now + 1 →
    exec (.thimbleLeaseExpiry k) s = .next s) ∧
  (s.rd (CMD_THIMBLEn_HOLDER k.val) ≠ 0 → storeGet 0 s.cmd.thRenew k.val ≠ s.now + 1 →
    f = Obligations.freed k.val (raise 0x15 (k.val + (s.rd (CMD_THIMBLEn_HOLDER k.val) - 1) * 256) s) →
    (storeGet none f.cmd.thWait k.val = none → exec (.thimbleLeaseExpiry k) s = .next f) ∧
    (∀ w n, storeGet none f.cmd.thWait k.val = some w → n = (if w.lease = 0 then f.rd CMD_THIMBLE_CFG_LEASE_DEF else w.lease) →
      exec (.thimbleLeaseExpiry k) s = .next (replyTo w.o ⟨.ok, [n], none⟩
        (Obligations.held k.val w.o.cmd.port.num n (Obligations.unwaited k.val f))))) ∧
  (∀ w, storeGet none s.cmd.thWait k.val = some w →
    exec (.thimbleWaitExpiry k) s = .next (replyTo w.o ⟨.thimbleHeld, [], none⟩ (Obligations.unwaited k.val s))))

/-- CHAN_CFG stores the two words of a channel entry that R269 and R270 allow, and abandons the channel's open transfers when it closes the
channel (R262); one that they do not allow is BAD_PARAM. CHAN_QUERY answers the entry (R270). -/
def Obligations.ChannelTable : Prop := ∀ (c : Cmd) (s : State),
  (admits .chanCfg c s →
    let t := admitted .chanCfg c s
    let u := (t.setReg (CMD_CHANn_W0 c.p0) (BitVec.ofNat 32 (c.w 1))).setReg (CMD_CHANn_W1 c.p0) (BitVec.ofNat 32 (c.w 2))
    (chanCfgBad t c.p0 (c.w 1) (c.w 2) = false → 2 ^ 31 ≤ c.w 2 →
      exec (.chanCfg c) s = .next (completed .chanCfg c s (ok u))) ∧
    (chanCfgBad t c.p0 (c.w 1) (c.w 2) = false → c.w 2 < 2 ^ 31 →
      exec (.chanCfg c) s = .next (completed .chanCfg c s (ok (abandonWhere (fun x => decide (x.o.cmd.ch = c.p0)) u)))) ∧
    (chanCfgBad t c.p0 (c.w 1) (c.w 2) = true →
      exec (.chanCfg c) s = .next (completed .chanCfg c s (ans t .badParam)))) ∧
  (admits .chanQuery c s → c.p0 < 256 →
    exec (.chanQuery c) s = .next (completed .chanQuery c s (okW (admitted .chanQuery c s)
      [((admitted .chanQuery c s).reg (CMD_CHANn_W0 c.p0)).toNat, ((admitted .chanQuery c s).reg (CMD_CHANn_W1 c.p0)).toNat])))

/-- SURF_WRITE on a channel that no check-value unit is bound to: a range that R158, R159 and R283 allow and that the write guard does not
refuse takes the data bytes of the command, and with all of them there the command is answered OK with its byte count; with more to come
the transfer stays open (R261, R263). A refused range answers its status, and nothing is written; while the memory's clock is stopped, a
range on the map is BLOCK_OFF, with ACCESS_OFF raised (R442). A data packet that CMD takes: for no open transfer, or with flags, claim or
trailer that its transfer does not allow, it is discarded and counted; one whose TAG or INDEX is not its transfer's next abandons it; one
in turn of a SURF_WRITE on a SINGLE channel without a bound unit, not the last, writes its bytes where the last ones ended (R261 to R263).
The twin of a packet that was taken on a DUP channel is compared, and only one that differs is counted and reported (R296, R300). CMD has
taken the packet from the port's buffer before (R240, R267, R268). XFER_TIMEOUT abandons the transfer of its channel and port: it closes,
and its command is answered BAD_LENGTH, with the bytes already written for a SURF_WRITE (R262, R263). A channel that has been quiet for
TIMEOUT ticks or more raises CHAN_TIMEOUT and its transfers are abandoned; it is not raised again until the channel's next packet (R268). -/
def Obligations.SurfaceTransfers : Prop :=
  (∀ (c : Cmd) (s t : State) (o : Outst), admits .surfWrite c s →
  t = admitted .surfWrite c s → o = issued .surfWrite c s → unitIn o t = none →
  (surfOff [c.w 1] t = true → (givenBytes o).length = c.w 2 →
    exec (.surfWrite c) s = .next (completed .surfWrite c s (ans (raise 0x27 (c.w 1) t) .blockOff))) ∧
  (surfOff [c.w 1] t = false → surfRefuse (c.w 1) (c.w 2) 4 surfMax t = none → guarded (c.w 1) (c.w 2) t = false →
    (givenBytes o).length = c.w 2 →
    exec (.surfWrite c) s = .next (completed .surfWrite c s (okW (smemWrite c.errs (c.w 1) (givenBytes o) t) [c.w 2]))) ∧
  (surfOff [c.w 1] t = false → surfRefuse (c.w 1) (c.w 2) 4 surfMax t = none → guarded (c.w 1) (c.w 2) t = false →
    (givenBytes o).length < c.w 2 →
    exec (.surfWrite c) s
      = .next (openXfer o (c.w 2) (givenBytes o) false (smemWrite c.errs (c.w 1) (givenBytes o) t))) ∧
  (∀ st, surfOff [c.w 1] t = false → surfRefuse (c.w 1) (c.w 2) 4 surfMax t = some st → (givenBytes o).length = c.w 2 →
    exec (.surfWrite c) s = .next (completed .surfWrite c s (ans t st))) ∧
  (surfOff [c.w 1] t = false → surfRefuse (c.w 1) (c.w 2) 4 surfMax t = none → guarded (c.w 1) (c.w 2) t = true →
    (givenBytes o).length = c.w 2 →
    exec (.surfWrite c) s = .next (completed .surfWrite c s (ans t .busy)))) ∧
  (∀ (d : DataPkt) (s u : State), isPowered s →
  waitsTurn d.port d.chan.toNat d.seq.toNat (carriesData d) s = false →
  u = heard d.chan.toNat d.port.num 3 (takePacket d.port.num d.chan.toNat (carriesData d) s) →
  (lateData d u = none → xferFor u d.chan.toNat d.port.num = none → exec (.dataPacket d) s = .next (u.bump CMD_COUNT1_ERR_DROPPED)) ∧
  (lateData d u = some (dataWords d) → exec (.dataPacket d) s = .next u) ∧
  (∀ ws, lateData d u = some ws → ws ≠ dataWords d →
    exec (.dataPacket d) s = .next (raise 0x71 (d.port.num + d.chan.toNat * 256) (u.bump CCX_COUNT2_DUP_DIVERGE))) ∧
  (∀ x, lateData d u = none → xferFor u d.chan.toNat d.port.num = some x →
    x.taken.find? (fun q => decide (q.1 = dataIndex d)) = none →
    (dataHeaderOk d x = false → exec (.dataPacket d) s = .next (u.bump CMD_COUNT1_ERR_DROPPED)) ∧
    (dataHeaderOk d x → dataInTurn d x = false → exec (.dataPacket d) s = .next (abandonXfer x u)) ∧
    (∀ bs, dataHeaderOk d x → dataInTurn d x → dataSeqOk d x →
      x.o.op = .surfWrite → x.absorb = false → x.unit = none → dupOf x.o.w1 = false →
      bs = (bytesOfWords ((d.words.drop 1).map BitVec.toNat)).take (x.need - x.got) → x.got + bs.length < x.need →
      exec (.dataPacket d) s = .next (putXfer x
        { x with got := x.got + bs.length, nextIdx := x.nextIdx + 1, field := x.field ++ bs.drop (x.need - x.got), taken := [],
                 lastAt := u.now }
        (smemWrite d.errs (x.o.cmd.w 1 + x.got) (bs.take (x.need - x.got)) u))))) ∧
  (∀ (p : Port) (ch : BitVec 8) (s : State), isPowered s →
  (∀ x, s.cmd.xfers.filter (fun x => xferOn x ch.toNat p.num) = [x] → x.absorb = false → x.o.op = .surfWrite → x.unit = none →
    exec (.xferTimeout p ch) s = .next (replyTo x.o ⟨.badLength, [x.got], none⟩ (dropXfer x s))) ∧
  (s.rd (CMD_CHANn_W1_TIMEOUT ch.toNat) ≠ 0 → s.rd (CMD_CHANn_W1_TIMEOUT ch.toNat) ≤ storeGet 0 s.cmd.quiet ch.toNat →
    storeGet false s.cmd.absent ch.toNat = false →
    exec (.chanTimeout ch) s = .next (abandonWhere (fun x => decide (x.o.cmd.ch = ch.toNat)) (raise 0x14 ch.toNat
      { s with cmd := { s.cmd with absent := storeSet false s.cmd.absent ch.toNat true } }))) ∧
  (storeGet false s.cmd.absent ch.toNat = true → exec (.chanTimeout ch) s = .next s))

/-- SURF_READ answers the words of an allowed range, or INTERNAL_ERROR where a word of it is uncorrectable; SURF_FILL writes the pattern over
the range; SURF_COPY writes the source's bytes over the destination; RETIRE_QUERY answers the in-use bits and the latch token (R160, R176,
R177, R283). While the memory's clock is stopped, a range on the map is BLOCK_OFF, with ACCESS_OFF raised (R442). A write of bytes to
surface memory puts each byte at its address and leaves every other byte (R1, R161). -/
def Obligations.SurfaceCommands : Prop :=
  (∀ (c : Cmd) (s : State),
  (∀ t, admits .surfRead c s → t = admitted .surfRead c s → surfOff [c.w 1] t = true →
    exec (.surfRead c) s = .next (completed .surfRead c s (ans (raise 0x27 (c.w 1) t) .blockOff))) ∧
  (∀ t, admits .surfRead c s → t = admitted .surfRead c s → surfOff [c.w 1] t = false → surfRefuse (c.w 1) (c.w 2) 4 2044 t = none →
    (readUe c.errs (c.w 1) (c.w 2) t = false → ∀ u, u = noteErrs (readErrs c.errs (c.w 1) (c.w 2) t) t →
      exec (.surfRead c) s
        = .next (completed .surfRead c s (okW u (wordsOfBytes (smemBytes t (c.w 1) (c.w 2)))))) ∧
    (readUe c.errs (c.w 1) (c.w 2) t = true →
      exec (.surfRead c) s = .next (completed .surfRead c s
        (ans (noteErrs (readErrs c.errs (c.w 1) (c.w 2) t) t) .internalError)))) ∧
  (∀ t, admits .surfFill c s → t = admitted .surfFill c s → surfOff [c.w 1] t = true →
    exec (.surfFill c) s = .next (completed .surfFill c s (ans (raise 0x27 (c.w 1) t) .blockOff))) ∧
  (∀ t, admits .surfFill c s → t = admitted .surfFill c s → surfOff [c.w 1] t = false →
    surfRefuse (c.w 1) (c.w 2) 4 surfMax t = none → guarded (c.w 1) (c.w 2) t = false →
    exec (.surfFill c) s = .next (completed .surfFill c s
      (ok (smemWrite c.errs (c.w 1) (bytesOfWords (List.replicate (c.w 2 / 4) (c.w 3))) t)))) ∧
  (∀ t, admits .surfCopy c s → t = admitted .surfCopy c s → surfOff [c.w 1, c.w 2] t = true →
    exec (.surfCopy c) s = .next (completed .surfCopy c s (ans (raise 0x27 (c.w 1) t) .blockOff))) ∧
  (∀ t, admits .surfCopy c s → t = admitted .surfCopy c s → surfOff [c.w 1, c.w 2] t = false →
    surfRefuse (c.w 1) (c.w 3) 4 surfMax t = none → surfRefuse (c.w 2) (c.w 3) 4 surfMax t = none →
    overlap (c.w 1) (c.w 3) (c.w 2) (c.w 3) = false → guarded (c.w 1) (c.w 3) t = false →
    bytesBeforeUe c.errs (c.w 2) (c.w 3) t = c.w 3 → ∀ u, u = noteErrs (readErrs c.errs (c.w 2) (c.w 3) t) t →
    exec (.surfCopy c) s = .next (completed .surfCopy c s
      (ok (smemWrite c.errs (c.w 1) (smemBytes t (c.w 2) (c.w 3)) u)))) ∧
  (∀ t, admits .retireQuery c s → t = admitted .retireQuery c s → c.p0 = 0 → cmpOff t = false → c.w 2 ≠ 0 →
    inUsable t (c.w 1) (c.w 2) →
    exec (.retireQuery c) s = .next (completed .retireQuery c s
      (okW t [inUseBits t (c.w 1) (c.w 2), t.rd SMEM_RETIRE_FN])))) ∧
  (∀ (errs : List EccErr) (a : Nat) (bs : List Nat) (s : State) (x : Nat),
  (x < a ∨ a + bs.length ≤ x → smemByte (smemWrite errs a bs s) x = smemByte s x) ∧
  (∀ i, i < bs.length → smemByte (smemWrite errs a bs s) (a + i) = bs.getD i 0 % 256))

/-- The hold of a first copy ends: the copy goes on alone through steps 7 to 10, and CCX counts it (R295). With the commands before it
complete, the oldest command that a fence held starts, and CMD_STAT.GFENCE shows whether a FENCE_GLOBAL still waits (R274). -/
def Obligations.HeldCommands : Prop := ∀ (s : State), isPowered s →
  (∀ (ch : BitVec 8) (o : Outst), heldOn s ch.toNat = some o →
    exec (.dupHoldExpiry ch) s = .next (admitTail o.op (runBody o.op) o.cmd false
      (({ s with cmd := { s.cmd with held := s.cmd.held.filter (fun h => decide (h.1 ≠ o)) } } : State).bump CCX_COUNT3_SOLO))) ∧
  (∀ (o : Outst) (t u : State), s.pmu.activate = none → releasable s = some o →
    t = { s with cmd := { s.cmd with waiting := s.cmd.waiting.filter (fun x => decide (x ≠ o)) } } →
    u = t.wr CMD_STAT_GFENCE (boolNat (t.cmd.waiting.any (fun o => decide (o.op = .fenceGlobal)))) →
    (execute (runBody o.op) o u).pmu.activate = none →
    exec .fenceRelease s = .next (execute (runBody o.op) o u))

/-- TABLE_LOAD on a channel that no check-value unit is bound to, for a legal table and SELECT that is not busy and a byte count and header
that the table allows: with the whole image in the command, the image is installed or rejected and the command is answered so; with more
to come the transfer opens. A select that is not legal is BAD_PARAM, a table in use BUSY (R263, R284). TABLE_READ answers the words of its
range of the table's image (R512); `es` are the errors that the read meets, those of words of the trim map left uncorrectable by a write
in part with them (R161, R167). -/
def Obligations.TableCommands : Prop := ∀ (c : Cmd) (s t : State) (o : Outst),
  (admits .tableLoad c s → t = admitted .tableLoad c s → o = issued .tableLoad c s → unitIn o t = none →
    (selectOk c.p0 (c.w 1) → ¬ (c.p0 = 6 ∧ cmpOff t) → tableBusy c.p0 (c.w 1) t = false →
      tableLenBad c.p0 (c.w 1) (c.w 2) = false → tableHeaderBad c.p0 (c.w 2) (givenBytes o) = false →
      ((givenBytes o).length = c.w 2 → ∀ u st, tableInstall c.p0 (c.w 1) (c.w 2) (givenBytes o) t = (u, st) →
        exec (.tableLoad c) s = .next (completed .tableLoad c s (ans u st))) ∧
      ((givenBytes o).length < c.w 2 → exec (.tableLoad c) s = .next (openXfer o (c.w 2) (givenBytes o) false t))) ∧
    (selectOk c.p0 (c.w 1) = false → (givenBytes o).length = c.w 2 →
      exec (.tableLoad c) s = .next (completed .tableLoad c s (ans t .badParam))) ∧
    (selectOk c.p0 (c.w 1) → ¬ (c.p0 = 6 ∧ cmpOff t) → tableBusy c.p0 (c.w 1) t → (givenBytes o).length = c.w 2 →
      exec (.tableLoad c) s = .next (completed .tableLoad c s (ans t .busy)))) ∧
  (∀ len f, admits .tableRead c s → t = admitted .tableRead c s → selectOk c.p0 (c.w 1) →
    (c.p0 = 2 → c.w 1 % 16 ∈ [1, 2, 4, 8]) → c.w 2 % 4 = 0 → c.w 3 % 4 = 0 → 4 ≤ c.w 3 → c.w 3 ≤ 2044 →
    ¬ (c.p0 = 6 ∧ cmpOff t) → tableImage c.p0 (c.w 1) t = some (len, f) → c.w 2 + c.w 3 ≤ len → ∀ at_ es,
    at_ = 0x1500000 + 3072 * c.w 1 + c.w 2 →
    es = c.errs ++ leftBad (fun w => decide (c.p0 = 3) && decide (at_ < w * 8 + 8 ∧ w * 8 < at_ + c.w 3)) c.errs t →
    sramUe es = false →
    exec (.tableRead c) s = .next (completed .tableRead c s
      (okW (sramMeets es t) (wordsOfBytes ((List.range (c.w 3)).map (fun k => f (c.w 2 + k)))))))

/-- An accepted current-estimate image, 256 entries of at most 63 that never fall, waits to take effect and EST_LOADED shows it; an image with
a larger or a falling entry is rejected with its first such entry in PXA_LOAD_ERR, and the table that waits stays (R17, R78). -/
def Obligations.EstimateImages : Prop := ∀ (img : List Nat) (s : State), img.length = 256 → tableBusy 10 0 s = false →
  ((∀ i, i < 256 → img.getD i 0 ≤ 63 ∧ (i ≠ 0 → img.getD (i - 1) 0 ≤ img.getD i 0)) →
    tableInstall 10 0 256 img s
      = (({ s with pxa := { s.pxa with estNext := some img } } : State).wr PXA_STAT_EST_LOADED 1, .ok)) ∧
  (∀ i, i < 256 → (∀ j, j < i → img.getD j 0 ≤ 63 ∧ (j ≠ 0 → img.getD (j - 1) 0 ≤ img.getD j 0)) →
    (63 < img.getD i 0 ∨ (i ≠ 0 ∧ img.getD i 0 < img.getD (i - 1) 0)) →
    tableInstall 10 0 256 img s
      = (((s.wr PXA_LOAD_ERR_TABLE_ID 10).wr PXA_LOAD_ERR_CODE (if 63 < img.getD i 0 then 7 else 8)).wr PXA_LOAD_ERR_INDEX i,
          .tableRejected))

/-- LAYER_SET writes the eleven shadow registers of a layer that its channel owns; LAYER_ENABLE and LAYER_DISABLE write EN and FADE; each
marks the layer dirty with its channel. A layer of another owner, by the channel entry that the command was admitted by, is NOT_PRIVILEGED
(R117 to R119, R270). COMMIT joins the armed commits and is answered at the latch (R131, R132). COMMIT_AT for a frame whose latch has
passed is answered COMMIT_LATE with word 2 zero; for one up to 4,096 frames ahead it is accepted, and for one further ahead BAD_PARAM
(R134, R135); its reply names the frame targeted (R259). -/
def Obligations.LayersAndCommits : Prop :=
  (∀ (c : Cmd) (s t : State),
  (admits .layerSet c s → t = admitted .layerSet c s → c.p0 < 8 → cmpOff t = false →
    let a (i : Nat) : Nat := CMP_Lk_CTRL c.p0 + 4 * i
    let v (i : Nat) : Word := c.words.getD i 0#32
    let m (i : Nat) : Nat := match regInfo (a i) with | some r => r.wmask | none => 0
    (entryOwns (issued .layerSet c s).w0 c.p0 → (∀ i, i < 11 → rangeOk (a i) (v i)) → ∀ u,
      u = t.forN 11 (fun i w => w.setReg (a i) (BitVec.ofNat 32 ((v i).toNat &&& m i))) →
      exec (.layerSet c) s = .next (completed .layerSet c s
        (ok ((u.wr (CMP_Lk_OWNER_CHAN c.p0) c.ch).wr (CMP_Lk_OWNER_DIRTY c.p0) 1)))) ∧
    (entryOwns (issued .layerSet c s).w0 c.p0 = false → exec (.layerSet c) s = .next (completed .layerSet c s (ans t .notPrivileged)))) ∧
  (admits .layerEnable c s → t = admitted .layerEnable c s → c.p0 / 8 % 32 = 0 → cmpOff t = false →
    entryOwns (issued .layerEnable c s).w0 (c.p0 % 8) →
    exec (.layerEnable c) s = .next (completed .layerEnable c s
      (ok ((((t.wr (CMP_Lk_CTRL_EN (c.p0 % 8)) 1).wr (CMP_Lk_CTRL_FADE (c.p0 % 8)) (c.p0 / 256)).wr
        (CMP_Lk_OWNER_CHAN (c.p0 % 8)) c.ch).wr (CMP_Lk_OWNER_DIRTY (c.p0 % 8)) 1)))) ∧
  (admits .layerDisable c s → t = admitted .layerDisable c s → c.p0 / 8 % 32 = 0 → cmpOff t = false →
    entryOwns (issued .layerDisable c s).w0 (c.p0 % 8) →
    exec (.layerDisable c) s = .next (completed .layerDisable c s
      (ok ((((t.wr (CMP_Lk_CTRL_EN (c.p0 % 8)) 0).wr (CMP_Lk_CTRL_FADE (c.p0 % 8)) (c.p0 / 256)).wr
        (CMP_Lk_OWNER_CHAN (c.p0 % 8)) c.ch).wr (CMP_Lk_OWNER_DIRTY (c.p0 % 8)) 1))))) ∧
  (∀ (c : Cmd) (s t : State),
  (admits .commit c s → t = admitted .commit c s → c.p0 = 0 → cmpOff t = false → ∀ u,
    u = { t with cmp := { t.cmp with armed := t.cmp.armed ++ [issued .commit c s] } } →
    exec (.commit c) s = .next (u.wr CMP_STAT_ARMED 1)) ∧
  (admits .commitAt c s → t = admitted .commitAt c s → c.p0 = 0 → cmpOff t = false → t.cmp.atFn = none →
    let u := t.setReg CMP_AT_FN (c.words.getD 0 0#32)
    (atLate (c.w 1) t → exec (.commitAt c) s
      = .next (completed .commitAt c s (u.wr CMP_STAT_AT_RESULT 4, some ⟨.commitLate, [c.w 1, 0], some (c.w 1 % 65536)⟩))) ∧
    (atLate (c.w 1) t = false → 4096 < (c.w 1 + 2 ^ 32 - t.rd DEV_FN_FN) % 2 ^ 32 →
      exec (.commitAt c) s = .next (completed .commitAt c s (ans t .badParam))) ∧
    (atLate (c.w 1) t = false → (c.w 1 + 2 ^ 32 - t.rd DEV_FN_FN) % 2 ^ 32 ≤ 4096 → exec (.commitAt c) s
      = .next (completed .commitAt c s (({ u with cmp := { u.cmp with atFn := some (c.w 1) } } : State).wr CMP_STAT_AT_RESULT 1,
          some ⟨.acceptedPending, [c.w 1, 0], some (c.w 1 % 65536)⟩)))))

/-- At a latch of the composition start of frame `fn` with commits armed, the candidate set of all blocks is checked once: when every check
passes it takes effect whole, and every armed commit is answered OK with `fn`; when one fails nothing of it takes effect, and every armed
commit is answered COMMIT_REJECTED with `fn` and the failure (R129 to R137). -/
def Obligations.Latch : Prop := ∀ (fn : Nat) (s t : State) (w : Nat), s.cmp.armed ≠ [] → s.cmp.atFn ≠ some fn →
  latchCheck s = (t, w) →
  (w = 0 → ∀ u, u = latchAll fn t →
    latchCommits fn s = (({ u with cmp := { u.cmp with armed := [] } } : State).wr CMP_STAT_ARMED 0).forL s.cmp.armed
      (fun o v => replyTo o ⟨.ok, [fn, 0], some (fn % 65536)⟩ v)) ∧
  (w ≠ 0 →
    latchCommits fn s = (({ t with cmp := { t.cmp with armed := [] } } : State).wr CMP_STAT_ARMED 0).forL s.cmp.armed
      (fun o v => replyTo o ⟨.commitRejected, [fn, w], some (fn % 65536)⟩ v))

/-- The CS strobe once per frame while the PLL ticks: the commits latch for the next frame, and on NORMAL without a release the next frame
starts to be composed from the host layers, on DEGRADED-F from the fallback image, and on the other rungs nothing is composed (R116, R129,
R140, R350). The end of a composition that met no error: the codes of the frame are in the bank that is not in play, the frame is complete
with its check value, its budget scale and its estimate, and nothing else changes but COMPOSING, PXA_BUDGET_NEXT and the counter of free
values (R79 to R81, R144, R147). -/
def Obligations.Composition : Prop :=
  (∀ (s a b t : State), isPowered s → pllTicks s → s.frame.ticked → s.cmp.csDone = false →
  a = { s with cmp := { s.cmp with csDone := true } } → cmpOff a = false →
  b = takeEst (latchCommits ((s.rd DEV_FN_FN + 1) % 2 ^ 32) a) → b.smc.release = none →
  t = setLevels (decide (b.rd DEV_LADDER_RUNG = 1)) b →
  ∀ lim u, lim = t.rd PXA_RAIL_LIMIT_ACT_LIMIT_MA :: (List.range 8).map (fun z => t.rd (PXA_ZONE_LIMITn_ACT_LIMIT_MA z)) →
  u = { t with pxa := { t.pxa with limNext := lim } } →
  (2 ≤ b.rd DEV_LADDER_RUNG → exec .compositionStart s = .next u) ∧
  (b.rd DEV_LADDER_RUNG ≤ 1 → ∀ k : Comp,
    k = ⟨(s.rd DEV_FN_FN + 1) % 2 ^ 32, decide (b.rd DEV_LADDER_RUNG = 1), false, 0, 0, 0, 0⟩ →
    exec .compositionStart s
      = .next (({ u with cmp := { u.cmp with comp := some k } } : State).wr CMP_STAT_COMPOSING 1))) ∧
  (∀ (s : State) (c : Comp), isPowered s → s.cmp.comp = some c → c.complete = false →
  compErrs c.fallback [] s = [] → ueLayers c.fallback [] s = [] → crcLayers c.fallback s = [] →
  (∀ x ∈ frameSrcs c.fallback s, tileErrs ((frameSrcs c.fallback s).map (fun y => y.lev)) x = []) →
  (c.fallback = true ∨ s.bit CMP_WB_CTRL_ACT_WB_EN = false) →
  ∀ bank k b0 b1, bank = frameCodes c.fallback s →
  k = { c with complete := true, bad := 0, crc := crc32 (bankBytes bank), budget := (budgetOf bank s).1, est := (budgetOf bank s).2 } →
  b0 = (if s.cmp.play = 0 then s.cmp.bank0 else bank) → b1 = (if s.cmp.play = 0 then bank else s.cmp.bank1) →
  exec (.compositionComplete []) s
    = .next ((({ s with cmp := { s.cmp with comp := some k, bank0 := b0, bank1 := b1 }, freeCtr := s.freeCtr + 1 } : State).wr
        CMP_STAT_COMPOSING 0).wr PXA_BUDGET_NEXT_B (budgetOf bank s).1))

/-- A SAFE_MSG copy that is well formed and later than the last decided SSEQ opens the comparison window when no message is pending, unless
the other host's pin is silent and the message may be decided alone (R352, R353, R355). A copy that is not well formed ends with outcome
8, one that is not later with outcome 7, and each counts as LATE (R351, R353). The twin from the other port with equal words is acted, and
both copies are answered with the outcome (R353, R356). What an acted safety message does: BLANK of all zones takes the engine to DARK
from any other rung; RELEASE of a target better than CEILING is refused, one that CEILING allows becomes the pending release; the cut-off
mode waits for the slot period, and the high mode is refused without HB_ALLOWED (R348, R354, R360). -/
def Obligations.SafetyMessages : Prop :=
  (∀ (c : Cmd) (s t h : State) (o : Outst), admits .safeMsg c s →
  t = admitted .safeMsg c s → o = issued .safeMsg c s → msgOver t = false → h = holdCmd o t →
  (msgFormed o = false → exec (.safeMsg c) s = .next (msgReply 8 o (h.bump SMC_COUNT1_LATE))) ∧
  (msgFormed o → h.smc.decided → later 16 (msgSseq o) (h.rd SMC_MSG_LAST_SSEQ) = false →
    exec (.safeMsg c) s = .next (msgReply 7 o (h.bump SMC_COUNT1_LATE))) ∧
  (msgFormed o → (h.smc.decided → later 16 (msgSseq o) (h.rd SMC_MSG_LAST_SSEQ)) →
    (h.smc.msg = none →
      (hbSilent c.port.other.num h = false ∨ (msgRestrictive c.p0 = false ∧ h.bit SMC_PROFILE_SOLO_OK = false)) →
      exec (.safeMsg c) s = .next ((({ h with smc := { h.smc with msg := some ⟨o, h.now⟩ } } : State).wr SMC_MSG_PENDING 1).wr
        SMC_MSG_PEND_PORT c.port.num)) ∧
    (h.smc.msg = none → hbSilent c.port.other.num h → msgRestrictive c.p0 ∨ h.bit SMC_PROFILE_SOLO_OK →
      exec (.safeMsg c) s = .next (msgReply (msgAct c.p0 (msgSseq o) 3 h).2 o (msgAct c.p0 (msgSseq o) 3 h).1)) ∧
    (∀ p, h.smc.msg = some p → msgSseq p.o = msgSseq o → p.o.cmd.port ≠ c.port → p.o.cmd.p0 = c.p0 → p.o.cmd.w 1 = c.w 1 →
      ∀ u w, msgAct c.p0 (msgSseq o) 1 h = (u, w) → exec (.safeMsg c) s = .next (msgReply w o (msgReply w p.o u))))) ∧
  (∀ (p0 : Nat) (s : State),
  (msgKind p0 = 1 → msgZones p0 = 0xFF → s.rd DEV_LADDER_RUNG < 4 → actMsg p0 s = (goDark 0 s, false)) ∧
  (msgKind p0 = 1 → msgZones p0 ≠ 0xFF → s.smc.release = none → actMsg p0 s = (zonesOff (msgZones p0) s, false)) ∧
  (msgKind p0 = 2 → msgArg p0 < s.rd SMC_STAT_CEILING → actMsg p0 s = (s, true)) ∧
  (msgKind p0 = 2 → s.rd SMC_STAT_CEILING ≤ 2 → msgArg p0 = 2 → s.smc.release = none →
    ∀ r : Release, r = ⟨2, msgZones p0, decide (2 < s.rd DEV_LADDER_RUNG), false, 0⟩ →
    actMsg p0 s = ({ s with smc := { s.smc with release := some r } }, false)) ∧
  (msgKind p0 = 3 → msgArg p0 = 0 → actMsg p0 s = ({ s with smc := { s.smc with modeCut := true, modeHigh := false } }, false)) ∧
  (msgKind p0 = 3 → msgArg p0 ≠ 0 → s.bit SMC_PROFILE_HB_ALLOWED = false → actMsg p0 s = (s, true)) ∧
  (msgKind p0 = 3 → msgArg p0 ≠ 0 → s.bit SMC_PROFILE_HB_ALLOWED →
    actMsg p0 s = ({ s with smc := { s.smc with modeHigh := true, modeCut := false } }, false)))

/-- SPB_LOAD of a block that passes the checks waits for the tick, and with MODE 1 for the fuse as well; one that fails a check is
TABLE_REJECTED with the check in SMC_LOAD_ERR (R338, R339). When the fuse is programmed, the sealing command is answered OK, and the
registers show the fuses. SAFE_STATUS answers eight registers (R367); SAFE_TEST runs the checker test, or lets the next off-pulse test of
a path fail on DARK (R368). -/
def Obligations.SafetyBlock : Prop := ∀ (c : Cmd) (s t : State),
  (admits .spbLoad c s → t = admitted .spbLoad c s →
    t.smc.spbNext.any (fun p => p.cmd.isSome) = false →
    t.smc.sealFuse.all (fun d => decide (d = spbDigest (c.words.map BitVec.toNat))) →
    (c.p0 = 0 → spbCheck (c.words.map BitVec.toNat) t = none → ∀ k : SpbPend, k = ⟨c.words.map BitVec.toNat, false, false, none⟩ →
      exec (.spbLoad c) s = .next (completed .spbLoad c s (ok { t with smc := { t.smc with spbNext := t.smc.spbNext ++ [k] } }))) ∧
    (c.p0 = 1 ∨ c.p0 = 5 → t.smc.sealFuse = none → spbCheck (c.words.map BitVec.toNat) t = none →
      ∀ k : SpbPend, k = ⟨c.words.map BitVec.toNat, true, decide (c.p0 = 5), some (issued .spbLoad c s)⟩ →
      exec (.spbLoad c) s = .next (holdCmd (issued .spbLoad c s) { t with smc := { t.smc with spbNext := t.smc.spbNext ++ [k] } })) ∧
    (∀ code i, c.p0 = 0 → spbCheck (c.words.map BitVec.toNat) t = some (code, i) →
      exec (.spbLoad c) s = .next (completed .spbLoad c s (ans
        (((t.wr SMC_LOAD_ERR_SOURCE 0x41).wr SMC_LOAD_ERR_CODE code).wr SMC_LOAD_ERR_INDEX i) .tableRejected)))) ∧
  (∀ w lock o l, isPowered s → s.smc.spbNext.find? (fun p => p.cmd.isSome) = some ⟨w, true, lock, some o⟩ →
    l = s.smc.spbNext.map (fun p => { p with cmd := none }) →
    exec .spbSealDone s = .next (finishSt o .ok (showFuses { s with smc := { s.smc with
      spbNext := l, sealFuse := some (s.smc.sealFuse.getD (spbDigest w)), jtagFuse := s.smc.jtagFuse || lock } }))) ∧
  (admits .safeStatus c s → t = admitted .safeStatus c s → c.p0 = 0 →
    exec (.safeStatus c) s = .next (completed .safeStatus c s (okW t
      ([SMC_STAT, SMC_STRAPS, SMC_PROFILE, SMC_AIM, SMC_MSG, SMC_OFFPULSE, SMC_SELF, DEV_LADDER].map
        (fun a => (t.reg a).toNat))))) ∧
  (admits .safeTest c s → t = admitted .safeTest c s → c.p0 / 4 % 1024 = 0 → c.p0 % 4 ≠ 3 →
    (c.p0 / 4096 = 1 → c.obs.getD 0 7 % 8 = 7 →
      exec (.safeTest c) s = .next (completed .safeTest c s (okW (t.clrBit SMC_SELF_RESULT 4) [7]))) ∧
    (c.p0 / 4096 = 1 → c.obs.getD 0 7 % 8 ≠ 7 →
      exec (.safeTest c) s = .next (completed .safeTest c s
        (okW (selfFail 4 (t.setBit SMC_SELF_RESULT 4)) [c.obs.getD 0 7 % 8]))) ∧
    (c.p0 / 4096 = 3 → t.rd DEV_LADDER_RUNG = 4 → ∀ l, l = t.smc.forceFail ++ [(c.p0 % 4, issued .safeTest c s)] →
      exec (.safeTest c) s = .next (holdCmd (issued .safeTest c s) { t with smc := { t.smc with forceFail := l } })) ∧
    (c.p0 / 4096 = 3 → t.rd DEV_LADDER_RUNG ≠ 4 →
      exec (.safeTest c) s = .next (completed .safeTest c s (ans t .safeState))))

/-- The safe request blanks all rows, raises SAFE_REQ and brings the engine to DARK by the ceiling; its end leaves the rung (R331). 50 µs
after a DARK decision SAFE_OFF goes low at last (R325). A readback that disagrees with SAFE_OFF fails path P2 (R326, R330). The straps are
latched once after the SAFE domain starts, with the profile and the ceiling they select; a single read that differs changes no level, and
the fourth in a row is a change (R332, R335). A self-check that passes clears its RESULT bit, one that fails sets it and stops the engine
(R365, R366). ALIVE starts to toggle when the boot checks are done, and stops when it may not (R363). -/
def Obligations.SafetyPins : Prop :=
  (∀ (s : State), isPowered s →
  (exec .safeReqQualify s
    = .next (refreshCeiling 0x46 (raise 0x46 0 ((s.wr SMC_STAT_SAFE_REQ 1).wr SMC_STAT_KILL_ALL 1)))) ∧
  (exec .safeReqEnd s = .next (refreshCeiling 0 (s.wr SMC_STAT_SAFE_REQ 0))) ∧
  (s.smc.offWait → exec .safeOffTimeout s
    = .next (({ s with smc := { s.smc with offWait := false } } : State).wr SMC_STAT_SAFE_OFF 0)) ∧
  (∀ sns u, u = s.wr SMC_STAT_SAFE_SNS (boolNat sns) → sns ≠ u.bit SMC_STAT_SAFE_OFF →
    exec (.safeSnsTimeout sns) s = .next (refreshCeiling 0x43 (raise 0x43 2 (u.setBit SMC_OFFPULSE_FAILED 2)))) ∧
  (∀ sns u, u = s.wr SMC_STAT_SAFE_SNS (boolNat sns) → sns = u.bit SMC_STAT_SAFE_OFF →
    exec (.safeSnsTimeout sns) s = .next u) ∧
  (s.smc.msg = none → exec .safeMsgWindowEnd s = .next s) ∧
  (∀ p u w, s.smc.msg = some p → msgRestrictive p.o.cmd.p0 → msgAct p.o.cmd.p0 (msgSseq p.o) 2 s = (u, w) →
    exec .safeMsgWindowEnd s = .next (msgReply w p.o (raise 0x41 (msgSseq p.o + 2 * 65536) u))) ∧
  (∀ p, s.smc.msg = some p → msgRestrictive p.o.cmd.p0 = false →
    exec .safeMsgWindowEnd s
      = .next (msgReply 4 p.o (raise 0x41 (msgSseq p.o + 4 * 65536) (msgDecide (msgSseq p.o) 4 s))))) ∧
  (∀ (s : State), isPowered s →
  (∀ v0 v1 t, t = (s.wr SMC_STRAPS_NOW0 (strapLevel v0)).wr SMC_STRAPS_NOW1 (strapLevel v1) →
    s.bit SMC_STRAPS_VALID = false → exec (.strapLatch v0 v1) s
    = .next (refreshCeiling 0 (chooseProfile (((t.wr SMC_STRAPS_LEVEL0 (strapLevel v0)).wr SMC_STRAPS_LEVEL1
        (strapLevel v1)).wr SMC_STRAPS_VALID 1)))) ∧
  (∀ (v0 v1 : BitVec 16) (n0 n1 : Nat) (t u : State), s.bit SMC_STRAPS_VALID →
    n0 = (if strapLevel v0 = s.rd SMC_STRAPS_LEVEL0 then 0 else s.smc.strapBad0 + 1) →
    n1 = (if strapLevel v1 = s.rd SMC_STRAPS_LEVEL1 then 0 else s.smc.strapBad1 + 1) →
    t = ({ s with smc := { s.smc with strapBad0 := min n0 4, strapBad1 := min n1 4 } } : State) →
    u = (t.wr SMC_STRAPS_NOW0 (strapLevel v0)).wr SMC_STRAPS_NOW1 (strapLevel v1) →
    (n0 < 4 → n1 < 4 → exec (.strapRead v0 v1) s = .next u) ∧
    (4 ≤ n0 ∨ 4 ≤ n1 → exec (.strapRead v0 v1) s = .next (strapChange u))) ∧
  (∀ k : Fin 6, exec (.selfCheck k false) s = .next (s.clrBit SMC_SELF_RESULT k.val)) ∧
  (∀ k : Fin 6, exec (.selfCheck k true) s = .next (selfFail k.val (s.setBit SMC_SELF_RESULT k.val))) ∧
  (aliveOk s → exec .bootSelfCheckDone s = .next (s.wr SMC_STAT_ALIVE_RUN 1)) ∧
  (s.bit SMC_STAT_ALIVE_RUN → aliveOk s →
    exec .aliveToggle s = .next { s with smc := { s.smc with alive := !s.smc.alive } }) ∧
  (aliveOk s = false → exec .aliveToggle s = .next (s.wr SMC_STAT_ALIVE_RUN 0)))

/-- An event of an assigned source counts in the source's total, takes the present FN into the source's window, sets the source's COUNT and
SEV and the collector's LAST_SRC and MAX_SEV, and goes to the history; where the reaction of its effective severity is empty nothing else
happens but ATTN (R420 to R423, R428 to R430). An event of an unassigned source does nothing (R427). -/
def Obligations.FaultEvents : Prop := ∀ (src : BitVec 8) (sev : BitVec 2) (detail : Word) (drop : Bool) (s : State), isPowered s →
  (sourceAssigned src.toNat = false → exec (.faultEvent src sev detail drop) s = .next s) ∧
  (sourceAssigned src.toNat → ∀ (u t : State) (fns : List Nat) (n e : Nat), u = traceEvent 1 src.toNat s →
    fns = (u.rd DEV_FN_FN :: storeGet [] u.fcr.wins src.toNat).take 15 →
    judgeEvent (u.reg (FCR_SRCn_CFG src.toNat)) sev.toNat (u.rd DEV_FN_FN) fns = (n, e) →
    (u.reg (FCR_SRCn_RCT src.toNat)).toNat / 2 ^ (8 * e) % 256 = 0 →
    t = ((((({ u with fcr := { u.fcr with wins := storeSet [] u.fcr.wins src.toNat fns } } : State).bump
      (FCR_SRCn_STAT_TOTAL src.toNat)).wr (FCR_SRCn_STAT_COUNT src.toNat) n).wr (FCR_SRCn_STAT_SEV src.toNat) e)) →
    ∀ v, v = (t.wr FCR_STAT_LAST_SRC src.toNat).wr FCR_STAT_MAX_SEV (max e (t.rd FCR_STAT_MAX_SEV)) →
    exec (.faultEvent src sev detail drop) s = .next (attnFault e (histRecord
      ⟨u.rd DEV_FN_FN, src.toNat * 2 ^ 24 + e * 2 ^ 22 + sev.toNat * 2 ^ 20 + n * 2 ^ 16 + v.rd DEV_LADDER_RUNG * 2 ^ 13,
       detail.toNat, v.rd SCN_POS_SLOT * 2 ^ 28 + stitchNow v * 2 ^ 16 + v.rd FCR_HIST_STAT_NEXT_HSEQ⟩ drop false v)))

/-- No event moves the engine up the ladder: the rung after the handling of an event is the rung before it, or a lower one, which is a larger
number (R24). -/
def Obligations.LadderDown : Prop := ∀ (src sev detail : Nat) (drop : Bool) (s : State),
  s.rd DEV_LADDER_RUNG ≤ (handleEvent src sev detail drop s).rd DEV_LADDER_RUNG

/-- Writing a block's CNT_CLR bit clears that block's counters, leaves every other register and the rest of the state as they were, and is
answered OK (R56, R201, R224, R250, R323). In CMP and SMEM the block must be on; in FCR and the check-value units the clear takes single
fields. -/
def Obligations.CounterClears : Prop := ∀ (s : State), isPowered s → s.canonical →
  (∀ p : Port, exec (.hlxCntClr p) s
    = .next (answered (Obligations.zeroed [HLx_COUNT0 p.num, HLx_COUNT1 p.num, HLx_COUNT2 p.num] s, .ok))) ∧
  (exec .lmeCntClr s
    = .next (answered (Obligations.zeroed ((List.range 4).map LME_ERRn ++ [LME_SYNC_LOSS]) s, .ok))) ∧
  (exec .scnCntClr s = .next (answered (Obligations.zeroed [SCN_COUNT] s, .ok))) ∧
  (exec .smcCntClr s = .next (answered (Obligations.zeroed [SMC_COUNT0, SMC_COUNT1] s, .ok))) ∧
  (exec .pxhCntClr s = .next (answered (Obligations.zeroed [PXH_COUNT_A, PXH_COUNT_B, PXH_COUNT_C] s, .ok))) ∧
  (exec .thmCntClr s = .next (answered (Obligations.zeroed [THM_COUNT] s, .ok))) ∧
  (exec .le0CntClr s = .next (answered (Obligations.zeroed [LE0_COUNT] s, .ok))) ∧
  (exec .adcCntClr s = .next (answered (Obligations.zeroed ((List.range 8).map ADC_SQn_COUNT) s, .ok))) ∧
  (exec .fcrCntClr s
    = .next (answered ((faultSources.foldl (fun t r => t.wr (FCR_SRCn_STAT_TOTAL r.1) 0) s).wr FCR_HIST_STAT_LOST 0, .ok))) ∧
  (exec .cmdCntClr s = .next (answered (Obligations.zeroed [CMD_COUNT0, CMD_COUNT1, CMD_COUNT2] s, .ok))) ∧
  (exec .ccxCntClr s
    = .next (answered (Obligations.zeroed [CCX_COUNT0, CCX_COUNT1, CCX_COUNT2, CCX_COUNT3] s, .ok))) ∧
  (exec .pxaCntClr s = .next (answered (Obligations.zeroed [PXA_GUARD] s, .ok))) ∧
  (∀ q : Fin 4, exec (.seqCntClr q) s = .next (answered (Obligations.zeroed [SEQ_COUNT q.val] s, .ok))) ∧
  (cmpOff s = false → exec .cmpCntClr s = .next (answered (Obligations.zeroed [CMP_COUNT] s, .ok))) ∧
  (smemOff s = false → exec .smemCntClr s
    = .next (answered (Obligations.zeroed [SMEM_ECC_CNT, SMEM_SRAM_ECC_CNT] s, .ok))) ∧
  (exec .crcCntClr s
    = .next (answered ((List.range 4).foldl (fun t n => t.wr (CRC_Un_STAT_MISMATCH n) 0) (Obligations.zeroed [CRC_SCAN_COUNT] s),
        .ok))) ∧
  (exec .calCntClr s = .next (answered (Obligations.zeroed [CAL_COUNT] s, .ok))) ∧
  (exec .pmuCntClr s = .next (answered ((s.wr PMU_REFUSE_REFUSALS 0).wr PMU_REFUSE_ABORTS 0, .ok)))

/-- A rising FSYNC edge (R34, R35, R38, R507, R508). While the PLL is OFF nothing happens. An edge after which FSYNC is high for less than 1
µs is a bad edge. In ACQUIRE an edge that is no second edge of a pair is remembered; the second edge of a pair locks the PLL, with tick 1
in the cycle that qualifies it, 1 µs after the edge. In LOCKED and HOLDOVER the first edge in the acceptance window of the tick that is
past shows its phase against that tick; one that comes before a tick waits to be judged at it, with the values in effect there (R55, log
entry 101); a second one, and one outside a window, are bad edges. In FREERUN the second edge of a pair goes to RELOCK, and the frame
keeps its period. The end of an acceptance window without an edge counts it as missed and takes LOCKED to HOLDOVER, or to FREERUN where
HOLD_FRAMES is 1; HOLDOVER goes to FREERUN when HOLD_FRAMES windows are missed (R38, R39). One with an edge locks, and the law of R508
gives the next period. ACQUIRE and RELOCK that time out go to FREERUN (R38, R40). RUN written 1 takes an OFF PLL to ACQUIRE; RUN written 0
on rung DARK stops it, with every sequencer idle (R108), and is answered BUSY, with no field changed, on any other (R38, R43). SO_EN
switches SYNC_OUT, which rises before a predicted tick while the PLL ticks, and falls (R44, R45). -/
def Obligations.FrameClock : Prop :=
  (∀ (rise high st : Nat) (s : State), isPowered s → st = s.rd SCN_STAT_STATE →
  (st = 0 → exec (.fsyncEdge rise high) s = .next s) ∧
  (st ≠ 0 → high < 1000 → exec (.fsyncEdge rise high) s = .next (s.bump SCN_COUNT_BAD_EDGES)) ∧
  (1000 ≤ high → ∀ n, n = ({ s with frame := { s.frame with lastQual := some rise } } : State) →
    (st = 1 → (∀ q, s.frame.lastQual = some q → inTol s (rise - q) = false) → exec (.fsyncEdge rise high) s = .next n) ∧
    (∀ q f g, st = 1 → s.frame.lastQual = some q → inTol s (rise - q) →
      g = ({ s.frame with lastQual := some rise, edgeE := some rise, edgeP := rise - q } : FrameSt) →
      f = ({ g with t1 := rise + 1000, perCur := 0, perNext := rise - q } : FrameSt) →
      exec (.fsyncEdge rise high) s = .next (((({ s with frame := f } : State).wr SCN_STAT_STATE 2).wr SCN_STAT_MISSED 0).setReg SCN_PHASE (BitVec.ofNat 32 (ofSigned 32 (-1000))))) ∧
    (∀ u f, st = 2 ∨ st = 3 → inOpenWindow rise s → s.frame.winEdge = none →
      u = s.setReg SCN_PHASE (BitVec.ofNat 32 (ofSigned 32 ((rise : Int) - s.frame.tickAt))) →
      f = ({ s.frame with lastQual := some rise, winEdge := some rise, edgeE := some rise } : FrameSt) →
      exec (.fsyncEdge rise high) s
        = .next { u with frame := { f with edgeP := rise - s.frame.edgeE.getD (s.frame.lastQual.getD rise) } }) ∧
    (st = 2 ∨ st = 3 → inOpenWindow rise s = false → beforeTick rise s → ∀ l, l = s.frame.early ++ [(rise, false)] →
      exec (.fsyncEdge rise high) s = .next { n with frame := { n.frame with early := l } }) ∧
    (st = 2 ∨ st = 3 → (inOpenWindow rise s = false → beforeTick rise s = false) →
      (inOpenWindow rise s → s.frame.winEdge.isSome) →
      exec (.fsyncEdge rise high) s = .next (n.bump SCN_COUNT_BAD_EDGES)) ∧
    (st = 4 → (∀ q, s.frame.lastQual = some q → inTol s (rise - q) = false) → exec (.fsyncEdge rise high) s = .next n) ∧
    (∀ q f, st = 4 → s.frame.lastQual = some q → inTol s (rise - q) → s.frame.perCur ≠ 0 →
      f = ({ s.frame with lastQual := some rise, edgeE := some rise, edgeP := rise - q, perNext := s.frame.perCur } : FrameSt) →
      exec (.fsyncEdge rise high) s = .next (({ s with frame := f } : State).wr SCN_STAT_STATE 5)))) ∧
  (∀ (s : State), isPowered s →
  (s.frame.winOpen = false → exec .fsyncWindowEnd s = .next s) ∧
  (s.frame.winOpen → s.rd SCN_STAT_STATE = 2 ∨ s.rd SCN_STAT_STATE = 3 ∨ s.rd SCN_STAT_STATE = 5 →
    ∀ t, t = ({ s with frame := { s.frame with winOpen := false, winEdge := none } } : State) →
    (s.frame.winEdge.isSome → exec .fsyncWindowEnd s = .next (pllLaw ((t.wr SCN_STAT_STATE 2).wr SCN_STAT_MISSED 0))) ∧
    (s.frame.winEdge = none → ∀ m u, m = min (t.rd SCN_STAT_MISSED + 1) 255 →
      u = (t.bump SCN_COUNT_MISSED_TOTAL).wr SCN_STAT_MISSED m →
      (s.rd SCN_STAT_STATE = 2 → holdFrames u ≠ 1 → exec .fsyncWindowEnd s = .next (u.wr SCN_STAT_STATE 3)) ∧
      (s.rd SCN_STAT_STATE = 2 → holdFrames u = 1 → exec .fsyncWindowEnd s = .next (fsyncLost u)) ∧
      (s.rd SCN_STAT_STATE = 3 → holdFrames u ≤ m → exec .fsyncWindowEnd s = .next (fsyncLost u)) ∧
      (s.rd SCN_STAT_STATE = 3 → m < holdFrames u → exec .fsyncWindowEnd s = .next u) ∧
      (s.rd SCN_STAT_STATE = 5 → exec .fsyncWindowEnd s = .next u))) ∧
  (∀ at_ t, s.rd SCN_STAT_STATE = 1 → t = s.wr SCN_STAT_STATE 4 →
    exec (.acquireTimeout at_) s = .next { t with frame := { t.frame with t1 := at_, perCur := 0, perNext := tNom t } }) ∧
  (∀ at_, s.rd SCN_STAT_STATE ≠ 1 → exec (.acquireTimeout at_) s = .next s) ∧
  (s.rd SCN_STAT_STATE = 5 → exec .relockTimeout s = .next (slewPeriod (raise 0x63 4 (s.wr SCN_STAT_STATE 4)))) ∧
  (s.rd SCN_STAT_STATE ≠ 5 → exec .relockTimeout s = .next s)) ∧
  (∀ (s : State), isPowered s → s.canonical →
  (s.bit SCN_CTRL_SO_EN → s.rd SCN_STAT_STATE = 0 → ∀ f g, g = ({ s.frame with lastQual := none, edgeE := none, edgeP := 0 } : FrameSt) →
    f = ({ g with winOpen := false, winEdge := none, ticked := false, perCur := 0, early := [] } : FrameSt) →
    exec .scnRunStart s = .next (answered ((({ s with frame := f } : State).wr SCN_CTRL_RUN 1).wr SCN_STAT_STATE 1, .ok))) ∧
  (s.bit SCN_CTRL_SO_EN → s.rd SCN_STAT_STATE ≠ 0 → exec .scnRunStart s = .next (answered (s.wr SCN_CTRL_RUN 1, .ok))) ∧
  (s.rd DEV_LADDER_RUNG ≠ 4 → exec .scnRunStop s = .next (answered (s, .busy))) ∧
  (s.rd DEV_LADDER_RUNG = 4 → s.cmp.atFn = none → ∀ f,
    f = ({ s.frame with syncOut := false, winOpen := false, winEdge := none, ticked := false, early := [] } : FrameSt) →
    exec .scnRunStop s = .next (answered ((List.range 4).foldl (fun u q => u.wr (SEQ_STAT_MODE q) 0)
      (((({ s with frame := f } : State).wr SCN_CTRL_RUN 0).wr SCN_STAT_STATE 0).wr SCN_STAT_MISSED 0), .ok))) ∧
  (exec (.soEn true) s = .next (answered (s.wr SCN_CTRL_SO_EN 1, .ok))) ∧
  (exec (.soEn false) s
    = .next (answered (({ s with frame := { s.frame with syncOut := false } } : State).wr SCN_CTRL_SO_EN 0, .ok))) ∧
  (s.bit SCN_CTRL_SO_EN → 2 ≤ s.rd SCN_STAT_STATE → s.frame.ticked →
    exec .syncOutRise s = .next { s with frame := { s.frame with syncOut := true } }) ∧
  (exec .syncOutFall s = .next { s with frame := { s.frame with syncOut := false } }))

/-- A tick that comes after the last slot period of its frame (R28, R33, R38). FN, the slot count and the period of the new frame, its units,
the safety parameter block, the Hem, the modes, the banks with the old frame's off-pulse test and the waiting moves of the ladder, the
command unit and the Plain beam follow in that order. FN counts one up modulo 2^32, the tick stands at the time predicted for it, the next
one a period later, the position is slot 0, stitch 0 (R28, R36, R49, R508). No tick comes before the stitch counter wraps, nor while the
PLL is OFF or in ACQUIRE. -/
def Obligations.Ticks : Prop := ∀ (s : State),
  (isPowered s → s.rd SCN_STAT_STATE ≤ 1 ∨ frameDone s = false → exec .tick s = .next s) ∧
  (isPowered s → 2 ≤ s.rd SCN_STAT_STATE → frameDone s → ∀ u, u = modeTick (hemTick (spbTick (unitsTick (scnTick s)))) →
    exec .tick s = .next (plainLevel (traceEvent 5 0
      (cmdTick (moveTick s.frame.ticked (!s.frame.ticked && decide (s.rd DEV_FN_FN = 0)) u))))) ∧
  (scnTick s).rd DEV_FN_FN = (s.rd DEV_FN_FN + 1) % 2 ^ 32 ∧
  (scnTick s).frame.tickAt = s.frame.t1 ∧
  (scnTick s).frame.t1 = s.frame.t1 + (scnTick s).frame.perCur ∧
  (scnTick s).frame.ticked ∧ (scnTick s).frame.slotNext = 0 ∧
  (scnTick s).rd SCN_POS_SLOT = 0 ∧ (scnTick s).rd SCN_POS_STITCH = 0

/-- A due event of each code passes the walk and has its effect (R58, R87 to R100): LOAD writes the back latches of its rows in the
sequencer's columns, MEAS strobes, TEMP_DEMAND and ADC_TRIG demand once, CAL_WIN measures, PATTERN_SEL selects the Pattern for the loads
that follow, STAGGER writes the start stitch of a group, END ends the walk. An array-wide event is issued from SEQ0's list alone, or from
SEQ1's where SEQ0 has met a bad word; the copies of the others only pass, and none passes before SEQ0's (R91, R110). TRANSFER moves the
back latches to the front and applies the waiting column steps (R59, R471), PROOF opens the proof window, OFFPULSE tests the path that is
due, DARKSCAN senses the zones, LOOP_FF hands the slot's current to the rail (R94 to R98, R374). The start of a slot period: nothing while
the PLL does not tick, when the frame has no more slot periods, or before every sequencer's walk of the one before is over; otherwise the
next slot period's number is taken, the tables and records that wait are applied, and the sequencers begin their lists (R33, R63, R87,
R108). Where the Plain beam begins, its level is taken at once (R85). The feed-forward of the slot before applies when its time has come
(R374). -/
def Obligations.SlotEvents : Prop :=
  (∀ (q : Fin 4) (w : Nat) (errs : List EccErr) (s u : State), isPowered s →
  u = Obligations.passed q w errs s →
  (Obligations.due 1 q w errs s → exec (.load q errs) s
    = .next (loadRows (u.rd (SEQ_STAT_MODE q.val)) errs q.val (seqOne u q.val).pat (loadRow0 w) (loadRowsOf w) u)) ∧
  (∀ hr vf, Obligations.due 3 q w errs s → exec (.meas q hr vf errs) s
    = .next (measEvent q.val (evStitch w) (evArg w % 4) hr vf errs u)) ∧
  (∀ tie, Obligations.due 7 q w errs s →
    exec (.tempDemand q tie errs) s = .next (tempDemand tie (issueKey q.val (evStitch w) u) (evArg w) u)) ∧
  (Obligations.due 8 q w errs s → exec (.adcTrig q errs) s = .next (adcTrig (issueKey q.val (evStitch w) u) (evArg w) u)) ∧
  (∀ es, Obligations.due 9 q w errs s → exec (.calWin q es errs) s
    = .next (calWin q.val (evArg w) es u)) ∧
  (Obligations.due 11 q w errs s → exec (.patternSel q errs) s
    = .next (setSeqOne q.val { seqOne u q.val with pat := evArg w % 8 } u)) ∧
  (Obligations.due 12 q w errs s → ∀ m, m = storeSet 0 u.seq.stagBack (evArg w / 1024) (evArg w % 1024) →
    exec (.stagger q errs) s = .next { u with seq := { u.seq with stagBack := m } }) ∧
  (Obligations.due 63 q w errs s → exec (.endList q errs) s
    = .next (setSeqOne q.val { seqOne u q.val with ended := true } u))) ∧
  (∀ (q : Fin 4) (w : Nat) (errs : List EccErr) (s u : State), isPowered s →
  u = Obligations.passed q w errs s →
  (behindSeq0 q.val s → (∀ sns, exec (.transfer q sns errs) s = .next s) ∧ exec (.proof q errs) s = .next s ∧
    (∀ b, exec (.offpulse q b errs) s = .next s) ∧ (∀ sense, exec (.darkscan q sense errs) s = .next s) ∧
    exec (.loopFf q errs) s = .next s) ∧
  (behindSeq0 q.val s = false → q.val = arrayMaster s →
    (∀ sns t v, Obligations.due 2 q w errs s → t = u.wr SMC_STAT_SAFE_SNS (boolNat sns) →
      v = colTransfer (transferLatches (t.rd (SEQ_STAT_MODE q.val)) ((List.range 4).filter (fun j => (seqOne t j).dark)) t) →
      exec (.transfer q sns errs) s
        = .next ((List.range 4).foldl (fun v j => setSeqOne j { seqOne v j with dark := false } v) v)) ∧
    (Obligations.due 4 q w errs s → exec (.proof q errs) s = .next (proofEvent (evStitch w) (evArg w) u)) ∧
    (∀ b, Obligations.due 5 q w errs s → exec (.offpulse q b errs) s = .next (offPulse b u)) ∧
    (∀ sense, Obligations.due 6 q w errs s → exec (.darkscan q sense errs) s
      = .next (darkscanEvent (evArg w) sense.toNat u)) ∧
    (Obligations.due 10 q w errs s → exec (.loopFf q errs) s
      = .next (railFf ((List.range 8).foldl (fun n z => n + storeGet 0 u.pxa.ffAT z) 0) u))) ∧
  (behindSeq0 q.val s = false → q.val ≠ arrayMaster s →
    (∀ sns, Obligations.due 2 q w errs s → exec (.transfer q sns errs) s = .next u) ∧
    (Obligations.due 4 q w errs s → exec (.proof q errs) s = .next u) ∧
    (∀ b, Obligations.due 5 q w errs s → exec (.offpulse q b errs) s = .next u) ∧
    (∀ sense, Obligations.due 6 q w errs s → exec (.darkscan q sense errs) s = .next u) ∧
    (Obligations.due 10 q w errs s → exec (.loopFf q errs) s = .next u))) ∧
  (∀ (errs : List EccErr) (s : State), isPowered s →
  (s.rd SCN_STAT_STATE ≤ 1 ∨ s.frame.ticked = false ∨ slotsOf s ≤ s.frame.slotNext ∨ (s.frame.slotNext ≠ 0 ∧ slotDone s = false) →
    exec (.slotPeriodStart errs) s = .next s) ∧
  (2 ≤ s.rd SCN_STAT_STATE → s.frame.ticked → s.frame.slotNext < slotsOf s → (s.frame.slotNext ≠ 0 → slotDone s) →
    ∀ k v u, k = s.frame.slotNext → v = slotPlain { s with frame := { s.frame with slotNext := k + 1, slotAt := s.now } } →
    u = seqSlotStart k (clearSums (ffSlot (thmSlot (pxhSlot k errs (slotTables errs (modeSlot (noteErrs errs v))))))) →
    (u.rd (SEQ_STAT_MODE 0) ≠ 2 ∨ s.rd (SEQ_STAT_MODE 0) = 2 → exec (.slotPeriodStart errs) s = .next u) ∧
    (u.rd (SEQ_STAT_MODE 0) = 2 → s.rd (SEQ_STAT_MODE 0) ≠ 2 → exec (.slotPeriodStart errs) s = .next (plainLevel u))) ∧
  (s.loops.ffNext = none → exec .ffApply s = .next s) ∧
  (∀ i, s.loops.ffNext = some i →
    exec .ffApply s = .next (({ s with loops := { s.loops with iFf := i, ffNext := none } } : State).wr LE0_CURRENT_I_FF i)))

/-- After a TRANSFER the front latches are the back latches, but with A = 0 and T = 0, and E as it was, where the current guard darkens the
pixel's zone, the SMC vetoes its row, or its sequencer loads dark. The back latches keep their values (R59, R83, R91, R345). -/
def Obligations.TransferLatches : Prop := ∀ (mode : Nat) (darkSeq : List Nat) (s t : State) (dark : Nat → Bool),
  t = transferLatches mode darkSeq s →
  (∀ p, dark p = true ↔ ((guardZones (guardLimits mode s) s).1 / 2 ^ zoneOf p % 2 = 1
    ∨ (rowOf p < 640 ∧ rowVetoed s (rowOf p)) ∨ seqOf p ∈ darkSeq)) →
  t.pxa.back = s.pxa.back ∧
  t.pxa.front = (s.pxa.back.map (fun x => (x.1, if dark x.1 then latch 0 0 (latE x.2) else x.2))).filter
    (fun x => decide (x.2 ≠ 0))

/-- The health commands (R202, R203, R205). HEALTH_READ answers packed nibbles of the map, entries of the suspect cache, or the counts;
SPARE_FORCE queues its record for the next boundary between loads; PROOF_REQ sets AGE 3 of every pixel of its range that is not DEAD.
Words of the map that are in error are rebuilt as they are read (R186). A pixel range that leaves the array is BAD_PARAM, and so is a
forced spare of a DEAD pixel. RETIRE_WRITE with nothing waiting refreshes the counts alone; one confirmed failure of a pixel with no spare
in use turns its spare on, and reports it; a pixel whose spare is in use is written DEAD (R193, R194); a forced record is written with the
nibble that R185 ties to it (R203). The errors of its reads are met first (R186). The proof list is fixed from the suspects, the pixels
that stayed and those at AGE 3, and screened (R196, R197, R347), and the rotating scan goes on. PXH_STUCK bits clear when written 1, but
one that is set in the cycle of the write stays (R7, R201). -/
def Obligations.PixelHealthUnit : Prop :=
  (∀ (c : Cmd) (s t : State),
  (admits .healthRead c s → t = admitted .healthRead c s → ∀ n, n = c.p0 % 4096 + 1 →
    (c.p0 / 4096 = 0 → n ≤ 2048 → c.w 1 + n ≤ 1310720 → ∀ u, u = healthMeets c.errs t →
      exec (.healthRead c) s = .next (completed .healthRead c s (okW u (nibbleWords u (c.w 1) n)))) ∧
    (c.p0 / 4096 = 1 → n ≤ 255 → c.w 1 + n ≤ 2048 → exec (.healthRead c) s
      = .next (completed .healthRead c s (okW t ((List.range n).flatMap (fun i => suspectWords t (c.w 1 + i)))))) ∧
    (c.p0 / 4096 = 2 → c.w 1 = 0 → exec (.healthRead c) s = .next (completed .healthRead c s (okW t
      ([PXH_N_SUSPECT, PXH_N_SPARED, PXH_N_DEAD, PXH_N_AGE3, PXH_STAT, PXH_STUCK, PXH_STUCK_LOC].map (fun a => (t.reg a).toNat))))) ∧
    (c.p0 / 4096 = 0 → 2048 < n ∨ 1310720 < c.w 1 + n →
      exec (.healthRead c) s = .next (completed .healthRead c s (ans t .badParam)))) ∧
  (admits .spareForce c s → t = healthMeets c.errs (admitted .spareForce c s) → c.p0 % 4096 = 0 → c.p0 / 4096 < 4 →
    c.w 1 < 1310720 →
    (2 ≤ c.p0 / 4096 ∨ healthState (healthOf t (c.w 1)) ≠ 3 → ∀ l, l = t.pxh.retire ++ [⟨c.w 1, c.p0 / 4096 + 1, 0⟩] →
      exec (.spareForce c) s
        = .next (completed .spareForce c s (ok { t with pxh := { t.pxh with retire := l } }))) ∧
    (c.p0 / 4096 ≤ 1 → healthState (healthOf t (c.w 1)) = 3 →
      exec (.spareForce c) s = .next (completed .spareForce c s (ans t .badParam)))) ∧
  (admits .proofReq c s → t = healthMeets c.errs (admitted .proofReq c s) → c.p0 < 2048 → c.w 1 + (c.p0 + 1) ≤ 1310720 →
    exec (.proofReq c) s = .next (completed .proofReq c s (ok (syncHealth ((List.range (c.p0 + 1)).foldl (fun u i =>
      if healthState (healthOf u (c.w 1 + i)) = 3 then u else setAge (c.w 1 + i) 3 u) t)))))) ∧
  (∀ (s : State), isPowered s →
  (∀ errs m, m = healthMeets errs s →
    (m.pxh.retire = [] → exec (.retireWrite errs) s = .next (syncHealth m)) ∧
    (∀ p kind t v, m.pxh.retire = [⟨p, 0, kind⟩] → healthState (healthOf m p) ≠ 3 →
      t = ({ m with pxh := { m.pxh with retire := [] } } : State) →
      (trimSpare (trimOf m p) = 0 → m.bit PXH_CTRL_AUTO_SPARE → v = trimOf m p - trimOf m p / 8 % 2 * 8 + 8 →
        exec (.retireWrite errs) s = .next (syncHealth (raise 0x33 p (pxhLast 3 p
          ((dropCache p (setHealth p 8 (mergeTrim errs p v t))).bump PXH_COUNT_A_RETIRED))))) ∧
      (trimSpare (trimOf m p) ≠ 0 ∨ m.bit PXH_CTRL_AUTO_SPARE = false → v = trimOf m p - trimOf m p / 4 % 2 * 4 + 4 →
        exec (.retireWrite errs) s = .next (syncHealth (raise 0x34 p (pxhLast 4 p
          ((dropCache p (setHealth p (12 + healthAge (healthOf m p)) (mergeTrim errs p v t))).bump PXH_COUNT_A_DIED)))))) ∧
    (∀ p a t v, m.pxh.retire = [⟨p, a, 0⟩] → rowWaits m p = false → t = ({ m with pxh := { m.pxh with retire := [] } } : State) →
      (a = 1 ∧ v = trimOf m p - trimOf m p / 8 % 2 * 8) ∨ (a = 2 ∧ v = trimOf m p - trimOf m p / 8 % 2 * 8 + 8) ∨
        (a = 3 ∧ v = trimOf m p - trimOf m p / 4 % 2 * 4 + 4) ∨ (a = 4 ∧ v = trimOf m p - trimOf m p / 4 % 2 * 4) →
      exec (.retireWrite errs) s = .next (syncHealth (pxhLast 5 p
        (dropCache p (setHealth p (healthFromTrim v 0) (mergeTrim errs p v t))))))) ∧
  (∀ scan reach errs t, t = healthMeets errs s →
    (proofWord t = none ∨ t.bit PXH_CTRL_PROOF_EN = false → ∀ n, n = scanNext scan t →
      exec (.proofListFix scan reach errs) s = .next { t with pxh := { t.pxh with scanAt := n } }) ∧
    (∀ w l adm u, proofWord t = some w → t.bit PXH_CTRL_PROOF_EN → l = proofList scan t →
      adm = screenList (evArg w % 16) reach l t → u = t.bumpBy PXH_COUNT_C_REFUSED (l.length - adm.length) →
      ∀ v n, v = ({ u with pxh := { u.pxh with list := l, admitted := adm, stay := [] } } : State) → n = scanNext scan v →
      exec (.proofListFix scan reach errs) s = .next { v with pxh := { v.pxh with scanAt := n } })) ∧
  (s.canonical → ∀ (mask : BitVec 8) tie t, t = s.apart tie → exec (.pxhStuckClear mask tie) s
    = .next (answered (t.setReg PXH_STUCK (t.reg PXH_STUCK &&& ~~~(BitVec.ofNat 32 (t.w1cMask PXH_STUCK mask.toNat))), .ok))))

/-- Failures and verifications of a pixel (R182, R190 to R192): a first failure makes it SUSPECT, keeps its AGE, and takes a cache entry with
one failure; a verification clears AGE, counts a pass of a SUSPECT pixel, and clears a SUSPECT pixel at PASS_N passes, to HEALTHY or to
SPARED as its trim record says. -/
def Obligations.PixelHealth : Prop := ∀ (p kind : Nat) (s : State), p < 1310720 →
  (∀ i, cacheOf s p = none → cacheFree s = some i → 1 < s.rdAct PXH_PERSIST_FAIL_N →
    pixelFail p kind s = setCache i (some ⟨0, 1, kind, p, s.rd DEV_FN_FN⟩) (setHealth p (4 + healthAge (healthOf s p)) s)) ∧
  (healthState (healthOf s p) ≠ 1 → pixelVerify p s = setHealth p (healthState (healthOf s p) * 4) s) ∧
  (∀ i e, healthState (healthOf s p) = 1 → cacheOf s p = some (i, e) → min 31 (e.passes + 1) < s.rdAct PXH_PERSIST_PASS_N →
    pixelVerify p s = setCache i (some { e with passes := min 31 (e.passes + 1) }) (setHealth p 4 s)) ∧
  (∀ i e, healthState (healthOf s p) = 1 → cacheOf s p = some (i, e) → s.rdAct PXH_PERSIST_PASS_N ≤ min 31 (e.passes + 1) →
    pixelVerify p s = setHealth p (if trimSpare (trimOf s p) = 1 then 8 else 0) (setCache i none s))

/-- The thermal demands and windows. TEMP_MEASURE opens the windows of its sensors and is answered when they end; a sensor whose window is
open is measured again after it (R211). The automatic demand opens all windows and counts (R212). The end of windows converts their
counts, answers the commands that wait for them, and opens again the windows asked for meanwhile (R209, R213). Broken bits clear when
written 1 (R216). The cross-check (R217): it starts unless one runs, with the windows of its own on the sensors that have none open; a
curve that is not strictly monotonic, or a code outside it, ends it with 7, a missing reference with 6, an engine that was not on DARK
throughout with 5; without failing sensors it ends with 2, with 32 or fewer it breaks them and ends with 3, and with more, or with two
references that differ by more than the tolerance, it ends with 4 and breaks none. It has no effect on an engine whose cross-check does
not run. -/
def Obligations.Thermal : Prop :=
  (∀ (s : State),
  (∀ c t k, admits .tempMeasure c s → t = admitted .tempMeasure c s → k = c.p0 → k < 72 ∨ k = 127 →
    (∀ i ∈ sensorsOf k, winOpenAt t i = false) → ∀ l : List TempWait,
    l = t.thm.waits ++ [⟨issued .tempMeasure c s, (sensorsOf k).map (fun i => (i, 1))⟩] →
    exec (.tempMeasure c) s
      = .next (holdCmd (issued .tempMeasure c s) (openWins true (sensorsOf k) { t with thm := { t.thm with waits := l } }))) ∧
  (∀ c t k l busy w, admits .tempMeasure c s → t = admitted .tempMeasure c s → k = c.p0 → k < 72 ∨ k = 127 → l = sensorsOf k →
    busy = l.filter (fun i => winOpenAt t i && !(c.tie && sameCycleWin false t i)) →
    w = ({ o := issued .tempMeasure c s, left := l.map (fun i => (i, if i ∈ busy then 2 else 1)) } : TempWait) →
    exec (.tempMeasure c) s = .next (holdCmd (issued .tempMeasure c s) (openWins true l { t with thm := { t.thm with
      waits := t.thm.waits ++ [w], again := busy.foldl (fun m i => storeSet false m i true) t.thm.again } }))) ∧
  (∀ c, admits .tempMeasure c s → 72 ≤ c.p0 → c.p0 ≠ 127 →
    exec (.tempMeasure c) s = .next (completed .tempMeasure c s (ans (admitted .tempMeasure c s) .badParam))) ∧
  (isPowered s →
    (s.thm.autoDue → exec .thmAutoDemand s = .next (openWins false (List.range 72)
      (({ s with thm := { s.thm with autoDue := false } } : State).bump THM_COUNT_AUTO))) ∧
    (s.thm.autoDue = false → exec .thmAutoDemand s = .next s) ∧
    (∀ (counts l : List (Fin 72 × BitVec 20)),
      l = counts.filter (fun x => winOpenAt s x.1.val && decide (storeGet 0 s.thm.xchkWin x.1.val ≠ 1)) →
      (l = [] → exec (.thmConversion counts) s = .next s) ∧
      (l ≠ [] → exec (.thmConversion counts) s = .next (windowsEnd (l.map (fun x => x.1.val))
        (convert [] (l.map (fun x => (x.1.val, x.2.toNat, storeGet 0 s.thm.window x.1.val - 1))) s)))) ∧
    (∀ (k : Fin 72) (n : BitVec 20) t, winOpenAt s k.val → storeGet 0 s.thm.xchkWin k.val ≠ 1 →
      t = convert [] [(k.val, n.toNat, storeGet 0 s.thm.window k.val - 1)] s →
      exec (.thmConversion [(k, n)]) s = .next (windowsEnd [k.val] t)) ∧
    (∀ (n : Fin 3) (mask : Word) tie, exec (.thmBrokenClear n mask tie) s
      = .next (answered (thmBrokenClear n.val mask.toNat (s.apart tie), .ok))))) ∧
  (∀ (s : State), isPowered s →
  (s.canonical → s.rd THM_STAT_XCHK_RESULT = 1 → exec .xchkRun s = .next (answered (s, .ok))) ∧
  (s.canonical → s.rd THM_STAT_XCHK_RESULT ≠ 1 → (∀ k < 72, winOpenAt s k = false) → ∀ t,
    t = ({ s with thm := { s.thm with ntcGot := [], xchkDark := decide (s.rd DEV_LADDER_RUNG = 4), xchkWin := [] } } : State) →
    exec .xchkRun s = .next (answered ((openXchk (List.range 72) t).wr THM_STAT_XCHK_RESULT 1, .ok))) ∧
  (s.canonical → s.rd THM_STAT_XCHK_RESULT ≠ 1 → ∀ l b w t, l = (List.range 72).filter (fun k => !winOpenAt s k) →
    b = (List.range 72).filter (winOpenAt s) → w = b.foldl (fun m k => storeSet 0 m k 2) [] →
    t = { s with thm := { s.thm with ntcGot := [], xchkDark := decide (s.rd DEV_LADDER_RUNG = 4), xchkWin := w } } →
    exec .xchkRun s = .next (answered ((openXchk l t).wr THM_STAT_XCHK_RESULT 1, .ok))) ∧
  (∀ counts, s.rd THM_STAT_XCHK_RESULT ≠ 1 → exec (.xchkEnd counts) s = .next s) ∧
  (∀ counts, s.rd THM_STAT_XCHK_RESULT = 1 → strictMono ((ntcPoints s).map (fun x => x.1)) = false ∨
      strictMono ((ntcPoints s).map (fun x => x.2)) = false →
    exec (.xchkEnd counts) s = .next (xchkResult 7 s)) ∧
  (∀ counts n, s.rd THM_STAT_XCHK_RESULT = 1 → n < 2 → s.rdAct THM_XCHK_CFG_NTC_SEL / 2 ^ n % 2 = 1 →
    storeGet false s.thm.ntcGot n = true → ntcTemp (ntcPoints s) (s.rd (ADC_LASTn_MEAN (11 + n))) = none →
    exec (.xchkEnd counts) s = .next (xchkResult 7 s)) ∧
  (∀ counts sel got, s.rd THM_STAT_XCHK_RESULT = 1 → strictMono ((ntcPoints s).map (fun x => x.1)) →
    strictMono ((ntcPoints s).map (fun x => x.2)) →
    sel = (List.range 2).filter (fun n => s.rdAct THM_XCHK_CFG_NTC_SEL / 2 ^ n % 2 = 1) →
    got = sel.filter (fun n => storeGet false s.thm.ntcGot n) →
    (∀ n ∈ got, (ntcTemp (ntcPoints s) (s.rd (ADC_LASTn_MEAN (11 + n)))).isSome) →
    (got.length < sel.length → exec (.xchkEnd counts) s = .next (xchkResult 6 s)) ∧
    (got.length = sel.length → s.rd DEV_LADDER_RUNG ≠ 4 ∨ s.thm.xchkDark = false →
      exec (.xchkEnd counts) s = .next (xchkResult 5 s)) ∧
    (got.length = sel.length → s.rd DEV_LADDER_RUNG = 4 → s.thm.xchkDark → counts.length < 72 ∨ xchkOpen s = false →
      exec (.xchkEnd counts) s = .next s)) ∧
  (∀ counts (k : Nat) ref l t, s.rd THM_STAT_XCHK_RESULT = 1 → strictMono ((ntcPoints s).map (fun x => x.1)) →
    strictMono ((ntcPoints s).map (fun x => x.2)) → s.rdAct THM_XCHK_CFG_NTC_SEL = 2 ^ k → k < 2 →
    storeGet false s.thm.ntcGot k = true → ntcTemp (ntcPoints s) (s.rd (ADC_LASTn_MEAN (11 + k))) = some ref →
    s.thm.xchkDark → s.rd DEV_LADDER_RUNG = 4 → 72 ≤ counts.length → xchkOpen s →
    l = counts.map (fun x => (x.1.val, x.2.toNat)) →
    (xchkFails ref l s = [] → t = (convert [] (l.map (fun x => (x.1, x.2, 2))) s).wr THM_XCHK_NTC_TEMP (ofSigned 16 ref) →
      exec (.xchkEnd counts) s = .next (windowsEnd (List.range 72) (xchkResult 2 (showFails [] t)))) ∧
    (∀ f, f = xchkFails ref l s → f ≠ [] → f.length ≤ 32 →
      t = (convert f (l.map (fun x => (x.1, x.2, 2))) s).wr THM_XCHK_NTC_TEMP (ofSigned 16 ref) →
      exec (.xchkEnd counts) s = .next (windowsEnd (List.range 72) (xchkResult 3 (showFails f t)))) ∧
    (∀ f, f = xchkFails ref l s → 32 < f.length →
      t = (convert [] (l.map (fun x => (x.1, x.2, 2))) s).wr THM_XCHK_NTC_TEMP (ofSigned 16 ref) →
      exec (.xchkEnd counts) s = .next (windowsEnd (List.range 72) (xchkResult 4 (showFails f t))))) ∧
  (∀ counts a b l t tol, s.rd THM_STAT_XCHK_RESULT = 1 → strictMono ((ntcPoints s).map (fun x => x.1)) →
    strictMono ((ntcPoints s).map (fun x => x.2)) → s.rdAct THM_XCHK_CFG_NTC_SEL = 3 →
    storeGet false s.thm.ntcGot 0 = true → storeGet false s.thm.ntcGot 1 = true →
    ntcTemp (ntcPoints s) (s.rd (ADC_LASTn_MEAN 11)) = some a → ntcTemp (ntcPoints s) (s.rd (ADC_LASTn_MEAN 12)) = some b →
    s.thm.xchkDark → s.rd DEV_LADDER_RUNG = 4 → 72 ≤ counts.length → xchkOpen s →
    l = counts.map (fun x => (x.1.val, x.2.toNat)) → tol = ((s.rdAct THM_XCHK_CFG_XCHK_TOL * 16 : Nat) : Int) →
    (tol < a - b ∨ tol < b - a →
      t = (convert [] (l.map (fun x => (x.1, x.2, 2))) s).wr THM_XCHK_NTC_TEMP (ofSigned 16 ((a + b + 1) / 2)) →
      exec (.xchkEnd counts) s = .next (windowsEnd (List.range 72) (xchkResult 4 t))) ∧
    (a - b ≤ tol → b - a ≤ tol → xchkFails ((a + b + 1) / 2) l s = [] →
      t = (convert [] (l.map (fun x => (x.1, x.2, 2))) s).wr THM_XCHK_NTC_TEMP (ofSigned 16 ((a + b + 1) / 2)) →
      exec (.xchkEnd counts) s = .next (windowsEnd (List.range 72) (xchkResult 2 (showFails [] t)))) ∧
    (∀ f, a - b ≤ tol → b - a ≤ tol → f = xchkFails ((a + b + 1) / 2) l s → f ≠ [] → f.length ≤ 32 →
      t = (convert f (l.map (fun x => (x.1, x.2, 2))) s).wr THM_XCHK_NTC_TEMP (ofSigned 16 ((a + b + 1) / 2)) →
      exec (.xchkEnd counts) s = .next (windowsEnd (List.range 72) (xchkResult 3 (showFails f t))))))

/-- ENABLE and DISABLE of the loops (R279, R380, R381, R393, R396): an OFF unit starts, a stopping one is answered ACCEPTED_PENDING, a running
one stops. The rail starts only off DARK with SAFE_SNS conducting, and stops only on DARK; levelling needs hall sampling. The rows of the
enable bits do the same. A loop number above 2 is BAD_PARAM. -/
def Obligations.LoopEnables : Prop := ∀ (c : Cmd) (s t : State),
  (admits .loopEnable c s → t = admitted .loopEnable c s →
    (c.p0 = 0 → t.rd DEV_LADDER_RUNG ≠ 4 → t.bit SMC_STAT_SAFE_SNS →
      (t.rd LE0_STAT_UNIT = 0 → exec (.loopEnable c) s
        = .next (completed .loopEnable c s (ok (railUnit.start ((t.wr LE0_CTRL_EN 1).wr LE0_STAT_UNIT 1))))) ∧
      (t.rd LE0_STAT_UNIT = 3 → exec (.loopEnable c) s = .next (completed .loopEnable c s
        (ans ((t.wr LE0_CTRL_EN 1).wr LE0_STAT_EN_PENDING 1) .acceptedPending))) ∧
      (t.rd LE0_STAT_UNIT = 2 → exec (.loopEnable c) s = .next (completed .loopEnable c s (ok (t.wr LE0_CTRL_EN 1))))) ∧
    (c.p0 = 0 → t.rd DEV_LADDER_RUNG = 4 → exec (.loopEnable c) s = .next (completed .loopEnable c s (ans t .safeState))) ∧
    (c.p0 = 1 → t.bit LE1_CTRL_HALL_EN = false → exec (.loopEnable c) s = .next (completed .loopEnable c s (ans t .busy))) ∧
    (c.p0 = 1 → t.bit LE1_CTRL_HALL_EN → t.rd LE1_LVL_STAT_UNIT = 0 → exec (.loopEnable c) s
      = .next (completed .loopEnable c s (ok (lvlUnit.start ((t.wr LE1_CTRL_LVL_EN 1).wr LE1_LVL_STAT_UNIT 1))))) ∧
    (c.p0 = 2 → t.rd LE1_FAN_STAT_UNIT = 0 → exec (.loopEnable c) s = .next (completed .loopEnable c s
      (ok ((((t.wr LE1_CTRL_FAN_EN 1).wr LE1_FAN_STAT_UNIT 1).wr LE1_FAN_STAT_DUTY 1023).wr LE1_FAN_STAT_STALL 0)))) ∧
    (3 ≤ c.p0 → exec (.loopEnable c) s = .next (completed .loopEnable c s (ans t .badParam)))) ∧
  (admits .loopDisable c s → t = admitted .loopDisable c s →
    (c.p0 = 0 → t.rd DEV_LADDER_RUNG = 4 → t.rd LE0_STAT_UNIT = 2 → exec (.loopDisable c) s = .next (completed .loopDisable c s
      (ok (allLow ((t.wr LE0_CTRL_EN 0).wr LE0_STAT_UNIT 3))))) ∧
    (c.p0 = 0 → t.rd DEV_LADDER_RUNG ≠ 4 → exec (.loopDisable c) s = .next (completed .loopDisable c s (ans t .safeState))) ∧
    (c.p0 = 1 → t.rd LE1_LVL_STAT_UNIT = 2 → exec (.loopDisable c) s = .next (completed .loopDisable c s
      (ok (lvlBrake ((t.wr LE1_CTRL_LVL_EN 0).wr LE1_LVL_STAT_UNIT 3))))) ∧
    (c.p0 = 2 → t.rd LE1_FAN_STAT_UNIT = 2 → exec (.loopDisable c) s = .next (completed .loopDisable c s
      (ok (((t.wr LE1_CTRL_FAN_EN 0).wr LE1_FAN_STAT_UNIT 3).wr LE1_FAN_STAT_DUTY 0))))) ∧
  (isPowered s → s.canonical →
    (exec (.le0En true) s = .next (answered (railEnable s))) ∧ (exec (.le0En false) s = .next (answered (railDisable s))) ∧
    (s.bit LE1_CTRL_HALL_EN → exec (.lvlEn true) s = .next (answered (lvlEnable (syncAim s)))) ∧
    (s.bit LE1_CTRL_HALL_EN = false → exec (.lvlEn true) s = .next (answered (s, .busy))) ∧
    (exec (.lvlEn false) s = .next (answered (lvlDisable (syncAim s)))) ∧
    (exec (.fanEn true) s = .next (answered (fanEnable (syncAim s)))) ∧
    (exec (.fanEn false) s = .next (answered (fanDisable (syncAim s)))))

/-- SETPOINT writes the loop's target within its range, LOOP_CFG the registers of a loop in order, LOOP_HOLD asks for a hold of an ON rail or
its end (R378, R389, R397). LE0_SET_SEL takes a set of the newest schedule while the rail is off or held (R376). The bits of LE0_FB and
LE1_FB clear when written 1 (R384, R394). TRACE_ARM arms a buffer, TRACE_READ answers a captured one (R398 to R400). -/
def Obligations.LoopSettings : Prop := ∀ (c : Cmd) (s t : State),
  (admits .setpoint c s → t = admitted .setpoint c s →
    (c.p0 = 0 → 3000 ≤ c.w 1 → c.w 1 ≤ 4200 →
      exec (.setpoint c) s = .next (completed .setpoint c s (ok (t.wr LE0_SP_SP_MV (c.w 1))))) ∧
    (c.p0 = 0 → c.w 1 < 3000 ∨ 4200 < c.w 1 → exec (.setpoint c) s = .next (completed .setpoint c s (ans t .badParam))) ∧
    (c.p0 = 1 → lvlSpOk (t.reg LE1_LVL_LIM) (toSigned 32 (c.w 1)) → exec (.setpoint c) s
      = .next (completed .setpoint c s (ok (t.wr LE1_LVL_SP_SP (ofSigned 16 (toSigned 32 (c.w 1))))))) ∧
    (c.p0 = 2 → c.w 1 ≤ 12000 → t.bit LE1_FAN_SP_AUTO = false →
      exec (.setpoint c) s = .next (completed .setpoint c s (ok (t.wr LE1_FAN_SP_RPM (c.w 1))))) ∧
    (c.p0 = 2 → c.w 1 ≤ 12000 → t.bit LE1_FAN_SP_AUTO →
      exec (.setpoint c) s = .next (completed .setpoint c s (ans t .busy)))) ∧
  (admits .loopCfg c s → t = admitted .loopCfg c s → c.p0 < 3 → ∀ l, l = (loopRegs c.p0).zip c.words →
    l.all (fun x => rangeOk x.1 x.2) →
    (c.p0 = 1 → lvlSpOk (c.words.getD 1 0#32) (toSigned 16 (fv (c.words.getD 2 0#32) LE1_LVL_SP_SP))) →
    (l.any (fun x => loopRegBusy x.1 x.2 t) = false → exec (.loopCfg c) s
      = .next (completed .loopCfg c s (ok (l.foldl (fun u x => u.wrWord x.1 x.2) t)))) ∧
    (l.any (fun x => loopRegBusy x.1 x.2 t) → exec (.loopCfg c) s = .next (completed .loopCfg c s (ans t .busy)))) ∧
  (admits .loopHold c s → t = admitted .loopHold c s →
    (c.p0 = 32768 → t.rd LE0_STAT_UNIT = 2 → exec (.loopHold c) s
      = .next (completed .loopHold c s (ok { t with loops := { t.loops with holdReq := 1 } }))) ∧
    (c.p0 = 32768 → t.rd LE0_STAT_UNIT ≠ 2 → exec (.loopHold c) s = .next (completed .loopHold c s (ans t .busy))) ∧
    (c.p0 = 0 → t.bit LE0_STAT_HOLD → exec (.loopHold c) s
      = .next (completed .loopHold c s (ok { t with loops := { t.loops with holdReq := 2 } })))) ∧
  (isPowered s →
    (∀ v : BitVec 3, gsNewest s ≤ v.toNat → exec (.le0SetSelWrite v) s = .next (answered (s, .badParam))) ∧
    (∀ v : BitVec 3, v.toNat < gsNewest s → railRuns s → s.bit LE0_STAT_HOLD = false →
      exec (.le0SetSelWrite v) s = .next (answered (s, .busy))) ∧
    (∀ v : BitVec 3, v.toNat < gsNewest s → railRuns s = false ∨ s.bit LE0_STAT_HOLD →
      exec (.le0SetSelWrite v) s = .next (answered (s.wr LE0_SET_SEL_SET v.toNat, .ok))) ∧
    (∀ (v : BitVec 4) tie, exec (.le0FbClear v tie) s = .next (answered (le0FbClear v.toNat (s.apart tie), .ok))) ∧
    (∀ (v : BitVec 3) tie, exec (.le1FbClear v tie) s = .next (answered (le1FbClear v.toNat (s.apart tie), .ok)))) ∧
  (admits .traceArm c s → t = admitted .traceArm c s → c.p0 < 2 → c.w 1 / 2 ^ 12 % 16 = 0 → c.w 2 / 2 ^ 24 % 16 = 0 →
    c.w 1 / 2 ^ 28 ≤ (if c.p0 = 0 then 8 else 7) → c.w 1 / 2 ^ 24 % 16 ≤ (if c.p0 = 0 then 8 else 7) →
    c.w 2 / 2 ^ 28 < 6 → c.p0 = 0 ∨ c.w 2 / 2 ^ 28 ≠ 4 → ∀ x y,
    x = ({ traceOf t c.p0 with w1 := c.w 1, w2 := c.w 2, n := 0 } : TraceSt) →
    y = ({ x with skip := 0, left := 0, last := none } : TraceSt) →
    exec (.traceArm c) s = .next (completed .traceArm c s (ok (setTrace c.p0 y (t.wr (LEx_TRACE_STATE c.p0) 1))))) ∧
  (admits .traceRead c s → t = admitted .traceRead c s → c.p0 < 2 → 1 ≤ c.w 2 → c.w 2 ≤ 511 → c.w 1 + c.w 2 ≤ 4096 →
    (t.rd (LEx_TRACE_STATE c.p0) = 3 → exec (.traceRead c) s = .next (completed .traceRead c s
      (okW t ((List.range (c.w 2)).map (fun k => traceWord t c.p0 (c.w 1 + k)))))) ∧
    (t.rd (LEx_TRACE_STATE c.p0) ≠ 3 → exec (.traceRead c) s = .next (completed .traceRead c s (ans t .busy))))

/-- The phases (R371, R372): a current above the high threshold drives the phase low; below the low one it drives it high again while the rail
runs; a crossing within 50 ns of the phase's last edge, or of a phase that does not exist, has no effect (log entry 127). A trip drives
the phase low, and is reported once per frame; 16 trips in a row stop the rail. The rail's life (R380, R381): AUTO starts a stopped, OFF
rail; STARTING goes ON when the profile stands at the target and the rail has followed it for 100 samples; a start that times out reports
RAIL_UV and stops; a stop that completes reaches OFF, with a pending enable run there. A hold ends when its time expires, unless it was
asked for again, and I_int then returns within its clamp (R378). The rail's supervision (R377, R382 to R386): a sense in use that LOST_N
implausible samples, or a frozen run, make unusable is reported as LOOP_FB_LOST or LOOP_FB_FROZEN of severity MINOR while the other sense
takes over; without another it is CRITICAL, the rail stops and the engine goes to DARK, and two senses that fail in one sample are one
loss. An overvoltage drives every phase low and holds them; an undervoltage is reported once per excursion; an integrator at its clamp for
10,000 samples is reported once. -/
def Obligations.RailEvents : Prop :=
  (∀ (k : Fin 6) (since : Nat) (s : State), isPowered s →
  (∀ rise, s.rd LE0_CFG_N_PH ≤ k.val ∨ since < 50 → exec (.phaseThresholdCrossing k rise since) s = .next s) ∧
  (k.val < s.rd LE0_CFG_N_PH → 50 ≤ since →
    exec (.phaseThresholdCrossing k true since) s = .next (setPhase k.val false s)) ∧
  (k.val < s.rd LE0_CFG_N_PH → 50 ≤ since → railRuns s → s.loops.ovHold = false → s.loops.thHi ≠ 0 ∨ s.loops.thLo ≠ 0 →
    ∀ l m n f, l = storeSet false s.loops.tripped k.val false → m = storeSet false s.loops.ocThis k.val false →
    (storeGet false s.loops.ocThis k.val = false → n = storeSet 0 s.loops.ocRun k.val 0) →
    (storeGet false s.loops.ocThis k.val = true → n = s.loops.ocRun) →
    f = ({ s.loops with tripped := l, ocRun := n, ocThis := m } : LoopSt) →
    exec (.phaseThresholdCrossing k false since) s = .next (setPhase k.val true { s with loops := f })) ∧
  (k.val < s.rd LE0_CFG_N_PH → 50 ≤ since → railRuns s = false ∨ s.loops.ovHold ∨ (s.loops.thHi = 0 ∧ s.loops.thLo = 0) →
    exec (.phaseThresholdCrossing k false since) s
      = .next { s with loops := { s.loops with tripped := storeSet false s.loops.tripped k.val false } }) ∧
  (s.rd LE0_CFG_N_PH ≤ k.val ∨ s.bit LE0_STAT_STOPPED → exec (.phaseOcTrip k) s = .next s) ∧
  (k.val < s.rd LE0_CFG_N_PH → s.bit LE0_STAT_STOPPED = false → storeGet false s.loops.ocThis k.val = false →
    ∀ t f, t = setPhase k.val false (s.bump LE0_COUNT_OC_EVENTS) →
    f = ({ t.loops with tripped := storeSet false t.loops.tripped k.val true } : LoopSt) →
    ∀ g h, g = ({ f with ocThis := storeSet false t.loops.ocThis k.val true, ocRaised := true } : LoopSt) →
    h = ({ g with ocRun := storeSet 0 t.loops.ocRun k.val (min 16 (storeGet 0 t.loops.ocRun k.val + 1)) } : LoopSt) →
    (s.loops.ocRaised → exec (.phaseOcTrip k) s = .next { t with loops := h }) ∧
    (s.loops.ocRaised = false → exec (.phaseOcTrip k) s = .next (raise 0x55 k.val { t with loops := h }))) ∧
  (k.val < s.rd LE0_CFG_N_PH → s.bit LE0_STAT_STOPPED = false → storeGet false s.loops.ocThis k.val = true →
    ∀ t f, t = setPhase k.val false (s.bump LE0_COUNT_OC_EVENTS) →
    f = ({ t.loops with tripped := storeSet false t.loops.tripped k.val true, ocThis := storeSet false t.loops.ocThis k.val true,
                        ocRaised := true } : LoopSt) →
    (s.loops.ocRaised → exec (.phaseOcTrip k) s = .next { t with loops := f }) ∧
    (s.loops.ocRaised = false → exec (.phaseOcTrip k) s = .next (raise 0x55 k.val { t with loops := f }))) ∧
  (storeGet 0 s.loops.ocRun k.val < 16 ∨ railRuns s = false → exec (.phaseOcPersist k) s = .next s) ∧
  (16 ≤ storeGet 0 s.loops.ocRun k.val → railRuns s → ∀ f,
    f = ({ s.loops with ocRun := storeSet 0 s.loops.ocRun k.val 0 } : LoopSt) →
    exec (.phaseOcPersist k) s = .next (raiseSev 0x55 3 k.val (railForceStop { s with loops := f })))) ∧
  (∀ (s : State), isPowered s →
  (s.bit LE0_CTRL_AUTO → s.rd LE0_STAT_UNIT = 0 → s.bit LE0_STAT_STOPPED → s.bit LE0_STAT_EN_PENDING = false →
    s.rd DEV_LADDER_RUNG ≠ 4 → exec (.railAutoStart true) s
      = .next (railUnit.start (((s.wr SMC_STAT_SAFE_SNS 1).wr LE0_CTRL_EN 1).wr LE0_STAT_UNIT 1))) ∧
  (∀ sns, s.bit LE0_CTRL_AUTO = false ∨ s.rd LE0_STAT_UNIT ≠ 0 ∨ s.bit LE0_STAT_STOPPED = false ∨ s.bit LE0_STAT_EN_PENDING ∨
    s.rd DEV_LADDER_RUNG = 4 ∨ sns = false → exec (.railAutoStart sns) s = .next (s.wr SMC_STAT_SAFE_SNS (boolNat sns))) ∧
  (∀ x : Int, x = s.rd LE0_SP_SP_MV * 4 → s.rd LE0_STAT_UNIT = 1 → s.loops.rail.q = x → s.loops.rail.ref = x →
    100 ≤ s.loops.okRun → exec .railOn s = .next (s.wr LE0_STAT_UNIT 2)) ∧
  (∀ x : Int, x = s.rd LE0_SP_SP_MV * 4 → s.loops.rail.q ≠ x ∨ s.loops.rail.ref ≠ x ∨ s.loops.okRun < 100 →
    exec .railOn s = .next s) ∧
  (s.rd LE0_STAT_UNIT ≠ 1 → exec .railOn s = .next s ∧ exec .railStartTimeout s = .next s) ∧
  (s.rd LE0_STAT_UNIT = 1 →
    exec .railStartTimeout s = .next ((allLow (raise 0x54 (vUsed s / 4) s)).wr LE0_STAT_UNIT 3)) ∧
  (s.rd LE0_STAT_UNIT = 3 → s.bit LE0_STAT_STOPPED = false → s.smc.offWait = false → s.bit LE0_STAT_EN_PENDING = false →
    ∀ f, f = ({ s.loops with iFf := 0, ffNext := none, thHi := 0, thLo := 0 } : LoopSt) →
    exec .railStopComplete s
      = .next (((({ s with loops := f } : State).wr LE0_STAT_STOPPED 1).wr LE0_CURRENT_I_FF 0).wr LE0_STAT_UNIT 0)) ∧
  (s.rd LE0_STAT_UNIT = 3 → s.bit LE0_STAT_STOPPED = false → ∀ f u v w x,
    f = ({ s.loops with iFf := 0, ffNext := none, thHi := 0, thLo := 0 } : LoopSt) →
    u = (({ s with loops := f } : State).wr LE0_STAT_STOPPED 1).wr LE0_CURRENT_I_FF 0 →
    (s.smc.offWait → v = safeOffLow u) → (s.smc.offWait = false → v = u) → w = v.wr LE0_STAT_UNIT 0 → x = w.wr LE0_STAT_EN_PENDING 0 →
    (s.bit LE0_STAT_EN_PENDING = false → exec .railStopComplete s = .next w) ∧
    (s.bit LE0_STAT_EN_PENDING → railMay s → exec .railStopComplete s = .next (railUnit.start (x.wr LE0_STAT_UNIT 1))) ∧
    (s.bit LE0_STAT_EN_PENDING → railMay s = false → exec .railStopComplete s = .next x)) ∧
  (s.rd LE0_STAT_UNIT ≠ 3 ∨ s.bit LE0_STAT_STOPPED → exec .railStopComplete s = .next s) ∧
  (s.bit LE0_STAT_HOLD → s.loops.holdReq ≠ 1 → exec .loopHoldExpiry s = .next (clampInt (s.wr LE0_STAT_HOLD 0))) ∧
  (s.bit LE0_STAT_HOLD = false ∨ s.loops.holdReq = 1 → exec .loopHoldExpiry s = .next s)) ∧
  (∀ (b : Bool) (k : Nat) (s : State), isPowered s → k = boolNat b →
  (railRuns s → lossNow s k → s.bitOf ⟨LE0_FB, 31, 0⟩ k = false → s.loops.fbClr = 0 →
    (senseOk s (1 - k) = true → lossNow s (1 - k) = false → frozenNow s (1 - k) = false → senseOk s k → senseUsed s = k →
      exec (.railSenseLost b) s
        = .next (raiseSev 0x50 1 k ((s.setW1c LE0_FB (2 ^ k)).bump LE0_COUNT_FB_SWITCHES))) ∧
    (senseOk s (1 - k) = true → lossNow s (1 - k) = false → frozenNow s (1 - k) = false → senseOk s k = false ∨ senseUsed s ≠ k →
      exec (.railSenseLost b) s = .next (s.setW1c LE0_FB (2 ^ k))) ∧
    (senseOk s (1 - k) = false → senseOk s k →
      exec (.railSenseLost b) s
        = .next (requireRung 4 0x50 (raiseSev 0x50 3 k (railForceStop (s.setW1c LE0_FB (2 ^ k))))))) ∧
  (railRuns s → frozenNow s k → s.bitOf ⟨LE0_FB, 31, 0⟩ (k + 2) = false → s.loops.fbClr = 0 →
    (senseOk s (1 - k) = true → lossNow s (1 - k) = false → frozenNow s (1 - k) = false → senseOk s k → senseUsed s = k →
      exec (.railSenseFrozen b) s
        = .next (raiseSev 0x51 1 k ((s.setW1c LE0_FB (2 ^ (k + 2))).bump LE0_COUNT_FB_SWITCHES))) ∧
    (senseOk s (1 - k) = true → lossNow s (1 - k) = false → frozenNow s (1 - k) = false → senseOk s k = false ∨ senseUsed s ≠ k →
      exec (.railSenseFrozen b) s = .next (s.setW1c LE0_FB (2 ^ (k + 2)))) ∧
    (senseOk s (1 - k) = false → senseOk s k →
      exec (.railSenseFrozen b) s
        = .next (requireRung 4 0x51 (raiseSev 0x51 3 k (railForceStop (s.setW1c LE0_FB (2 ^ (k + 2)))))))) ∧
  (∀ t, railRuns s → senseOk s k → senseOk s (1 - k) → lossNow s (1 - k) ∨ frozenNow s (1 - k) →
    (lossNow s k → t = ((fbSet k s).when (lossNow s (1 - k)) (fbSet (1 - k))).when (frozenNow s (1 - k)) (fbSet (1 - k + 2)) →
      exec (.railSenseLost b) s = .next (requireRung 4 0x50 (raiseSev 0x50 3 k (railForceStop t)))) ∧
    (frozenNow s k →
      t = ((fbSet (k + 2) s).when (lossNow s (1 - k)) (fbSet (1 - k))).when (frozenNow s (1 - k)) (fbSet (1 - k + 2)) →
      exec (.railSenseFrozen b) s = .next (requireRung 4 0x50 (raiseSev 0x50 3 k (railForceStop t))))) ∧
  (railRuns s = false → exec (.railSenseLost b) s = .next s ∧ exec (.railSenseFrozen b) s = .next s ∧
    exec (.railOv b) s = .next s) ∧
  (lossNow s k = false → exec (.railSenseLost b) s = .next s) ∧
  (frozenNow s k = false → exec (.railSenseFrozen b) s = .next s) ∧
  (railRuns s → senseOk s k → s.rd LE0_SUPV_OVUV_N ≤ storeGet 0 s.loops.ovRun k → s.loops.ovHold = false →
    ∀ t, t = allLow s → exec (.railOv b) s
      = .next (raise 0x53 (storeGet 0 s.loops.vSense k / 4) { t with loops := { t.loops with ovHold := true } })) ∧
  (senseOk s k = false ∨ storeGet 0 s.loops.ovRun k < s.rd LE0_SUPV_OVUV_N ∨ s.loops.ovHold → exec (.railOv b) s = .next s) ∧
  (s.rd LE0_STAT_UNIT = 2 → s.rd LE0_SUPV_OVUV_N ≤ s.loops.uvRun → s.loops.uvDone = false →
    exec .railUv s = .next (raise 0x54 (vUsed s / 4) { s with loops := { s.loops with uvDone := true } })) ∧
  (s.rd LE0_STAT_UNIT ≠ 2 ∨ s.loops.uvRun < s.rd LE0_SUPV_OVUV_N ∨ s.loops.uvDone → exec .railUv s = .next s) ∧
  (10000 ≤ s.loops.clampRun → s.loops.satDone = false → exec .loopIntSat s
    = .next (raise 0x52 (s.rd LE0_STAT_SET_ACT) { s with loops := { s.loops with satDone := true } })) ∧
  (s.loops.clampRun < 10000 ∨ s.loops.satDone → exec .loopIntSat s = .next s))

/-- The law of the rail (R373, R377): the total current stays from 0 to what the phases may carry, the high threshold within its ten bits, and
the integrator of an unheld rail within the clamp of the set in effect. -/
def Obligations.RailLaw : Prop := ∀ (v : Int) (s t : State), t = railLaw v s →
  t.loops.iTot ≤ s.rd LE0_CFG_N_PH * s.rd LE0_CFG_I_PH_MAX * 10 ∧ t.loops.thHi ≤ 1023 ∧
  (s.bit LE0_STAT_HOLD → t.loops.iInt = s.loops.iInt ∧ t.loops.base = s.loops.base) ∧
  (s.bit LE0_STAT_HOLD = false → gsMin s ≤ gsMax s → gsMin s ≤ t.loops.iInt ∧ t.loops.iInt ≤ gsMax s)

/-- The levelling loop (R391 to R394): STARTING goes ON after LOST_N plausible samples, at the measured position; a start that times out goes
OFF and is reported; a stop that completes reaches OFF, where a pending enable starts while hall sampling runs. Lost or frozen feedback
brakes, makes the aim invalid, is reported, and stops the loop. A position outside the permitted range for LOST_N samples sets LIMIT, and
a drive away from the range is replaced by BRAKE. The fan (R395, R396): a tachometer edge gives the speed and ends a stall; without edges
the speed is 0, and a running fan driven at least at D_min is stalled, reported, and driven in full. The update moves the duty toward the
speed set, from D_min to full; the kick ends at D_min; a stop that completes reaches OFF. A speed that RPM cannot hold is a free value
(log entry 39). The loop slots (R390, R404): a rail slot samples both senses for the rail, a hall slot shows both tracks, and while hall
sampling runs is levelling's sample, and the battery's slot shows its voltage. A profile tick moves the generator of a running loop (R387,
R388). -/
def Obligations.LevellingAndFan : Prop :=
  (∀ (s : State), isPowered s →
  (s.rd LE1_LVL_STAT_UNIT = 1 → s.rd LE1_LVL_SUPV_LOST_N ≤ s.loops.lvlStart → exec .lvlOn s
    = .next (({ s with loops := { s.loops with lvl := profStart (pos16 s) } } : State).wr LE1_LVL_STAT_UNIT 2)) ∧
  (s.rd LE1_LVL_STAT_UNIT ≠ 1 → exec .lvlOn s = .next s ∧ exec .lvlStartTimeout s = .next s) ∧
  (s.rd LE1_LVL_STAT_UNIT = 1 → exec .lvlStartTimeout s = .next ((raise 0x56 3 s).wr LE1_LVL_STAT_UNIT 0)) ∧
  (s.rd LE1_LVL_STAT_UNIT = 3 → ∀ t, t = s.wr LE1_LVL_STAT_UNIT 0 →
    (t.bit LE1_LVL_STAT_EN_PENDING = false → exec .lvlStopComplete s = .next t) ∧
    (∀ u, t.bit LE1_LVL_STAT_EN_PENDING → u = t.wr LE1_LVL_STAT_EN_PENDING 0 → u.bit LE1_CTRL_HALL_EN →
      exec .lvlStopComplete s = .next (lvlUnit.start (u.wr LE1_LVL_STAT_UNIT 1)))) ∧
  (s.rd LE1_LVL_STAT_UNIT ≠ 3 → exec .lvlStopComplete s = .next s) ∧
  (s.rd LE1_LVL_STAT_UNIT = 2 →
    (s.rd LE1_LVL_SUPV_LOST_N ≤ s.loops.lvlImp → exec .lvlFbLost s
      = .next (raise 0x56 1 ((syncAim ((lvlBrake s).setW1c LE1_FB 1)).wr LE1_LVL_STAT_UNIT 3))) ∧
    (s.loops.lvlImp < s.rd LE1_LVL_SUPV_LOST_N → exec .lvlFbLost s = .next s) ∧
    (s.rd LE1_LVL_SUPV_FROZEN_N ≤ frzLen s.loops.lvlFrz → exec .lvlFbFrozen s
      = .next (raise 0x56 2 ((syncAim ((lvlBrake s).setW1c LE1_FB 2)).wr LE1_LVL_STAT_UNIT 3)))) ∧
  (s.rd LE1_LVL_STAT_UNIT ≠ 2 → exec .lvlFbLost s = .next s ∧ exec .lvlFbFrozen s = .next s) ∧
  (∀ t, s.rd LE1_LVL_SUPV_LOST_N ≤ s.loops.limRun → s.bit LE1_LVL_STAT_LIMIT = false →
    t = (s.setW1c LE1_FB 4).wr LE1_LVL_STAT_LIMIT 1 →
    (limitDrive t (t.rd LE1_LVL_STAT_DRIVE) = 0 → exec .lvlLimit s = .next (raise 0x57 (s.rd LE1_LVL_STAT_POS16)
      (({ t with loops := { t.loops with duty := 0 } } : State).wr LE1_LVL_STAT_DRIVE 0))) ∧
    (limitDrive t (t.rd LE1_LVL_STAT_DRIVE) ≠ 0 →
      exec .lvlLimit s = .next (raise 0x57 (s.rd LE1_LVL_STAT_POS16) t))) ∧
  (s.loops.limRun < s.rd LE1_LVL_SUPV_LOST_N → exec .lvlLimit s = .next s)) ∧
  (∀ (s : State), isPowered s →
  (∀ p t, t = s.wr LE1_FAN_STAT_STALL 0 →
    (s.loops.tachSeen = false → exec (.fanTachEdge p) s = .next { t with loops := { t.loops with tachSeen := true } }) ∧
    (s.loops.tachSeen → 0 < s.rd LE1_FAN_CFG_PPR * p → 60000000 / (s.rd LE1_FAN_CFG_PPR * p) ≤ 65535 →
      exec (.fanTachEdge p) s = .next (t.wr LE1_FAN_STAT_RPM (60000000 / (s.rd LE1_FAN_CFG_PPR * p)))) ∧
    (s.loops.tachSeen → s.rd LE1_FAN_CFG_PPR * p = 0 →
      exec (.fanTachEdge p) s = .next (t.fresh.2.wr LE1_FAN_STAT_RPM (Config.freeRpm t.fresh.1).toNat))) ∧
  (s.rd LE1_FAN_STAT_UNIT ≠ 2 → exec .fanTachTimeout s = .next (s.wr LE1_FAN_STAT_RPM 0) ∧ exec .fanDutyUpdate s = .next s) ∧
  (s.rd LE1_FAN_STAT_UNIT = 2 → dMin s ≤ s.rd LE1_FAN_STAT_DUTY → s.bit LE1_FAN_STAT_STALL = false →
    exec .fanTachTimeout s = .next ((raise 0x58 (s.rd LE1_FAN_STAT_DUTY)
      ((s.wr LE1_FAN_STAT_RPM 0).wr LE1_FAN_STAT_STALL 1)).wr LE1_FAN_STAT_DUTY 1023)) ∧
  (∀ step d : Int, s.rd LE1_FAN_STAT_UNIT = 2 → s.bit LE1_FAN_STAT_STALL = false →
    step = (2 * ((rpmSet s : Int) - s.rd LE1_FAN_STAT_RPM) * s.rd LE1_FAN_CFG_KF + 256) / 512 →
    d = min (max ((s.rd LE1_FAN_STAT_DUTY : Int) + step) (dMin s)) 1023 →
    exec .fanDutyUpdate s = .next (s.wr LE1_FAN_STAT_DUTY d.toNat)) ∧
  (s.rd LE1_FAN_STAT_UNIT = 1 → exec .fanKickEnd s = .next ((s.wr LE1_FAN_STAT_UNIT 2).wr LE1_FAN_STAT_DUTY (dMin s))) ∧
  (s.rd LE1_FAN_STAT_UNIT ≠ 1 → exec .fanKickEnd s = .next s) ∧
  (s.rd LE1_FAN_STAT_UNIT = 3 → ∀ t, t = s.wr LE1_FAN_STAT_UNIT 0 →
    (t.bit LE1_FAN_STAT_EN_PENDING = false → exec .fanStopComplete s = .next t) ∧
    (t.bit LE1_FAN_STAT_EN_PENDING → exec .fanStopComplete s = .next ((((t.wr LE1_FAN_STAT_EN_PENDING 0).wr
      LE1_FAN_STAT_UNIT 1).wr LE1_FAN_STAT_DUTY 1023).wr LE1_FAN_STAT_STALL 0)))) ∧
  (∀ (s : State), isPowered s →
  (∀ a b, exec (.loopSlotConversion (.rail a b)) s = .next (railSample (convCode 0 a s) (convCode 1 b s) a.ovr.isSome
    b.ovr.isSome (loopSample 1 7 b (loopSample 0 6 a s)))) ∧
  (∀ a b, s.bit LE1_CTRL_HALL_EN → exec (.loopSlotConversion (.hall a b)) s = .next (hallSample (convCode 0 a s) (convCode 1 b s)
    (a.ovr.isSome || b.ovr.isSome) (loopSample 1 10 b (loopSample 0 9 a s)))) ∧
  (∀ a b, s.bit LE1_CTRL_HALL_EN = false →
    exec (.loopSlotConversion (.hall a b)) s = .next (loopSample 1 10 b (loopSample 0 9 a s))) ∧
  (∀ x, exec (.loopSlotConversion (.vbat x)) s = .next ((loopSample 0 8 x s).wr LE0_INT_VBAT (5 * convCode 0 x s))) ∧
  (∀ p, s.rd LE1_LVL_STAT_UNIT = 2 → p = profTick false (s.rd LE1_LVL_PROF_NJ) (s.rd LE1_LVL_PROF_AMAX) (s.rd LE1_LVL_PROF_VMAX)
      (toSigned 16 (s.rd LE1_LVL_SP_SP)) s.loops.lvl →
    exec (.profileTick true) s = .next { s with loops := { s.loops with lvl := p } }) ∧
  (s.rd LE1_LVL_STAT_UNIT ≠ 2 → exec (.profileTick true) s = .next s) ∧
  (∀ p, railRuns s → p = profTick (s.bit LE0_PROF_STEP) (s.rd LE0_PROF_NJ) (s.rd LE0_PROF_AMAX) (s.rd LE0_PROF_VMAX)
      ((s.rd LE0_SP_SP_MV * 4 : Nat) : Int) s.loops.rail →
    exec (.profileTick false) s = .next { s with loops := { s.loops with rail := p } }) ∧
  (railRuns s = false → exec (.profileTick false) s = .next s))

/-- The ADC commands (R416, R417). ADC_SEQ_CFG on an OFF sequence writes the sequence's registers when every check passes, or records the
first failing check and is answered BAD_PARAM; on a sequence that is not OFF it is BUSY. ADC_START starts an OFF sequence with empty
pointers, ADC_STOP stops an ON one; the bit ADC_SQn_CTRL.EN does the same. A host write of RPTR must not raise the fill (R415). A
sequence's triggers, entries and ends (R405, R409, R413 to R416). The timer triggers a sequence that names it: an ON sequence without a
pass starts one, a running pass counts the trigger as missed, in STOPPING too. An entry that its converter has taken (R406) and that
completes with its conversions gives one result word to ADC_LAST and the Bobbin, the pass goes to its next entry or ends, and the
converter chooses again. STARTING goes ON; a stopping sequence with nothing left goes OFF. -/
def Obligations.Acquisition : Prop :=
  (∀ (c : Cmd) (s t : State),
  (admits .adcSeqCfg c s → t = admitted .adcSeqCfg c s → c.p0 < 8 → ∀ w, w = c.words.map BitVec.toNat →
    (t.rd (ADC_SQn_STAT_UNIT c.p0) ≠ 0 → exec (.adcSeqCfg c) s = .next (completed .adcSeqCfg c s (ans t .busy))) ∧
    (t.rd (ADC_SQn_STAT_UNIT c.p0) = 0 → c.len = 5 + w.getD 0 0 / 16 % 16 →
      (w.getD 2 0 < 2 ^ 31 ∨ inUsable t (w.getD 1 0) (4 * 2 ^ (w.getD 2 0 / 2 ^ 22 % 32))) →
      (∀ code i, seqCfgCheck w = some (code, i) → exec (.adcSeqCfg c) s = .next (completed .adcSeqCfg c s
        (ans (((t.wr ADC_CFG_ERR_CODE code).wr ADC_CFG_ERR_ENTRY i).wr ADC_CFG_ERR_SEQ c.p0) .badParam))) ∧
      (seqCfgCheck w = none → ∀ v u, v = (fun i => c.words.getD i 0#32) →
        u = ((t.setReg (ADC_SQn_CFG c.p0) (v 0)).setReg (ADC_SQn_BOB_BASE c.p0) (v 1)).setReg (ADC_SQn_BOB_CFG c.p0) (v 2) →
        exec (.adcSeqCfg c) s = .next (completed .adcSeqCfg c s
          (ok (syncFill c.p0 ((List.range (w.length - 3)).foldl (fun x i => x.setReg (ADC_SQn_Ei c.p0 i) (v (3 + i))) u))))))) ∧
  (admits .adcStart c s → t = admitted .adcStart c s →
    (8 ≤ c.p0 → exec (.adcStart c) s = .next (completed .adcStart c s (ans t .badParam))) ∧
    (c.p0 < 8 → t.rd (ADC_SQn_STAT_UNIT c.p0) = 0 → sqBusy c.p0 t → exec (.adcStart c) s
      = .next (completed .adcStart c s (ans t .busy))) ∧
    (c.p0 < 8 → t.rd (ADC_SQn_STAT_UNIT c.p0) = 0 → sqBusy c.p0 t = false → exec (.adcStart c) s
      = .next (completed .adcStart c s (ok (syncAdc ((sqUnit c.p0).start
          ((t.wr (ADC_SQn_CTRL_EN c.p0) 1).wr (ADC_SQn_STAT_UNIT c.p0) 1))))))) ∧
  (admits .adcStop c s → t = admitted .adcStop c s → c.p0 < 8 →
    (t.rd (ADC_SQn_STAT_UNIT c.p0) = 0 → exec (.adcStop c) s
      = .next (completed .adcStop c s (ok (syncAdc (t.wr (ADC_SQn_CTRL_EN c.p0) 0))))) ∧
    (∀ u, t.rd (ADC_SQn_STAT_UNIT c.p0) = 2 → u = (t.wr (ADC_SQn_CTRL_EN c.p0) 0).wr (ADC_SQn_STAT_UNIT c.p0) 3 →
      u.bit (ADC_SQn_STAT_RUNNING c.p0) → exec (.adcStop c) s = .next (completed .adcStop c s (ok (syncAdc u))))) ∧
  (isPowered s → ∀ n : Fin 8,
    (exec (.adcSqEn n true) s = .next (answered (sqEnable n.val s))) ∧
    (exec (.adcSqEn n false) s = .next (answered (sqDisable n.val s))) ∧
    (∀ v : BitVec 24, bobFill s n.val < rptrFill n.val v.toNat s →
      exec (.adcRptrWrite n v) s = .next (answered (s, .badParam))) ∧
    (∀ v : BitVec 24, rptrFill n.val v.toNat s ≤ bobFill s n.val →
      exec (.adcRptrWrite n v) s = .next (answered (syncFill n.val (s.wr (ADC_SQn_RPTR_PTR n.val) v.toNat), .ok))))) ∧
  (∀ (n : Fin 8) (s : State), isPowered s →
  (s.rd (ADC_SQn_CFG_TRIG n.val) ≠ 2 → exec (.adcTimerTrigger n) s = .next s) ∧
  (s.rd (ADC_SQn_CFG_TRIG n.val) = 2 →
    (s.bit (ADC_SQn_STAT_RUNNING n.val) → exec (.adcTimerTrigger n) s = .next (s.bump (ADC_SQn_COUNT_MISSED n.val))) ∧
    (s.bit (ADC_SQn_STAT_RUNNING n.val) = false → s.rd (ADC_SQn_STAT_UNIT n.val) ≠ 2 →
      exec (.adcTimerTrigger n) s = .next s) ∧
    (s.bit (ADC_SQn_STAT_RUNNING n.val) = false → s.rd (ADC_SQn_STAT_UNIT n.val) = 2 → exec (.adcTimerTrigger n) s
      = .next (passStart n.val (s.wr (ADC_SQn_STAT_TCOUNT n.val) ((s.rd (ADC_SQn_STAT_TCOUNT n.val) + 1) % 128))))) ∧
  (∀ convs, s.bit (ADC_SQn_STAT_RUNNING n.val) = false ∨ convOwned s (convBound s n.val) n.val = false →
    exec (.adcEntryComplete n convs) s = .next s) ∧
  (∀ (cv : Conv) i k m t w, s.bit (ADC_SQn_STAT_RUNNING n.val) → i = (sqOf s n.val).entry → m = convBound s n.val →
    convOwned s m n.val → s.rd (ADC_SQn_Ei_AVG_LOG2 n.val i) = 0 → s.rd (ADC_SQn_Ei_SHIFT n.val i) = 0 →
    k = s.rd (ADC_SQn_Ei_INPUT n.val i) → k < 17 →
    cv.ovr = none → s.bit (ADC_SQn_CFG_INTERLEAVE n.val) = false →
    t = setLast k (convCode m cv s) false s →
    w = 2 ^ 31 + n.val * 2 ^ 27 + i * 2 ^ 23 + passCount t n.val * 2 ^ 16 + convCode m cv s →
    ∀ u d, u = bobResult n.val w t → d = (sqOf u n.val).made + 1 →
    (i < s.rd (ADC_SQn_CFG_NE_M1 n.val) →
      exec (.adcEntryComplete n [cv]) s = .next (nextOwner m (setSq n.val { sqOf u n.val with entry := i + 1, made := d } u))) ∧
    (s.rd (ADC_SQn_CFG_NE_M1 n.val) ≤ i → exec (.adcEntryComplete n [cv]) s = .next (nextOwner m (passEnd n.val u)))) ∧
  ((sqOf s n.val).blocks = [] → exec (.bobbinBlockAccept n) s = .next s) ∧
  (∀ b bs, (sqOf s n.val).blocks = b :: bs → exec (.bobbinBlockAccept n) s
    = .next (bobBlock n.val b (setSq n.val { sqOf s n.val with blocks := bs } s))) ∧
  (s.rd (ADC_SQn_STAT_UNIT n.val) ≠ 1 → exec (.adcSeqOn n) s = .next s) ∧
  (∀ t, s.rd (ADC_SQn_STAT_UNIT n.val) = 1 → t = syncAdc (s.wr (ADC_SQn_STAT_UNIT n.val) 2) →
    (t.rd (ADC_SQn_CFG_TRIG n.val) ≠ 0 → exec (.adcSeqOn n) s = .next t) ∧
    (t.rd (ADC_SQn_CFG_TRIG n.val) = 0 → exec (.adcSeqOn n) s = .next (trigger n.val t))) ∧
  (∀ t, s.rd (ADC_SQn_STAT_UNIT n.val) = 3 → s.bit (ADC_SQn_STAT_RUNNING n.val) = false → (sqOf s n.val).blocks = [] →
    (sqOf s n.val).cur = [] → t = s.wr (ADC_SQn_STAT_UNIT n.val) 0 → t.bit (ADC_SQn_STAT_EN_PENDING n.val) = false →
    exec (.adcSeqOff n) s = .next (syncAdc t)) ∧
  (s.rd (ADC_SQn_STAT_UNIT n.val) ≠ 3 → exec (.adcSeqOff n) s = .next s))

/-- A result word in an on-chip Bobbin (R413, R415): below the Bobbin's size it is stored and WPTR advances; in a full Bobbin that keeps the
oldest words it is lost and counted. -/
def Obligations.BobbinWords : Prop := ∀ (n w : Nat) (s : State), n < 8 →
  (bobFill s n + 1 ≤ bobSize s n → ∀ p t, p = s.rd (ADC_SQn_WPTR_PTR n) →
    t = storeSet 0#32 s.adc.pool (s.rd (ADC_SQn_BOB_BASE_BASE n) + p % bobSize s n) (BitVec.ofNat 32 w) →
    bobWord n w s = syncFill n (({ s with adc := { s.adc with pool := t } } : State).wr (ADC_SQn_WPTR_PTR n) ((p + 1) % 2 ^ 24))) ∧
  (bobSize s n < bobFill s n + 1 → s.bit (ADC_SQn_BOB_CFG_MODE n) = false →
    bobWord n w s = s.bump (ADC_SQn_COUNT_LOST n)) ∧
  (bobWord n w s).pxa = s.pxa ∧ (bobWord n w s).smem = s.smem

/-- Training and the port's life (R228 to R231, R250). A lane signal takes DETECT to ALIGN; 8 consecutive sets on both lanes take ALIGN on
with the polarities, sets that resolve the lane numbers take POLL on with the lane order once 16 are sent, and TS2 sets take CONFIG to L0,
where the engine advertises its buffer; sets of another PORT symbol change nothing. TXEQ of the sets is the lane's preset (R499). Training
that times out returns to DETECT; a retrain that does takes the link down with cause 2. More than 8 code violations retrain a port in L0.
EN starts an OFF port and stops a running one; the stop's end takes it to OFF. Link control packets on a port that receives them (R237 to
R246). ACK drops the packets it names from the replay buffer, NAK drops those before it and resends, CREDIT raises the limit; L1_REQ and
L2_REQ enter the state when the engine has sent its own request, are refused when the state is not enabled, a packet is held or the port
stops (log entry 118), and else granted; an ACK of a request sent enters the state, a NAK drops the request. -/
def Obligations.LinkTraining : Prop :=
  (∀ (p : Port) (n : Nat) (s : State), isPowered s → n = p.num →
  (linkOf s n = 1 → exec (.laneSignalDetect p) s = .next (s.wr (HLx_STAT_LINK n) 2)) ∧
  (linkOf s n ≠ 1 → exec (.laneSignalDetect p) s = .next s) ∧
  (∀ t0 t1 run sent skew,
    (t0.port ≠ 0x48#8 ∨ t1.port ≠ 0x48#8 ∨ linkOf s n < 2 ∨ 4 < linkOf s n →
      exec (.trainingSetReceive p t0 t1 run sent skew) s = .next s) ∧
    (∀ u, t0.port = 0x48#8 → t1.port = 0x48#8 → u = setPortLink n (takePreset t1 (takePreset t0 (portLink s n))) s →
      (linkOf s n = 2 → 8 ≤ run → exec (.trainingSetReceive p t0 t1 run sent skew) s
        = .next (((u.wr (HLx_STAT_LINK n) 3).wr (HLx_STAT_POL_INV0 n) (boolNat (decide (t0.rest = 0xB5#8)))).wr
            (HLx_STAT_POL_INV1 n) (boolNat (decide (t1.rest = 0xB5#8))))) ∧
      (linkOf s n = 2 → run < 8 → exec (.trainingSetReceive p t0 t1 run sent skew) s = .next u) ∧
      (linkOf s n = 3 → lanesResolved t0 t1 skew → 16 ≤ sent → exec (.trainingSetReceive p t0 t1 run sent skew) s
        = .next ((u.wr (HLx_STAT_LINK n) 4).wr (HLx_STAT_LANE_REV n) (boolNat (decide (t0.lane = 1#8))))) ∧
      (linkOf s n = 3 → lanesResolved t0 t1 skew = false ∨ sent < 16 →
        exec (.trainingSetReceive p t0 t1 run sent skew) s = .next u) ∧
      (linkOf s n = 4 → t0.ts2 → t1.ts2 → 8 ≤ run → 16 ≤ sent →
        exec (.trainingSetReceive p t0 t1 run sent skew) s = .next (enterL0 n u)))) ∧
  (1 ≤ linkOf s n → linkOf s n ≤ 4 → (portLink s n).retrain = false →
    exec (.trainingTimeout p) s = .next ((s.wr (HLx_STAT_LINK n) 1).wr (HLx_STAT_LAST_DOWN n) 1)) ∧
  (∀ bad mis k, k = bad + mis →
    (k ≤ 8 → exec (.codeViolationLimit p bad mis) s = .next (s.bumpBy (HLx_COUNT2_SYM_ERR n) k)) ∧
    (8 < k → exec (.codeViolationLimit p bad mis) s = .next (retrain n (s.bumpBy (HLx_COUNT2_SYM_ERR n) k)))) ∧
  ((portLink s n).retrain → exec (.retrainTimeout p) s = .next (linkDown n 2 s)) ∧
  ((portLink s n).retrain = false → exec (.retrainTimeout p) s = .next s) ∧
  (linkOf s n = 8 → exec (.portStopComplete p) s = .next (portOff n s)) ∧
  (linkOf s n ≠ 8 → exec (.portStopComplete p) s = .next s) ∧
  (linkOf s n ≠ 9 → s.rd (HLx_STAT_UNIT n) = 0 → exec (.portEnable p) s
    = .next (answered (((s.wr (HLx_CTRL_EN n) 1).wr (HLx_STAT_LINK n) 1).wr (HLx_STAT_UNIT n) 1, .ok))) ∧
  (linkOf s n = 9 → exec (.portEnable p) s = .next (answered (s, .busy))) ∧
  (∀ t, s.rd (HLx_STAT_UNIT n) = 1 ∨ s.rd (HLx_STAT_UNIT n) = 2 →
    t = (((s.wr (HLx_CTRL_EN n) 0).wr (HLx_STAT_LINK n) 8).wr (HLx_STAT_UNIT n) 3).wr (HLx_STAT_LAST_DOWN n) 4 →
    exec (.portDisable p) s = .next (answered
      (setPortLink n { endHandshake (portLink t n) with retrain := false, fast := false, wake := 0 } t, .ok))) ∧
  (exec (.portRetrain p) s = .next (answered (retrain n s, .ok))) ∧
  (s.canonical → ∀ (mask : BitVec 4) tie t, t = s.apart tie → exec (.attnClear p mask tie) s = .next (answered
    (t.setReg (HLx_ATTN_STAT n) (t.reg (HLx_ATTN_STAT n) &&& ~~~(BitVec.ofNat 32 (t.w1cMask (HLx_ATTN_STAT n) mask.toNat))), .ok)))) ∧
  (∀ (p : Port) (n : Nat) (s : State) (l : PortLink), isPowered s → n = p.num →
  linkOf s n = 5 ∨ linkOf s n = 8 → l = portLink s n →
  (∀ v : BitVec 16, exec (.ack p v) s = .next (ackTo n v.toNat s)) ∧
  (∀ v : BitVec 16, exec (.nak p v) s = .next (startResend n (ackTo n (v.toNat + 65535) s))) ∧
  (∀ v : BitVec 16, l.limit = none → exec (.credit p v) s = .next (putPort n { l with limit := some v.toNat } s)) ∧
  (∀ (v : BitVec 16) o, l.limit = some o → later 16 v.toNat o → exec (.credit p v) s
    = .next (putPort n { l with limit := some v.toNat } s)) ∧
  (∀ v : BitVec 16, l.limit = some v.toNat → exec (.credit p v) s = .next s) ∧
  (l.l1Req → ctlQueued l 4 = false →
    exec (.l1Req p) s = .next (enterLow n 6 s) ∧ exec (.l1Ack p) s = .next (enterLow n 6 s)) ∧
  (l.l1Req = false ∨ ctlQueued l 4 → exec (.l1Ack p) s = .next s ∧
    (s.bit (HLx_PWR_L1_EN n) = false ∨ holdsPacket n s ∨ linkOf s n ≠ 5 → exec (.l1Req p) s = .next (sendCtl n 6 0 s)) ∧
    (s.bit (HLx_PWR_L1_EN n) → holdsPacket n s = false → linkOf s n = 5 → exec (.l1Req p) s
      = .next (sendCtl n 5 0 (setPortLink n { unqueue 4 l with l1Req := false, entering := 1 } s)))) ∧
  (exec (.l1Nak p) s = .next (setPortLink n { unqueue 4 l with l1Req := false } s)) ∧
  (l.l2Req → ctlQueued l 7 = false →
    exec (.l2Req p) s = .next (enterAsked n s) ∧ exec (.l2Ack p) s = .next (enterAsked n s)) ∧
  (l.l2Req = false ∨ ctlQueued l 7 → exec (.l2Ack p) s = .next s ∧
    (s.bit (HLx_PWR_L2_EN n) = false ∨ holdsPacket n s ∨ linkOf s n ≠ 5 → exec (.l2Req p) s = .next (sendCtl n 9 0 s)) ∧
    (s.bit (HLx_PWR_L2_EN n) → holdsPacket n s = false → linkOf s n = 5 → exec (.l2Req p) s
      = .next (sendCtl n 8 0 (setPortLink n { unqueue 7 l with entering := 2 } s)))) ∧
  (exec (.l2Nak p) s = .next (setPortLink n { unqueue 7 l with l2Req := false } s)) ∧
  (exec (.skipSetDue p) s = .next (setLanes n skipSet skipSet (setPortLink n { l with skips := l.skips + 1 } s))) ∧
  (l.ackOwed = 0 → exec (.ackLatencyExpiry p) s = .next s) ∧
  (l.ackOwed ≠ 0 → s.rd (LME_INJ_PENDx n) = 0 → exec (.ackLatencyExpiry p) s
    = .next (sendCtl n 1 (s.rd (HLx_SEQ_RX_EXP n) + 65535) (setPortLink n { l with ackOwed := 0 } s))))

/-- The timers of a port in L0 (R231, R239 to R241): a replay timeout with nothing unacknowledged has no effect, resends the replay buffer,
or, after REPLAY_MAX rounds, reports and retrains; freed credits are advertised once; a packet that has waited for credit takes the link
down with cause 3. A packet that arrives (R225, R232 to R238): its bytes come alternately on the two lanes, in the host's order where the
port's lanes are reversed (R230). While the port does not receive nothing happens; a packet other than link control withdraws a request
for L1 (R244); one that ends in EDB counts as nullified; one whose CRC fails is counted, reported and answered with a NAK; a good one in
sequence that uses an LSEQ, keeps the rules of form and fits the credits granted is accepted. A packet that leaves (R236, R239, R240,
R242, R244): control packets go first, then resends, then the port's oldest reply if the replay buffer and the credits allow it, with the
next LSEQ, else idle fill (R228); in L1 a port with a packet first returns to L0 with 8 SKIP sets. L1 is left when the host leaves it
(R245), L2 toward ALIGN on the host's wake or after the engine's own (R247), and L1 is asked for when an idle port may enter it (R243). -/
def Obligations.LinkTraffic : Prop :=
  (∀ (p : Port) (n : Nat) (s : State) (l : PortLink), isPowered s → n = p.num →
  linkOf s n = 5 → l = portLink s n →
  (l.replay = [] → exec (.replayTimeout p) s = .next s) ∧
  (l.replay ≠ [] → l.rounds < s.rd (HLx_CFG_REPLAY_MAX n) → exec (.replayTimeout p) s
    = .next (setPortLink n { l with resend := l.replay, rounds := l.rounds + 1 } (s.bump (HLx_COUNT0_REPLAYS n)))) ∧
  (l.replay ≠ [] → s.rd (HLx_CFG_REPLAY_MAX n) ≤ l.rounds → exec (.replayTimeout p) s = .next (retrain n (raise 0x02 (n % 2) s))) ∧
  (l.adv < l.freed + 3072 → exec (.creditAdvertise p) s
    = .next (sendCtl n 3 (l.freed + 3072) (setPortLink n { l with adv := l.freed + 3072 } s))) ∧
  (l.freed + 3072 ≤ l.adv → exec (.creditAdvertise p) s = .next s) ∧
  (queued s n = [] → exec (.creditStallTimeout p) s = .next s) ∧
  (∀ r rs, queued s n = r :: rs → creditOk l (creditsOf ((replyWords s r).length + 2)) = false →
    exec (.creditStallTimeout p) s = .next (linkDown n 3 s)) ∧
  (∀ r rs, queued s n = r :: rs → creditOk l (creditsOf ((replyWords s r).length + 2)) →
    exec (.creditStallTimeout p) s = .next s)) ∧
  (∀ (p : Port) (n : Nat) (l0 l1 : List Byte) (errs : List EccErr) (s t : State) (all w : List Nat),
  isPowered s → n = p.num → all = wordsHeard (s.bit (HLx_STAT_LANE_REV n)) l0 l1 → w = all.dropLast →
  t = (if isCtl w then s else withdrawL1 n s) →
  (∀ edb, linkOf s n ≠ 5 → linkOf s n ≠ 8 → exec (.linkPacketReceive p l0 l1 edb errs) s = .next s) ∧
  (linkOf s n = 5 ∨ linkOf s n = 8 →
    exec (.linkPacketReceive p l0 l1 true errs) s = .next (t.bump (HLx_COUNT2_NULLIFIED n))) ∧
  (∀ u, linkOf s n = 5 → errs = [] → 4 ≤ all.length → crc32c (bytesOfWords w) ≠ all.getLastD 0 →
    isCtl w = false → u = raise 0x01 (n % 2) (t.bump (HLx_COUNT0_CRC_ERR n)) →
    linkOf u n = 5 → (portLink u n).dropping = false →
    exec (.linkPacketReceive p l0 l1 false errs) s = .next (sendNak n u)) ∧
  (linkOf t n = 5 → linkOf s n = 5 → errs = [] → 4 ≤ all.length → crc32c (bytesOfWords w) = all.getLastD 0 →
    t.rd (LME_INJ_PENDx n) = 0 → isCtl w = false → (hear w).pfx % 65536 = t.rd (HLx_SEQ_RX_EXP n) →
    (portLink t n).rxUsed + creditsOf (w.length + 1) ≤ (portLink t n).adv → badForm (hear w) = false →
    exec (.linkPacketReceive p l0 l1 false errs) s = .next (acceptPacket n (hear w) (creditsOf (w.length + 1)) t)) ∧
  (linkOf s n = 5 → errs = [] → 4 ≤ all.length → crc32c (bytesOfWords w) = all.getLastD 0 →
    s.rd (LME_INJ_PENDx n) = 0 → isCtl w → ctlOk w = false →
    exec (.linkPacketReceive p l0 l1 false errs) s = .next (malformed n 5 s))) ∧
  (∀ (p : Port) (n : Nat) (s : State) (l : PortLink), isPowered s → n = p.num → l = portLink s n →
  (∀ errs, linkOf s n = 6 → queued s n ≠ [] ∨ l.ctl ≠ [] → exec (.packetTransmit p errs) s = .next (leaveL1 n s)) ∧
  (∀ errs, linkOf s n = 6 → queued s n = [] → l.ctl = [] → exec (.packetTransmit p errs) s = .next s) ∧
  (∀ x r, linkOf s n = 5 → l.ctl = x :: r → l.entering = 0 → holdsPacket n s = false →
    exec (.packetTransmit p []) s = .next (onWire n (ctlWords x) true false (setPortLink n { l with ctl := r } s))) ∧
  (∀ x r, linkOf s n = 5 → l.ctl = [] → l.resend = x :: r → exec (.packetTransmit p []) s
    = .next (onWire n x.words false false (setPortLink n { l with resend := r } s))) ∧
  (∀ r rs q w t m c, linkOf s n = 5 → l.ctl = [] → l.resend = [] → l.entering = 0 → queued s n = r :: rs →
    q = s.rd (HLx_SEQ_TX_NEXT n) → w = q :: replyWords s r → maySend l w.length →
    t = onWire n w true false (syncStat { s with cmd := { s.cmd with replies := popReply n s.cmd.replies } }) →
    m = portLink t n → c = (m.consumed + creditsOf (w.length + 1)) % 65536 → exec (.packetTransmit p []) s
    = .next (putPort n { m with replay := m.replay ++ [⟨q, w⟩], consumed := c } (t.wr (HLx_SEQ_TX_NEXT n) (q + 1)))) ∧
  (linkOf s n = 5 → l.ctl = [] → l.resend = [] → l.entering = 0 → queued s n = [] →
    exec (.packetTransmit p []) s = .next (sendIdle n s)) ∧
  (linkOf s n = 6 → exec (.l1Exit p) s = .next (leaveL1 n s)) ∧
  (linkOf s n ≠ 6 → exec (.l1Exit p) s = .next s) ∧
  (linkOf s n = 7 → exec (.l2Wake p) s = .next (leaveL2 n s)) ∧ (linkOf s n ≠ 7 → exec (.l2Wake p) s = .next s) ∧
  (queued s n = [] → exec (.engineL2Exit p) s = .next s) ∧
  (queued s n ≠ [] → linkOf s n = 7 → l.wake = 0 → exec (.engineL2Exit p) s
    = .next (setPortLink n { l with wake := 1 } (setCause (HLx_ATTN_STAT_WAKE n) s))) ∧
  (∀ t, linkOf s n = 7 → l.wake = 1 → t = leaveL2 n s → exec (.wakePatternEnd p) s
    = .next (setPortLink n { portLink t n with wake := 2 } t)) ∧
  (linkOf s n ≠ 7 → exec (.wakePatternEnd p) s = .next s) ∧
  (linkOf s n = 5 → s.bit (HLx_PWR_L1_EN n) → s.rd (HLx_PWR_L1_IDLE n) ≠ 0 → holdsPacket n s = false → l.l1Req = false →
    l.l2Req = false → exec (.l1IdleExpiry p) s = .next (sendCtl n 4 0 (setPortLink n { l with l1Req := true } s))) ∧
  (s.bit (HLx_PWR_L1_EN n) = false → exec (.l1IdleExpiry p) s = .next s))

/-- Lane tests (R252 to R255). LINK_TEST takes the tested lanes' OFF ports into TEST, and is answered when the test ends; with a test running
it is BUSY, unless it stops that one. A checker is in sync after 64 error-free bits of its pattern, counts bit errors there, and loses
sync with more than 256; LINK_INJECT leaves its injections pending; an eye below EYE_MIN is reported. -/
def Obligations.LaneTests : Prop := ∀ (c : Cmd) (s t : State),
  (admits .linkTest c s → t = admitted .linkTest c s → c.p0 % 256 = 0 → c.p0 / 4096 ≠ 0 → c.w 1 ≠ 0 → c.w 1 ≤ 60000000 →
    (c.p0 / 256 % 4 = 3 → t.bit LME_TEST_RUNNING = false → exec (.linkTest c) s = .next (completed .linkTest c s (ok t))) ∧
    (c.p0 / 256 % 4 = 3 → t.bit LME_TEST_RUNNING → exec (.linkTest c) s = .next (holdCmd (issued .linkTest c s) t)) ∧
    (c.p0 / 256 % 4 ≠ 3 → t.bit LME_TEST_RUNNING → exec (.linkTest c) s = .next (completed .linkTest c s (ans t .busy))) ∧
    (∀ u v w, c.p0 / 256 % 4 ≠ 3 → t.bit LME_TEST_RUNNING = false →
      (lanePorts (c.p0 / 4096)).any (fun p => decide (t.rd (HLx_STAT_UNIT p) ≠ 0)) = false →
      u = ((((t.wr LME_TEST_RUNNING 1).wr LME_TEST_LANES (c.p0 / 4096)).wr LME_TEST_SYNC 0).wr LME_TEST_MODE (c.p0 / 256 % 4)).wr
        LME_TEST_PATTERN (c.p0 / 1024 % 4) →
      v = (List.range 4).foldl (fun x i => if c.p0 / 4096 / 2 ^ i % 2 = 1 then x.setReg (LME_ERRn i) 0#32 else x) u →
      w = (lanePorts (c.p0 / 4096)).foldl (fun x p => x.wr (HLx_STAT_LINK p) 9) v →
      exec (.linkTest c) s = .next (holdCmd (issued .linkTest c s)
        { w with link := { w.link with test := some (issued .linkTest c s), testAt := w.now } }))) ∧
  (∀ p kind lane, admits .linkInject c s → t = admitted .linkInject c s → c.p0 / 256 % 8 = 0 → c.p0 % 256 ≠ 0 →
    p = c.p0 / 2 ^ 15 → kind = c.p0 / 2 ^ 12 % 8 → lane = c.p0 / 2 ^ 11 % 2 → kind < 4 →
    (t.rd (LME_INJ_PENDx p) ≠ 0 → exec (.linkInject c) s = .next (completed .linkInject c s (ans t .busy))) ∧
    (∀ u, t.rd (LME_INJ_PENDx p) = 0 → linkOf t p = 5 ∨ linkOf t p = 6 →
      u = (t.wr (LME_INJ_PENDx p) (c.p0 % 256)).wr (LME_INJ_KINDx p) kind →
      exec (.linkInject c) s = .next (completed .linkInject c s
        (ok { u with link := if p = 0 then { u.link with injA := lane } else { u.link with injB := lane } })))) ∧
  (isPowered s → ∀ lane : Fin 4,
    (∀ l, checkerOn s lane.val → prbsLocked (s.rd LME_TEST_PATTERN) l →
      exec (.checkerInSync lane l) s = .next (s.setBit LME_TEST_SYNC lane.val)) ∧
    (∀ l, checkerOn s lane.val = false ∨ prbsLocked (s.rd LME_TEST_PATTERN) l = false → exec (.checkerInSync lane l) s = .next s) ∧
    (∀ k, checkerOn s lane.val → s.bitOf LME_TEST_SYNC lane.val → 256 < k → exec (.checkerSyncLoss lane k) s
      = .next (((s.bumpBy (LME_ERRn_ERRORS lane.val) k).bump (syncLossFld lane.val)).clrBit LME_TEST_SYNC lane.val)) ∧
    (∀ k, s.bitOf LME_TEST_SYNC lane.val = false → exec (.checkerSyncLoss lane k) s = .next s) ∧
    (∀ a b d e, s.link.test = none → exec (.linkTestEnd a b d e) s = .next s) ∧
    (∀ a b d e, s.link.test.isSome → exec (.linkTestEnd a b d e) s
      = .next (endTest (laneErrs 3 e (laneErrs 2 d (laneErrs 1 b (laneErrs 0 a s)))))) ∧
    (∀ (wd : BitVec 8) u, s.bit LME_CTRL_EYE_EN → linkOf s (lane.val / 2) = 5 → u = s.wr (eyeFld lane.val) wd.toNat →
      (wd.toNat < u.rd LME_EYE_CFG_EYE_MIN → exec (.eyeMeasure lane wd) s = .next (raise 0x05 (lane.val * 256 + wd.toNat) u)) ∧
      (u.rd LME_EYE_CFG_EYE_MIN ≤ wd.toNat → exec (.eyeMeasure lane wd) s = .next u)) ∧
    (∀ wd, s.bit LME_CTRL_EYE_EN = false → exec (.eyeMeasure lane wd) s = .next s))

/-- The hosts' beats and their loss (R22, R248, R290 to R294). A TACK beats the link path and is answered OK with the guarantee and the
ladder; an HB pin that changes level beats the pin path; a beat makes an ABSENT host PRESENT. The timeout of a PRESENT host makes it LOST
with a new epoch, raises HOST_LOST, ends its waiting acquires, frees its Thimbles and abandons its commands; with no host left the
duplicate stream dies. Recovery starts while the other port is up and the conditions of R21 hold, else it is refused. On a host that is
not PRESENT the timeout has no effect. -/
def Obligations.HostBeats : Prop := ∀ (p : Port) (n : Nat) (s : State), isPowered s → n = p.num →
  (∀ (c : Cmd) (u0 t u : State), c.port = p → u0 = drained s → waitsTurn p c.ch c.seq.toNat (carries .tack c) u0 = false →
    t = heard c.ch n c.ptype.toNat (takePacket n c.ch (carries .tack c) u0) → passesOpen c t →
    ptypeOk .tack c → c.d = false → c.f = false → lenOk .tack c → u = linkBeat n t →
    exec (.tack c) s = .next (queueReply (mkReply p c.ch (keyOf (chanW1 u c.ch)) c
      ⟨.ok, [guarantee u, (u.reg DEV_LADDER).toNat], none⟩ u) u)) ∧
  (∀ t, t = (s.wr (HLx_HB_LEVEL n) (1 - s.rd (HLx_HB_LEVEL n))).wr (HLx_HB_BEATS n)
      ((s.wr (HLx_HB_LEVEL n) (1 - s.rd (HLx_HB_LEVEL n))).rd (HLx_HB_BEATS n) + 1) →
    (p = .a → exec (.heartbeatBeat p) s = .next (hostBeat n { t with
      ccx := { t.ccx with pinBeatA := some t.now }, smc := { t.smc with hbSeenA := some t.now } })) ∧
    (p = .b → exec (.heartbeatBeat p) s = .next (hostBeat n { t with
      ccx := { t.ccx with pinBeatB := some t.now }, smc := { t.smc with hbSeenB := some t.now } }))) ∧
  (s.rd (CCX_HOSTx_STATE n) ≠ 1 → exec (.hostHbTimeout p) s = .next s) ∧
  (∀ t u v, s.rd (CCX_HOSTx_STATE n) = 1 →
    t = (s.wr (CCX_HOSTx_STATE n) 2).wr (CCX_HOSTx_EPOCH n) (s.rd (CCX_HOSTx_EPOCH n) + 1) →
    u = abandonWhere (fun x => !dupOf x.o.w1 && decide (x.o.cmd.port.num = n)) (dropThimbles n (raise 0x70 n t)) →
    v = journalEvent (if hostPresent u p.other.num then u else noHost u) →
    (recoverable s → portUp s p.other.num → exec (.hostHbTimeout p) s = .next (recoveryBegin 0x70 (awaited v) v)) ∧
    ((recoverable s && portUp s p.other.num) = false → exec (.hostHbTimeout p) s = .next (recoveryRefuse 0x70 v)))

/-- STATE_READ answers nine words with the host's word, the last reply and the next SEQ of the channel's stream; for a stream on which nothing
has been admitted the next SEQ is a free value. RESYNC of the right epochs advances the port's epoch, or makes the stream live, and a
wrong epoch is STALE (R319, R320). The keys of CMD load from the staging words and clear until the safety parameter block is sealed (R272,
R273). -/
def Obligations.StateCommands : Prop := ∀ (c : Cmd) (s t : State),
  (∀ k r nx, admits .stateRead c s → t = admitted .stateRead c s → c.p0 < 256 → k = streamKey (chanW1 t c.p0) c.p0 c.port.num →
    storeGet none t.cmd.lastRep k = some r → storeGet none t.cmd.lastSeq k = some nx →
    exec (.stateRead c) s = .next (completed .stateRead c s (okW t [hostWord t c.port.num, (t.reg CCX_DUP).toNat,
      r.status * 65536 + (nx + 1) % 65536, (t.reg CCX_JHEAD).toNat, (t.reg CCX_JBASE).toNat, (t.reg DEV_FN).toNat,
      (t.reg SMEM_RETIRE).toNat, guarantee t, (t.reg DEV_LADDER).toNat]))) ∧
  (∀ k, admits .stateRead c s → t = admitted .stateRead c s → c.p0 < 256 → k = streamKey (chanW1 t c.p0) c.p0 c.port.num →
    storeGet none t.cmd.lastRep k = none → storeGet none t.cmd.lastSeq k = none → ∀ f, f = t.fresh →
    exec (.stateRead c) s = .next (completed .stateRead c s (okW f.2 [hostWord t c.port.num, (t.reg CCX_DUP).toNat,
      255 * 65536 + (Config.freeNextSeq f.1).toNat, (t.reg CCX_JHEAD).toNat, (t.reg CCX_JBASE).toNat, (t.reg DEV_FN).toNat,
      (t.reg SMEM_RETIRE).toNat, guarantee t, (t.reg DEV_LADDER).toNat]))) ∧
  (∀ n, admits .resync c s → t = admitted .resync c s → n = c.port.num → dupOf (issued .resync c s).w1 = false →
    (∀ u, c.p0 = 1 → c.w 1 = t.rd (CCX_HOSTx_EPOCH n) → u = journal 2 n c.ch (cmdWords .resync c)
        ((t.wr (CCX_HOSTx_EPOCH n) (t.rd (CCX_HOSTx_EPOCH n) + 1)).wr (CCX_HOSTx_STATE n) 1) →
      exec (.resync c) s = .next (completed .resync c s (okW u [u.rd (CCX_HOSTx_EPOCH n), u.rd CCX_DUP_SEPOCH]))) ∧
    (c.p0 = 1 → c.w 1 ≠ t.rd (CCX_HOSTx_EPOCH n) → exec (.resync c) s = .next (completed .resync c s (ans t .stale))) ∧
    (∀ u, c.p0 = 2 → c.w 2 = t.rd CCX_DUP_SEPOCH → u = journal 2 n c.ch (cmdWords .resync c) (t.wr CCX_DUP_LIVE 1) →
      exec (.resync c) s = .next (completed .resync c s (okW u [u.rd (CCX_HOSTx_EPOCH n), u.rd CCX_DUP_SEPOCH]))) ∧
    (c.p0 = 0 → exec (.resync c) s = .next (completed .resync c s (ans t .badParam)))) ∧
  (isPowered s → ∀ mask : BitVec 8,
    (keysClosed s → exec (.keyLoad mask) s = .next (answered (s, .notPrivileged)) ∧
      exec (.keyClr mask) s = .next (answered (s, .notPrivileged))) ∧
    (keysClosed s = false → exec (.keyLoad mask) s = .next (answered (keyCtrl mask.toNat 0 s)) ∧
      (keyCtrl mask.toNat 0 s).2 = .ok ∧ exec (.keyClr mask) s = .next (answered (keyCtrl 0 mask.toNat s))))

/-- The control cores (R302 to R310). A beat restarts a core's timer; the loss of the active core hands its role to a core in STANDBY, or
restarts the pair; the loss of another core leaves it DEMOTED. Of two losses in one cycle only the active core's is acted on, and a
handover of that cycle is discarded. DEMOTED is also where a write with a stale epoch and a core reset lead. A core that restarts becomes
ACTIVE with a checkpoint when it is the first. A handover needs a ready pair. -/
def Obligations.ControlCores : Prop := ∀ (core : Fin 2) (tie : Bool) (s t : State), isPowered s →
  (coreState s core.val = 0 → exec (.coreBeat core) s = .next s) ∧
  (coreState s core.val ≠ 0 → t = s.takeAct [CCX_CFG] →
    (core = 0 → exec (.coreBeat core) s = .next { t with ccx := { t.ccx with beatA := t.now } }) ∧
    (core = 1 → exec (.coreBeat core) s = .next { t with ccx := { t.ccx with beatB := t.now } })) ∧
  (t = s.takeAct [CCX_CFG] →
    (coreState s core.val < 2 → exec (.coreHbTimeout core tie) s = .next t) ∧
    (∀ u, 2 ≤ coreState s core.val → u = raise 0x72 core.val t →
      (core.val = activeCore s → tie → s.ccx.tookAt = some s.now → exec (.coreHbTimeout core tie) s = .next u) ∧
      (core.val = activeCore s → (tie && decide (s.ccx.tookAt = some s.now)) = false → coreState s (1 - core.val) = 4 →
        exec (.coreHbTimeout core tie) s = .next (takeover core.val u)) ∧
      (core.val = activeCore s → tie → s.ccx.tookAt ≠ some s.now → s.ccx.lostAt = some s.now → coreState s (1 - core.val) = 2 →
        exec (.coreHbTimeout core tie) s = .next (takeover core.val (backInStandby core.val u))) ∧
      (core.val = activeCore s → (tie && decide (s.ccx.tookAt = some s.now)) = false → coreState s (1 - core.val) ≠ 4 →
        (tie && decide (s.ccx.lostAt = some s.now)) = false →
        exec (.coreHbTimeout core tie) s = .next (pairRestart u)) ∧
      (core.val ≠ activeCore s → tie → s.ccx.swapAt = some s.now → coreState s core.val = 4 →
        exec (.coreHbTimeout core tie) s = .next (activeLost tie core.val (unswap core.val u))) ∧
      (core.val ≠ activeCore s → (tie && decide (s.ccx.swapAt = some s.now)) = false →
        exec (.coreHbTimeout core tie) s = .next (standbyLost core.val u)))) ∧
  (∀ e : BitVec 15, e.toNat = s.rd CCX_STAT_CEPOCH → exec (.staleWriteReject core e) s = .next s) ∧
  (∀ e : BitVec 15, e.toNat ≠ s.rd CCX_STAT_CEPOCH → coreState s core.val ≠ 3 →
    t = raise 0x76 core.val (s.bump CCX_COUNT0_STALE_REJECT) →
    (core.val = activeCore s → exec (.staleWriteReject core e) s = .next (t.wr (coreFld core.val) 2)) ∧
    (core.val ≠ activeCore s →
      exec (.staleWriteReject core e) s = .next (drainWait (dropStandins (t.wr (coreFld core.val) 2))))) ∧
  (coreState s core.val ≠ 1 → exec (.coreRestartDone core) s = .next s) ∧
  (∀ u, coreState s core.val = 1 → s.bit PMU_STAT_BOOT_DONE → s.cmd.busyAll →
    u = ((bumpCepoch 2 s).wr CCX_STAT_ACTIVE core.val).wr (coreFld core.val) 5 →
    exec (.coreRestartDone core) s = .next (startCkpt { u with cmd := { u.cmd with busyAll := false } })) ∧
  (coreState s core.val = 1 → s.bit PMU_STAT_BOOT_DONE → s.cmd.busyAll = false →
    exec (.coreRestartDone core) s = .next (s.wr (coreFld core.val) 2)) ∧
  (s.ccx.recCause ≠ 0x70 → s.ccx.recCause ≠ 0x72 → exec .recoveryEnd s = .next s) ∧
  (s.ccx.recCause = 0x70 → s.ccx.recWait = [] → exec .recoveryEnd s = .next (recoveryEnd s)) ∧
  (s.canonical →
    (exec .ccxCkpt s = .next (answered (ccxCkpt s, .ok))) ∧
    (pairReady s = false → exec .ccxSwap s = .next (groupsAfter (answered (s, .busy)))) ∧
    (pairReady s → exec .ccxSwap s = .next (groupsAfter (answered (ccxSwap s)))) ∧
    (core.val = activeCore s → exec (.ccxRstCore core) s = .next (groupsAfter (answered (s, .busy)))) ∧
    (core.val ≠ activeCore s → coreState s core.val ≠ 3 → ∀ u, u = s.wr (coreFld core.val) 2 → exec (.ccxRstCore core) s
      = .next (groupsAfter (answered ({ u with ccx := { u.ccx with standins := [], applied := [] } }, .ok)))) ∧
    (exec .ccxAutoBaste s = .next (answered (s.wr CCX_CTRL_AUTO_BASTE 1, .ok))))

/-- Write groups (R303, R304): a group of the active core is applied whole, with its reply, in its turn: an earlier group that writes one of
its registers goes first. It is kept for its twin while the other core is in STANDBY; a group of the standby is a stand-in until the
active core's group of its index has ended, and two groups that differ, in a write or in the reply, are a divergence, which leaves the
standby DEMOTED. A group of a core that is neither is discarded, and one of another epoch is a stale write. Checkpoints and basting (R312
to R318). A commit makes the slot written the newest valid one, with the journal cut to the entries after its index. A baste starts on a
DEMOTED core from the newest committed slot, reaches STANDBY at the live head, and fails on an uncorrectable error or at BASTE_MAX. -/
def Obligations.GroupsAndCheckpoints : Prop :=
  (∀ (core : Fin 2) (e : BitVec 15) (j : Word) (ws : List RegWrite) (r : Option Reply) (s t : State)
  (g : Group), isPowered s → g = ⟨j.toNat, ws, r⟩ →
  (e.toNat ≠ s.rd CCX_STAT_CEPOCH →
    exec (.writeGroupApply core e j ws r) s = .next (execStaleWriteReject core e s)) ∧
  (e.toNat = s.rd CCX_STAT_CEPOCH →
    (core.val = activeCore s → twinIn g.jseq s.ccx.standins = none →
      t = (if coreState s (1 - activeCore s) = 4 then { s with ccx := { s.ccx with applied := s.ccx.applied ++ [g] } } else s) →
      (mustWait g s = false → exec (.writeGroupApply core e j ws r) s = .next (drainWait (applyGroup g t))) ∧
      (mustWait g s → exec (.writeGroupApply core e j ws r) s
        = .next (drainWait { t with ccx := { t.ccx with grpWait := t.ccx.grpWait ++ [g] } }))) ∧
    (∀ l a, core.val = activeCore s → twinIn g.jseq s.ccx.standins = some g →
      l = withoutJ g.jseq s.ccx.standins → a = withoutJ g.jseq s.ccx.applied →
      t = { s with ccx := { s.ccx with standins := l, applied := a } } → mustWait g t = false →
      exec (.writeGroupApply core e j ws r) s = .next (drainWait (applyGroup g t))) ∧
    (∀ h, core.val ≠ activeCore s → coreState s core.val = 4 → twinIn g.jseq s.ccx.applied = some h →
      exec (.writeGroupApply core e j ws r) s = .next (compareGroups h g s)) ∧
    (core.val ≠ activeCore s → coreState s core.val = 4 → twinIn g.jseq s.ccx.applied = none →
      exec (.writeGroupApply core e j ws r) s = .next { s with ccx := { s.ccx with standins := s.ccx.standins ++ [g] } }) ∧
    (core.val ≠ activeCore s → coreState s core.val ≠ 4 → exec (.writeGroupApply core e j ws r) s = .next s))) ∧
  (∀ (core : Fin 2) (s t : State), isPowered s →
  (∀ body, s.bit CCX_CKPT_WRITING = false → exec (.checkpointCommit body) s = .next s) ∧
  (∀ body l k x n f, s.bit CCX_CKPT_WRITING → n = s.rd CCX_CKPT_TARGET → l = entriesAfter s.ccx.writingJ s.ccx.journal →
    k = writtenSlot s.ccx.writingJ (s.rd CCX_STAT_CEPOCH) ((body.map BitVec.toNat).take 32760) →
    (n = 0 → x = { s.ccx with journal := l, basteHold := false, slot0 := k } ∧ f = CCX_CKPT_VALID0) →
    (n = 1 → x = { s.ccx with journal := l, basteHold := false, slot1 := k } ∧ f = CCX_CKPT_VALID1) →
    t = { s with ccx := x } → journalWords l < 32768 → s.ccx.ckClean →
    exec (.checkpointCommit body) s = .next ((((((((t.wr CCX_CKPT_WRITING 0).wr CCX_CKPT_NEWEST n).wr f 1).setReg CCX_JBASE
      (BitVec.ofNat 32 s.ccx.writingJ)).wr CCX_JFILL_WORDS (journalWords l)).wr DEV_GUARANTEE_CKPT_COMMITTED 1).wr
      DEV_GUARANTEE_JOURNAL_UNBROKEN 1))) ∧
  (∀ j e b, slotCommitted (writtenSlot j e b)) ∧
  (newestSlot s = none → exec (.basteStart core []) s = .next s) ∧
  (∀ m u, newestSlot s = some m → coreState s core.val = 2 → s.bit CCX_CTRL_AUTO_BASTE → activeRuns s → s.ccx.basteHold = false →
    t = ((s.wr (coreFld core.val) 3).wr CCX_BASTE_RESULT 1).wr CCX_BASTE_CORE core.val →
    u = t.wr CCX_BASTE_LEFT (min 0xFFFFFF (entriesAfter (if m = 0 then s.ccx.slot0.jck else s.ccx.slot1.jck) t.ccx.journal).length) →
    exec (.basteStart core []) s = .next { u with ccx := { u.ccx with basteSlot := m } }) ∧
  (coreState s core.val = 3 → s.rd CCX_BASTE_RESULT = 1 → exec (.basteJoin core []) s
    = .next (((s.wr (coreFld core.val) 4).wr CCX_BASTE_RESULT 2).wr CCX_BASTE_LEFT 0)) ∧
  (coreState s core.val ≠ 3 → exec (.basteJoin core []) s = .next s) ∧
  (exec .basteTimeout s = .next (basteFail 1 s)))

/-- CRC_RUN on a unit that is free: INIT loads the initial value of its algorithm, FEED feeds its bytes and answers RESULT, READ answers VALUE
and RESULT, and MEM starts a run over a range that one region holds. A bound or running unit is BUSY, an undefined OP is BAD_PARAM (R454,
R455, R457). The end of a MEM run feeds the bytes and answers RESULT; a run that met an uncorrectable error answers INTERNAL_ERROR and
leaves VALUE as it was. The registers of a check-value unit (R455 to R458): a write of CFG loads VALUE with the initial value of the new
algorithm; a write of VALUE above the algorithm's width is BAD_PARAM; a write of BIND names no channel twice in one direction, nor channel
255, and initialises VALUE unless CHAIN is set; a busy unit answers BUSY. Unit 3 is fixed. -/
def Obligations.CheckUnits : Prop :=
  (∀ (c : Cmd) (s t : State) (n : Nat),
  (admits .crcRun c s → t = admitted .crcRun c s → n < 3 →
    (t.bit (CRC_Un_BIND_EN n) = false → memRunning t n = false →
      (c.p0 = n → exec (.crcRun c) s = .next (completed .crcRun c s
        (ok (t.setReg (CRC_Un_VALUE n) (BitVec.ofNat 32 (algInit (unitAlg t n))))))) ∧
      (∀ u k, c.p0 = 4096 + n → k = c.w 1 → 1 ≤ k → k ≤ 2040 →
        u = t.setReg (CRC_Un_VALUE n) (BitVec.ofNat 32 (algFeed (unitAlg t n) (t.reg (CRC_Un_VALUE n)).toNat
          ((bytesOfWords ((c.words.drop 1).map BitVec.toNat)).take k))) →
        exec (.crcRun c) s = .next (completed .crcRun c s
          (okW u [(u.reg (CRC_Un_VALUE n)).toNat ^^^ algXor (unitAlg u n)]))) ∧
      (c.p0 = 8192 + n → 1 ≤ c.w 2 → c.w 2 ≤ 16777216 → memRangeOk (c.w 1) (c.w 2) t →
        ¬ (inSurface (c.w 1) ∧ smemOff t) →
        exec (.crcRun c) s = .next (holdCmd (issued .crcRun c s) { t with integ := { t.integ with
          memRuns := storeSet none t.integ.memRuns n (some (issued .crcRun c s)) } }))) ∧
    (t.bit (CRC_Un_BIND_EN n) ∨ memRunning t n → c.p0 = n ∨ c.p0 = 4096 + n ∨ c.p0 = 8192 + n →
      exec (.crcRun c) s = .next (completed .crcRun c s (ans t .busy))) ∧
    (c.p0 = 12288 + n → exec (.crcRun c) s = .next (completed .crcRun c s
      (okW t [(t.reg (CRC_Un_VALUE n)).toNat, (t.reg (CRC_Un_VALUE n)).toNat ^^^ algXor (unitAlg t n)]))) ∧
    (4 ≤ c.p0 / 4096 → exec (.crcRun c) s = .next (completed .crcRun c s (ans t .badParam)))) ∧
  (∀ (m : Fin 3) (errs : List EccErr), isPowered s → n = m.val →
    (storeGet none s.integ.memRuns n = none → exec (.crcMemRunEnd m errs) s = .next s) ∧
    (∀ o a k mine u, storeGet none s.integ.memRuns n = some o → a = o.cmd.w 1 → k = o.cmd.w 2 →
      (inSurface a → mine = readErrs errs a k s) →
      (inSurface a = false → mine = errs.filter (fun e => inSram e.addr && decide (a / 8 ≤ e.addr / 8 ∧ e.addr < a + k))
        ++ leftBad (fun w => decide (a / 8 ≤ w ∧ w * 8 < a + k)) errs s) →
      u = setMemRun n none (fbRegionUe mine (noteErrs mine s)) →
      (mine.any (fun e => e.ue) → exec (.crcMemRunEnd m errs) s = .next (finishSt o .internalError u)) ∧
      (∀ v, mine.any (fun e => e.ue) = false → v = unitFeed n (memBytes s a k) u →
        exec (.crcMemRunEnd m errs) s = .next (finish o ⟨.ok, [(v.reg (CRC_Un_VALUE n)).toNat ^^^ algXor (unitAlg v n)], none⟩
          { v with freeCtr := v.freeCtr + (k + 7) / 4 }))))) ∧
  (∀ (n : Fin 4) (v : Word) (s : State), isPowered s → ∀ k, k = n.val → k < 3 →
  (unitBusy s k → exec (.crcCfgWrite n v) s = .next (answered (s, .busy)) ∧
    exec (.crcValueWrite n v) s = .next (answered (s, .busy))) ∧
  (unitBusy s k = false →
    (∀ t, t = s.wr (CRC_Un_CFG_ALG k) (fv v (CRC_Un_CFG_ALG k)) → exec (.crcCfgWrite n v) s
      = .next (answered (t.setReg (CRC_Un_VALUE k) (BitVec.ofNat 32 (algInit (unitAlg t k))), .ok))) ∧
    (v.toNat < 2 ^ algWidth (unitAlg s k) →
      exec (.crcValueWrite n v) s = .next (answered (s.setReg (CRC_Un_VALUE k) v, .ok))) ∧
    (2 ^ algWidth (unitAlg s k) ≤ v.toNat → exec (.crcValueWrite n v) s = .next (answered (s, .badParam))) ∧
    (∀ ch, ch = v.toNat % 256 → ch ≠ 255 → chanBusy s ch = false →
      (s.bit (CRC_Un_BIND_EN k) → chanBusy s (s.rd (CRC_Un_BIND_CHAN k)) = false) →
      (2 ^ 31 ≤ v.toNat → ∀ m < 3, m ≠ k → s.bit (CRC_Un_BIND_EN m) → s.rd (CRC_Un_BIND_DIR m) = v.toNat / 2 ^ 30 % 2 →
        s.rd (CRC_Un_BIND_CHAN m) ≠ ch) →
      ∀ t, t = s.wrWord (CRC_Un_BIND k) v →
      (t.bit (CRC_Un_BIND_CHAIN k) ∨ v.toNat < 2 ^ 31 → exec (.crcBindWrite n v) s = .next (answered (t, .ok))) ∧
      (t.bit (CRC_Un_BIND_CHAIN k) = false → 2 ^ 31 ≤ v.toNat → exec (.crcBindWrite n v) s
        = .next (answered (t.setReg (CRC_Un_VALUE k) (BitVec.ofNat 32 (algInit (unitAlg t k))), .ok))))) ∧
  (v.toNat % 256 = 255 → exec (.crcBindWrite n v) s = .next (answered (s, .badParam))))

/-- The memory scans (R461 to R464). A scan enabled reads its next word, counts a pass at the end of its range, corrects and counts a
correctable error that no other writer has overtaken, and reports an error; a word that a partial write left uncorrectable reads so. A
region that differs from its reference raises SRAM_ECC_UE with the region's base, counts a mismatch and is recorded; a pattern's is
cleared, and with the last valid pattern the rung DEGRADED-F goes (R26). The surface scan is refused before the memory is trained, and
outside the usable memory. -/
def Obligations.MemoryScans : Prop := ∀ (s t : State) (err : Option Bool) (raced : Bool), isPowered s →
  (s.bit CRC_SCAN_CTRL_SRAM_EN = false → exec (.sramScanRead err raced) s = .next s) ∧
  (∀ i, s.bit CRC_SCAN_CTRL_SRAM_EN → i = s.integ.sramPos →
    (i + 1 < 1572864 → t = { s with integ := { s.integ with sramPos := i + 1 } }) →
    (1572864 ≤ i + 1 → t = { s with integ := { s.integ with sramPos := 0 } }.bump CRC_SCAN_STAT_SRAM_PASSES) →
    (storeGet false s.smem.sramBad (0x200000 + i) = true →
      exec (.sramScanRead err raced) s = .next (sramErr ⟨0x1000000 + 8 * i, true⟩ t)) ∧
    (storeGet false s.smem.sramBad (0x200000 + i) = false →
      exec (.sramScanRead none raced) s = .next t ∧
      exec (.sramScanRead (some true) raced) s = .next (sramErr ⟨0x1000000 + 8 * i, true⟩ t) ∧
      exec (.sramScanRead (some false) false) s
        = .next ((sramErr ⟨0x1000000 + 8 * i, false⟩ t).bump CRC_SCAN_COUNT_SCRUBBED) ∧
      exec (.sramScanRead (some false) true) s = .next (sramErr ⟨0x1000000 + 8 * i, false⟩ t))) ∧
  (s.bit CRC_SCAN_CTRL_SURF_EN = false ∨ smemOff s → exec (.surfScanRead err raced) s = .next s) ∧
  (∀ i n a, s.bit CRC_SCAN_CTRL_SURF_EN → smemOff s = false → n = s.rd CRC_SCAN_LEN_VALUE * 8 → i = s.integ.surfPos → i < n →
    a = s.rd CRC_SCAN_START_VALUE * 64 + 8 * i →
    (i + 1 < n → t = { s with integ := { s.integ with surfPos := i + 1 } }) →
    (i + 1 = n → t = { s with integ := { s.integ with surfPos := 0 } }.bump CRC_SCAN_STAT_SURF_PASSES) →
    (storeGet false s.smem.bad (a / 8) = true → exec (.surfScanRead err raced) s = .next (smemErr ⟨a, true⟩ t)) ∧
    (storeGet false s.smem.bad (a / 8) = false →
      exec (.surfScanRead none raced) s = .next t ∧
      exec (.surfScanRead (some true) raced) s = .next (smemErr ⟨a, true⟩ t) ∧
      exec (.surfScanRead (some false) false) s = .next ((smemErr ⟨a, false⟩ t).bump CRC_SCAN_COUNT_SCRUBBED) ∧
      exec (.surfScanRead (some false) true) s = .next (smemErr ⟨a, false⟩ t))) ∧
  (∀ (r : Fin 17) (crc : Word), t = s.setReg (CRC_Un_VALUE 3) (BitVec.ofNat 32 (crc.toNat ^^^ 0xFFFFFFFF)) →
    (s.bit CRC_SCAN_CTRL_SRAM_EN = false ∨ regionChecked s r.val = false → exec (.regionCheckEnd r crc) s = .next s) ∧
    (s.bit CRC_SCAN_CTRL_SRAM_EN → regionChecked s r.val →
      (crc.toNat = regionRef s r.val → exec (.regionCheckEnd r crc) s = .next t) ∧
      (∀ u, crc.toNat ≠ regionRef s r.val →
        u = raise 0x26 (regionBase r.val) (((t.bump CRC_SCAN_COUNT_MISMATCH).wr CRC_SCAN_LAST_REGION r.val).wr CRC_SCAN_LAST_VALID 1) →
        (r.val < 8 → exec (.regionCheckEnd r crc) s
          = .next (needGone 0x26 ((u.clrBit PXA_STAT_PAT_VALID r.val).setReg (PXA_PATn_CRC r.val) 0#32))) ∧
        (8 ≤ r.val → r.val < 16 → exec (.regionCheckEnd r crc) s = .next (bufferFails ((r.val - 8) / 2) (r.val % 2) u)) ∧
        (r.val = 16 → exec (.regionCheckEnd r crc) s = .next (fbClear 0x26 u))))) ∧
  (∀ v : Word,
    (v.toNat / 2 % 2 = 1 → s.bit DEV_CONFIG_SMEM_TRAINED = false →
      exec (.crcScanCtrlWrite v) s = .next (answered (s, .busy))) ∧
    (v.toNat / 2 % 2 = 1 → s.bit DEV_CONFIG_SMEM_TRAINED →
      inUsable s (s.rd CRC_SCAN_START_VALUE * 64) (s.rd CRC_SCAN_LEN_VALUE * 64) = false →
      exec (.crcScanCtrlWrite v) s = .next (answered (s, .badAddress))) ∧
    (v.toNat / 2 % 2 = 1 → s.bit DEV_CONFIG_SMEM_TRAINED →
      inUsable s (s.rd CRC_SCAN_START_VALUE * 64) (s.rd CRC_SCAN_LEN_VALUE * 64) →
      (s.bit CRC_SCAN_CTRL_SURF_EN → t = s) →
      (s.bit CRC_SCAN_CTRL_SURF_EN = false → t = { s with integ := { s.integ with surfPos := 0 } }) →
      exec (.crcScanCtrlWrite v) s
        = .next (answered ((t.wr CRC_SCAN_CTRL_SURF_EN 1).wr CRC_SCAN_CTRL_SRAM_EN (v.toNat % 2), .ok))) ∧
    (v.toNat / 2 % 2 = 0 → exec (.crcScanCtrlWrite v) s
      = .next (answered ((s.wr CRC_SCAN_CTRL_SURF_EN 0).wr CRC_SCAN_CTRL_SRAM_EN (v.toNat % 2), .ok))))

/-- The training of surface memory (R156, R157), its refresh rate (R163) and its return from self-refresh (R164). A training clears the
results of the one before and the surface scan; its end records success or the failing step. -/
def Obligations.MemoryTraining : Prop := ∀ (s t : State), isPowered s →
  (s.canonical → smemInUse s = false → s.bit SMEM_STAT_TRAINING = false → s.rd SMEM_CFG_SIZE ≠ 0 → blockOff s SMEM_CTRL = false →
    exec .smemTrain s = .next (answered ((((((s.wr SMEM_STAT_TRAIN_ERR 0).wr SMEM_STAT_TRAINED 0).wr SMEM_STAT_TRAINING 1).wr
      CRC_SCAN_CTRL_SURF_EN 0).wr DEV_CONFIG_SMEM_TRAINED 0).setReg SMEM_USABLE 0#32, .ok))) ∧
  (blockOff s SMEM_CTRL = false → s.bit SMEM_STAT_TRAINING ∨ smemInUse s →
    exec .smemTrain s = .next (answered (s, .busy))) ∧
  (blockOff s SMEM_CTRL = false → s.bit SMEM_STAT_TRAINING = false → smemInUse s = false → s.rd SMEM_CFG_SIZE = 0 →
    exec .smemTrain s = .next (answered (s, .badParam))) ∧
  (∀ (fail : Fin 8) (rd wr : BitVec 8),
    (s.bit SMEM_STAT_TRAINING = false → exec (.trainingComplete fail rd wr) s = .next s) ∧
    (∀ z u, s.bit SMEM_STAT_TRAINING → fail.val = 0 → t = (s.wr SMEM_STAT_TRAINING 0).wr SMEM_STAT_TRAIN_ERR 0 →
      z = t.rd SMEM_CFG_SIZE →
      u = (((((t.wr SMEM_STAT_TRAINED 1).wr DEV_CONFIG_SMEM_TRAINED 1).wr DEV_CONFIG_SMEM_SIZE z).wr SMEM_EYE_RD_EYE rd.toNat).wr
        SMEM_EYE_WR_EYE wr.toNat).wr SMEM_STAT_SR 0 →
      exec (.trainingComplete fail rd wr) s
        = .next ({ u with smem := { u.smem with rate := [1600, 2133, 3200, 3733, 4266].getD (u.rd SMEM_CFG_RATE) 0 } }.setReg
            SMEM_USABLE (BitVec.ofNat 32 (0x3800000 * 2 ^ z)))) ∧
    (s.bit SMEM_STAT_TRAINING → fail.val ≠ 0 → t = (s.wr SMEM_STAT_TRAINING 0).wr SMEM_STAT_TRAIN_ERR fail.val →
      exec (.trainingComplete fail rd wr) s = .next ((((t.wr SMEM_STAT_TRAINED 0).wr DEV_CONFIG_SMEM_TRAINED 0).wr
        DEV_CONFIG_SMEM_SIZE 0).wr SMEM_STAT_SR 1))) ∧
  (∀ (code : BitVec 3), smemOff s = false → s.bit SMEM_STAT_SR = false →
    (code.toNat = 0 ∨ code.toNat = 7 → t = (s.wr SMEM_STAT_MR4_RATE code.toNat).wr SMEM_STAT_MR4_LIMIT 1 →
      exec (.mr4Read code) s = .next { t with smem := { t.smem with refresh := 2 } }) ∧
    (1 ≤ code.toNat → code.toNat ≤ 6 → t = (s.wr SMEM_STAT_MR4_RATE code.toNat).wr SMEM_STAT_MR4_LIMIT 0 →
      exec (.mr4Read code) s = .next { t with smem := { t.smem with refresh := mr4Interval code.toNat } })) ∧
  (∀ (code : BitVec 3) (drift : Nat), smemOff s ∨ s.bit SMEM_STAT_SR →
    exec (.mr4Read code) s = .next s ∧ exec (.dqsOscRead drift) s = .next s) ∧
  (∀ drift, smemOff s = false → s.bit SMEM_STAT_SR = false →
    (drift ≤ 32 → exec (.dqsOscRead drift) s = .next s) ∧
    (32 < drift → exec (.dqsOscRead drift) s
      = .next { s with smem := { s.smem with recentred := s.smem.recentred + 1 } })) ∧
  (smemOff s = false → s.bit SMEM_STAT_TRAINED → exec .selfRefreshExit s = .next (s.wr SMEM_STAT_SR 0)) ∧
  (smemOff s ∨ s.bit SMEM_STAT_TRAINED = false → exec .selfRefreshExit s = .next s)

/-- Calibration runs (R279, R466 to R469). A run starts as STARTING with the temperature in use and a clear quality word, is disabled with
result 6 and times out with result 5 while it is STARTING or ON, and reaches OFF from STOPPING: it counts, a step that failed raises
CAL_DISAGREE, an applied step makes the target valid at the run's temperature, a command that waits is answered, and the run starts again
where an enable waits. A calibration record is read with its check word, and a sound record is taken back: its temperature stands, the
target is valid and RESULT reads 7 (R474, R475). The measurements of a run act only while it is STARTING or ON: a lane whose port is not
in L0 is skipped, and the converters take their steps in order (R472, R473). -/
def Obligations.Calibration : Prop :=
  (∀ (c : Cmd) (s t : State) (k : Nat), k < 7 →
  (admits .calRun c s → t = admitted .calRun c s →
    (c.p0 = k → calUnit t k = 0 → exec (.calRun c) s = .next (completed .calRun c s (calStart k none t, some ⟨.ok, [], none⟩))) ∧
    (c.p0 = 0x4000 + k → calUnit t k = 0 → exec (.calRun c) s
      = .next (holdCmd (issued .calRun c s) (calStart k (some (issued .calRun c s)) t))) ∧
    (c.p0 = k ∨ c.p0 = 0x4000 + k → calUnit t k = 3 → exec (.calRun c) s
      = .next (completed .calRun c s (t.wr (calPendFld k) 1, some ⟨.acceptedPending, [], none⟩))) ∧
    (c.p0 = k ∨ c.p0 = 0x4000 + k → calRuns t k → exec (.calRun c) s = .next (completed .calRun c s (ok t))) ∧
    (c.p0 = 0x8000 + k → calRuns t k → exec (.calRun c) s
      = .next (completed .calRun c s (ok ((t.wr (CAL_Tt_STAT_RESULT k) 6).wr (calUnitFld k) 3)))) ∧
    (c.p0 = 0x8000 + k → calUnit t k = 3 →
      exec (.calRun c) s = .next (completed .calRun c s (ok (t.wr (calPendFld k) 0)))) ∧
    (c.p0 = 0x8000 + k → calUnit t k = 0 → exec (.calRun c) s = .next (completed .calRun c s (ok t))) ∧
    (c.p0 = 7 ∨ c.p0 = 0xC000 + k → exec (.calRun c) s = .next (completed .calRun c s (ans t .badParam)))) ∧
  (∀ u, u = setCalRun k { calRunIdle with temp := calTemp t k, start := t.now } t →
    calStart k none t = ((u.wr (CAL_Tt_STAT_RESULT k) 1).setReg (CAL_Tt_QUAL k) 0#32).wr (calUnitFld k) 1) ∧
  (∀ f : Fin 7, isPowered s → f.val = k →
    (calRuns s k → exec (.calRunTimeout f) s = .next ((s.wr (CAL_Tt_STAT_RESULT k) 5).wr (calUnitFld k) 3)) ∧
    (calRuns s k = false → exec (.calRunTimeout f) s = .next s) ∧
    (calUnit s k ≠ 3 ∨ calWaits s k → exec (.calRunOff f) s = .next s) ∧
    (∀ r u v w, calUnit s k = 3 → calWaits s k = false → r = calRunOf s k →
      (r.disag + r.range = 0 → u = s.bump CAL_COUNT_RUNS) →
      (r.disag + r.range ≠ 0 → u = raise 0x66 k ((s.bump CAL_COUNT_RUNS).bump CAL_COUNT_DISAGREE)) →
      (r.applied = 0 → v = u) →
      (r.applied ≠ 0 → v = (u.wr (CAL_Tt_STAT_T_REF k) (ofSigned 16 r.temp)).wr (CAL_Tt_STAT_VALID k) 1) →
      w = setCalRun k calRunIdle (v.wr (calUnitFld k) 0) →
      (r.wait = none → w.bit (calPendFld k) = false → exec (.calRunOff f) s = .next w) ∧
      (r.wait = none → w.bit (calPendFld k) → exec (.calRunOff f) s = .next (calStart k none (w.wr (calPendFld k) 0))) ∧
      (∀ o x, r.wait = some o →
        (r.disag + r.range = 0 → x = finish o ⟨.ok, [], none⟩ w) →
        (r.disag + r.range ≠ 0 → x = finish o ⟨.calDisagree, [(w.reg (CAL_Tt_STAT k)).toNat], none⟩ w) →
        (x.bit (calPendFld k) = false → exec (.calRunOff f) s = .next x) ∧
        (x.bit (calPendFld k) → exec (.calRunOff f) s = .next (calStart k none (x.wr (calPendFld k) 0))))))) ∧
  (∀ (c : Cmd) (s t : State),
  (∀ ws, admits .calRead c s → t = admitted .calRead c s → c.p0 < 7 →
    ws = [0x01000000 + c.p0 * 65536 + (calEntries t c.p0).length, t.rd (CAL_Tt_STAT_T_REF c.p0)] ++ packHalves (calEntries t c.p0) →
    exec (.calRead c) s = .next (completed .calRead c s (okW t (ws ++ [crc32 (bytesOfWords ws)])))) ∧
  (admits .calRead c s → 7 ≤ c.p0 → exec (.calRead c) s = .next (completed .calRead c s (ans (admitted .calRead c s) .badParam))) ∧
  (∀ ws u, admits .calWrite c s → t = admitted .calWrite c s → ws = c.words.map BitVec.toNat →
    (7 ≤ c.p0 → exec (.calWrite c) s = .next (completed .calWrite c s (ans t .badParam))) ∧
    (c.p0 < 7 → calUnit t c.p0 ≠ 0 → exec (.calWrite c) s = .next (completed .calWrite c s (ans t .busy))) ∧
    (c.p0 < 7 → calUnit t c.p0 = 0 → ws.length ≠ 3 + ws.getD 0 0 % 4096 / 2 →
      exec (.calWrite c) s = .next (completed .calWrite c s (ans t .badLength))) ∧
    (c.p0 < 7 → calUnit t c.p0 = 0 → ws.length = 3 + ws.getD 0 0 % 4096 / 2 →
      (calRecordOk c.p0 ws = false → exec (.calWrite c) s = .next (completed .calWrite c s (ans t .badParam))) ∧
      (calRecordOk c.p0 ws → u = calTake c.p0 (unpackHalves ((ws.drop 2).take (ws.length - 3))) t →
        exec (.calWrite c) s = .next (completed .calWrite c s
          (ok (((u.wr (CAL_Tt_STAT_T_REF c.p0) (ws.getD 1 0)).wr (CAL_Tt_STAT_VALID c.p0) 1).wr (CAL_Tt_STAT_RESULT c.p0) 7)))))) ∧
  (isPowered s → ∀ (p : Port) (m0 m1 : SliceMeas) (k : Nat), k = 4 + p.num →
    (calRuns s k = false → exec (.calLaneMeasure p m0 m1) s = .next s) ∧
    (calRuns s k → s.rd (HLx_STAT_LINK p.num) ≠ 5 → (calRunOf s k).pos = 0 →
      exec (.calLaneMeasure p m0 m1) s = .next (setCalRun k { calRunOf s k with pos := 1 } s)) ∧
    (calRuns s k → s.rd (HLx_STAT_LINK p.num) ≠ 5 → (calRunOf s k).pos = 1 →
      exec (.calLaneMeasure p m0 m1) s = .next (calDone k (setCalRun k { calRunOf s k with pos := 2 } s))) ∧
    (calRuns s k → s.rd (HLx_STAT_LINK p.num) = 5 → (calRunOf s k).pos = 0 →
      exec (.calLaneMeasure p m0 m1) s = .next (laneStep p.num (2 * p.num) m0 m1 s)) ∧
    (calRuns s k → s.rd (HLx_STAT_LINK p.num) = 5 → (calRunOf s k).pos = 1 →
      exec (.calLaneMeasure p m0 m1) s = .next (calDone k (laneStep p.num (2 * p.num + 1) m0 m1 s)))) ∧
  (isPowered s → (calRuns s 6 = false → ∀ m, exec (.calConverterSet m) s = .next s) ∧
    (∀ s0 t0 r0 r1 i u, calRuns s 6 → i = convNext s (calRunOf s 6).pos → i < 4 →
      u = convStep i s0 t0 r0 r1 (setCalRun 6 { calRunOf s 6 with pos := i } s) →
      (convNext u (calRunOf u 6).pos < 5 → exec (.calConverterSet (.trim s0 t0 r0 r1)) s = .next u) ∧
      (5 ≤ convNext u (calRunOf u 6).pos → exec (.calConverterSet (.trim s0 t0 r0 r1)) s = .next (calDone 6 u))) ∧
    (∀ a b u, calRuns s 6 → convNext s (calRunOf s 6).pos = 4 →
      u = skewStep a b (setCalRun 6 { calRunOf s 6 with pos := 4 } s) →
      exec (.calConverterSet (.skew a b)) s = .next (calDone 6 u)) ∧
    (∀ m i u, calRuns s 6 → i = convNext s (calRunOf s 6).pos → u = setCalRun 6 { calRunOf s 6 with pos := i } s →
      (5 ≤ i → exec (.calConverterSet m) s = .next (calDone 6 u)) ∧
      (∀ a b, i < 4 → m = .skew a b → exec (.calConverterSet m) s = .next u) ∧
      (∀ s0 t0 r0 r1, i = 4 → m = .trim s0 t0 r0 r1 → exec (.calConverterSet m) s = .next u))))

/-- POWER_ENTER writes the wake enables, sets the arming bits where no refuser applies, and names the lowest refuser otherwise (R438);
POWER_QUERY answers the five registers of R450. VSCALE raises by driving the new VSEL and lowers by the bypass clock; it is answered when
the core PLL has relocked, and POWER_REFUSED with the old VSEL restored when a raise is not confirmed (R443). -/
def Obligations.PowerCommands : Prop := ∀ (c : Cmd) (s t : State),
  (∀ u, admits .powerEnter c s → t = admitted .powerEnter c s → u = t.wr PMU_WAKE_EN_SRC (c.w 1 % 256 ||| 0x81) →
    (3 ≤ c.p0 → exec (.powerEnter c) s = .next (completed .powerEnter c s (ans t .badParam))) ∧
    (c.p0 < 3 → c.p0 = u.rd PMU_STAT_STATE → exec (.powerEnter c) s = .next (completed .powerEnter c s (ok u))) ∧
    (c.p0 = 0 → u.rd PMU_STAT_STATE = 1 → exec (.powerEnter c) s
      = .next (completed .powerEnter c s (ok { u with pmu := { u.pmu with waking := true } }))) ∧
    (1 ≤ c.p0 → c.p0 ≤ 2 → c.p0 ≠ u.rd PMU_STAT_STATE →
      (∀ w, refuser c.p0 u = none → w = u.wr PMU_STAT_ARM c.p0 → exec (.powerEnter c) s = .next (completed .powerEnter c s
        (ok { w with pmu := { w.pmu with reply := some (c.ch, c.seq.toNat) } }))) ∧
      (∀ i, refuser c.p0 u = some i → exec (.powerEnter c) s = .next (completed .powerEnter c s
        (raise 0x64 i ((u.bump PMU_REFUSE_REFUSALS).wr PMU_REFUSE_LAST i), some ⟨.powerRefused, [i], none⟩))))) ∧
  (admits .powerQuery c s → t = admitted .powerQuery c s →
    (c.p0 = 0 → exec (.powerQuery c) s = .next (completed .powerQuery c s (okW t [(t.reg PMU_STAT).toNat, (t.reg PMU_OP).toNat,
      (t.reg PMU_WAKE_STAT).toNat, (t.reg PMU_REFUSE).toNat, (t.reg PMU_RST_CAUSE).toNat]))) ∧
    (c.p0 ≠ 0 → exec (.powerQuery c) s = .next (completed .powerQuery c s (ans t .badParam)))) ∧
  (∀ u v, admits .vscale c s → t = admitted .vscale c s → u = t.wr PMU_OP_TARGET c.p0 →
    v = (holdCmd (issued .vscale c s) { u with pmu := { u.pmu with
      vscale := some (issued .vscale c s), vselOld := u.rd PMU_OP_VSEL } }).wr PMU_OP_CHANGING 1 →
    (4 ≤ c.p0 → exec (.vscale c) s = .next (completed .vscale c s (ans t .badParam))) ∧
    (c.p0 < 4 → t.bit PMU_OP_CHANGING ∨ t.rd PMU_STAT_STATE ≠ 0 →
      exec (.vscale c) s = .next (completed .vscale c s (ans t .busy))) ∧
    (t.bit PMU_OP_CHANGING = false → t.rd PMU_STAT_STATE = 0 →
      (c.p0 < 4 → c.p0 = t.rd PMU_OP_V_OK →
        exec (.vscale c) s = .next (completed .vscale c s (okW u [(u.reg PMU_OP).toNat]))) ∧
      (c.p0 < 4 → t.rd PMU_OP_V_OK < c.p0 → exec (.vscale c) s = .next (driveVsel (10 * (c.p0 + 1)) v)) ∧
      (c.p0 < t.rd PMU_OP_V_OK → c.p0 < 4 → exec (.vscale c) s = .next (v.wr PMU_OP_BYPASS 1)))) ∧
  (isPowered s →
    (raiseWaits s → exec .vscaleSettled s = .next ((s.wr PMU_OP_V_OK (s.rd PMU_OP_TARGET)).wr PMU_OP_BYPASS 1)) ∧
    (raiseWaits s = false → exec .vscaleSettled s = .next s ∧ exec .vscaleTimeout s = .next s) ∧
    (∀ o u v, raiseWaits s → s.pmu.vscale = some o →
      u = raise 0x64 0x0D ((((driveVsel s.pmu.vselOld s).wr PMU_OP_CHANGING 0).bump PMU_REFUSE_REFUSALS).wr PMU_REFUSE_LAST 0x0D) →
      v = { u with pmu := { u.pmu with vscale := none } } →
      exec .vscaleTimeout s = .next (finish o ⟨.powerRefused, [0x0D], none⟩ v)) ∧
    (s.bit PMU_OP_BYPASS = false → exec .corePllRelock s = .next s) ∧
    (s.bit PMU_OP_BYPASS → s.bit PMU_OP_CHANGING = false →
      exec .corePllRelock s = .next ((s.wr PMU_OP_BYPASS 0).wr PMU_STAT_VCORE_PG 1)) ∧
    (∀ o op u v, s.bit PMU_OP_BYPASS → s.bit PMU_OP_CHANGING → s.pmu.vscale = some o → op = s.rd PMU_OP_TARGET →
      (s.rd PMU_OP_VSEL = 10 * (op + 1) → u = ((s.wr PMU_OP_BYPASS 0).wr PMU_OP_F_OP op).wr PMU_OP_CHANGING 0) →
      (s.rd PMU_OP_VSEL ≠ 10 * (op + 1) →
        u = (((driveVsel (10 * (op + 1)) (s.wr PMU_OP_BYPASS 0)).wr PMU_OP_V_OK op).wr PMU_OP_F_OP op).wr PMU_OP_CHANGING 0) →
      v = { u with pmu := { u.pmu with vscale := none } } →
      exec .corePllRelock s = .next (finish o ⟨.ok, [(v.reg PMU_OP).toNat], none⟩ v)))

/-- The entry into D1 and D2 and the way back (R437, R439 to R441). Power-down starts from the arming bits once the reply of the POWER_ENTER
has been sent, asks each port in L0 or L1 for L2 where D2 is entered, stops CMP, puts the memory into self-refresh and moves CORE to OP0;
its completion, which waits for the ports, sets the state and clears ARM in one step, and D2 drives the safe outputs. The wake source of
an admitted command or a refuser of 0x01 to 0x0C aborts an entry, as an enabled wake source does; a wake returns D1 to D0 and resets D2. -/
def Obligations.PowerDown : Prop := ∀ (s t : State),
  (isPowered s → s.rd PMU_STAT_ARM = 0 → exec .powerDownStart s = .next s ∧ exec .powerDownComplete s = .next s) ∧
  (isPowered s → replyDue s → exec .powerDownStart s = .next s) ∧
  (isPowered s → ∀ i, s.rd PMU_STAT_ARM ≠ 0 → aborts (s.rd PMU_STAT_ARM) s = some i →
    (s.pmu.down = false → replyDue s = false → exec .powerDownStart s = .next (abortEntry i s)) ∧
    (s.pmu.down → exec .powerDownComplete s = .next (abortEntry i s))) ∧
  (isPowered s → ∀ ask u, s.rd PMU_STAT_ARM ≠ 0 → s.pmu.down = false → replyDue s = false → aborts (s.rd PMU_STAT_ARM) s = none →
    (s.rd PMU_STAT_ARM ≠ 2 → ask = []) →
    (s.rd PMU_STAT_ARM = 2 → ask = (List.range 2).filter (fun p => decide (linkOf s p = 5 ∨ linkOf s p = 6))) →
    u = s.forL ask (fun p v => askL2 p (if linkOf v p = 6 then leaveL1 p v else v)) →
    exec .powerDownStart s = .next (sleepSteps
      { u with pmu := { u.pmu with down := true, askedL2 := ask.foldl (fun n p => n + 2 ^ p) 0 } })) ∧
  (s.rd PMU_STAT_STATE ≠ 0 → sleepSteps s = s) ∧
  (∀ u, s.rd PMU_STAT_STATE = 0 → t = (abandonComp s).wr SMEM_STAT_SR 1 →
    u = { t with pmu := { t.pmu with opBefore := s.rd PMU_OP_V_OK, srBefore := s.bit SMEM_STAT_SR } } →
    sleepSteps s = (((driveVsel 10 u).wr PMU_OP_V_OK 0).wr PMU_OP_F_OP 0)) ∧
  (isPowered s → s.rd PMU_STAT_ARM ≠ 0 → s.pmu.down → aborts (s.rd PMU_STAT_ARM) s = none →
    (∃ p < 2, s.pmu.askedL2 / 2 ^ p % 2 = 1 ∧ linkOf s p ≠ 7) → exec .powerDownComplete s = .next s) ∧
  (isPowered s → ∀ u v, s.rd PMU_STAT_ARM ≠ 0 → s.pmu.down → aborts (s.rd PMU_STAT_ARM) s = none →
    (∀ p < 2, s.pmu.askedL2 / 2 ^ p % 2 = 1 → linkOf s p = 7) →
    u = (s.wr PMU_STAT_STATE (s.rd PMU_STAT_ARM)).wr PMU_STAT_ARM 0 →
    v = { u with pmu := { u.pmu with down := false, askedL2 := 0, reply := none } } →
    (s.rd PMU_STAT_ARM ≠ 2 → exec .powerDownComplete s = .next (refreshCeiling 0 v)) ∧
    (∀ w, s.rd PMU_STAT_ARM = 2 → w = (v.wr SMC_STAT_SAFE_OFF 0).wr SMC_STAT_LIMP_REQ 1 →
      exec .powerDownComplete s = .next { w with smc := { w.smc with alive := false } })) ∧
  (isPowered s → s.pmu.waking → s.rd PMU_STAT_STATE = 1 → s.rd PMU_STAT_ARM = 0 →
    ∀ u v, u = ((driveVsel (10 * (s.pmu.opBefore + 1)) (s.wr PMU_STAT_STATE 0)).wr PMU_OP_V_OK s.pmu.opBefore).wr
      PMU_OP_F_OP s.pmu.opBefore →
    (u.bit CKU_GATE_SMEM → v = u) → (u.bit CKU_GATE_SMEM = false → v = u.wr SMEM_STAT_SR (boolNat s.pmu.srBefore)) →
    exec .returnToD0 s = .next (refreshCeiling 0 { v with pmu := { v.pmu with waking := false, hit := none } })) ∧
  (isPowered s → s.pmu.waking = false ∨ s.rd PMU_STAT_STATE ≠ 1 ∨ s.rd PMU_STAT_ARM ≠ 0 → exec .returnToD0 s = .next s) ∧
  (∀ n : Fin 8, (s.pmu.off ∨ s.bitOf PMU_WAKE_EN_SRC n.val = false → exec (.wakeSourceFire n) s = .next s) ∧
    (s.pmu.off = false → s.bitOf PMU_WAKE_EN_SRC n.val → t = s.setBit PMU_WAKE_STAT_SRC n.val →
      (s.rd PMU_STAT_ARM ≠ 0 → exec (.wakeSourceFire n) s = .next (abortEntry (0x10 + n.val) t)) ∧
      (s.rd PMU_STAT_ARM = 0 → s.rd PMU_STAT_STATE = 1 →
        exec (.wakeSourceFire n) s = .next { t with pmu := { t.pmu with waking := true } }) ∧
      (s.rd PMU_STAT_ARM = 0 → s.rd PMU_STAT_STATE = 2 → exec (.wakeSourceFire n) s = .next (engineReset 5 t)) ∧
      (s.rd PMU_STAT_ARM = 0 → s.rd PMU_STAT_STATE = 0 → exec (.wakeSourceFire n) s = .next s))) ∧
  (s.rd PMU_TIMER_MS = 0 ∨ s.rd PMU_STAT_STATE = 0 → exec .pmuTimerExpiry s = .next s) ∧
  (s.rd PMU_TIMER_MS ≠ 0 → s.rd PMU_STAT_STATE ≠ 0 → s.pmu.off = false → s.bitOf PMU_WAKE_EN_SRC 5 →
    t = s.setBit PMU_WAKE_STAT_SRC 5 →
    (s.rd PMU_STAT_ARM ≠ 0 → exec .pmuTimerExpiry s = .next (abortEntry 0x15 t)) ∧
    (s.rd PMU_STAT_ARM = 0 → s.rd PMU_STAT_STATE = 1 →
      exec .pmuTimerExpiry s = .next { t with pmu := { t.pmu with waking := true } }) ∧
    (s.rd PMU_STAT_ARM = 0 → s.rd PMU_STAT_STATE = 2 → exec .pmuTimerExpiry s = .next (engineReset 5 t)))

/-- Each reset source resets with its cause, and power pins (R444 to R446): RESET_N and the wake act only outside D3; VCORE_PG low outside the
VSETTLE that follows a new VSEL raises VCORE_PG and bypasses the core PLL, and it resets after 1 ms; PWR_EN high boots from D3; PWR_EN low
goes dark, stops the units, and gates the domains. Boot (R302, R447): the release of the internal reset locks the PLLs and enables both
ports, unless TEST_MODE holds it; the ROM check sets BOOT_DONE and starts the cores, ACTIVE and STANDBY, and SCN where AUTO_RUN says so,
or sets BOOT_ERR and starts no core. -/
def Obligations.ResetsAndBoot : Prop :=
  (∀ (s t : State),
  (exec .powerOnReset s = .next (engineReset 0 s)) ∧
  (s.pmu.off → exec .resetNLow s = .next s) ∧
  (s.pmu.off = false → exec .resetNLow s = .next (engineReset 2 s)) ∧
  (isPowered s → exec .swrst s = .next (answered (engineReset 3 s, .ok))) ∧
  (isPowered s → s.now < s.pmu.vselAt + s.rd PMU_CFG_VSETTLE * 10000 → exec .vcorePgLow s = .next s) ∧
  (isPowered s → s.pmu.vselAt + s.rd PMU_CFG_VSETTLE * 10000 ≤ s.now → exec .vcorePgLow s
    = .next (raise 0x65 (s.rd PMU_OP_VSEL) ((s.wr PMU_STAT_VCORE_PG 0).wr PMU_OP_BYPASS 1))) ∧
  (isPowered s → s.bit PMU_STAT_VCORE_PG → exec .vcorePgReset s = .next s) ∧
  (isPowered s → s.bit PMU_STAT_VCORE_PG = false → exec .vcorePgReset s = .next (engineReset 4 s)) ∧
  (t = s.wr PMU_STAT_PWR_EN 1 →
    (s.pmu.off → exec .pwrEnHigh s = .next (engineReset 1 t)) ∧
    (s.pmu.off = false → s.rd PMU_STAT_STATE = 0 → exec .pwrEnHigh s = .next t) ∧
    (s.pmu.off = false → s.rd PMU_STAT_STATE ≠ 0 → exec .pwrEnHigh s = .next (wakeFire 0 t))) ∧
  (t = s.wr PMU_STAT_PWR_EN 0 →
    (s.pmu.off → exec .pwrEnLow s = .next t) ∧
    (∀ u v, s.pmu.off = false →
      (s.rd PMU_STAT_STATE = 2 → u = loseRetained t) →
      (s.rd PMU_STAT_STATE ≠ 2 → u = ((fanDisable (lvlDisable (railForceStop (goDark 0 t))).1).1.forN 8
        (fun n w => (sqDisable n w).1)).wr SMEM_STAT_SR 1) →
      v = (u.wr SMC_STAT_SAFE_OFF 0).wr SMC_STAT_LIMP_REQ 1 →
      exec .pwrEnLow s = .next { v with
        smc := { v.smc with alive := false }, pmu := { v.pmu with off := true, released := false } }))) ∧
  (∀ (s t : State),
  (s.pmu.released ∨ s.pmu.off ∨ s.bit PMU_STAT_PWR_EN = false →
    ∀ m, exec (.internalResetRelease m) s = .next s) ∧
  (exec (.internalResetRelease true) s = .next s) ∧
  (∀ u, s.pmu.released = false → s.pmu.off = false → s.bit PMU_STAT_PWR_EN →
    u = { s with pmu := { s.pmu with released := true }, smc := { s.smc with startAt := s.now } } →
    exec (.internalResetRelease false) s = .next ((portEnable 1 (portEnable 0
      (((u.wr PMU_STAT_VCORE_PG 1).wr CKU_STAT_REF_OK 1).wr CKU_STAT_LOCK 0x1F)).1).1)) ∧
  (isPowered s → s.bit PMU_STAT_BOOT_DONE ∨ s.bit PMU_STAT_BOOT_ERR → ∀ r, exec (.coreBootDone r) s = .next s) ∧
  (isPowered s → s.bit PMU_STAT_BOOT_DONE = false → s.bit PMU_STAT_BOOT_ERR = false →
    (exec (.coreBootDone false) s
      = .next (((s.wr PMU_STAT_BOOT_ERR 1).wr CCX_STAT_CCA_STATE 0).wr CCX_STAT_CCB_STATE 0)) ∧
    (∀ u, t = ((s.wr PMU_STAT_BOOT_DONE 1).wr CCX_STAT_CCA_STATE 5).wr CCX_STAT_CCB_STATE 4 →
      u = { t with ccx := { t.ccx with beatA := t.now, beatB := t.now } } →
      (u.bit PMU_CFG_AUTO_RUN → exec (.coreBootDone true) s = .next (scnStart (u.wr SCN_CTRL_RUN 1))) ∧
      (u.bit PMU_CFG_AUTO_RUN = false → exec (.coreBootDone true) s = .next u))))

/-- What a reset leaves (R446, R450): its cause, and everything that its row does not keep as State.reset has it. Power-on keeps nothing;
every other cause keeps the AON registers and the CMAC keys; the wake keeps the trim map, the health map and surface memory besides. The
queue of waiting commands and the model's clock are the model's own (log entry 1), and go on. -/
def Obligations.ResetKeeps : Prop := ∀ (s : State) (k : Nat), k ≤ 5 → ∀ t, t = engineReset k s →
  t.rd PMU_RST_CAUSE_CAUSE = 2 ^ k ∧
  t.pending = s.pending ∧ t.now = s.now ∧
  t.frame = State.reset.frame ∧ t.seq = State.reset.seq ∧ t.cmp = State.reset.cmp ∧ t.link = State.reset.link ∧
  t.loops = State.reset.loops ∧ t.adc = State.reset.adc ∧ t.fcr = State.reset.fcr ∧ t.ccx = State.reset.ccx ∧
  t.integ = State.reset.integ ∧ t.pmu.patch = none ∧ t.rd DEV_LADDER_RUNG = 4 ∧
  (k = 0 → t.cmd.keys = State.reset.cmd.keys ∧ t.reg PMU_TIMER = 0#32) ∧
  (1 ≤ k → t.cmd.keys = s.cmd.keys ∧
    ∀ a ∈ [PMU_CFG, PMU_WAKE_EN, PMU_WAKE_STAT, PMU_REFUSE, PMU_TIMER], t.reg a = s.reg a) ∧
  (k ≤ 4 → t.smem = State.reset.smem ∧ t.pxa = State.reset.pxa ∧ t.rd SMEM_STAT_TRAINED = 0) ∧
  (k = 5 → t.smem.mem = s.smem.mem ∧ t.pxa.trim = s.pxa.trim ∧ t.pxh.health = s.pxh.health ∧ t.reg SMEM_STAT = s.reg SMEM_STAT ∧
    t.rd PXA_STAT_TRIM_LOADED = 1)

/-- A firmware patch is staged in order from offset 0, judged whole on its last chunk, and refused with the first failing check; its
activation waits for CMD to drain and for a checkpoint, and then raises CEPOCH by 2 and the patch level (R448, R449). -/
def Obligations.FirmwarePatch : Prop := ∀ (c : Cmd) (s t : State),
  (∀ old b, admits .fwPatchLoad c s → t = admitted .fwPatchLoad c s →
    (t.pmu.patch = none → old = []) → (∀ p, t.pmu.patch = some p → old = p.bytes) →
    (c.w 1 = 0 → b = bytesOfWords ((c.words.drop 1).map BitVec.toNat)) →
    (c.w 1 ≠ 0 → b = old ++ bytesOfWords ((c.words.drop 1).map BitVec.toNat)) →
    (c.p0 ≠ 0 ∧ c.p0 ≠ 0x8000 ∨ c.w 1 ≠ 0 ∧ c.w 1 ≠ old.length →
      exec (.fwPatchLoad c) s = .next (completed .fwPatchLoad c s (ans t .badParam))) ∧
    (c.w 1 = 0 ∨ c.w 1 = old.length →
      (c.p0 = 0 → b.length ≤ 65536 → exec (.fwPatchLoad c) s = .next (completed .fwPatchLoad c s
        (ok { t with pmu := { t.pmu with patch := some ⟨b, false⟩ } }))) ∧
      (c.p0 = 0 ∨ c.p0 = 0x8000 → 65536 < b.length →
        exec (.fwPatchLoad c) s = .next (completed .fwPatchLoad c s (ans t .badLength))) ∧
      (c.p0 = 0x8000 → b.length ≤ 65536 →
        (patchCheck b t = none → exec (.fwPatchLoad c) s = .next (completed .fwPatchLoad c s
          (ok { t with pmu := { t.pmu with patch := some ⟨b, true⟩ } }))) ∧
        (∀ code, patchCheck b t = some code → exec (.fwPatchLoad c) s = .next (completed .fwPatchLoad c s
          ({ t with pmu := { t.pmu with patch := none } }, some ⟨.tableRejected, [code], none⟩)))))) ∧
  (admits .fwPatchActivate c s → t = admitted .fwPatchActivate c s →
    (c.p0 ≠ 0 → exec (.fwPatchActivate c) s = .next (completed .fwPatchActivate c s (ans t .badParam))) ∧
    (c.p0 = 0 → t.pmu.patch.any (fun p => p.verified) = false ∨ pairReady t = false ∨ t.bit CCX_CKPT_WRITING →
      exec (.fwPatchActivate c) s = .next (completed .fwPatchActivate c s (ans t .busy))) ∧
    (∀ p, c.p0 = 0 → t.pmu.patch = some p → p.verified → pairReady t → t.bit CCX_CKPT_WRITING = false →
      exec (.fwPatchActivate c) s = .next (patchCkpt { t with pmu := { t.pmu with
        activate := some (issued .fwPatchActivate c s), actCkpt := false } }))) ∧
  (isPowered s → s.pmu.activate = none → exec .patchRestartDone s = .next s) ∧
  (isPowered s → ∀ o p u, s.pmu.activate = some o → s.pmu.patch = some p → s.pmu.actCkpt → s.bit CCX_CKPT_WRITING = false →
    t = (bumpCepoch 2 s).wr DEV_FW_PATCH_LVL (le32 p.bytes 4) →
    u = { t with pmu := { t.pmu with activate := none, actCkpt := false, patch := none } } →
    exec .patchRestartDone s = .next (replyTo o ⟨.ok, [(u.reg DEV_FW).toNat], none⟩ u))

/-- The clock unit (R436, R451, R452): the loss of REF moves to the backup oscillator and takes both ports down once; REF returns. A write of
CKU_GATE is BUSY where it would stop a domain that has users, else it stores the word, abandons a composition and puts the memory into
self-refresh. A measurement names one of twelve domains, and a stopped one reads 0. -/
def Obligations.Clocks : Prop := ∀ (s t : State), isPowered s →
  (s.bit CKU_STAT_BACKUP → exec .refLoss s = .next s ∧
    exec .refRestore s = .next ((s.wr CKU_STAT_REF_OK 1).wr CKU_STAT_BACKUP 0)) ∧
  (s.bit CKU_STAT_BACKUP = false → exec .refRestore s = .next s) ∧
  (∀ down, down = (fun p u => if u.rd (HLx_STAT_UNIT p) = 0 then u else linkDown p 5 u) →
    s.bit CKU_STAT_BACKUP = false → t = ((s.wr CKU_STAT_REF_OK 0).wr CKU_STAT_BACKUP 1).bump CKU_STAT_REF_LOSSES →
    exec .refLoss s = .next (down 1 (down 0 t))) ∧
  (∀ v : Word,
    (v.toNat / 2 % 2 = 1 → s.bit CKU_GATE_SMEM = false → surfaceUsed s ∨ s.bit SMEM_STAT_TRAINING →
      exec (.ckuGateWrite v) s = .next (answered (s, .busy))) ∧
    (v.toNat % 2 = 1 → s.bit CKU_GATE_CMP = false → s.rd DEV_LADDER_RUNG ≤ 1 ∨ commitAhead s →
      exec (.ckuGateWrite v) s = .next (answered (s, .busy))) ∧
    (∀ n < 8, v.toNat / 4 % 2 = 1 → s.bit CKU_GATE_ADCP = false → sqOnPair s n →
      exec (.ckuGateWrite v) s = .next (answered (s, .busy))) ∧
    (∀ u, (v.toNat % 2 = 1 → s.bit CKU_GATE_CMP = false → 1 < s.rd DEV_LADDER_RUNG ∧ commitAhead s = false) →
      (v.toNat / 2 % 2 = 1 → s.bit CKU_GATE_SMEM = false → surfaceUsed s = false ∧ s.bit SMEM_STAT_TRAINING = false) →
      (v.toNat / 4 % 2 = 1 → s.bit CKU_GATE_ADCP = false → ∀ n < 8, sqOnPair s n = false) →
      (v.toNat % 2 = 1 → s.bit CKU_GATE_CMP = false → u = abandonComp (s.wrWord CKU_GATE v)) →
      (v.toNat % 2 = 0 ∨ s.bit CKU_GATE_CMP → u = s.wrWord CKU_GATE v) →
      (v.toNat / 2 % 2 = 1 → s.bit CKU_GATE_SMEM = false →
        exec (.ckuGateWrite v) s = .next (answered (u.wr SMEM_STAT_SR 1, .ok))) ∧
      (v.toNat / 2 % 2 = 0 ∨ s.bit CKU_GATE_SMEM → exec (.ckuGateWrite v) s = .next (answered (u, .ok)))) ∧
    (12 ≤ v.toNat / 2 ^ 28 → exec (.ckuMeasWrite v) s = .next (answered (s, .badParam))) ∧
    (v.toNat / 2 ^ 28 < 12 →
      exec (.ckuMeasWrite v) s = .next (answered (s.wr CKU_MEAS_DOMAIN (v.toNat / 2 ^ 28), .ok)))) ∧
  (∀ f d, d = s.rd CKU_MEAS_DOMAIN →
    (d = 0 ∨ (d = 6 ∧ cmpOff s) ∨ (d = 8 ∧ smemOff s) → exec (.ckuMeasDone f) s = .next (s.wr CKU_MEAS_FREQ 0)) ∧
    (d ≠ 0 → (d = 6 → cmpOff s = false) → (d = 8 → smemOff s = false) →
      exec (.ckuMeasDone f) s = .next (s.wr CKU_MEAS_FREQ f.toNat)))

/-- The commands that end a run, a window, a group or a loss, and those that start one, complete with their own effect, each under the
conditions that its rule gives: a temperature measurement, the automatic demand, a conversion, the cross-check and its end, a cleared
broken bit (R211 to R217); a calibration run, its record read and restored, its measurements, its timeout and its end (R467 to R475); a
check-value run, its end and the unit's registers (R455 to R458); a write group, a checkpoint and a baste (R304, R315 to R318); the
phases, the rail's start, stop, senses and supervision (R371 to R386). -/
def Obligations.OwnEffects : Prop := ∀ (s : State), isPowered s →
  (∀ c t, admits .tempMeasure c s → t = admitted .tempMeasure c s → c.p0 < 72 → winOpenAt t c.p0 = false →
    exec (.tempMeasure c) s = .next (holdCmd (issued .tempMeasure c s) (openWins true [c.p0]
      { t with thm := { t.thm with waits := t.thm.waits ++ [⟨issued .tempMeasure c s, [(c.p0, 1)]⟩] } }))) ∧
  (s.thm.autoDue → exec .thmAutoDemand s
    = .next (openWins false (List.range 72) (({ s with thm := { s.thm with autoDue := false } } : State).bump THM_COUNT_AUTO))) ∧
  (∀ (k : Fin 72) (n : BitVec 20), winOpenAt s k.val → storeGet 0 s.thm.xchkWin k.val ≠ 1 → exec (.thmConversion [(k, n)]) s
    = .next (windowsEnd [k.val] (convert [] [(k.val, n.toNat, storeGet 0 s.thm.window k.val - 1)] s))) ∧
  (s.canonical → s.rd THM_STAT_XCHK_RESULT ≠ 1 → (∀ k < 72, winOpenAt s k = false) → exec .xchkRun s = .next (answered
    ((openXchk (List.range 72) { s with thm := { s.thm with
      ntcGot := [], xchkDark := decide (s.rd DEV_LADDER_RUNG = 4), xchkWin := [] } }).wr THM_STAT_XCHK_RESULT 1, .ok))) ∧
  (∀ counts, s.rd THM_STAT_XCHK_RESULT = 1 → strictMono ((ntcPoints s).map (fun x => x.1)) →
    strictMono ((ntcPoints s).map (fun x => x.2)) → s.rdAct THM_XCHK_CFG_NTC_SEL = 1 → storeGet false s.thm.ntcGot 0 = false →
    exec (.xchkEnd counts) s = .next ({ s with thm := { s.thm with xchkWin := [] } }.wr THM_STAT_XCHK_RESULT 6)) ∧
  (∀ (n : Fin 3) (mask : Word) tie, exec (.thmBrokenClear n mask tie) s
    = .next (answered (thmBrokenClear n.val mask.toNat (s.apart tie), .ok))) ∧
  (∀ c t, admits .calRun c s → t = admitted .calRun c s → c.p0 < 7 → calUnit t c.p0 = 0 →
    exec (.calRun c) s = .next (completed .calRun c s (calStart c.p0 none t, some ⟨.ok, [], none⟩))) ∧
  (∀ c t, admits .calRead c s → t = admitted .calRead c s → c.p0 < 7 →
    exec (.calRead c) s = .next (completed .calRead c s (okW t (calRecord t c.p0)))) ∧
  (∀ c t ws u, admits .calWrite c s → t = admitted .calWrite c s → ws = c.words.map BitVec.toNat → c.p0 < 7 → calUnit t c.p0 = 0 →
    ws.length = 3 + ws.getD 0 0 % 4096 / 2 → calRecordOk c.p0 ws →
    u = calTake c.p0 (unpackHalves ((ws.drop 2).take (ws.length - 3))) t →
    exec (.calWrite c) s = .next (completed .calWrite c s
      (ok (((u.wr (CAL_Tt_STAT_T_REF c.p0) (ws.getD 1 0)).wr (CAL_Tt_STAT_VALID c.p0) 1).wr (CAL_Tt_STAT_RESULT c.p0) 7)))) ∧
  (∀ (p : Port) m0 m1, calUnit s (4 + p.num) = 2 → s.rd (HLx_STAT_LINK p.num) = 5 → (calRunOf s (4 + p.num)).pos = 0 →
    exec (.calLaneMeasure p m0 m1) s = .next (laneStep p.num (2 * p.num) m0 m1 s)) ∧
  (∀ a b, calUnit s 6 = 2 → convNext s (calRunOf s 6).pos = 4 → exec (.calConverterSet (.skew a b)) s
    = .next (calDone 6 (skewStep a b (setCalRun 6 { calRunOf s 6 with pos := 4 } s)))) ∧
  (∀ f : Fin 7, calUnit s f.val = 2 →
    exec (.calRunTimeout f) s = .next ((s.wr (CAL_Tt_STAT_RESULT f.val) 5).wr (calUnitFld f.val) 3)) ∧
  (∀ f : Fin 7, calUnit s f.val = 3 → calWaits s f.val = false → exec (.calRunOff f) s = .next (calOff f.val s)) ∧
  (∀ c t, admits .crcRun c s → t = admitted .crcRun c s → c.p0 < 3 → t.bit (CRC_Un_BIND_EN c.p0) = false →
    memRunning t c.p0 = false → exec (.crcRun c) s = .next (completed .crcRun c s
      (ok (t.setReg (CRC_Un_VALUE c.p0) (BitVec.ofNat 32 (algInit (unitAlg t c.p0))))))) ∧
  (∀ (m : Fin 3) o u v, storeGet none s.integ.memRuns m.val = some o → inSurface (o.cmd.w 1) → s.smem.bad = [] →
    u = setMemRun m.val none s → v = unitFeed m.val (memBytes s (o.cmd.w 1) (o.cmd.w 2)) u →
    exec (.crcMemRunEnd m []) s = .next (finish o ⟨.ok, [(v.reg (CRC_Un_VALUE m.val)).toNat ^^^ algXor (unitAlg v m.val)], none⟩
      { v with freeCtr := v.freeCtr + (o.cmd.w 2 + 7) / 4 })) ∧
  (∀ (n : Fin 4) (v : Word) t, n.val < 3 → unitBusy s n.val = false →
    t = s.wr (CRC_Un_CFG_ALG n.val) (fv v (CRC_Un_CFG_ALG n.val)) →
    exec (.crcCfgWrite n v) s = .next (answered (t.setReg (CRC_Un_VALUE n.val) (BitVec.ofNat 32 (algInit (unitAlg t n.val))), .ok))) ∧
  (∀ (n : Fin 4) (v : Word), n.val < 3 → unitBusy s n.val = false → v.toNat < 2 ^ algWidth (unitAlg s n.val) →
    exec (.crcValueWrite n v) s = .next (answered (s.setReg (CRC_Un_VALUE n.val) v, .ok))) ∧
  (∀ (n : Fin 4) (v : Word), n.val < 3 → unitBusy s n.val = false → v.toNat < 2 ^ 31 → v.toNat % 256 ≠ 255 →
    chanBusy s (v.toNat % 256) = false → s.bit (CRC_Un_BIND_EN n.val) = false →
    exec (.crcBindWrite n v) s = .next (answered (s.wrWord (CRC_Un_BIND n.val) v, .ok))) ∧
  (∀ (core : Fin 2) (e : BitVec 15) (j : Word) ws r, e.toNat = s.rd CCX_STAT_CEPOCH → core.val ≠ activeCore s →
    coreState s core.val = 4 → twinIn j.toNat s.ccx.applied = none → exec (.writeGroupApply core e j ws r) s
      = .next { s with ccx := { s.ccx with standins := s.ccx.standins ++ [⟨j.toNat, ws, r⟩] } }) ∧
  (∀ (core : Fin 2) (e : BitVec 15) (j : Word) ws r, e.toNat = s.rd CCX_STAT_CEPOCH → core.val = activeCore s →
    coreState s (1 - activeCore s) ≠ 4 → s.ccx.standins = [] → s.ccx.grpWait = [] →
    exec (.writeGroupApply core e j ws r) s = .next (drainWait (applyGroup ⟨j.toNat, ws, r⟩ s))) ∧
  (∀ body l k t, s.bit CCX_CKPT_WRITING → s.rd CCX_CKPT_TARGET = 0 → l = entriesAfter s.ccx.writingJ s.ccx.journal →
    journalWords l < 32768 → s.ccx.ckClean →
    k = writtenSlot s.ccx.writingJ (s.rd CCX_STAT_CEPOCH) ((body.map BitVec.toNat).take 32760) →
    t = { s with ccx := { s.ccx with journal := l, basteHold := false, slot0 := k } } →
    exec (.checkpointCommit body) s = .next (((((((t.wr CCX_CKPT_WRITING 0).wr CCX_CKPT_NEWEST 0).wr CCX_CKPT_VALID0 1).setReg CCX_JBASE
      (BitVec.ofNat 32 s.ccx.writingJ)).wr CCX_JFILL_WORDS (journalWords l)).wr DEV_GUARANTEE_CKPT_COMMITTED 1).wr
      DEV_GUARANTEE_JOURNAL_UNBROKEN 1)) ∧
  (∀ (core : Fin 2) m t u, newestSlot s = some m → coreState s core.val = 2 → s.bit CCX_CTRL_AUTO_BASTE → activeRuns s →
    s.ccx.basteHold = false → t = ((s.wr (coreFld core.val) 3).wr CCX_BASTE_RESULT 1).wr CCX_BASTE_CORE core.val →
    u = t.wr CCX_BASTE_LEFT (min 0xFFFFFF (entriesAfter (if m = 0 then s.ccx.slot0.jck else s.ccx.slot1.jck) s.ccx.journal).length) →
    exec (.basteStart core []) s = .next { u with ccx := { u.ccx with basteSlot := m } }) ∧
  (∀ core : Fin 2, coreState s core.val = 3 → s.rd CCX_BASTE_RESULT = 1 → exec (.basteJoin core []) s
    = .next (((s.wr (coreFld core.val) 4).wr CCX_BASTE_RESULT 2).wr CCX_BASTE_LEFT 0)) ∧
  (exec .basteTimeout s = .next (basteFail 1 s)) ∧
  (∀ (k : Fin 6) since, k.val < s.rd LE0_CFG_N_PH → 50 ≤ since →
    exec (.phaseThresholdCrossing k true since) s = .next (setPhase k.val false s)) ∧
  (∀ (k : Fin 6) t f, k.val < s.rd LE0_CFG_N_PH → s.bit LE0_STAT_STOPPED = false → storeGet false s.loops.ocThis k.val = true →
    s.loops.ocRaised → t = setPhase k.val false (s.bump LE0_COUNT_OC_EVENTS) →
    f = ({ t.loops with tripped := storeSet false t.loops.tripped k.val true, ocThis := storeSet false t.loops.ocThis k.val true,
                        ocRaised := true } : LoopSt) →
    exec (.phaseOcTrip k) s = .next { t with loops := f }) ∧
  (∀ k : Fin 6, 16 ≤ storeGet 0 s.loops.ocRun k.val → railRuns s → exec (.phaseOcPersist k) s = .next (raiseSev 0x55 3 k.val
    (railForceStop { s with loops := { s.loops with ocRun := storeSet 0 s.loops.ocRun k.val 0 } }))) ∧
  (s.bit LE0_CTRL_AUTO → s.rd LE0_STAT_UNIT = 0 → s.bit LE0_STAT_STOPPED → s.bit LE0_STAT_EN_PENDING = false →
    s.rd DEV_LADDER_RUNG ≠ 4 → exec (.railAutoStart true) s
      = .next (railUnit.start (((s.wr SMC_STAT_SAFE_SNS 1).wr LE0_CTRL_EN 1).wr LE0_STAT_UNIT 1))) ∧
  (∀ x : Int, x = s.rd LE0_SP_SP_MV * 4 → s.rd LE0_STAT_UNIT = 1 → s.loops.rail.q = x → s.loops.rail.ref = x →
    100 ≤ s.loops.okRun → exec .railOn s = .next (s.wr LE0_STAT_UNIT 2)) ∧
  (s.rd LE0_STAT_UNIT = 1 →
    exec .railStartTimeout s = .next ((allLow (raise 0x54 (vUsed s / 4) s)).wr LE0_STAT_UNIT 3)) ∧
  (∀ f, s.rd LE0_STAT_UNIT = 3 → s.bit LE0_STAT_STOPPED = false → s.smc.offWait = false → s.bit LE0_STAT_EN_PENDING = false →
    f = ({ s.loops with iFf := 0, ffNext := none, thHi := 0, thLo := 0 } : LoopSt) → exec .railStopComplete s
      = .next (((({ s with loops := f } : State).wr LE0_STAT_STOPPED 1).wr LE0_CURRENT_I_FF 0).wr LE0_STAT_UNIT 0)) ∧
  (∀ b k, k = boolNat b → railRuns s → s.loops.fbClr = 0 → senseOk s k → senseOk s (1 - k) → lossNow s (1 - k) = false →
    frozenNow s (1 - k) = false → senseUsed s = k →
    (lossNow s k → exec (.railSenseLost b) s
      = .next (raiseSev 0x50 1 k ((s.setW1c LE0_FB (2 ^ k)).bump LE0_COUNT_FB_SWITCHES))) ∧
    (frozenNow s k → exec (.railSenseFrozen b) s
      = .next (raiseSev 0x51 1 k ((s.setW1c LE0_FB (2 ^ (k + 2))).bump LE0_COUNT_FB_SWITCHES)))) ∧
  (10000 ≤ s.loops.clampRun → s.loops.satDone = false → exec .loopIntSat s
    = .next (raise 0x52 (s.rd LE0_STAT_SET_ACT) { s with loops := { s.loops with satDone := true } })) ∧
  (∀ b k t, k = boolNat b → railRuns s → senseOk s k → s.rd LE0_SUPV_OVUV_N ≤ storeGet 0 s.loops.ovRun k → s.loops.ovHold = false →
    t = allLow s → exec (.railOv b) s
      = .next (raise 0x53 (storeGet 0 s.loops.vSense k / 4) { t with loops := { t.loops with ovHold := true } })) ∧
  (s.rd LE0_STAT_UNIT = 2 → s.rd LE0_SUPV_OVUV_N ≤ s.loops.uvRun → s.loops.uvDone = false → exec .railUv s
    = .next (raise 0x54 (vUsed s / 4) { s with loops := { s.loops with uvDone := true } })) ∧
  (s.bit LE0_STAT_HOLD → s.loops.holdReq ≠ 1 → exec .loopHoldExpiry s = .next (clampInt (s.wr LE0_STAT_HOLD 0)))

/-- FAULT_READ answers history entries from an HSEQ on, the registers of a run of sources, or the eight summary registers; FAULT_CLEAR clears
what its code names, and an unassigned source or code is BAD_PARAM (R431, R432). -/
def Obligations.FaultReadAndClear : Prop := ∀ (c : Cmd) (s t : State),
  (admits .faultRead c s → t = admitted .faultRead c s →
    (c.p0 < 127 → (histFrom (c.w 1) t.fcr.hist).take (c.p0 + 1) = [] →
      exec (.faultRead c) s = .next (completed .faultRead c s (okW t [t.rd FCR_HIST_STAT_NEXT_HSEQ]))) ∧
    (∀ e l, c.p0 < 127 → (histFrom (c.w 1) t.fcr.hist).take (c.p0 + 1) = e :: l → exec (.faultRead c) s
      = .next (completed .faultRead c s (okW t (e.w3 % 65536 :: (e :: l).flatMap (fun x => [x.w0, x.w1, x.w2, x.w3]))))) ∧
    (∀ n, c.p0 = 4096 + n → n ≤ 120 → c.w 1 + n ≤ 0x78 → exec (.faultRead c) s
      = .next (completed .faultRead c s (okW t ((List.range (n + 1)).flatMap (fun i => sourceWords t (c.w 1 + i)))))) ∧
    (c.p0 = 8192 → c.w 1 = 0 → exec (.faultRead c) s = .next (completed .faultRead c s (okW t ([FCR_STAT, FCR_HIST_STAT,
      FCR_ALIVE, FCR_ALIVE_FN, FCR_FIRSTn 0, FCR_FIRSTn 1, FCR_FIRSTn 2, FCR_FIRSTn 3].map (fun a => (t.reg a).toNat))))) ∧
    (c.p0 / 256 % 16 ≠ 0 ∨ 3 ≤ c.p0 / 4096 ∨ (c.p0 / 4096 = 2 ∧ (c.p0 ≠ 8192 ∨ c.w 1 ≠ 0)) →
      exec (.faultRead c) s = .next (completed .faultRead c s (ans t .badParam)))) ∧
  (admits .faultClear c s → t = admitted .faultClear c s →
    (∀ n, c.p0 = 4096 + n → n < 256 → sourceAssigned n → exec (.faultClear c) s = .next (completed .faultClear c s
      (ok { t with fcr := { t.fcr with wins := storeSet [] t.fcr.wins n [] } }))) ∧
    (∀ n, c.p0 = 4096 + n → n < 256 → sourceAssigned n = false →
      exec (.faultClear c) s = .next (completed .faultClear c s (ans t .badParam))) ∧
    (∀ n < 256,
      (c.p0 = 8192 + n → exec (.faultClear c) s = .next (completed .faultClear c s
        (ok { t with fcr := { t.fcr with wins := [] } }))) ∧
      (c.p0 = 12288 + n → exec (.faultClear c) s = .next (completed .faultClear c s (ok (t.wr FCR_STAT_FROZEN 0)))) ∧
      (c.p0 = 16384 + n → exec (.faultClear c) s = .next (completed .faultClear c s
        (ok ({ t with fcr := { t.fcr with hist := [] } }.wr FCR_STAT_FILL 0)))) ∧
      (c.p0 = 20480 + n → exec (.faultClear c) s = .next (completed .faultClear c s (ok (t.wr FCR_STAT_MAX_SEV 0))))) ∧
    (c.p0 / 4096 = 0 ∨ 6 ≤ c.p0 / 4096 ∨ c.p0 / 256 % 16 ≠ 0 → exec (.faultClear c) s = .next (completed .faultClear c s (ans t .badParam))))

/-- FAULT_CFG sets both words of a source. Once the safety parameter block is sealed nothing may be weakened; the protected sources may never
be weakened below their defaults; a reserved bit, an undefined rung or an unassigned source is BAD_PARAM (R433, R434). -/
def Obligations.FaultSettings : Prop := ∀ (c : Cmd) (s t : State) (cfg rct : Word) (id : Nat),
  admits .faultCfg c s → t = admitted .faultCfg c s → id = c.p0 % 256 → cfg = c.words.getD 0 0#32 → rct = c.words.getD 1 0#32 →
  (256 ≤ c.p0 ∨ sourceAssigned id = false ∨ bits cfg 29 24 ≠ 0 ∨ bits cfg 15 12 ≠ 0 ∨ bits cfg 23 16 = 0 ∨ rctBad rct →
    exec (.faultCfg c) s = .next (completed .faultCfg c s (ans t .badParam))) ∧
  (c.p0 < 256 → sourceAssigned id → bits cfg 29 24 = 0 → bits cfg 15 12 = 0 → bits cfg 23 16 ≠ 0 → rctBad rct = false →
    (t.bit DEV_CONFIG_SPB_SEALED → weakens (t.reg (FCR_SRCn_CFG id)) (t.reg (FCR_SRCn_RCT id)) cfg rct →
      exec (.faultCfg c) s = .next (completed .faultCfg c s (ans t .notPrivileged))) ∧
    (t.bit DEV_CONFIG_SPB_SEALED = false → protectedSource id →
      weakens (regReset (FCR_SRCn_CFG id)) (regReset (FCR_SRCn_RCT id)) cfg rct →
      exec (.faultCfg c) s = .next (completed .faultCfg c s (ans t .badParam))) ∧
    ((t.bit DEV_CONFIG_SPB_SEALED → weakens (t.reg (FCR_SRCn_CFG id)) (t.reg (FCR_SRCn_RCT id)) cfg rct = false) →
      (protectedSource id → weakens (regReset (FCR_SRCn_CFG id)) (regReset (FCR_SRCn_RCT id)) cfg rct = false) →
      exec (.faultCfg c) s
        = .next (completed .faultCfg c s (ok ((t.setReg (FCR_SRCn_CFG id) cfg).setReg (FCR_SRCn_RCT id) rct)))))
end

