-- ==== Sys2Proof/Laws/State.lean ====
section
/-!
SUPPORT. The laws of the register and store operations: a read after a write gives the value written, a write leaves every
other place alone, and every write keeps the canonical form. One simp lemma per field per update of the state.
-/
namespace Sys2Proof.Machine

/-! ### The other fields under a register write -/
@[simp] theorem State.setReg_act (s : State) (a : Nat) (v : Word) : (s.setReg a v).act = s.act := rfl
@[simp] theorem State.setReg_now (s : State) (a : Nat) (v : Word) : (s.setReg a v).now = s.now := rfl
@[simp] theorem State.setReg_freeCtr (s : State) (a : Nat) (v : Word) : (s.setReg a v).freeCtr = s.freeCtr := rfl
@[simp] theorem State.setReg_setAt (s : State) (a : Nat) (v : Word) : (s.setReg a v).setAt = s.setAt := rfl
@[simp] theorem State.setReg_setMask (s : State) (a : Nat) (v : Word) : (s.setReg a v).setMask = s.setMask := rfl
@[simp] theorem State.setReg_pending (s : State) (a : Nat) (v : Word) : (s.setReg a v).pending = s.pending := rfl
@[simp] theorem State.setReg_fcr (s : State) (a : Nat) (v : Word) : (s.setReg a v).fcr = s.fcr := rfl
@[simp] theorem State.setReg_cmd (s : State) (a : Nat) (v : Word) : (s.setReg a v).cmd = s.cmd := rfl
@[simp] theorem State.setReg_ccx (s : State) (a : Nat) (v : Word) : (s.setReg a v).ccx = s.ccx := rfl
@[simp] theorem State.setReg_smc (s : State) (a : Nat) (v : Word) : (s.setReg a v).smc = s.smc := rfl
@[simp] theorem State.setReg_frame (s : State) (a : Nat) (v : Word) : (s.setReg a v).frame = s.frame := rfl
@[simp] theorem State.setReg_seq (s : State) (a : Nat) (v : Word) : (s.setReg a v).seq = s.seq := rfl
@[simp] theorem State.setReg_pxa (s : State) (a : Nat) (v : Word) : (s.setReg a v).pxa = s.pxa := rfl
@[simp] theorem State.setReg_cmp (s : State) (a : Nat) (v : Word) : (s.setReg a v).cmp = s.cmp := rfl
@[simp] theorem State.setReg_smem (s : State) (a : Nat) (v : Word) : (s.setReg a v).smem = s.smem := rfl
@[simp] theorem State.setReg_pxh (s : State) (a : Nat) (v : Word) : (s.setReg a v).pxh = s.pxh := rfl
@[simp] theorem State.setReg_thm (s : State) (a : Nat) (v : Word) : (s.setReg a v).thm = s.thm := rfl
@[simp] theorem State.setReg_link (s : State) (a : Nat) (v : Word) : (s.setReg a v).link = s.link := rfl
@[simp] theorem State.setReg_loops (s : State) (a : Nat) (v : Word) : (s.setReg a v).loops = s.loops := rfl
@[simp] theorem State.setReg_adc (s : State) (a : Nat) (v : Word) : (s.setReg a v).adc = s.adc := rfl
@[simp] theorem State.setReg_pmu (s : State) (a : Nat) (v : Word) : (s.setReg a v).pmu = s.pmu := rfl
@[simp] theorem State.setReg_integ (s : State) (a : Nat) (v : Word) : (s.setReg a v).integ = s.integ := rfl

@[simp] theorem State.wr_act (s : State) (f : Fld) (v : Nat) : (s.wr f v).act = s.act := rfl
@[simp] theorem State.wr_now (s : State) (f : Fld) (v : Nat) : (s.wr f v).now = s.now := rfl
@[simp] theorem State.wr_freeCtr (s : State) (f : Fld) (v : Nat) : (s.wr f v).freeCtr = s.freeCtr := rfl
@[simp] theorem State.wr_setAt (s : State) (f : Fld) (v : Nat) : (s.wr f v).setAt = s.setAt := rfl
@[simp] theorem State.wr_setMask (s : State) (f : Fld) (v : Nat) : (s.wr f v).setMask = s.setMask := rfl
@[simp] theorem State.wr_pending (s : State) (f : Fld) (v : Nat) : (s.wr f v).pending = s.pending := rfl
@[simp] theorem State.wr_fcr (s : State) (f : Fld) (v : Nat) : (s.wr f v).fcr = s.fcr := rfl
@[simp] theorem State.wr_cmd (s : State) (f : Fld) (v : Nat) : (s.wr f v).cmd = s.cmd := rfl
@[simp] theorem State.wr_ccx (s : State) (f : Fld) (v : Nat) : (s.wr f v).ccx = s.ccx := rfl
@[simp] theorem State.wr_smc (s : State) (f : Fld) (v : Nat) : (s.wr f v).smc = s.smc := rfl
@[simp] theorem State.wr_frame (s : State) (f : Fld) (v : Nat) : (s.wr f v).frame = s.frame := rfl
@[simp] theorem State.wr_seq (s : State) (f : Fld) (v : Nat) : (s.wr f v).seq = s.seq := rfl
@[simp] theorem State.wr_pxa (s : State) (f : Fld) (v : Nat) : (s.wr f v).pxa = s.pxa := rfl
@[simp] theorem State.wr_cmp (s : State) (f : Fld) (v : Nat) : (s.wr f v).cmp = s.cmp := rfl
@[simp] theorem State.wr_smem (s : State) (f : Fld) (v : Nat) : (s.wr f v).smem = s.smem := rfl
@[simp] theorem State.wr_pxh (s : State) (f : Fld) (v : Nat) : (s.wr f v).pxh = s.pxh := rfl
@[simp] theorem State.wr_thm (s : State) (f : Fld) (v : Nat) : (s.wr f v).thm = s.thm := rfl
@[simp] theorem State.wr_link (s : State) (f : Fld) (v : Nat) : (s.wr f v).link = s.link := rfl
@[simp] theorem State.wr_loops (s : State) (f : Fld) (v : Nat) : (s.wr f v).loops = s.loops := rfl
@[simp] theorem State.wr_adc (s : State) (f : Fld) (v : Nat) : (s.wr f v).adc = s.adc := rfl
@[simp] theorem State.wr_pmu (s : State) (f : Fld) (v : Nat) : (s.wr f v).pmu = s.pmu := rfl
@[simp] theorem State.wr_integ (s : State) (f : Fld) (v : Nat) : (s.wr f v).integ = s.integ := rfl

@[simp] theorem State.wrWord_act (s : State) (a : Nat) (v : Word) : (s.wrWord a v).act = s.act := rfl
@[simp] theorem State.wrWord_now (s : State) (a : Nat) (v : Word) : (s.wrWord a v).now = s.now := rfl
@[simp] theorem State.wrWord_freeCtr (s : State) (a : Nat) (v : Word) : (s.wrWord a v).freeCtr = s.freeCtr := rfl
@[simp] theorem State.wrWord_setAt (s : State) (a : Nat) (v : Word) : (s.wrWord a v).setAt = s.setAt := rfl
@[simp] theorem State.wrWord_setMask (s : State) (a : Nat) (v : Word) : (s.wrWord a v).setMask = s.setMask := rfl
@[simp] theorem State.wrWord_pending (s : State) (a : Nat) (v : Word) : (s.wrWord a v).pending = s.pending := rfl
@[simp] theorem State.wrWord_fcr (s : State) (a : Nat) (v : Word) : (s.wrWord a v).fcr = s.fcr := rfl
@[simp] theorem State.wrWord_cmd (s : State) (a : Nat) (v : Word) : (s.wrWord a v).cmd = s.cmd := rfl
@[simp] theorem State.wrWord_ccx (s : State) (a : Nat) (v : Word) : (s.wrWord a v).ccx = s.ccx := rfl
@[simp] theorem State.wrWord_smc (s : State) (a : Nat) (v : Word) : (s.wrWord a v).smc = s.smc := rfl
@[simp] theorem State.wrWord_frame (s : State) (a : Nat) (v : Word) : (s.wrWord a v).frame = s.frame := rfl
@[simp] theorem State.wrWord_seq (s : State) (a : Nat) (v : Word) : (s.wrWord a v).seq = s.seq := rfl
@[simp] theorem State.wrWord_pxa (s : State) (a : Nat) (v : Word) : (s.wrWord a v).pxa = s.pxa := rfl
@[simp] theorem State.wrWord_cmp (s : State) (a : Nat) (v : Word) : (s.wrWord a v).cmp = s.cmp := rfl
@[simp] theorem State.wrWord_smem (s : State) (a : Nat) (v : Word) : (s.wrWord a v).smem = s.smem := rfl
@[simp] theorem State.wrWord_pxh (s : State) (a : Nat) (v : Word) : (s.wrWord a v).pxh = s.pxh := rfl
@[simp] theorem State.wrWord_thm (s : State) (a : Nat) (v : Word) : (s.wrWord a v).thm = s.thm := rfl
@[simp] theorem State.wrWord_link (s : State) (a : Nat) (v : Word) : (s.wrWord a v).link = s.link := rfl
@[simp] theorem State.wrWord_loops (s : State) (a : Nat) (v : Word) : (s.wrWord a v).loops = s.loops := rfl
@[simp] theorem State.wrWord_adc (s : State) (a : Nat) (v : Word) : (s.wrWord a v).adc = s.adc := rfl
@[simp] theorem State.wrWord_pmu (s : State) (a : Nat) (v : Word) : (s.wrWord a v).pmu = s.pmu := rfl
@[simp] theorem State.wrWord_integ (s : State) (a : Nat) (v : Word) : (s.wrWord a v).integ = s.integ := rfl

@[simp] theorem State.bumpBy_act (s : State) (f : Fld) (n : Nat) : (s.bumpBy f n).act = s.act := rfl
@[simp] theorem State.bumpBy_now (s : State) (f : Fld) (n : Nat) : (s.bumpBy f n).now = s.now := rfl
@[simp] theorem State.bumpBy_freeCtr (s : State) (f : Fld) (n : Nat) : (s.bumpBy f n).freeCtr = s.freeCtr := rfl
@[simp] theorem State.bumpBy_setAt (s : State) (f : Fld) (n : Nat) : (s.bumpBy f n).setAt = s.setAt := rfl
@[simp] theorem State.bumpBy_setMask (s : State) (f : Fld) (n : Nat) : (s.bumpBy f n).setMask = s.setMask := rfl
@[simp] theorem State.bumpBy_pending (s : State) (f : Fld) (n : Nat) : (s.bumpBy f n).pending = s.pending := rfl
@[simp] theorem State.bumpBy_fcr (s : State) (f : Fld) (n : Nat) : (s.bumpBy f n).fcr = s.fcr := rfl
@[simp] theorem State.bumpBy_cmd (s : State) (f : Fld) (n : Nat) : (s.bumpBy f n).cmd = s.cmd := rfl
@[simp] theorem State.bumpBy_ccx (s : State) (f : Fld) (n : Nat) : (s.bumpBy f n).ccx = s.ccx := rfl
@[simp] theorem State.bumpBy_smc (s : State) (f : Fld) (n : Nat) : (s.bumpBy f n).smc = s.smc := rfl
@[simp] theorem State.bumpBy_frame (s : State) (f : Fld) (n : Nat) : (s.bumpBy f n).frame = s.frame := rfl
@[simp] theorem State.bumpBy_seq (s : State) (f : Fld) (n : Nat) : (s.bumpBy f n).seq = s.seq := rfl
@[simp] theorem State.bumpBy_pxa (s : State) (f : Fld) (n : Nat) : (s.bumpBy f n).pxa = s.pxa := rfl
@[simp] theorem State.bumpBy_cmp (s : State) (f : Fld) (n : Nat) : (s.bumpBy f n).cmp = s.cmp := rfl
@[simp] theorem State.bumpBy_smem (s : State) (f : Fld) (n : Nat) : (s.bumpBy f n).smem = s.smem := rfl
@[simp] theorem State.bumpBy_pxh (s : State) (f : Fld) (n : Nat) : (s.bumpBy f n).pxh = s.pxh := rfl
@[simp] theorem State.bumpBy_thm (s : State) (f : Fld) (n : Nat) : (s.bumpBy f n).thm = s.thm := rfl
@[simp] theorem State.bumpBy_link (s : State) (f : Fld) (n : Nat) : (s.bumpBy f n).link = s.link := rfl
@[simp] theorem State.bumpBy_loops (s : State) (f : Fld) (n : Nat) : (s.bumpBy f n).loops = s.loops := rfl
@[simp] theorem State.bumpBy_adc (s : State) (f : Fld) (n : Nat) : (s.bumpBy f n).adc = s.adc := rfl
@[simp] theorem State.bumpBy_pmu (s : State) (f : Fld) (n : Nat) : (s.bumpBy f n).pmu = s.pmu := rfl
@[simp] theorem State.bumpBy_integ (s : State) (f : Fld) (n : Nat) : (s.bumpBy f n).integ = s.integ := rfl

@[simp] theorem State.bump_act (s : State) (f : Fld) : (s.bump f).act = s.act := rfl
@[simp] theorem State.bump_now (s : State) (f : Fld) : (s.bump f).now = s.now := rfl
@[simp] theorem State.bump_freeCtr (s : State) (f : Fld) : (s.bump f).freeCtr = s.freeCtr := rfl
@[simp] theorem State.bump_setAt (s : State) (f : Fld) : (s.bump f).setAt = s.setAt := rfl
@[simp] theorem State.bump_setMask (s : State) (f : Fld) : (s.bump f).setMask = s.setMask := rfl
@[simp] theorem State.bump_pending (s : State) (f : Fld) : (s.bump f).pending = s.pending := rfl
@[simp] theorem State.bump_fcr (s : State) (f : Fld) : (s.bump f).fcr = s.fcr := rfl
@[simp] theorem State.bump_cmd (s : State) (f : Fld) : (s.bump f).cmd = s.cmd := rfl
@[simp] theorem State.bump_ccx (s : State) (f : Fld) : (s.bump f).ccx = s.ccx := rfl
@[simp] theorem State.bump_smc (s : State) (f : Fld) : (s.bump f).smc = s.smc := rfl
@[simp] theorem State.bump_frame (s : State) (f : Fld) : (s.bump f).frame = s.frame := rfl
@[simp] theorem State.bump_seq (s : State) (f : Fld) : (s.bump f).seq = s.seq := rfl
@[simp] theorem State.bump_pxa (s : State) (f : Fld) : (s.bump f).pxa = s.pxa := rfl
@[simp] theorem State.bump_cmp (s : State) (f : Fld) : (s.bump f).cmp = s.cmp := rfl
@[simp] theorem State.bump_smem (s : State) (f : Fld) : (s.bump f).smem = s.smem := rfl
@[simp] theorem State.bump_pxh (s : State) (f : Fld) : (s.bump f).pxh = s.pxh := rfl
@[simp] theorem State.bump_thm (s : State) (f : Fld) : (s.bump f).thm = s.thm := rfl
@[simp] theorem State.bump_link (s : State) (f : Fld) : (s.bump f).link = s.link := rfl
@[simp] theorem State.bump_loops (s : State) (f : Fld) : (s.bump f).loops = s.loops := rfl
@[simp] theorem State.bump_adc (s : State) (f : Fld) : (s.bump f).adc = s.adc := rfl
@[simp] theorem State.bump_pmu (s : State) (f : Fld) : (s.bump f).pmu = s.pmu := rfl
@[simp] theorem State.bump_integ (s : State) (f : Fld) : (s.bump f).integ = s.integ := rfl

@[simp] theorem State.setW1c_act (s : State) (a mask : Nat) : (s.setW1c a mask).act = s.act := rfl
@[simp] theorem State.setW1c_now (s : State) (a mask : Nat) : (s.setW1c a mask).now = s.now := rfl
@[simp] theorem State.setW1c_freeCtr (s : State) (a mask : Nat) : (s.setW1c a mask).freeCtr = s.freeCtr := rfl
@[simp] theorem State.setW1c_pending (s : State) (a mask : Nat) : (s.setW1c a mask).pending = s.pending := rfl
@[simp] theorem State.setW1c_fcr (s : State) (a mask : Nat) : (s.setW1c a mask).fcr = s.fcr := rfl
@[simp] theorem State.setW1c_cmd (s : State) (a mask : Nat) : (s.setW1c a mask).cmd = s.cmd := rfl
@[simp] theorem State.setW1c_ccx (s : State) (a mask : Nat) : (s.setW1c a mask).ccx = s.ccx := rfl
@[simp] theorem State.setW1c_smc (s : State) (a mask : Nat) : (s.setW1c a mask).smc = s.smc := rfl
@[simp] theorem State.setW1c_frame (s : State) (a mask : Nat) : (s.setW1c a mask).frame = s.frame := rfl
@[simp] theorem State.setW1c_seq (s : State) (a mask : Nat) : (s.setW1c a mask).seq = s.seq := rfl
@[simp] theorem State.setW1c_pxa (s : State) (a mask : Nat) : (s.setW1c a mask).pxa = s.pxa := rfl
@[simp] theorem State.setW1c_cmp (s : State) (a mask : Nat) : (s.setW1c a mask).cmp = s.cmp := rfl
@[simp] theorem State.setW1c_smem (s : State) (a mask : Nat) : (s.setW1c a mask).smem = s.smem := rfl
@[simp] theorem State.setW1c_pxh (s : State) (a mask : Nat) : (s.setW1c a mask).pxh = s.pxh := rfl
@[simp] theorem State.setW1c_thm (s : State) (a mask : Nat) : (s.setW1c a mask).thm = s.thm := rfl
@[simp] theorem State.setW1c_link (s : State) (a mask : Nat) : (s.setW1c a mask).link = s.link := rfl
@[simp] theorem State.setW1c_loops (s : State) (a mask : Nat) : (s.setW1c a mask).loops = s.loops := rfl
@[simp] theorem State.setW1c_adc (s : State) (a mask : Nat) : (s.setW1c a mask).adc = s.adc := rfl
@[simp] theorem State.setW1c_pmu (s : State) (a mask : Nat) : (s.setW1c a mask).pmu = s.pmu := rfl
@[simp] theorem State.setW1c_integ (s : State) (a mask : Nat) : (s.setW1c a mask).integ = s.integ := rfl
@[simp] theorem State.setW1c_setAt (s : State) (a mask : Nat) : (s.setW1c a mask).setAt = s.now := rfl

@[simp] theorem State.apart_regs (s : State) (tie : Bool) : (s.apart tie).regs = s.regs := by cases tie <;> rfl
@[simp] theorem State.apart_act (s : State) (tie : Bool) : (s.apart tie).act = s.act := by cases tie <;> rfl
@[simp] theorem State.apart_now (s : State) (tie : Bool) : (s.apart tie).now = s.now := by cases tie <;> rfl
@[simp] theorem State.apart_freeCtr (s : State) (tie : Bool) : (s.apart tie).freeCtr = s.freeCtr := by cases tie <;> rfl
@[simp] theorem State.apart_setAt (s : State) (tie : Bool) : (s.apart tie).setAt = s.setAt := by cases tie <;> rfl
@[simp] theorem State.apart_pending (s : State) (tie : Bool) : (s.apart tie).pending = s.pending := by cases tie <;> rfl
@[simp] theorem State.apart_fcr (s : State) (tie : Bool) : (s.apart tie).fcr = s.fcr := by cases tie <;> rfl
@[simp] theorem State.apart_cmd (s : State) (tie : Bool) : (s.apart tie).cmd = s.cmd := by cases tie <;> rfl
@[simp] theorem State.apart_ccx (s : State) (tie : Bool) : (s.apart tie).ccx = s.ccx := by cases tie <;> rfl
@[simp] theorem State.apart_smc (s : State) (tie : Bool) : (s.apart tie).smc = s.smc := by cases tie <;> rfl
@[simp] theorem State.apart_frame (s : State) (tie : Bool) : (s.apart tie).frame = s.frame := by cases tie <;> rfl
@[simp] theorem State.apart_seq (s : State) (tie : Bool) : (s.apart tie).seq = s.seq := by cases tie <;> rfl
@[simp] theorem State.apart_pxa (s : State) (tie : Bool) : (s.apart tie).pxa = s.pxa := by cases tie <;> rfl
@[simp] theorem State.apart_cmp (s : State) (tie : Bool) : (s.apart tie).cmp = s.cmp := by cases tie <;> rfl
@[simp] theorem State.apart_smem (s : State) (tie : Bool) : (s.apart tie).smem = s.smem := by cases tie <;> rfl
@[simp] theorem State.apart_pxh (s : State) (tie : Bool) : (s.apart tie).pxh = s.pxh := by cases tie <;> rfl
@[simp] theorem State.apart_thm (s : State) (tie : Bool) : (s.apart tie).thm = s.thm := by cases tie <;> rfl
@[simp] theorem State.apart_link (s : State) (tie : Bool) : (s.apart tie).link = s.link := by cases tie <;> rfl
@[simp] theorem State.apart_loops (s : State) (tie : Bool) : (s.apart tie).loops = s.loops := by cases tie <;> rfl
@[simp] theorem State.apart_adc (s : State) (tie : Bool) : (s.apart tie).adc = s.adc := by cases tie <;> rfl
@[simp] theorem State.apart_pmu (s : State) (tie : Bool) : (s.apart tie).pmu = s.pmu := by cases tie <;> rfl
@[simp] theorem State.apart_integ (s : State) (tie : Bool) : (s.apart tie).integ = s.integ := by cases tie <;> rfl
@[simp] theorem State.apart_true (s : State) : s.apart true = s := rfl

@[simp] theorem State.setBit_act (s : State) (f : Fld) (i : Nat) : (s.setBit f i).act = s.act := by
  unfold State.setBit; split <;> rfl
@[simp] theorem State.setBit_now (s : State) (f : Fld) (i : Nat) : (s.setBit f i).now = s.now := by
  unfold State.setBit; split <;> rfl
@[simp] theorem State.setBit_freeCtr (s : State) (f : Fld) (i : Nat) : (s.setBit f i).freeCtr = s.freeCtr := by
  unfold State.setBit; split <;> rfl
@[simp] theorem State.setBit_setAt (s : State) (f : Fld) (i : Nat) : (s.setBit f i).setAt = s.setAt := by
  unfold State.setBit; split <;> rfl
@[simp] theorem State.setBit_setMask (s : State) (f : Fld) (i : Nat) : (s.setBit f i).setMask = s.setMask := by
  unfold State.setBit; split <;> rfl
@[simp] theorem State.setBit_pending (s : State) (f : Fld) (i : Nat) : (s.setBit f i).pending = s.pending := by
  unfold State.setBit; split <;> rfl
@[simp] theorem State.setBit_fcr (s : State) (f : Fld) (i : Nat) : (s.setBit f i).fcr = s.fcr := by
  unfold State.setBit; split <;> rfl
@[simp] theorem State.setBit_cmd (s : State) (f : Fld) (i : Nat) : (s.setBit f i).cmd = s.cmd := by
  unfold State.setBit; split <;> rfl
@[simp] theorem State.setBit_ccx (s : State) (f : Fld) (i : Nat) : (s.setBit f i).ccx = s.ccx := by
  unfold State.setBit; split <;> rfl
@[simp] theorem State.setBit_smc (s : State) (f : Fld) (i : Nat) : (s.setBit f i).smc = s.smc := by
  unfold State.setBit; split <;> rfl
@[simp] theorem State.setBit_frame (s : State) (f : Fld) (i : Nat) : (s.setBit f i).frame = s.frame := by
  unfold State.setBit; split <;> rfl
@[simp] theorem State.setBit_seq (s : State) (f : Fld) (i : Nat) : (s.setBit f i).seq = s.seq := by
  unfold State.setBit; split <;> rfl
@[simp] theorem State.setBit_pxa (s : State) (f : Fld) (i : Nat) : (s.setBit f i).pxa = s.pxa := by
  unfold State.setBit; split <;> rfl
@[simp] theorem State.setBit_cmp (s : State) (f : Fld) (i : Nat) : (s.setBit f i).cmp = s.cmp := by
  unfold State.setBit; split <;> rfl
@[simp] theorem State.setBit_smem (s : State) (f : Fld) (i : Nat) : (s.setBit f i).smem = s.smem := by
  unfold State.setBit; split <;> rfl
@[simp] theorem State.setBit_pxh (s : State) (f : Fld) (i : Nat) : (s.setBit f i).pxh = s.pxh := by
  unfold State.setBit; split <;> rfl
@[simp] theorem State.setBit_thm (s : State) (f : Fld) (i : Nat) : (s.setBit f i).thm = s.thm := by
  unfold State.setBit; split <;> rfl
@[simp] theorem State.setBit_link (s : State) (f : Fld) (i : Nat) : (s.setBit f i).link = s.link := by
  unfold State.setBit; split <;> rfl
@[simp] theorem State.setBit_loops (s : State) (f : Fld) (i : Nat) : (s.setBit f i).loops = s.loops := by
  unfold State.setBit; split <;> rfl
@[simp] theorem State.setBit_adc (s : State) (f : Fld) (i : Nat) : (s.setBit f i).adc = s.adc := by
  unfold State.setBit; split <;> rfl
@[simp] theorem State.setBit_pmu (s : State) (f : Fld) (i : Nat) : (s.setBit f i).pmu = s.pmu := by
  unfold State.setBit; split <;> rfl
@[simp] theorem State.setBit_integ (s : State) (f : Fld) (i : Nat) : (s.setBit f i).integ = s.integ := by
  unfold State.setBit; split <;> rfl

@[simp] theorem State.clrBit_act (s : State) (f : Fld) (i : Nat) : (s.clrBit f i).act = s.act := by
  unfold State.clrBit; split <;> rfl
@[simp] theorem State.clrBit_now (s : State) (f : Fld) (i : Nat) : (s.clrBit f i).now = s.now := by
  unfold State.clrBit; split <;> rfl
@[simp] theorem State.clrBit_freeCtr (s : State) (f : Fld) (i : Nat) : (s.clrBit f i).freeCtr = s.freeCtr := by
  unfold State.clrBit; split <;> rfl
@[simp] theorem State.clrBit_setAt (s : State) (f : Fld) (i : Nat) : (s.clrBit f i).setAt = s.setAt := by
  unfold State.clrBit; split <;> rfl
@[simp] theorem State.clrBit_setMask (s : State) (f : Fld) (i : Nat) : (s.clrBit f i).setMask = s.setMask := by
  unfold State.clrBit; split <;> rfl
@[simp] theorem State.clrBit_pending (s : State) (f : Fld) (i : Nat) : (s.clrBit f i).pending = s.pending := by
  unfold State.clrBit; split <;> rfl
@[simp] theorem State.clrBit_fcr (s : State) (f : Fld) (i : Nat) : (s.clrBit f i).fcr = s.fcr := by
  unfold State.clrBit; split <;> rfl
@[simp] theorem State.clrBit_cmd (s : State) (f : Fld) (i : Nat) : (s.clrBit f i).cmd = s.cmd := by
  unfold State.clrBit; split <;> rfl
@[simp] theorem State.clrBit_ccx (s : State) (f : Fld) (i : Nat) : (s.clrBit f i).ccx = s.ccx := by
  unfold State.clrBit; split <;> rfl
@[simp] theorem State.clrBit_smc (s : State) (f : Fld) (i : Nat) : (s.clrBit f i).smc = s.smc := by
  unfold State.clrBit; split <;> rfl
@[simp] theorem State.clrBit_frame (s : State) (f : Fld) (i : Nat) : (s.clrBit f i).frame = s.frame := by
  unfold State.clrBit; split <;> rfl
@[simp] theorem State.clrBit_seq (s : State) (f : Fld) (i : Nat) : (s.clrBit f i).seq = s.seq := by
  unfold State.clrBit; split <;> rfl
@[simp] theorem State.clrBit_pxa (s : State) (f : Fld) (i : Nat) : (s.clrBit f i).pxa = s.pxa := by
  unfold State.clrBit; split <;> rfl
@[simp] theorem State.clrBit_cmp (s : State) (f : Fld) (i : Nat) : (s.clrBit f i).cmp = s.cmp := by
  unfold State.clrBit; split <;> rfl
@[simp] theorem State.clrBit_smem (s : State) (f : Fld) (i : Nat) : (s.clrBit f i).smem = s.smem := by
  unfold State.clrBit; split <;> rfl
@[simp] theorem State.clrBit_pxh (s : State) (f : Fld) (i : Nat) : (s.clrBit f i).pxh = s.pxh := by
  unfold State.clrBit; split <;> rfl
@[simp] theorem State.clrBit_thm (s : State) (f : Fld) (i : Nat) : (s.clrBit f i).thm = s.thm := by
  unfold State.clrBit; split <;> rfl
@[simp] theorem State.clrBit_link (s : State) (f : Fld) (i : Nat) : (s.clrBit f i).link = s.link := by
  unfold State.clrBit; split <;> rfl
@[simp] theorem State.clrBit_loops (s : State) (f : Fld) (i : Nat) : (s.clrBit f i).loops = s.loops := by
  unfold State.clrBit; split <;> rfl
@[simp] theorem State.clrBit_adc (s : State) (f : Fld) (i : Nat) : (s.clrBit f i).adc = s.adc := by
  unfold State.clrBit; split <;> rfl
@[simp] theorem State.clrBit_pmu (s : State) (f : Fld) (i : Nat) : (s.clrBit f i).pmu = s.pmu := by
  unfold State.clrBit; split <;> rfl
@[simp] theorem State.clrBit_integ (s : State) (f : Fld) (i : Nat) : (s.clrBit f i).integ = s.integ := by
  unfold State.clrBit; split <;> rfl

@[simp] theorem State.takeAct_regs (s : State) (l : List Nat) : (s.takeAct l).regs = s.regs := rfl
@[simp] theorem State.takeAct_now (s : State) (l : List Nat) : (s.takeAct l).now = s.now := rfl
@[simp] theorem State.takeAct_freeCtr (s : State) (l : List Nat) : (s.takeAct l).freeCtr = s.freeCtr := rfl
@[simp] theorem State.takeAct_setAt (s : State) (l : List Nat) : (s.takeAct l).setAt = s.setAt := rfl
@[simp] theorem State.takeAct_setMask (s : State) (l : List Nat) : (s.takeAct l).setMask = s.setMask := rfl
@[simp] theorem State.takeAct_pending (s : State) (l : List Nat) : (s.takeAct l).pending = s.pending := rfl
@[simp] theorem State.takeAct_fcr (s : State) (l : List Nat) : (s.takeAct l).fcr = s.fcr := rfl
@[simp] theorem State.takeAct_cmd (s : State) (l : List Nat) : (s.takeAct l).cmd = s.cmd := rfl
@[simp] theorem State.takeAct_ccx (s : State) (l : List Nat) : (s.takeAct l).ccx = s.ccx := rfl
@[simp] theorem State.takeAct_smc (s : State) (l : List Nat) : (s.takeAct l).smc = s.smc := rfl
@[simp] theorem State.takeAct_frame (s : State) (l : List Nat) : (s.takeAct l).frame = s.frame := rfl
@[simp] theorem State.takeAct_seq (s : State) (l : List Nat) : (s.takeAct l).seq = s.seq := rfl
@[simp] theorem State.takeAct_pxa (s : State) (l : List Nat) : (s.takeAct l).pxa = s.pxa := rfl
@[simp] theorem State.takeAct_cmp (s : State) (l : List Nat) : (s.takeAct l).cmp = s.cmp := rfl
@[simp] theorem State.takeAct_smem (s : State) (l : List Nat) : (s.takeAct l).smem = s.smem := rfl
@[simp] theorem State.takeAct_pxh (s : State) (l : List Nat) : (s.takeAct l).pxh = s.pxh := rfl
@[simp] theorem State.takeAct_thm (s : State) (l : List Nat) : (s.takeAct l).thm = s.thm := rfl
@[simp] theorem State.takeAct_link (s : State) (l : List Nat) : (s.takeAct l).link = s.link := rfl
@[simp] theorem State.takeAct_loops (s : State) (l : List Nat) : (s.takeAct l).loops = s.loops := rfl
@[simp] theorem State.takeAct_adc (s : State) (l : List Nat) : (s.takeAct l).adc = s.adc := rfl
@[simp] theorem State.takeAct_pmu (s : State) (l : List Nat) : (s.takeAct l).pmu = s.pmu := rfl
@[simp] theorem State.takeAct_integ (s : State) (l : List Nat) : (s.takeAct l).integ = s.integ := rfl

@[simp] theorem State.fresh_regs (s : State) : s.fresh.2.regs = s.regs := rfl
@[simp] theorem State.fresh_act (s : State) : s.fresh.2.act = s.act := rfl
@[simp] theorem State.fresh_now (s : State) : s.fresh.2.now = s.now := rfl
@[simp] theorem State.fresh_setAt (s : State) : s.fresh.2.setAt = s.setAt := rfl
@[simp] theorem State.fresh_setMask (s : State) : s.fresh.2.setMask = s.setMask := rfl
@[simp] theorem State.fresh_pending (s : State) : s.fresh.2.pending = s.pending := rfl
@[simp] theorem State.fresh_fcr (s : State) : s.fresh.2.fcr = s.fcr := rfl
@[simp] theorem State.fresh_cmd (s : State) : s.fresh.2.cmd = s.cmd := rfl
@[simp] theorem State.fresh_ccx (s : State) : s.fresh.2.ccx = s.ccx := rfl
@[simp] theorem State.fresh_smc (s : State) : s.fresh.2.smc = s.smc := rfl
@[simp] theorem State.fresh_frame (s : State) : s.fresh.2.frame = s.frame := rfl
@[simp] theorem State.fresh_seq (s : State) : s.fresh.2.seq = s.seq := rfl
@[simp] theorem State.fresh_pxa (s : State) : s.fresh.2.pxa = s.pxa := rfl
@[simp] theorem State.fresh_cmp (s : State) : s.fresh.2.cmp = s.cmp := rfl
@[simp] theorem State.fresh_smem (s : State) : s.fresh.2.smem = s.smem := rfl
@[simp] theorem State.fresh_pxh (s : State) : s.fresh.2.pxh = s.pxh := rfl
@[simp] theorem State.fresh_thm (s : State) : s.fresh.2.thm = s.thm := rfl
@[simp] theorem State.fresh_link (s : State) : s.fresh.2.link = s.link := rfl
@[simp] theorem State.fresh_loops (s : State) : s.fresh.2.loops = s.loops := rfl
@[simp] theorem State.fresh_adc (s : State) : s.fresh.2.adc = s.adc := rfl
@[simp] theorem State.fresh_pmu (s : State) : s.fresh.2.pmu = s.pmu := rfl
@[simp] theorem State.fresh_integ (s : State) : s.fresh.2.integ = s.integ := rfl
@[simp] theorem State.fresh_freeCtr (s : State) : s.fresh.2.freeCtr = s.freeCtr + 1 := rfl
@[simp] theorem State.fresh_fst (s : State) : s.fresh.1 = s.freeCtr := rfl

/-! ### Stores -/

theorem storeGet_storeDel {α : Type} (d : α) (m : List (Nat × α)) (k j : Nat) :
    storeGet d (storeDel k m) j = if k = j then d else storeGet d m j := by
  induction m with
  | nil => simp [storeDel, storeGet]
  | cons p m ih => grind [storeDel, storeGet]

theorem storeGet_storeIns {α : Type} (d : α) (m : List (Nat × α)) (k j : Nat) (v : α)
    (h : ∀ p ∈ m, p.1 ≠ k) :
    storeGet d (storeIns k v m) j = if k = j then v else storeGet d m j := by
  induction m with
  | nil => simp [storeIns, storeGet]
  | cons p m ih => grind [storeIns, storeGet]

theorem storeDel_mem {α : Type} {m : List (Nat × α)} {k : Nat} {p : Nat × α} (h : p ∈ storeDel k m) :
    p ∈ m ∧ p.1 ≠ k := by
  induction m with
  | nil => simp [storeDel] at h
  | cons q m ih => grind [storeDel]

/-- A read after a write: the value written at its key, the old value elsewhere. -/
theorem storeGet_storeSet {α : Type} [DecidableEq α] (d : α) (m : List (Nat × α)) (k j : Nat) (v : α) :
    storeGet d (storeSet d m k v) j = if k = j then v else storeGet d m j := by
  unfold storeSet
  split
  · subst_vars; simp [storeGet_storeDel]
  · rw [storeGet_storeIns d _ _ _ _ (fun p hp => (storeDel_mem hp).2), storeGet_storeDel]
    grind

/-- The default read at another key may differ from the one the write compares with. -/
theorem storeGet_storeSet_ne {α : Type} [DecidableEq α] (d e : α) (m : List (Nat × α)) (k j : Nat) (v : α) (h : k ≠ j) :
    storeGet d (storeSet e m k v) j = storeGet d m j := by
  unfold storeSet
  split
  · simp [storeGet_storeDel, h]
  · rw [storeGet_storeIns d _ _ _ _ (fun p hp => (storeDel_mem hp).2), storeGet_storeDel]
    simp [h]

theorem storeWf_cons {α : Type} [DecidableEq α] (d : Nat → α) (p : Nat × α) (m : List (Nat × α)) :
    storeWf d (p :: m) = true ↔ p.2 ≠ d p.1 ∧ (∀ q ∈ m, p.1 < q.1) ∧ storeWf d m = true := by
  simp [storeWf, and_assoc]

theorem storeIns_mem {α : Type} {m : List (Nat × α)} {k : Nat} {v : α} {p : Nat × α} (h : p ∈ storeIns k v m) :
    p = (k, v) ∨ p ∈ m := by
  induction m with
  | nil => simpa [storeIns] using h
  | cons q m ih => grind [storeIns]

theorem storeWf_storeDel {α : Type} [DecidableEq α] (d : Nat → α) (m : List (Nat × α)) (k : Nat)
    (h : storeWf d m = true) : storeWf d (storeDel k m) = true := by
  induction m with
  | nil => simpa [storeDel] using h
  | cons p m ih =>
    rw [storeWf_cons] at h
    unfold storeDel
    split
    · exact ih h.2.2
    · rw [storeWf_cons]
      exact ⟨h.1, fun q hq => h.2.1 q (storeDel_mem hq).1, ih h.2.2⟩

theorem storeWf_storeIns {α : Type} [DecidableEq α] (d : Nat → α) (m : List (Nat × α)) (k : Nat) (v : α)
    (h : storeWf d m = true) (hv : v ≠ d k) (hk : ∀ p ∈ m, p.1 ≠ k) : storeWf d (storeIns k v m) = true := by
  induction m with
  | nil => simp [storeIns, storeWf, hv]
  | cons p m ih =>
    obtain ⟨a, w⟩ := p
    have hh := (storeWf_cons d _ _).1 h
    unfold storeIns
    split
    · rename_i hlt
      rw [storeWf_cons]
      refine ⟨hv, ?_, h⟩
      intro q hq
      rcases List.mem_cons.1 hq with rfl | hq
      · exact hlt
      · exact Nat.lt_trans hlt (hh.2.1 q hq)
    · rename_i hlt
      rw [storeWf_cons]
      refine ⟨hh.1, ?_, ih hh.2.2 (fun p hp => hk p (List.mem_cons_of_mem _ hp))⟩
      intro q hq
      have := hk (a, w) (List.mem_cons_self ..)
      rcases storeIns_mem hq with rfl | hq
      · simp only at this ⊢; omega
      · exact hh.2.1 q hq

/-- Every write keeps the canonical form. -/
theorem storeWf_storeSet {α : Type} [DecidableEq α] (d : Nat → α) (m : List (Nat × α)) (k : Nat) (v : α)
    (h : storeWf d m = true) : storeWf d (storeSet (d k) m k v) = true := by
  unfold storeSet
  split
  · exact storeWf_storeDel d m k h
  · rename_i hv
    exact storeWf_storeIns d _ k v (storeWf_storeDel d m k h) hv (fun p hp => (storeDel_mem hp).2)

/-! ### Registers -/

theorem State.reg_setReg (s : State) (a b : Nat) (v : Word) : (s.setReg a v).reg b = if a = b then v else s.reg b := by
  unfold State.reg State.setReg
  split
  · subst_vars; simp [storeGet_storeSet]
  · rename_i h; exact storeGet_storeSet_ne _ _ _ _ _ _ h

@[simp] theorem State.reg_setReg_same (s : State) (a : Nat) (v : Word) : (s.setReg a v).reg a = v := by
  simp [State.reg_setReg]

@[simp] theorem State.reg_apart (s : State) (tie : Bool) (a : Nat) : (s.apart tie).reg a = s.reg a := by cases tie <;> rfl

@[simp] theorem State.rd_apart (s : State) (tie : Bool) (f : Fld) : (s.apart tie).rd f = s.rd f := by cases tie <;> rfl

theorem State.reg_setW1c (s : State) (a mask b : Nat) :
    (s.setW1c a mask).reg b = if a = b then s.reg a ||| BitVec.ofNat 32 mask else s.reg b :=
  State.reg_setReg s a b _

theorem State.reg_wr_ne (s : State) (f : Fld) (v a : Nat) (h : f.addr ≠ a) : (s.wr f v).reg a = s.reg a := by
  simp [State.wr, State.reg_setReg, h]

@[simp] theorem State.reg_wr_same (s : State) (f : Fld) (v : Nat) :
    (s.wr f v).reg f.addr = setBits (s.reg f.addr) f.msb f.lsb v := by
  simp [State.wr]

theorem setBits_parts {w msb lsb : Nat} (v : Nat) (hw : w < 2 ^ 32) (h1 : lsb ≤ msb) (h2 : msb < 32) :
    w / 2 ^ (msb + 1) * 2 ^ (msb + 1) + v % 2 ^ (msb + 1 - lsb) * 2 ^ lsb + w % 2 ^ lsb < 2 ^ 32 := by
  have hp : 2 ^ (msb + 1) = 2 ^ (msb + 1 - lsb) * 2 ^ lsb := by rw [← Nat.pow_add]; congr 1; omega
  have hq : 2 ^ 32 = 2 ^ (32 - (msb + 1)) * 2 ^ (msb + 1) := by rw [← Nat.pow_add]; congr 1; omega
  have a1 : w / 2 ^ (msb + 1) < 2 ^ (32 - (msb + 1)) := by
    rw [Nat.div_lt_iff_lt_mul (Nat.two_pow_pos _), ← hq]; exact hw
  have a2 : v % 2 ^ (msb + 1 - lsb) < 2 ^ (msb + 1 - lsb) := Nat.mod_lt _ (Nat.two_pow_pos _)
  have a3 : w % 2 ^ lsb < 2 ^ lsb := Nat.mod_lt _ (Nat.two_pow_pos _)
  have b1 : (w / 2 ^ (msb + 1) + 1) * 2 ^ (msb + 1) ≤ 2 ^ (32 - (msb + 1)) * 2 ^ (msb + 1) := Nat.mul_le_mul_right _ a1
  have b2 : (v % 2 ^ (msb + 1 - lsb) + 1) * 2 ^ lsb ≤ 2 ^ (msb + 1 - lsb) * 2 ^ lsb := Nat.mul_le_mul_right _ a2
  rw [Nat.add_mul, ← hq] at b1
  rw [Nat.add_mul, ← hp] at b2
  omega

/-- The bits that a field write puts in a word. -/
theorem toNat_setBits (w : Word) (msb lsb v : Nat) (h1 : lsb ≤ msb) (h2 : msb < 32) :
    (setBits w msb lsb v).toNat
      = w.toNat / 2 ^ (msb + 1) * 2 ^ (msb + 1) + v % 2 ^ (msb + 1 - lsb) * 2 ^ lsb + w.toNat % 2 ^ lsb := by
  rw [setBits, BitVec.toNat_ofNat, Nat.mod_eq_of_lt (setBits_parts v w.isLt h1 h2)]

theorem bits_setBits_same (w : Word) (msb lsb v : Nat) (h1 : lsb ≤ msb) (h2 : msb < 32) :
    bits (setBits w msb lsb v) msb lsb = v % 2 ^ (msb + 1 - lsb) := by
  have hp : 2 ^ (msb + 1) = 2 ^ (msb + 1 - lsb) * 2 ^ lsb := by rw [← Nat.pow_add]; congr 1; omega
  rw [bits, toNat_setBits w msb lsb v h1 h2, hp, ← Nat.mul_assoc, ← Nat.add_mul, Nat.add_comm,
    Nat.add_mul_div_right _ _ (Nat.two_pow_pos _), Nat.div_eq_of_lt (Nat.mod_lt _ (Nat.two_pow_pos _)), Nat.zero_add,
    Nat.add_comm, Nat.add_mul_mod_self_right, Nat.mod_mod]

/-- A field below the one written keeps its value. -/
theorem bits_setBits_below (w : Word) (msb lsb v m l : Nat) (h1 : lsb ≤ msb) (h2 : msb < 32) (h3 : m < lsb) :
    bits (setBits w msb lsb v) m l = bits w m l := by
  by_cases hl : l ≤ m
  · have hp : 2 ^ (msb + 1) = 2 ^ (msb + 1 - lsb) * 2 ^ lsb := by rw [← Nat.pow_add]; congr 1; omega
    have hq : 2 ^ lsb = 2 ^ (lsb - (m + 1)) * 2 ^ (m + 1) := by rw [← Nat.pow_add]; congr 1; omega
    have hr : 2 ^ (m + 1) = 2 ^ l * 2 ^ (m + 1 - l) := by rw [← Nat.pow_add]; congr 1; omega
    have key : ∀ x : Nat, x / 2 ^ l % 2 ^ (m + 1 - l) = x % 2 ^ (m + 1) / 2 ^ l := by
      intro x; rw [hr, Nat.mod_mul_right_div_self]
    have e : (w.toNat / 2 ^ (msb + 1) * 2 ^ (msb + 1) + v % 2 ^ (msb + 1 - lsb) * 2 ^ lsb + w.toNat % 2 ^ lsb) % 2 ^ (m + 1)
        = w.toNat % 2 ^ (m + 1) := by
      rw [hp, ← Nat.mul_assoc, ← Nat.add_mul, hq, ← Nat.mul_assoc, Nat.add_comm, Nat.add_mul_mod_self_right,
        Nat.mod_mod_of_dvd _ (Nat.dvd_mul_left _ _)]
    rw [bits, bits, toNat_setBits w msb lsb v h1 h2, key, key, e]
  · simp [bits, show m + 1 - l = 0 by omega, Nat.mod_one]

/-- A field above the one written keeps its value. -/
theorem bits_setBits_above (w : Word) (msb lsb v m l : Nat) (h1 : lsb ≤ msb) (h2 : msb < 32) (h3 : msb < l) :
    bits (setBits w msb lsb v) m l = bits w m l := by
  have hp : 2 ^ (msb + 1) = 2 ^ (msb + 1 - lsb) * 2 ^ lsb := by rw [← Nat.pow_add]; congr 1; omega
  have hl : 2 ^ l = 2 ^ (msb + 1) * 2 ^ (l - (msb + 1)) := by rw [← Nat.pow_add]; congr 1; omega
  have a2 : v % 2 ^ (msb + 1 - lsb) < 2 ^ (msb + 1 - lsb) := Nat.mod_lt _ (Nat.two_pow_pos _)
  have a3 : w.toNat % 2 ^ lsb < 2 ^ lsb := Nat.mod_lt _ (Nat.two_pow_pos _)
  have b2 : (v % 2 ^ (msb + 1 - lsb) + 1) * 2 ^ lsb ≤ 2 ^ (msb + 1 - lsb) * 2 ^ lsb := Nat.mul_le_mul_right _ a2
  rw [Nat.add_mul, ← hp] at b2
  have e : (w.toNat / 2 ^ (msb + 1) * 2 ^ (msb + 1) + v % 2 ^ (msb + 1 - lsb) * 2 ^ lsb + w.toNat % 2 ^ lsb) / 2 ^ (msb + 1)
      = w.toNat / 2 ^ (msb + 1) := by
    rw [Nat.add_assoc, Nat.add_comm, Nat.add_mul_div_right _ _ (Nat.two_pow_pos _), Nat.div_eq_of_lt (by omega), Nat.zero_add]
  rw [bits, bits, toNat_setBits w msb lsb v h1 h2, hl, ← Nat.div_div_eq_div_mul, e, Nat.div_div_eq_div_mul]

/-- A field reads the value written to it, modulo its width. -/
theorem State.rd_wr_same (s : State) (f : Fld) (v : Nat) (h1 : f.lsb ≤ f.msb) (h2 : f.msb < 32) :
    (s.wr f v).rd f = v % 2 ^ (f.msb + 1 - f.lsb) := by
  rw [State.rd, State.reg_wr_same, bits_setBits_same _ _ _ _ h1 h2]

/-- A write of a field leaves every field of another register alone. -/
theorem State.rd_wr_addr (s : State) (f g : Fld) (v : Nat) (h : f.addr ≠ g.addr) : (s.wr f v).rd g = s.rd g := by
  rw [State.rd, State.rd, State.reg_wr_ne _ _ _ _ h]

/-- A write of a field leaves the other fields of its register alone. -/
theorem State.rd_wr_field (s : State) (f g : Fld) (v : Nat) (h1 : f.lsb ≤ f.msb) (h2 : f.msb < 32)
    (h : g.msb < f.lsb ∨ f.msb < g.lsb) : (s.wr f v).rd g = s.rd g := by
  by_cases ha : f.addr = g.addr
  · rw [State.rd, ← ha, State.reg_wr_same, State.rd, ← ha]
    rcases h with h | h
    · exact bits_setBits_below _ _ _ _ _ _ h1 h2 h
    · exact bits_setBits_above _ _ _ _ _ _ h1 h2 h
  · exact State.rd_wr_addr s f g v ha

end Sys2Proof.Machine
end

