-- ==== Sys2Proof/Laws/Keeps.lean ====
section
/-!
SUPPORT. What every operation keeps, said once: the queue of waiting commands, the model's clock, the canonical form of the
stores, the fuses, and the array's front latches with the bank in play. One lemma per operation, which later proofs cite.
-/
namespace Sys2Proof.Machine

/-- What takes state `s` to `t` without touching the queue, the clock or a programmed fuse, and without breaking the canonical
form of a store. With `b`, the front latches and the bank in play stay too, unless the engine is put into reset. -/
structure Keeps (b : Bool) (s t : State) : Prop where
  queue : t.pending = s.pending
  clock : t.now = s.now
  free  : s.freeCtr ≤ t.freeCtr
  regs  : storeWf regReset s.regs = true → storeWf regReset t.regs = true
  act   : storeWf regReset s.act = true → storeWf regReset t.act = true
  mem   : storeWf (fun _ => 0#8) s.smem.mem = true → storeWf (fun _ => 0#8) t.smem.mem = true
  fuse  : ∀ d, s.smc.sealFuse = some d → t.smc.sealFuse = some d
  jtag  : s.smc.jtagFuse = true → t.smc.jtagFuse = true
  drive : b = true → (t.pxa.front = s.pxa.front ∧ t.cmp.play = s.cmp.play)
            ∨ (t.pmu.released = false ∧ t.pxa.front = [] ∧ t.cmp.play = 0)

theorem Keeps.refl (b : Bool) (s : State) : Keeps b s s :=
  ⟨rfl, rfl, Nat.le_refl _, id, id, id, fun _ h => h, id, fun _ => .inl ⟨rfl, rfl⟩⟩

theorem Keeps.weaken {b : Bool} {s t : State} (h : Keeps b s t) : Keeps false s t :=
  { h with drive := fun e => by cases e }

/-- An update that touches none of the kept parts. -/
theorem Keeps.upd {b : Bool} {s t u : State} (h : Keeps b s t) (h1 : u.pending = t.pending) (h2 : u.now = t.now)
    (h3 : t.freeCtr ≤ u.freeCtr) (h4 : u.regs = t.regs) (h5 : u.act = t.act) (h6 : u.smem.mem = t.smem.mem)
    (h7 : u.smc.sealFuse = t.smc.sealFuse) (h8 : u.smc.jtagFuse = t.smc.jtagFuse) (h9 : u.pxa.front = t.pxa.front)
    (h10 : u.cmp.play = t.cmp.play) (h11 : u.pmu.released = t.pmu.released) : Keeps b s u where
  queue := h1.trans h.queue
  clock := h2.trans h.clock
  free := Nat.le_trans h.free h3
  regs := fun e => h4 ▸ h.regs e
  act := fun e => h5 ▸ h.act e
  mem := fun e => h6 ▸ h.mem e
  fuse := fun d e => h7 ▸ h.fuse d e
  jtag := fun e => h8 ▸ h.jtag e
  drive := fun e => by rw [h9, h10, h11]; exact h.drive e

/-- The same, for a state written out as a record update. -/
theorem Keeps.mk' {b : Bool} {s t : State} {n u0 u1} {a1 a2 a3 a4 a5 a6 a7 a8 a9 a10 a11 a12 a13 a14 a15 a16}
    (h : Keeps b s t) (h3 : t.freeCtr ≤ n) (h6 : a9.mem = t.smem.mem)
    (h7 : a4.sealFuse = t.smc.sealFuse) (h8 : a4.jtagFuse = t.smc.jtagFuse) (h9 : a7.front = t.pxa.front)
    (h10 : a8.play = t.cmp.play) (h11 : a15.released = t.pmu.released) :
    Keeps b s (State.mk t.regs t.act t.now n u0 u1 t.pending a1 a2 a3 a4 a5 a6 a7 a8 a9 a10 a11 a12 a13 a14 a15 a16) :=
  h.upd rfl rfl h3 rfl rfl h6 h7 h8 h9 h10 h11

/-- The same, where surface memory takes other contents. -/
theorem Keeps.mkM {b : Bool} {s t : State} {n u0 u1} {a1 a2 a3 a4 a5 a6 a7 a8 a9 a10 a11 a12 a13 a14 a15 a16}
    (h : Keeps b s t) (h3 : t.freeCtr ≤ n)
    (h6 : storeWf (fun _ => 0#8) s.smem.mem = true → storeWf (fun _ => 0#8) a9.mem = true)
    (h7 : a4.sealFuse = t.smc.sealFuse) (h8 : a4.jtagFuse = t.smc.jtagFuse) (h9 : a7.front = t.pxa.front)
    (h10 : a8.play = t.cmp.play) (h11 : a15.released = t.pmu.released) :
    Keeps b s (State.mk t.regs t.act t.now n u0 u1 t.pending a1 a2 a3 a4 a5 a6 a7 a8 a9 a10 a11 a12 a13 a14 a15 a16) where
  queue := h.queue
  clock := h.clock
  free := Nat.le_trans h.free h3
  regs := h.regs
  act := h.act
  mem := h6
  fuse := fun d e => h7 ▸ h.fuse d e
  jtag := fun e => h8 ▸ h.jtag e
  drive := fun e => by show (a7.front = _ ∧ a8.play = _) ∨ (a15.released = _ ∧ a7.front = _ ∧ a8.play = _); rw [h9, h10, h11]; exact h.drive e

/-- The same, where the front latches and the bank in play may change. -/
theorem Keeps.mkF {s t : State} {n u0 u1} {a1 a2 a3 a4 a5 a6 a7 a8 a9 a10 a11 a12 a13 a14 a15 a16}
    (h : Keeps false s t) (h3 : t.freeCtr ≤ n) (h6 : a9.mem = t.smem.mem)
    (h7 : a4.sealFuse = t.smc.sealFuse) (h8 : a4.jtagFuse = t.smc.jtagFuse) :
    Keeps false s (State.mk t.regs t.act t.now n u0 u1 t.pending a1 a2 a3 a4 a5 a6 a7 a8 a9 a10 a11 a12 a13 a14 a15 a16) where
  queue := h.queue
  clock := h.clock
  free := Nat.le_trans h.free h3
  regs := h.regs
  act := h.act
  mem := fun e => h6 ▸ h.mem e
  fuse := fun d e => h7 ▸ h.fuse d e
  jtag := fun e => h8 ▸ h.jtag e
  drive := fun e => by cases e

theorem Keeps.ite {b : Bool} {s t u : State} {c : Prop} [Decidable c] (h1 : Keeps b s t) (h2 : Keeps b s u) :
    Keeps b s (if c then t else u) := by split <;> assumption

theorem Keeps.ite1 {α : Type} {b : Bool} {s : State} {t u : State × α} {c : Prop} [Decidable c] (h1 : Keeps b s t.1)
    (h2 : Keeps b s u.1) : Keeps b s (if c then t else u).1 := by split <;> assumption

theorem Keeps.of_fst {α : Type} {b : Bool} {s t : State} {p : State × α} {a : α} (h : Keeps b s p.1) (e : p = (t, a)) :
    Keeps b s t := by rw [e] at h; exact h

theorem Keeps.foldl {α : Type} {b : Bool} {s : State} {f : State → α → State} (l : List α)
    (hf : ∀ t x, Keeps b s t → Keeps b s (f t x)) : ∀ t, Keeps b s t → Keeps b s (l.foldl f t) := by
  induction l with
  | nil => exact fun _ h => h
  | cons x l ih => exact fun t h => ih _ (hf t x h)

theorem Keeps.foldl1 {α β : Type} {b : Bool} {s : State} {f : State × β → α → State × β} (l : List α)
    (hf : ∀ p x, Keeps b s p.1 → Keeps b s (f p x).1) : ∀ p, Keeps b s p.1 → Keeps b s (l.foldl f p).1 := by
  induction l with
  | nil => exact fun _ h => h
  | cons x l ih => exact fun t h => ih _ (hf t x h)

section
variable {b : Bool} {s₀ s : State} (h : Keeps b s₀ s)
include h

theorem State.setReg_keeps {a : Nat} {v : Word} : Keeps b s₀ (s.setReg a v) :=
  { h with regs := fun e => storeWf_storeSet regReset _ _ _ (h.regs e) }

theorem State.wr_keeps {f : Fld} {v : Nat} : Keeps b s₀ (s.wr f v) := State.setReg_keeps h

theorem State.wrWord_keeps {a : Nat} {v : Word} : Keeps b s₀ (s.wrWord a v) := State.setReg_keeps h

theorem State.takeAct_keeps {l : List Nat} : Keeps b s₀ (s.takeAct l) :=
  { h with
    act := fun e => by
      have : ∀ m, storeWf regReset m = true →
          storeWf regReset (l.foldl (fun m a => storeSet (regReset a) m a (s.reg a)) m) = true := by
        induction l with
        | nil => exact fun _ e => e
        | cons a l ih => exact fun m e => ih _ (storeWf_storeSet regReset m a _ e)
      exact this _ (h.act e) }

theorem State.bumpBy_keeps {f : Fld} {n : Nat} : Keeps b s₀ (s.bumpBy f n) := State.setReg_keeps h

theorem State.bump_keeps {f : Fld} : Keeps b s₀ (s.bump f) := State.setReg_keeps h

theorem State.setW1c_keeps {a m : Nat} : Keeps b s₀ (s.setW1c a m) :=
  { h with regs := fun e => storeWf_storeSet regReset _ _ _ (h.regs e) }

theorem State.apart_keeps {tie : Bool} : Keeps b s₀ (s.apart tie) :=
  .ite h (h.upd rfl rfl (Nat.le_refl _) rfl rfl rfl rfl rfl rfl rfl rfl)

theorem State.setBit_keeps {f : Fld} {i : Nat} : Keeps b s₀ (s.setBit f i) := .ite h (State.wr_keeps h)

theorem State.clrBit_keeps {f : Fld} {i : Nat} : Keeps b s₀ (s.clrBit f i) := .ite (State.wr_keeps h) h

theorem State.when_keeps {c : Bool} {g : State → State} (hg : ∀ t, Keeps b s₀ t → Keeps b s₀ (g t)) :
    Keeps b s₀ (s.when c g) := .ite (hg s h) h

theorem State.forL_keeps {α : Type} {l : List α} {g : α → State → State}
    (hg : ∀ x t, Keeps b s₀ t → Keeps b s₀ (g x t)) : Keeps b s₀ (s.forL l g) :=
  Keeps.foldl l (fun t x => hg x t) s h

theorem State.forN_keeps {n : Nat} {g : Nat → State → State}
    (hg : ∀ x t, Keeps b s₀ t → Keeps b s₀ (g x t)) : Keeps b s₀ (s.forN n g) :=
  Keeps.foldl _ (fun t x => hg x t) s h

theorem State.fresh_keeps : Keeps b s₀ s.fresh.2 :=
  h.upd rfl rfl (Nat.le_succ _) rfl rfl rfl rfl rfl rfl rfl rfl

end

theorem andThen_keeps {fl : Bool} {s₀ : State} {x : State × Status} {g : State → State × Status} (hk : Keeps fl s₀ x.1)
    (hg : ∀ t, Keeps fl s₀ t → Keeps fl s₀ (g t).1) : Keeps fl s₀ (andThen x g).1 := by
  unfold andThen
  split
  · exact hg _ hk
  · exact hk

end Sys2Proof.Machine
end

