-- ==== Sys2Proof/Laws/KeepsBase.lean ====
section
/-!
SUPPORT. What every operation keeps (the structure Keeps of Laws/Keeps.lean): the shared operations, the safety ladder, replies, SMC and the schedule engine.
One lemma per operation, over any state the operation is applied to.
-/
namespace Sys2Proof.Machine

set_option maxRecDepth 2000

theorem okW_keeps {fl : Bool} {s₀ : State} {s : State} {ws : List ℕ} (hk : Keeps fl s₀ s) :
    Keeps fl s₀ (okW s ws).1 := by
  unfold okW
  with_reducible repeat' first | assumption

theorem ok_keeps {fl : Bool} {s₀ : State} {s : State} (hk : Keeps fl s₀ s) :
    Keeps fl s₀ (ok s).1 := by
  unfold ok
  with_reducible repeat' first | assumption | apply Keeps.ite | apply Keeps.ite1 | apply okW_keeps

theorem ans_keeps {fl : Bool} {s₀ : State} {s : State} {st : Status} (hk : Keeps fl s₀ s) :
    Keeps fl s₀ (ans s st).1 := by
  unfold ans
  with_reducible repeat' first | assumption

theorem answerLater_keeps {fl : Bool} {s₀ : State} {s : State} (hk : Keeps fl s₀ s) :
    Keeps fl s₀ (answerLater s).1 := by
  unfold answerLater
  with_reducible repeat' first | assumption

theorem setCause_keeps {fl : Bool} {s₀ : State} {f : Fld} {s : State} (hk : Keeps fl s₀ s) :
    Keeps fl s₀ (setCause f s) := by
  unfold setCause
  with_reducible repeat' first | assumption | apply Keeps.ite | apply Keeps.ite1 | apply State.setW1c_keeps

theorem attnAll_keeps {fl : Bool} {s₀ : State} {f : ℕ → Fld} {s : State} (hk : Keeps fl s₀ s) :
    Keeps fl s₀ (attnAll f s) := by
  unfold attnAll
  with_reducible repeat' first | assumption | apply Keeps.ite | apply Keeps.ite1 | apply setCause_keeps

theorem updLimp_keeps {fl : Bool} {s₀ : State} {s : State} (hk : Keeps fl s₀ s) :
    Keeps fl s₀ (updLimp s) := by
  unfold updLimp
  with_reducible repeat' first | assumption | apply Keeps.ite | apply Keeps.ite1 | apply State.wr_keeps

theorem abandonComp_keeps {fl : Bool} {s₀ : State} {s : State} (hk : Keeps fl s₀ s) :
    Keeps fl s₀ (abandonComp s) := by
  unfold abandonComp
  repeat' first
    | with_reducible assumption
    | with_reducible first | apply Keeps.ite | apply Keeps.ite1 | apply State.wr_keeps | exact Nat.le_refl _ | rfl
    | intro t
    | split
    | with_reducible apply Keeps.mk'

theorem setRung_keeps {fl : Bool} {s₀ : State} {r : ℕ} {cause : ℕ} {s : State} (hk : Keeps fl s₀ s) :
    Keeps fl s₀ (setRung r cause s) := by
  unfold setRung
  repeat' first
    | with_reducible assumption
    | with_reducible first | apply Keeps.ite | apply Keeps.ite1 | apply State.wr_keeps | apply State.when_keeps | apply attnAll_keeps | apply abandonComp_keeps | apply updLimp_keeps | exact Nat.le_refl _ | rfl
    | intro t
    | split
    | with_reducible apply Keeps.mk'

theorem railForceStop_keeps {fl : Bool} {s₀ : State} {s : State} (hk : Keeps fl s₀ s) :
    Keeps fl s₀ (railForceStop s) := by
  unfold railForceStop
  repeat' first
    | with_reducible assumption
    | with_reducible first | apply Keeps.ite | apply Keeps.ite1 | apply State.wr_keeps | exact Nat.le_refl _ | rfl
    | intro t
    | split
    | with_reducible apply Keeps.mk'

theorem safeOffLow_keeps {fl : Bool} {s₀ : State} {s : State} (hk : Keeps fl s₀ s) :
    Keeps fl s₀ (safeOffLow s) := by
  unfold safeOffLow
  repeat' first
    | with_reducible assumption
    | with_reducible first | apply Keeps.ite | apply Keeps.ite1 | apply State.wr_keeps | exact Nat.le_refl _ | rfl
    | intro t
    | split
    | with_reducible apply Keeps.mk'

theorem goDark_keeps {fl : Bool} {s₀ : State} {cause : ℕ} {s : State} (hk : Keeps fl s₀ s) :
    Keeps fl s₀ (goDark cause s) := by
  unfold goDark
  repeat' first
    | with_reducible assumption
    | (intro t; refine (have ht : Keeps fl s₀ t := ?_; ?_); (on_goal 1 => subst t); (on_goal 2 => clear_value t; obtain ⟨u, hu⟩ : ∃ u, u = t := ⟨t, rfl⟩; subst hu))
    | intro t
    | lift_lets
    | with_reducible first | apply Keeps.ite | apply Keeps.ite1 | apply State.wr_keeps | apply State.when_keeps | apply setRung_keeps | apply railForceStop_keeps | apply safeOffLow_keeps | exact Nat.le_refl _ | rfl
    | split
    | with_reducible apply Keeps.mk'

theorem requireRung_keeps {fl : Bool} {s₀ : State} {req : ℕ} {cause : ℕ} {s : State} (hk : Keeps fl s₀ s) :
    Keeps fl s₀ (requireRung req cause s) := by
  unfold requireRung
  with_reducible repeat' first | assumption | apply Keeps.ite | apply Keeps.ite1 | apply goDark_keeps | apply setRung_keeps

theorem refreshCeiling_keeps {fl : Bool} {s₀ : State} {cause : ℕ} {s : State} (hk : Keeps fl s₀ s) :
    Keeps fl s₀ (refreshCeiling cause s) := by
  unfold refreshCeiling
  with_reducible repeat' first | assumption | apply Keeps.ite | apply Keeps.ite1 | apply State.wr_keeps | apply goDark_keeps | apply setRung_keeps

theorem zonesOff_keeps {fl : Bool} {s₀ : State} {mask : ℕ} {s : State} (hk : Keeps fl s₀ s) :
    Keeps fl s₀ (zonesOff mask s) := by
  unfold zonesOff
  with_reducible repeat' first | assumption | apply Keeps.ite | apply Keeps.ite1 | apply State.wr_keeps | apply setRung_keeps

theorem setTrace_keeps {fl : Bool} {s₀ : State} {e : ℕ} {x : TraceSt} {s : State} (hk : Keeps fl s₀ s) :
    Keeps fl s₀ (setTrace e x s) := by
  unfold setTrace
  repeat' first
    | with_reducible assumption
    | with_reducible first | apply Keeps.ite | apply Keeps.ite1 | exact Nat.le_refl _ | rfl
    | intro t
    | split
    | with_reducible apply Keeps.mk'

theorem traceFire_keeps {fl : Bool} {s₀ : State} {e : ℕ} {s : State} (hk : Keeps fl s₀ s) :
    Keeps fl s₀ (traceFire e s) := by
  unfold traceFire
  with_reducible repeat' first | assumption | apply Keeps.ite | apply Keeps.ite1 | apply setTrace_keeps | apply State.wr_keeps

theorem traceEvent_keeps {fl : Bool} {s₀ : State} {trig : ℕ} {arg : ℕ} {s : State} (hk : Keeps fl s₀ s) :
    Keeps fl s₀ (traceEvent trig arg s) := by
  unfold traceEvent
  repeat' first
    | with_reducible assumption
    | (intro t; refine (have ht : Keeps fl s₀ t := ?_; ?_); (on_goal 1 => subst t); (on_goal 2 => clear_value t; obtain ⟨u, hu⟩ : ∃ u, u = t := ⟨t, rfl⟩; subst hu))
    | intro t
    | lift_lets
    | with_reducible first | apply Keeps.ite | apply Keeps.ite1 | apply State.forN_keeps | apply traceFire_keeps

theorem histPush_keeps {fl : Bool} {s₀ : State} {e : HistEntry} {s : State} (hk : Keeps fl s₀ s) :
    Keeps fl s₀ (histPush e s) := by
  unfold histPush
  repeat' first
    | with_reducible assumption
    | with_reducible first | apply Keeps.ite | apply Keeps.ite1 | apply State.wr_keeps | exact Nat.le_refl _ | rfl
    | intro t
    | split
    | with_reducible apply Keeps.mk'

theorem histRecord_keeps {fl : Bool} {s₀ : State} {e : HistEntry} {drop : Bool} {frozenNow : Bool} {s : State} (hk : Keeps fl s₀ s) :
    Keeps fl s₀ (histRecord e drop frozenNow s) := by
  unfold histRecord
  repeat' first
    | with_reducible assumption
    | with_reducible first | apply Keeps.ite | apply Keeps.ite1 | apply State.bump_keeps | apply histPush_keeps | apply State.wr_keeps | exact Nat.le_refl _ | rfl
    | intro t
    | split
    | with_reducible apply Keeps.mk'

theorem attnFault_keeps {fl : Bool} {s₀ : State} {eff : ℕ} {s : State} (hk : Keeps fl s₀ s) :
    Keeps fl s₀ (attnFault eff s) := by
  unfold attnFault
  with_reducible repeat' first | assumption | apply Keeps.ite | apply Keeps.ite1 | apply State.when_keeps | apply setCause_keeps

theorem aliveStop_keeps {fl : Bool} {s₀ : State} {src : ℕ} {fn : ℕ} {s : State} (hk : Keeps fl s₀ s) :
    Keeps fl s₀ (aliveStop src fn s) := by
  unfold aliveStop
  repeat' first
    | with_reducible assumption
    | with_reducible first | apply Keeps.ite | apply Keeps.ite1 | apply State.setReg_keeps | apply State.wr_keeps | exact Nat.le_refl _ | rfl
    | intro t
    | split
    | with_reducible apply Keeps.mk'

theorem handleEvent_keeps {fl : Bool} {s₀ : State} {src : ℕ} {sev : ℕ} {detail : ℕ} {drop : Bool} {s : State} (hk : Keeps fl s₀ s) :
    Keeps fl s₀ (handleEvent src sev detail drop s) := by
  unfold handleEvent
  repeat' first
    | with_reducible assumption
    | with_reducible first | apply Keeps.ite | apply Keeps.ite1 | apply traceEvent_keeps | apply State.wr_keeps | apply State.bump_keeps | apply requireRung_keeps | apply State.when_keeps | apply aliveStop_keeps | apply State.setReg_keeps | apply attnFault_keeps | apply histRecord_keeps | exact Nat.le_refl _ | rfl
    | intro t
    | split
    | with_reducible apply Keeps.mk'

theorem raise_keeps {fl : Bool} {s₀ : State} {src : ℕ} {detail : ℕ} {s : State} (hk : Keeps fl s₀ s) :
    Keeps fl s₀ (raise src detail s) := by
  unfold raise
  with_reducible repeat' first | assumption | apply Keeps.ite | apply Keeps.ite1 | apply handleEvent_keeps

theorem raiseSev_keeps {fl : Bool} {s₀ : State} {src : ℕ} {sev : ℕ} {detail : ℕ} {s : State} (hk : Keeps fl s₀ s) :
    Keeps fl s₀ (raiseSev src sev detail s) := by
  unfold raiseSev
  with_reducible repeat' first | assumption | apply Keeps.ite | apply Keeps.ite1 | apply handleEvent_keeps

theorem sramErr_keeps {fl : Bool} {s₀ : State} {e : EccErr} {s : State} (hk : Keeps fl s₀ s) :
    Keeps fl s₀ (sramErr e s) := by
  unfold sramErr
  with_reducible repeat' first | assumption | apply Keeps.ite | apply Keeps.ite1 | apply State.bump_keeps | apply State.wr_keeps | apply raise_keeps

theorem smemErr_keeps {fl : Bool} {s₀ : State} {e : EccErr} {s : State} (hk : Keeps fl s₀ s) :
    Keeps fl s₀ (smemErr e s) := by
  unfold smemErr
  with_reducible repeat' first | assumption | apply Keeps.ite | apply Keeps.ite1 | apply State.bump_keeps | apply State.wr_keeps | apply raise_keeps

theorem noteErrs_keeps {fl : Bool} {s₀ : State} {errs : List EccErr} {s : State} (hk : Keeps fl s₀ s) :
    Keeps fl s₀ (noteErrs errs s) := by
  unfold noteErrs
  repeat' first
    | with_reducible assumption
    | with_reducible first | apply Keeps.ite | apply Keeps.ite1 | apply smemErr_keeps | apply sramErr_keeps | apply State.forL_keeps
    | intro t

theorem answerOff_keeps {fl : Bool} {s₀ : State} {addr : ℕ} {s : State} (hk : Keeps fl s₀ s) :
    Keeps fl s₀ (answerOff addr s).1 := by
  unfold answerOff
  with_reducible repeat' first | assumption | apply Keeps.ite | apply Keeps.ite1 | apply ans_keeps | apply raise_keeps

theorem syncStat_keeps {fl : Bool} {s₀ : State} {s : State} (hk : Keeps fl s₀ s) :
    Keeps fl s₀ (syncStat s) := by
  unfold syncStat
  with_reducible repeat' first | assumption | apply Keeps.ite | apply Keeps.ite1 | apply State.wr_keeps

theorem queueReply_keeps {fl : Bool} {s₀ : State} {r : Reply} {s : State} (hk : Keeps fl s₀ s) :
    Keeps fl s₀ (queueReply r s) := by
  unfold queueReply
  repeat' first
    | with_reducible assumption
    | with_reducible first | apply Keeps.ite | apply Keeps.ite1 | apply syncStat_keeps | exact Nat.le_refl _ | rfl
    | intro t
    | split
    | with_reducible apply Keeps.mk'

theorem replyCopies_keeps {fl : Bool} {s₀ : State} {o : Outst} {a : Ans} {s : State} (hk : Keeps fl s₀ s) :
    Keeps fl s₀ (replyCopies o a s) := by
  unfold replyCopies
  repeat' first
    | with_reducible assumption
    | (intro t; refine (have ht : Keeps fl s₀ t := ?_; ?_); (on_goal 1 => subst t); (on_goal 2 => clear_value t; obtain ⟨u, hu⟩ : ∃ u, u = t := ⟨t, rfl⟩; subst hu))
    | intro t
    | lift_lets
    | with_reducible first | apply Keeps.ite | apply Keeps.ite1 | apply State.forL_keeps | apply State.bump_keeps | apply queueReply_keeps

theorem replyTo_keeps {fl : Bool} {s₀ : State} {o : Outst} {a : Ans} {s : State} (hk : Keeps fl s₀ s) :
    Keeps fl s₀ (replyTo o a s) := by
  unfold replyTo
  repeat' first
    | with_reducible assumption
    | with_reducible first | apply Keeps.ite | apply Keeps.ite1 | apply replyCopies_keeps | apply queueReply_keeps | exact Nat.le_refl _ | rfl
    | intro t
    | split
    | with_reducible apply Keeps.mk'

theorem finish_keeps {fl : Bool} {s₀ : State} {o : Outst} {a : Ans} {s : State} (hk : Keeps fl s₀ s) :
    Keeps fl s₀ (finish o a s) := by
  unfold finish
  repeat' first
    | with_reducible assumption
    | with_reducible first | apply Keeps.ite | apply Keeps.ite1 | apply replyTo_keeps | exact Nat.le_refl _ | rfl
    | intro t
    | split
    | with_reducible apply Keeps.mk'

theorem finishSt_keeps {fl : Bool} {s₀ : State} {o : Outst} {st : Status} {s : State} (hk : Keeps fl s₀ s) :
    Keeps fl s₀ (finishSt o st s) := by
  unfold finishSt
  with_reducible repeat' first | assumption | apply Keeps.ite | apply Keeps.ite1 | apply finish_keeps

theorem holdCmd_keeps {fl : Bool} {s₀ : State} {o : Outst} {s : State} (hk : Keeps fl s₀ s) :
    Keeps fl s₀ (holdCmd o s) := by
  unfold holdCmd
  repeat' first
    | with_reducible assumption
    | with_reducible first | apply Keeps.ite | apply Keeps.ite1 | exact Nat.le_refl _ | rfl
    | intro t
    | split
    | with_reducible apply Keeps.mk'

theorem dropXfer_keeps {fl : Bool} {s₀ : State} {x : Xfer} {s : State} (hk : Keeps fl s₀ s) :
    Keeps fl s₀ (dropXfer x s) := by
  unfold dropXfer
  repeat' first
    | with_reducible assumption
    | with_reducible first | apply Keeps.ite | apply Keeps.ite1 | apply syncStat_keeps | exact Nat.le_refl _ | rfl
    | intro t
    | split
    | with_reducible apply Keeps.mk'

theorem abandonXfer_keeps {fl : Bool} {s₀ : State} {x : Xfer} {s : State} (hk : Keeps fl s₀ s) :
    Keeps fl s₀ (abandonXfer x s) := by
  unfold abandonXfer
  with_reducible repeat' first | assumption | apply Keeps.ite | apply Keeps.ite1 | apply dropXfer_keeps | apply replyTo_keeps

theorem abandonWhere_keeps {fl : Bool} {s₀ : State} {f : Xfer → Bool} {s : State} (hk : Keeps fl s₀ s) :
    Keeps fl s₀ (abandonWhere f s) := by
  unfold abandonWhere
  with_reducible repeat' first | assumption | apply Keeps.ite | apply Keeps.ite1 | apply State.forL_keeps | apply abandonXfer_keeps

theorem basteFail_keeps {fl : Bool} {s₀ : State} {reason : ℕ} {s : State} (hk : Keeps fl s₀ s) :
    Keeps fl s₀ (basteFail reason s) := by
  unfold basteFail
  repeat' first
    | with_reducible assumption
    | with_reducible first | apply Keeps.ite | apply Keeps.ite1 | apply State.bump_keeps | apply State.wr_keeps | apply raise_keeps | exact Nat.le_refl _ | rfl
    | intro t
    | split
    | with_reducible apply Keeps.mk'

theorem showWriting_keeps {fl : Bool} {s₀ : State} {tg : ℕ} {s : State} (hk : Keeps fl s₀ s) :
    Keeps fl s₀ (showWriting tg s) := by
  unfold showWriting
  with_reducible repeat' first | assumption | apply Keeps.ite | apply Keeps.ite1 | apply State.wr_keeps

theorem startCkptAt_keeps {fl : Bool} {s₀ : State} {j : ℕ} {s : State} (hk : Keeps fl s₀ s) :
    Keeps fl s₀ (startCkptAt j s) := by
  unfold startCkptAt
  repeat' first
    | with_reducible assumption
    | with_reducible first | apply Keeps.ite | apply Keeps.ite1 | apply showWriting_keeps | apply State.when_keeps | apply basteFail_keeps | exact Nat.le_refl _ | rfl
    | intro t
    | split
    | with_reducible apply Keeps.mk'

theorem journalOverflow_keeps {fl : Bool} {s₀ : State} {j : ℕ} {s : State} (hk : Keeps fl s₀ s) :
    Keeps fl s₀ (journalOverflow j s) := by
  unfold journalOverflow
  repeat' first
    | with_reducible assumption
    | with_reducible first | apply Keeps.ite | apply Keeps.ite1 | apply State.wr_keeps | apply raise_keeps | apply basteFail_keeps | exact Nat.le_refl _ | rfl
    | intro t
    | split
    | with_reducible apply Keeps.mk'

theorem jPut_keeps {fl : Bool} {s₀ : State} {kind : ℕ} {port : ℕ} {chan : ℕ} {body : List ℕ} {s : State} (hk : Keeps fl s₀ s) :
    Keeps fl s₀ (jPut kind port chan body s).1 := by
  unfold jPut
  repeat' first
    | with_reducible assumption
    | with_reducible first | apply Keeps.ite | apply Keeps.ite1 | apply State.setReg_keeps | apply journalOverflow_keeps | apply State.wr_keeps | exact Nat.le_refl _ | rfl
    | intro t
    | split
    | with_reducible apply Keeps.mk'

theorem startCkptBut_keeps {fl : Bool} {s₀ : State} {fresh : List ℕ} {s : State} (hk : Keeps fl s₀ s) :
    Keeps fl s₀ (startCkptBut fresh s) := by
  unfold startCkptBut
  with_reducible repeat' first | assumption | apply Keeps.ite | apply Keeps.ite1 | apply startCkptAt_keeps | apply jPut_keeps

theorem startCkpt_keeps {fl : Bool} {s₀ : State} {s : State} (hk : Keeps fl s₀ s) :
    Keeps fl s₀ (startCkpt s) := by
  unfold startCkpt
  with_reducible repeat' first | assumption | apply Keeps.ite | apply Keeps.ite1 | apply startCkptBut_keeps

theorem journal_keeps {fl : Bool} {s₀ : State} {kind : ℕ} {port : ℕ} {chan : ℕ} {body : List ℕ} {s : State} (hk : Keeps fl s₀ s) :
    Keeps fl s₀ (journal kind port chan body s) := by
  unfold journal
  with_reducible repeat' first | assumption | apply Keeps.ite | apply Keeps.ite1 | apply jPut_keeps | apply startCkptBut_keeps

theorem journalCmd_keeps {fl : Bool} {s₀ : State} {op : Opcode} {c : Cmd} {both : Bool} {s : State} (hk : Keeps fl s₀ s) :
    Keeps fl s₀ (journalCmd op c both s) := by
  unfold journalCmd
  with_reducible repeat' first | assumption | apply Keeps.ite | apply Keeps.ite1 | apply journal_keeps

theorem journalEvent_keeps {fl : Bool} {s₀ : State} {s : State} (hk : Keeps fl s₀ s) :
    Keeps fl s₀ (journalEvent s) := by
  unfold journalEvent
  with_reducible repeat' first | assumption | apply Keeps.ite | apply Keeps.ite1 | apply journal_keeps

theorem recoveryRefuse_keeps {fl : Bool} {s₀ : State} {src : ℕ} {s : State} (hk : Keeps fl s₀ s) :
    Keeps fl s₀ (recoveryRefuse src s) := by
  unfold recoveryRefuse
  with_reducible repeat' first | assumption | apply Keeps.ite | apply Keeps.ite1 | apply requireRung_keeps | apply raise_keeps

theorem recoveryBegin_keeps {fl : Bool} {s₀ : State} {src : ℕ} {w : List ℕ} {s : State} (hk : Keeps fl s₀ s) :
    Keeps fl s₀ (recoveryBegin src w s) := by
  unfold recoveryBegin
  repeat' first
    | with_reducible assumption
    | with_reducible first | apply Keeps.ite | apply Keeps.ite1 | apply State.wr_keeps | exact Nat.le_refl _ | rfl
    | intro t
    | split
    | with_reducible apply Keeps.mk'
    | exact rfl

theorem recoveryNeeded_keeps {fl : Bool} {s₀ : State} {src : ℕ} {s : State} (hk : Keeps fl s₀ s) :
    Keeps fl s₀ (recoveryNeeded src s) := by
  unfold recoveryNeeded
  with_reducible repeat' first | assumption | apply Keeps.ite | apply Keeps.ite1 | apply recoveryBegin_keeps | apply recoveryRefuse_keeps

theorem recoveryEnd_keeps {fl : Bool} {s₀ : State} {s : State} (hk : Keeps fl s₀ s) :
    Keeps fl s₀ (recoveryEnd s) := by
  unfold recoveryEnd
  repeat' first
    | with_reducible assumption
    | with_reducible first | apply Keeps.ite | apply Keeps.ite1 | apply State.wr_keeps | exact Nat.le_refl _ | rfl
    | intro t
    | split
    | with_reducible apply Keeps.mk'

theorem applyProfile_keeps {fl : Bool} {s₀ : State} {src : ℕ} {level : ℕ} {p : Profile} {s : State} (hk : Keeps fl s₀ s) :
    Keeps fl s₀ (applyProfile src level p s) := by
  unfold applyProfile
  repeat' first
    | with_reducible assumption
    | with_reducible first | apply Keeps.ite | apply Keeps.ite1 | apply State.wr_keeps | apply State.when_keeps | apply updLimp_keeps | exact Nat.le_refl _ | rfl
    | intro t
    | split
    | with_reducible apply Keeps.mk'

theorem chooseProfile_keeps {fl : Bool} {s₀ : State} {s : State} (hk : Keeps fl s₀ s) :
    Keeps fl s₀ (chooseProfile s) := by
  unfold chooseProfile
  repeat' first
    | with_reducible assumption
    | with_reducible first | apply Keeps.ite | apply Keeps.ite1 | apply applyProfile_keeps
    | intro t
    | split

theorem strapChange_keeps {fl : Bool} {s₀ : State} {s : State} (hk : Keeps fl s₀ s) :
    Keeps fl s₀ (strapChange s) := by
  unfold strapChange
  with_reducible repeat' first | assumption | apply Keeps.ite | apply Keeps.ite1 | apply chooseProfile_keeps | apply State.wr_keeps | apply refreshCeiling_keeps | apply raise_keeps

theorem execStrapLatch_keeps {fl : Bool} {s₀ : State} {v0 : BitVec 16} {v1 : BitVec 16} {s : State} (hk : Keeps fl s₀ s) :
    Keeps fl s₀ (execStrapLatch v0 v1 s) := by
  unfold execStrapLatch
  repeat' first
    | with_reducible assumption
    | with_reducible first | apply Keeps.ite | apply Keeps.ite1 | apply State.wr_keeps | apply strapChange_keeps | apply refreshCeiling_keeps | apply chooseProfile_keeps | exact Nat.le_refl _ | rfl
    | intro t
    | split
    | with_reducible apply Keeps.mk'
    | exact rfl

theorem execStrapRead_keeps {fl : Bool} {s₀ : State} {v0 : BitVec 16} {v1 : BitVec 16} {s : State} (hk : Keeps fl s₀ s) :
    Keeps fl s₀ (execStrapRead v0 v1 s) := by
  unfold execStrapRead
  repeat' first
    | with_reducible assumption
    | with_reducible first | apply Keeps.ite | apply Keeps.ite1 | apply State.wr_keeps | apply strapChange_keeps | exact Nat.le_refl _ | rfl
    | intro t
    | split
    | with_reducible apply Keeps.mk'
    | exact rfl

theorem smcLoadErr_keeps {fl : Bool} {s₀ : State} {src : ℕ} {code : ℕ} {idx : ℕ} {s : State} (hk : Keeps fl s₀ s) :
    Keeps fl s₀ (smcLoadErr src code idx s) := by
  unfold smcLoadErr
  with_reducible repeat' first | assumption | apply Keeps.ite | apply Keeps.ite1 | apply State.wr_keeps

theorem spbLoad_keeps {fl : Bool} {s₀ : State} {o : Outst} {s : State} (hk : Keeps fl s₀ s) :
    Keeps fl s₀ (spbLoad o s).1 := by
  unfold spbLoad
  repeat' first
    | with_reducible assumption
    | with_reducible first | apply Keeps.ite | apply Keeps.ite1 | apply ans_keeps | apply raise_keeps | apply smcLoadErr_keeps | apply ok_keeps | apply answerLater_keeps | apply holdCmd_keeps | exact Nat.le_refl _ | rfl
    | intro t
    | split
    | with_reducible apply Keeps.mk'

theorem showFuses_keeps {fl : Bool} {s₀ : State} {s : State} (hk : Keeps fl s₀ s) :
    Keeps fl s₀ (showFuses s) := by
  unfold showFuses
  repeat' first
    | with_reducible assumption
    | with_reducible first | apply Keeps.ite | apply Keeps.ite1 | apply State.forN_keeps | apply State.wr_keeps | apply State.setReg_keeps
    | intro t
    | split

theorem burnFuses_keeps {fl : Bool} {s₀ : State} {w : List Nat} {lock : Bool} {s : State} (hk : Keeps fl s₀ s) :
    Keeps fl s₀ (burnFuses w lock s) := by
  unfold burnFuses
  exact showFuses_keeps { hk with
    fuse := fun d e => by simp [hk.fuse d e]
    jtag := fun e => by simp [hk.jtag e] }

theorem execSpbSealDone_keeps {fl : Bool} {s₀ : State} {s : State} (hk : Keeps fl s₀ s) :
    Keeps fl s₀ (execSpbSealDone s) := by
  unfold execSpbSealDone
  repeat' first
    | with_reducible assumption
    | with_reducible first | apply Keeps.ite | apply Keeps.ite1 | apply finishSt_keeps | apply burnFuses_keeps | exact Nat.le_refl _ | rfl
    | intro t
    | split
    | with_reducible apply Keeps.mk'

theorem needGone_keeps {fl : Bool} {s₀ : State} {cause : ℕ} {s : State} (hk : Keeps fl s₀ s) :
    Keeps fl s₀ (needGone cause s) := by
  unfold needGone
  with_reducible repeat' first | assumption | apply Keeps.ite | apply Keeps.ite1 | apply setRung_keeps

theorem fbClear_keeps {fl : Bool} {s₀ : State} {cause : ℕ} {s : State} (hk : Keeps fl s₀ s) :
    Keeps fl s₀ (fbClear cause s) := by
  unfold fbClear
  with_reducible repeat' first | assumption | apply Keeps.ite | apply Keeps.ite1 | apply State.wr_keeps | apply setRung_keeps

theorem spbWritePair_keeps {fl : Bool} {s₀ : State} {p : ℕ × ℕ} {s : State} (hk : Keeps fl s₀ s) :
    Keeps fl s₀ (spbWritePair p s) := by
  unfold spbWritePair
  repeat' first
    | with_reducible assumption
    | with_reducible first | apply Keeps.ite | apply Keeps.ite1 | apply State.takeAct_keeps | apply State.setReg_keeps
    | intro t
    | split

theorem spbTake_keeps {fl : Bool} {s₀ : State} {w : List ℕ} {s : State} (hk : Keeps fl s₀ s) :
    Keeps fl s₀ (spbTake w s) := by
  unfold spbTake
  repeat' first
    | with_reducible assumption
    | with_reducible first | apply Keeps.ite | apply Keeps.ite1 | apply State.forL_keeps | apply spbWritePair_keeps | apply State.wr_keeps | apply State.when_keeps | apply fbClear_keeps | apply refreshCeiling_keeps | apply chooseProfile_keeps | exact Nat.le_refl _ | rfl
    | intro t
    | split
    | with_reducible apply Keeps.mk'

theorem spbTick_keeps {fl : Bool} {s₀ : State} {s : State} (hk : Keeps fl s₀ s) :
    Keeps fl s₀ (spbTick s) := by
  unfold spbTick
  repeat' first
    | with_reducible assumption
    | with_reducible first | apply Keeps.ite | apply Keeps.ite1 | apply chooseProfile_keeps | apply State.wr_keeps | apply refreshCeiling_keeps | apply State.forL_keeps | apply spbTake_keeps | exact Nat.le_refl _ | rfl
    | intro t
    | split
    | with_reducible apply Keeps.mk'
    | exact rfl

theorem hemLoad_keeps {fl : Bool} {s₀ : State} {img : List ℕ} {s : State} (hk : Keeps fl s₀ s) :
    Keeps fl s₀ (hemLoad img s).1 := by
  unfold hemLoad
  repeat' first
    | with_reducible assumption
    | with_reducible first | apply Keeps.ite | apply Keeps.ite1 | apply smcLoadErr_keeps | apply State.wr_keeps | exact Nat.le_refl _ | rfl
    | intro t
    | split
    | with_reducible apply Keeps.mk'

theorem hemTick_keeps {fl : Bool} {s₀ : State} {s : State} (hk : Keeps fl s₀ s) :
    Keeps fl s₀ (hemTick s) := by
  unfold hemTick
  repeat' first
    | with_reducible assumption
    | with_reducible first | apply Keeps.ite | apply Keeps.ite1 | apply State.wr_keeps | apply State.forN_keeps | apply State.setReg_keeps | exact Nat.le_refl _ | rfl
    | intro t
    | split
    | with_reducible apply Keeps.mk'

theorem modeSlot_keeps {fl : Bool} {s₀ : State} {s : State} (hk : Keeps fl s₀ s) :
    Keeps fl s₀ (modeSlot s) := by
  unfold modeSlot
  repeat' first
    | with_reducible assumption
    | with_reducible first | apply Keeps.ite | apply Keeps.ite1 | apply State.wr_keeps | exact Nat.le_refl _ | rfl
    | intro t
    | split
    | with_reducible apply Keeps.mk'

theorem modeTick_keeps {fl : Bool} {s₀ : State} {s : State} (hk : Keeps fl s₀ s) :
    Keeps fl s₀ (modeTick s) := by
  unfold modeTick
  repeat' first
    | with_reducible assumption
    | with_reducible first | apply Keeps.ite | apply Keeps.ite1 | apply State.wr_keeps | exact Nat.le_refl _ | rfl
    | intro t
    | split
    | with_reducible apply Keeps.mk'

theorem zonesOn_keeps {fl : Bool} {s₀ : State} {mask : ℕ} {s : State} (hk : Keeps fl s₀ s) :
    Keeps fl s₀ (zonesOn mask s) := by
  unfold zonesOn
  with_reducible repeat' first | assumption | apply Keeps.ite | apply Keeps.ite1 | apply State.wr_keeps | apply setRung_keeps

theorem leaveDark_keeps {fl : Bool} {s₀ : State} {s : State} (hk : Keeps fl s₀ s) :
    Keeps fl s₀ (leaveDark s) := by
  unfold leaveDark
  repeat' first
    | with_reducible assumption
    | with_reducible first | apply Keeps.ite | apply Keeps.ite1 | apply State.wr_keeps | exact Nat.le_refl _ | rfl
    | intro t
    | split
    | with_reducible apply Keeps.mk'

theorem moveUp_keeps {fl : Bool} {s₀ : State} {r : ℕ} {mask : ℕ} {s : State} (hk : Keeps fl s₀ s) :
    Keeps fl s₀ (moveUp r mask s) := by
  unfold moveUp
  with_reducible repeat' first | assumption | apply Keeps.ite | apply Keeps.ite1 | apply State.wr_keeps | apply setRung_keeps | apply leaveDark_keeps

theorem releaseTick_keeps {fl : Bool} {s₀ : State} {swap : Bool} {fb : Bool} {repeated : Bool} {s : State} (hk : Keeps fl s₀ s) :
    Keeps fl s₀ (releaseTick swap fb repeated s) := by
  unfold releaseTick
  repeat' first
    | with_reducible assumption
    | with_reducible first | apply Keeps.ite | apply Keeps.ite1 | apply zonesOn_keeps | apply moveUp_keeps | exact Nat.le_refl _ | rfl
    | intro t
    | split
    | with_reducible apply Keeps.mk'

theorem startUpPlain_keeps {fl : Bool} {s₀ : State} {s : State} (hk : Keeps fl s₀ s) :
    Keeps fl s₀ (startUpPlain s) := by
  unfold startUpPlain
  with_reducible repeat' first | assumption | apply Keeps.ite | apply Keeps.ite1 | apply moveUp_keeps

theorem msgReply_keeps {fl : Bool} {s₀ : State} {outcome : ℕ} {o : Outst} {s : State} (hk : Keeps fl s₀ s) :
    Keeps fl s₀ (msgReply outcome o s) := by
  unfold msgReply
  repeat' first
    | with_reducible assumption
    | with_reducible first | apply Keeps.ite | apply Keeps.ite1 | apply replyTo_keeps | apply State.wr_keeps | exact Nat.le_refl _ | rfl
    | intro t
    | split
    | with_reducible apply Keeps.mk'

theorem msgLate_keeps {fl : Bool} {s₀ : State} {outcome : ℕ} {o : Outst} {s : State} (hk : Keeps fl s₀ s) :
    Keeps fl s₀ (msgLate outcome o s) := by
  unfold msgLate
  with_reducible repeat' first | assumption | apply Keeps.ite | apply Keeps.ite1 | apply msgReply_keeps | apply State.bump_keeps

theorem actBlank_keeps {fl : Bool} {s₀ : State} {zones : ℕ} {s : State} (hk : Keeps fl s₀ s) :
    Keeps fl s₀ (actBlank zones s) := by
  unfold actBlank
  repeat' first
    | with_reducible assumption
    | with_reducible first | apply Keeps.ite | apply Keeps.ite1 | apply goDark_keeps | apply zonesOff_keeps | exact Nat.le_refl _ | rfl
    | intro t
    | split
    | with_reducible apply Keeps.mk'

theorem actRelease_keeps {fl : Bool} {s₀ : State} {target : ℕ} {zones : ℕ} {s : State} (hk : Keeps fl s₀ s) :
    Keeps fl s₀ (actRelease target zones s) := by
  unfold actRelease
  repeat' first
    | with_reducible assumption
    | with_reducible first | apply Keeps.ite | apply Keeps.ite1 | apply State.when_keeps | apply State.wr_keeps | exact Nat.le_refl _ | rfl
    | intro t
    | split
    | with_reducible apply Keeps.mk'

theorem actMsg_keeps {fl : Bool} {s₀ : State} {p0 : ℕ} {s : State} (hk : Keeps fl s₀ s) :
    Keeps fl s₀ (actMsg p0 s).1 := by
  unfold actMsg
  repeat' first
    | with_reducible assumption
    | with_reducible first | apply Keeps.ite | apply Keeps.ite1 | apply actBlank_keeps | apply actRelease_keeps | exact Nat.le_refl _ | rfl
    | intro t
    | split
    | with_reducible apply Keeps.mk'

theorem msgDecide_keeps {fl : Bool} {s₀ : State} {sseq : ℕ} {outcome : ℕ} {s : State} (hk : Keeps fl s₀ s) :
    Keeps fl s₀ (msgDecide sseq outcome s) := by
  unfold msgDecide
  repeat' first
    | with_reducible assumption
    | with_reducible first | apply Keeps.ite | apply Keeps.ite1 | apply State.wr_keeps | apply State.bump_keeps | exact Nat.le_refl _ | rfl
    | intro t
    | split
    | with_reducible apply Keeps.mk'

theorem msgAct_keeps {fl : Bool} {s₀ : State} {p0 : ℕ} {sseq : ℕ} {outcome : ℕ} {s : State} (hk : Keeps fl s₀ s) :
    Keeps fl s₀ (msgAct p0 sseq outcome s).1 := by
  unfold msgAct
  with_reducible repeat' first | assumption | apply Keeps.ite | apply Keeps.ite1 | apply actMsg_keeps | apply msgDecide_keeps

theorem msgAlone_keeps {fl : Bool} {s₀ : State} {o : Outst} {s : State} (hk : Keeps fl s₀ s) :
    Keeps fl s₀ (msgAlone o s) := by
  unfold msgAlone
  with_reducible repeat' first | assumption | apply Keeps.ite | apply Keeps.ite1 | apply msgAct_keeps | apply msgReply_keeps

theorem msgWindowEnd_keeps {fl : Bool} {s₀ : State} {s : State} (hk : Keeps fl s₀ s) :
    Keeps fl s₀ (msgWindowEnd s) := by
  unfold msgWindowEnd
  repeat' first
    | with_reducible assumption
    | with_reducible first | apply Keeps.ite | apply Keeps.ite1 | apply msgAct_keeps | apply msgReply_keeps | apply raise_keeps | apply msgDecide_keeps
    | intro t
    | split

theorem msgTwin_keeps {fl : Bool} {s₀ : State} {p : Outst} {o : Outst} {s : State} (hk : Keeps fl s₀ s) :
    Keeps fl s₀ (msgTwin p o s) := by
  unfold msgTwin
  repeat' first
    | with_reducible assumption
    | with_reducible first | apply Keeps.ite | apply Keeps.ite1 | apply msgAct_keeps | apply msgReply_keeps | apply raise_keeps | apply msgDecide_keeps
    | intro t
    | split

theorem msgOpen_keeps {fl : Bool} {s₀ : State} {o : Outst} {s : State} (hk : Keeps fl s₀ s) :
    Keeps fl s₀ (msgOpen o s) := by
  unfold msgOpen
  repeat' first
    | with_reducible assumption
    | with_reducible first | apply Keeps.ite | apply Keeps.ite1 | apply msgAlone_keeps | apply State.wr_keeps | exact Nat.le_refl _ | rfl
    | intro t
    | split
    | with_reducible apply Keeps.mk'

theorem safeMsg_keeps {fl : Bool} {s₀ : State} {o : Outst} {s : State} (hk : Keeps fl s₀ s) :
    Keeps fl s₀ (safeMsg o s).1 := by
  unfold safeMsg
  repeat' first
    | with_reducible assumption
    | with_reducible first | apply Keeps.ite | apply Keeps.ite1 | apply holdCmd_keeps | apply msgWindowEnd_keeps | apply msgLate_keeps | apply msgOpen_keeps | apply msgTwin_keeps | apply answerLater_keeps
    | intro t
    | split

theorem execSafeMsgWindowEnd_keeps {fl : Bool} {s₀ : State} {s : State} (hk : Keeps fl s₀ s) :
    Keeps fl s₀ (execSafeMsgWindowEnd s) := by
  unfold execSafeMsgWindowEnd
  with_reducible repeat' first | assumption | apply Keeps.ite | apply Keeps.ite1 | apply msgWindowEnd_keeps

theorem execSafeReqQualify_keeps {fl : Bool} {s₀ : State} {s : State} (hk : Keeps fl s₀ s) :
    Keeps fl s₀ (execSafeReqQualify s) := by
  unfold execSafeReqQualify
  with_reducible repeat' first | assumption | apply Keeps.ite | apply Keeps.ite1 | apply State.wr_keeps | apply refreshCeiling_keeps | apply raise_keeps

theorem execSafeReqEnd_keeps {fl : Bool} {s₀ : State} {s : State} (hk : Keeps fl s₀ s) :
    Keeps fl s₀ (execSafeReqEnd s) := by
  unfold execSafeReqEnd
  with_reducible repeat' first | assumption | apply Keeps.ite | apply Keeps.ite1 | apply refreshCeiling_keeps | apply State.wr_keeps

theorem execSafeOffTimeout_keeps {fl : Bool} {s₀ : State} {s : State} (hk : Keeps fl s₀ s) :
    Keeps fl s₀ (execSafeOffTimeout s) := by
  unfold execSafeOffTimeout
  with_reducible repeat' first | assumption | apply Keeps.ite | apply Keeps.ite1 | apply safeOffLow_keeps

theorem pathFailed_keeps {fl : Bool} {s₀ : State} {path : ℕ} {s : State} (hk : Keeps fl s₀ s) :
    Keeps fl s₀ (pathFailed path s) := by
  unfold pathFailed
  with_reducible repeat' first | assumption | apply Keeps.ite | apply Keeps.ite1 | apply refreshCeiling_keeps | apply raise_keeps | apply State.setBit_keeps

theorem execSafeSnsTimeout_keeps {fl : Bool} {s₀ : State} {sns : Bool} {s : State} (hk : Keeps fl s₀ s) :
    Keeps fl s₀ (execSafeSnsTimeout sns s) := by
  unfold execSafeSnsTimeout
  with_reducible repeat' first | assumption | apply Keeps.ite | apply Keeps.ite1 | apply State.wr_keeps | apply pathFailed_keeps

theorem nextPath_keeps {fl : Bool} {s₀ : State} {s : State} (hk : Keeps fl s₀ s) :
    Keeps fl s₀ (nextPath s) := by
  unfold nextPath
  with_reducible repeat' first | assumption | apply Keeps.ite | apply Keeps.ite1 | apply State.wr_keeps

theorem offPulse_keeps {fl : Bool} {s₀ : State} {b : OffObs} {s : State} (hk : Keeps fl s₀ s) :
    Keeps fl s₀ (offPulse b s) := by
  unfold offPulse
  repeat' first
    | with_reducible assumption
    | with_reducible first | apply Keeps.ite | apply Keeps.ite1 | apply nextPath_keeps | apply State.bump_keeps | apply State.setBit_keeps | apply pathFailed_keeps | apply State.clrBit_keeps | apply State.forL_keeps | apply finish_keeps | exact Nat.le_refl _ | rfl
    | intro t
    | split
    | with_reducible apply Keeps.mk'
    | exact rfl

theorem offPulseMissing_keeps {fl : Bool} {s₀ : State} {s : State} (hk : Keeps fl s₀ s) :
    Keeps fl s₀ (offPulseMissing s) := by
  unfold offPulseMissing
  with_reducible repeat' first | assumption | apply Keeps.ite | apply Keeps.ite1 | apply pathFailed_keeps | apply nextPath_keeps

theorem stuckZoneOff_keeps {fl : Bool} {s₀ : State} {z : ℕ} {s : State} (hk : Keeps fl s₀ s) :
    Keeps fl s₀ (stuckZoneOff z s) := by
  unfold stuckZoneOff
  with_reducible repeat' first | assumption | apply Keeps.ite | apply Keeps.ite1 | apply State.wr_keeps | apply setRung_keeps

theorem selfFail_keeps {fl : Bool} {s₀ : State} {code : ℕ} {s : State} (hk : Keeps fl s₀ s) :
    Keeps fl s₀ (selfFail code s) := by
  unfold selfFail
  repeat' first
    | with_reducible assumption
    | with_reducible first | apply Keeps.ite | apply Keeps.ite1 | apply State.wr_keeps | apply refreshCeiling_keeps | apply raise_keeps | apply updLimp_keeps | exact Nat.le_refl _ | rfl
    | intro t
    | split
    | with_reducible apply Keeps.mk'

theorem selfRun_keeps {fl : Bool} {s₀ : State} {code : ℕ} {fails : Bool} {s : State} (hk : Keeps fl s₀ s) :
    Keeps fl s₀ (selfRun code fails s) := by
  unfold selfRun
  with_reducible repeat' first | assumption | apply Keeps.ite | apply Keeps.ite1 | apply selfFail_keeps | apply State.setBit_keeps | apply State.clrBit_keeps

theorem execSelfCheck_keeps {fl : Bool} {s₀ : State} {code : Fin 6} {fails : Bool} {s : State} (hk : Keeps fl s₀ s) :
    Keeps fl s₀ (execSelfCheck code fails s) := by
  unfold execSelfCheck
  with_reducible repeat' first | assumption | apply Keeps.ite | apply Keeps.ite1 | apply selfRun_keeps

theorem execBootSelfCheckDone_keeps {fl : Bool} {s₀ : State} {s : State} (hk : Keeps fl s₀ s) :
    Keeps fl s₀ (execBootSelfCheckDone s) := by
  unfold execBootSelfCheckDone
  with_reducible repeat' first | assumption | apply Keeps.ite | apply Keeps.ite1 | apply State.wr_keeps

theorem execAliveToggle_keeps {fl : Bool} {s₀ : State} {s : State} (hk : Keeps fl s₀ s) :
    Keeps fl s₀ (execAliveToggle s) := by
  unfold execAliveToggle
  repeat' first
    | with_reducible assumption
    | with_reducible first | apply Keeps.ite | apply Keeps.ite1 | apply State.wr_keeps | exact Nat.le_refl _ | rfl
    | intro t
    | split
    | with_reducible apply Keeps.mk'

theorem safeStatus_keeps {fl : Bool} {s₀ : State} {o : Outst} {s : State} (hk : Keeps fl s₀ s) :
    Keeps fl s₀ (safeStatus o s).1 := by
  unfold safeStatus
  with_reducible repeat' first | assumption | apply Keeps.ite | apply Keeps.ite1 | apply ans_keeps | apply okW_keeps

theorem safeTest_keeps {fl : Bool} {s₀ : State} {o : Outst} {s : State} (hk : Keeps fl s₀ s) :
    Keeps fl s₀ (safeTest o s).1 := by
  unfold safeTest
  repeat' first
    | with_reducible assumption
    | with_reducible first | apply Keeps.ite | apply Keeps.ite1 | apply ans_keeps | apply okW_keeps | apply selfRun_keeps | apply State.forL_keeps | apply answerLater_keeps | apply holdCmd_keeps | exact Nat.le_refl _ | rfl
    | intro t
    | split
    | with_reducible apply Keeps.mk'

theorem pllLaw_keeps {fl : Bool} {s₀ : State} {s : State} (hk : Keeps fl s₀ s) :
    Keeps fl s₀ (pllLaw s) := by
  unfold pllLaw
  repeat' first
    | with_reducible assumption
    | with_reducible first | apply Keeps.ite | apply Keeps.ite1 | exact Nat.le_refl _ | rfl
    | intro t
    | split
    | with_reducible apply Keeps.mk'

theorem slewPeriod_keeps {fl : Bool} {s₀ : State} {s : State} (hk : Keeps fl s₀ s) :
    Keeps fl s₀ (slewPeriod s) := by
  unfold slewPeriod
  repeat' first
    | with_reducible assumption
    | with_reducible first | apply Keeps.ite | apply Keeps.ite1 | exact Nat.le_refl _ | rfl
    | intro t
    | split
    | with_reducible apply Keeps.mk'

theorem fsyncLost_keeps {fl : Bool} {s₀ : State} {s : State} (hk : Keeps fl s₀ s) :
    Keeps fl s₀ (fsyncLost s) := by
  unfold fsyncLost
  with_reducible repeat' first | assumption | apply Keeps.ite | apply Keeps.ite1 | apply slewPeriod_keeps | apply raise_keeps | apply State.wr_keeps

theorem pllLock_keeps {fl : Bool} {s₀ : State} {s : State} (hk : Keeps fl s₀ s) :
    Keeps fl s₀ (pllLock s) := by
  unfold pllLock
  with_reducible repeat' first | assumption | apply Keeps.ite | apply Keeps.ite1 | apply State.wr_keeps

theorem badEdge_keeps {fl : Bool} {s₀ : State} {s : State} (hk : Keeps fl s₀ s) :
    Keeps fl s₀ (badEdge s) := by
  unfold badEdge
  with_reducible repeat' first | assumption | apply Keeps.ite | apply Keeps.ite1 | apply State.bump_keeps

theorem serveEdge_keeps {fl : Bool} {s₀ : State} {rise : ℕ} {s : State} (hk : Keeps fl s₀ s) :
    Keeps fl s₀ (serveEdge rise s) := by
  unfold serveEdge
  repeat' first
    | with_reducible assumption
    | with_reducible first | apply Keeps.ite | apply Keeps.ite1 | exact Nat.le_refl _ | rfl
    | intro t
    | split
    | with_reducible apply Keeps.mk'

theorem validEdge_keeps {fl : Bool} {s₀ : State} {rise : ℕ} {t : ℕ} {s : State} (hk : Keeps fl s₀ s) :
    Keeps fl s₀ (validEdge rise t s) := by
  unfold validEdge
  repeat' first
    | with_reducible assumption
    | with_reducible first | apply Keeps.ite | apply Keeps.ite1 | apply serveEdge_keeps | apply State.setReg_keeps | exact Nat.le_refl _ | rfl
    | intro t
    | split
    | with_reducible apply Keeps.mk'

theorem noteQual_keeps {fl : Bool} {s₀ : State} {rise : ℕ} {s : State} (hk : Keeps fl s₀ s) :
    Keeps fl s₀ (noteQual rise s) := by
  unfold noteQual
  repeat' first
    | with_reducible assumption
    | with_reducible first | apply Keeps.ite | apply Keeps.ite1 | exact Nat.le_refl _ | rfl
    | intro t
    | split
    | with_reducible apply Keeps.mk'

theorem inRelock_keeps {fl : Bool} {s₀ : State} {s : State} (hk : Keeps fl s₀ s) :
    Keeps fl s₀ (inRelock s) := by
  unfold inRelock
  with_reducible repeat' first | assumption | apply Keeps.ite | apply Keeps.ite1 | apply pllLaw_keeps

theorem execFsyncEdge_keeps {fl : Bool} {s₀ : State} {rise : ℕ} {high : ℕ} {s : State} (hk : Keeps fl s₀ s) :
    Keeps fl s₀ (execFsyncEdge rise high s) := by
  unfold execFsyncEdge
  repeat' first
    | with_reducible assumption
    | with_reducible first | apply Keeps.ite | apply Keeps.ite1 | apply badEdge_keeps | apply noteQual_keeps | apply pllLock_keeps | apply serveEdge_keeps | apply State.setReg_keeps | apply State.wr_keeps | apply inRelock_keeps | apply validEdge_keeps | apply pllLaw_keeps | exact Nat.le_refl _ | rfl
    | intro t
    | split
    | with_reducible apply Keeps.mk'
    | exact rfl

theorem execFsyncWindowEnd_keeps {fl : Bool} {s₀ : State} {s : State} (hk : Keeps fl s₀ s) :
    Keeps fl s₀ (execFsyncWindowEnd s) := by
  unfold execFsyncWindowEnd
  repeat' first
    | with_reducible assumption
    | with_reducible first | apply Keeps.ite | apply Keeps.ite1 | apply pllLaw_keeps | apply pllLock_keeps | apply State.wr_keeps | apply State.bump_keeps | apply fsyncLost_keeps | exact Nat.le_refl _ | rfl
    | intro t
    | split
    | with_reducible apply Keeps.mk'

theorem execAcquireTimeout_keeps {fl : Bool} {s₀ : State} {at_ : ℕ} {s : State} (hk : Keeps fl s₀ s) :
    Keeps fl s₀ (execAcquireTimeout at_ s) := by
  unfold execAcquireTimeout
  repeat' first
    | with_reducible assumption
    | with_reducible first | apply Keeps.ite | apply Keeps.ite1 | apply raise_keeps | apply State.wr_keeps | exact Nat.le_refl _ | rfl
    | intro t
    | split
    | with_reducible apply Keeps.mk'

theorem execRelockTimeout_keeps {fl : Bool} {s₀ : State} {s : State} (hk : Keeps fl s₀ s) :
    Keeps fl s₀ (execRelockTimeout s) := by
  unfold execRelockTimeout
  with_reducible repeat' first | assumption | apply Keeps.ite | apply Keeps.ite1 | apply fsyncLost_keeps

theorem scnStart_keeps {fl : Bool} {s₀ : State} {s : State} (hk : Keeps fl s₀ s) :
    Keeps fl s₀ (scnStart s) := by
  unfold scnStart
  repeat' first
    | with_reducible assumption
    | with_reducible first | apply Keeps.ite | apply Keeps.ite1 | apply State.wr_keeps | exact Nat.le_refl _ | rfl
    | intro t
    | split
    | with_reducible apply Keeps.mk'

theorem dropAt_keeps {fl : Bool} {s₀ : State} {s : State} (hk : Keeps fl s₀ s) :
    Keeps fl s₀ (dropAt s) := by
  unfold dropAt
  repeat' first
    | with_reducible assumption
    | with_reducible first | apply Keeps.ite | apply Keeps.ite1 | apply State.wr_keeps | exact Nat.le_refl _ | rfl
    | intro t
    | split
    | with_reducible apply Keeps.mk'

theorem scnStop_keeps {fl : Bool} {s₀ : State} {s : State} (hk : Keeps fl s₀ s) :
    Keeps fl s₀ (scnStop s) := by
  unfold scnStop
  repeat' first
    | with_reducible assumption
    | with_reducible first | apply Keeps.ite | apply Keeps.ite1 | apply State.forN_keeps | apply State.wr_keeps | apply dropAt_keeps | exact Nat.le_refl _ | rfl
    | intro t
    | split
    | with_reducible apply Keeps.mk'
    | exact rfl

theorem scnCtrlWrite_keeps {fl : Bool} {s₀ : State} {run : Bool} {so : Bool} {s : State} {t : State} (hk : Keeps fl s₀ s)
    (e : scnCtrlWrite run so s = some t) : Keeps fl s₀ t := by
  unfold scnCtrlWrite at e
  have h1 : ∀ v, Keeps fl s₀ ((s.wr SCN_CTRL_RUN (boolNat run)).wr SCN_CTRL_SO_EN v) := fun v => State.wr_keeps (State.wr_keeps hk)
  split at e
  · cases e
  · injection e with e
    subst e
    have h2 : Keeps fl s₀ (if so = true then (s.wr SCN_CTRL_RUN (boolNat run)).wr SCN_CTRL_SO_EN (boolNat so) else
        { (s.wr SCN_CTRL_RUN (boolNat run)).wr SCN_CTRL_SO_EN (boolNat so) with
          frame := { ((s.wr SCN_CTRL_RUN (boolNat run)).wr SCN_CTRL_SO_EN (boolNat so)).frame with syncOut := false } }) :=
      .ite (h1 _) (Keeps.mk' (h1 _) (Nat.le_refl _) rfl rfl rfl rfl rfl rfl)
    exact .ite (scnStart_keeps h2) (scnStop_keeps h2)

theorem scnCntClr_keeps {fl : Bool} {s₀ : State} {s : State} (hk : Keeps fl s₀ s) :
    Keeps fl s₀ (scnCntClr s) := by
  unfold scnCntClr
  with_reducible repeat' first | assumption | apply Keeps.ite | apply Keeps.ite1 | apply State.setReg_keeps

theorem execSyncOutRise_keeps {fl : Bool} {s₀ : State} {s : State} (hk : Keeps fl s₀ s) :
    Keeps fl s₀ (execSyncOutRise s) := by
  unfold execSyncOutRise
  repeat' first
    | with_reducible assumption
    | with_reducible first | apply Keeps.ite | apply Keeps.ite1 | exact Nat.le_refl _ | rfl
    | intro t
    | split
    | with_reducible apply Keeps.mk'

theorem execSyncOutFall_keeps {fl : Bool} {s₀ : State} {s : State} (hk : Keeps fl s₀ s) :
    Keeps fl s₀ (execSyncOutFall s) := by
  unfold execSyncOutFall
  repeat' first
    | with_reducible assumption
    | with_reducible first | apply Keeps.ite | apply Keeps.ite1 | exact Nat.le_refl _ | rfl
    | intro t
    | split
    | with_reducible apply Keeps.mk'

theorem judgeEarly_keeps {fl : Bool} {s₀ : State} {x : ℕ × Bool} {s : State} (hk : Keeps fl s₀ s) :
    Keeps fl s₀ (judgeEarly x s) := by
  unfold judgeEarly
  repeat' first
    | with_reducible assumption
    | with_reducible first | apply Keeps.ite | apply Keeps.ite1 | apply badEdge_keeps | apply State.setReg_keeps | apply inRelock_keeps | apply validEdge_keeps | exact Nat.le_refl _ | rfl
    | intro t
    | split
    | with_reducible apply Keeps.mk'
    | exact rfl

theorem judgeEdges_keeps {fl : Bool} {s₀ : State} {s : State} (hk : Keeps fl s₀ s) :
    Keeps fl s₀ (judgeEdges s) := by
  unfold judgeEdges
  repeat' first
    | with_reducible assumption
    | with_reducible first | apply Keeps.ite | apply Keeps.ite1 | apply State.forL_keeps | apply judgeEarly_keeps | exact Nat.le_refl _ | rfl
    | intro t
    | split
    | with_reducible apply Keeps.mk'
    | exact rfl

theorem scnTick_keeps {fl : Bool} {s₀ : State} {s : State} (hk : Keeps fl s₀ s) :
    Keeps fl s₀ (scnTick s) := by
  unfold scnTick
  repeat' first
    | with_reducible assumption
    | with_reducible first | apply Keeps.ite | apply Keeps.ite1 | apply judgeEdges_keeps | apply State.takeAct_keeps | apply State.wr_keeps | apply slewPeriod_keeps | apply State.setReg_keeps | exact Nat.le_refl _ | rfl
    | intro t
    | split
    | with_reducible apply Keeps.mk'
    | exact rfl

end Sys2Proof.Machine
end

