-- ==== Sys2Proof/Laws/KeepsFrame.lean ====
section
/-!
SUPPORT. What every operation keeps (the structure Keeps of Laws/Keeps.lean): the pixel array, the sequencer, checks of stored data, composition and the tick's commit.
One lemma per operation, over any state the operation is applied to.
-/
namespace Sys2Proof.Machine

set_option maxRecDepth 2000

theorem setTrim_keeps {fl : Bool} {s₀ : State} {p : ℕ} {v : ℕ} {s : State} (hk : Keeps fl s₀ s) :
    Keeps fl s₀ (setTrim p v s) := by
  unfold setTrim
  repeat' first
    | with_reducible assumption
    | with_reducible first | apply Keeps.ite | apply Keeps.ite1 | exact Nat.le_refl _ | rfl
    | intro t
    | split
    | with_reducible apply Keeps.mk'

theorem mergeTrim_keeps {fl : Bool} {s₀ : State} {errs : List EccErr} {p : ℕ} {v : ℕ} {s : State} (hk : Keeps fl s₀ s) :
    Keeps fl s₀ (mergeTrim errs p v s) := by
  unfold mergeTrim
  repeat' first
    | with_reducible assumption
    | with_reducible first | apply Keeps.ite | apply Keeps.ite1 | apply setTrim_keeps | apply noteErrs_keeps | exact Nat.le_refl _ | rfl
    | intro t
    | split
    | with_reducible apply Keeps.mk'
    | exact rfl

theorem wholeTrimRow_keeps {fl : Bool} {s₀ : State} {r : ℕ} {s : State} (hk : Keeps fl s₀ s) :
    Keeps fl s₀ (wholeTrimRow r s) := by
  unfold wholeTrimRow
  repeat' first
    | with_reducible assumption
    | with_reducible first | apply Keeps.ite | apply Keeps.ite1 | exact Nat.le_refl _ | rfl
    | intro t
    | split
    | with_reducible apply Keeps.mk'
    | exact rfl

theorem putLatch_keeps {fl : Bool} {s₀ : State} {x : ℕ × BitVec 17} {s : State} (hk : Keeps fl s₀ s) :
    Keeps fl s₀ (putLatch x s) := by
  unfold putLatch
  repeat' first
    | with_reducible assumption
    | with_reducible first | apply Keeps.ite | apply Keeps.ite1 | exact Nat.le_refl _ | rfl
    | intro t
    | split
    | with_reducible apply Keeps.mk'

theorem loadRows_keeps {fl : Bool} {s₀ : State} {mode : ℕ} {errs : List EccErr} {q : ℕ} {k : ℕ} {r0 : ℕ} {n : ℕ} {s : State} (hk : Keeps fl s₀ s) :
    Keeps fl s₀ (loadRows mode errs q k r0 n s) := by
  unfold loadRows
  with_reducible repeat' first | assumption | apply Keeps.ite | apply Keeps.ite1 | apply noteErrs_keeps | apply State.forL_keeps | apply putLatch_keeps | apply State.wr_keeps

theorem clearSums_keeps {fl : Bool} {s₀ : State} {s : State} (hk : Keeps fl s₀ s) :
    Keeps fl s₀ (clearSums s) := by
  unfold clearSums
  repeat' first
    | with_reducible assumption
    | with_reducible first | apply Keeps.ite | apply Keeps.ite1 | exact Nat.le_refl _ | rfl
    | intro t
    | split
    | with_reducible apply Keeps.mk'

theorem plainLevel_keeps {fl : Bool} {s₀ : State} {s : State} (hk : Keeps fl s₀ s) :
    Keeps fl s₀ (plainLevel s) := by
  unfold plainLevel
  with_reducible repeat' first | assumption | apply Keeps.ite | apply Keeps.ite1 | apply State.wr_keeps | apply State.setReg_keeps

theorem noteVeto_keeps {fl : Bool} {s₀ : State} {rows : List ℕ} {s : State} (hk : Keeps fl s₀ s) :
    Keeps fl s₀ (noteVeto rows s) := by
  unfold noteVeto
  repeat' first
    | with_reducible assumption
    | with_reducible first | apply Keeps.ite | apply Keeps.ite1 | apply State.wr_keeps | apply State.bump_keeps | apply raise_keeps
    | intro t
    | split

theorem noteGuard_keeps {fl : Bool} {s₀ : State} {zones : ℕ} {rail : Bool} {s : State} (hk : Keeps fl s₀ s) :
    Keeps fl s₀ (noteGuard zones rail s) := by
  unfold noteGuard
  with_reducible repeat' first | assumption | apply Keeps.ite | apply Keeps.ite1 | apply State.wr_keeps | apply State.bump_keeps

theorem showSums_keeps {fl : Bool} {s₀ : State} {s : State} (hk : Keeps fl s₀ s) :
    Keeps fl s₀ (showSums s) := by
  unfold showSums
  repeat' first
    | with_reducible assumption
    | with_reducible first | apply Keeps.ite | apply Keeps.ite1 | apply State.wr_keeps | apply State.forN_keeps
    | intro t

theorem releaseP0_keeps {fl : Bool} {s₀ : State} {s : State} (hk : Keeps fl s₀ s) :
    Keeps fl s₀ (releaseP0 s) := by
  unfold releaseP0
  repeat' first
    | with_reducible assumption
    | with_reducible first | apply Keeps.ite | apply Keeps.ite1 | apply State.wr_keeps | exact Nat.le_refl _ | rfl
    | intro t
    | split
    | with_reducible apply Keeps.mk'

theorem transferLatches_keeps {s₀ : State} {mode : Nat} {darkSeq : List Nat} {s : State} (hk : Keeps false s₀ s) :
    Keeps false s₀ (transferLatches mode darkSeq s) := by
  unfold transferLatches
  exact releaseP0_keeps (noteVeto_keeps (noteGuard_keeps (showSums_keeps (Keeps.mkF hk (Nat.le_refl _) rfl rfl rfl))))

theorem pxaCntClr_keeps {fl : Bool} {s₀ : State} {s : State} (hk : Keeps fl s₀ s) :
    Keeps fl s₀ (pxaCntClr s) := by
  unfold pxaCntClr
  with_reducible repeat' first | assumption | apply Keeps.ite | apply Keeps.ite1 | apply State.setReg_keeps

theorem setSeqOne_keeps {fl : Bool} {s₀ : State} {q : ℕ} {x : SeqOne} {s : State} (hk : Keeps fl s₀ s) :
    Keeps fl s₀ (setSeqOne q x s) := by
  unfold setSeqOne
  repeat' first
    | with_reducible assumption
    | with_reducible first | apply Keeps.ite | apply Keeps.ite1 | exact Nat.le_refl _ | rfl
    | intro t
    | split
    | with_reducible apply Keeps.mk'

theorem seqStore_keeps {fl : Bool} {s₀ : State} {b : ℕ} {w : List ℕ} {q : ℕ} {s : State} (hk : Keeps fl s₀ s) :
    Keeps fl s₀ (seqStore b w q s) := by
  unfold seqStore
  repeat' first
    | with_reducible assumption
    | with_reducible first | apply Keeps.ite | apply Keeps.ite1 | apply State.setReg_keeps | apply State.setBit_keeps | exact Nat.le_refl _ | rfl
    | intro t
    | split
    | with_reducible apply Keeps.mk'

theorem seqLoad_keeps {fl : Bool} {s₀ : State} {mask : ℕ} {b : ℕ} {img : List ℕ} {s : State} (hk : Keeps fl s₀ s) :
    Keeps fl s₀ (seqLoad mask b img s).1 := by
  unfold seqLoad
  repeat' first
    | with_reducible assumption
    | with_reducible first | apply Keeps.ite | apply Keeps.ite1 | apply State.forL_keeps | apply State.wr_keeps | apply seqStore_keeps
    | intro t
    | split

theorem seqLatch_keeps {fl : Bool} {s₀ : State} {s : State} (hk : Keeps fl s₀ s) :
    Keeps fl s₀ (seqLatch s) := by
  unfold seqLatch
  repeat' first
    | with_reducible assumption
    | with_reducible first | apply Keeps.ite | apply Keeps.ite1 | apply State.forN_keeps | apply State.wr_keeps | apply setSeqOne_keeps
    | intro t

theorem seqActivate_keeps {fl : Bool} {s₀ : State} {s : State} (hk : Keeps fl s₀ s) :
    Keeps fl s₀ (seqActivate s) := by
  unfold seqActivate
  repeat' first
    | with_reducible assumption
    | (intro t; refine (have ht : Keeps fl s₀ t := ?_; ?_); (on_goal 1 => subst t); (on_goal 2 => clear_value t; obtain ⟨u, hu⟩ : ∃ u, u = t := ⟨t, rfl⟩; subst hu))
    | intro t
    | lift_lets
    | with_reducible first | apply Keeps.ite | apply Keeps.ite1 | apply State.forN_keeps | apply setSeqOne_keeps | apply State.wr_keeps

theorem seqSlotStart_keeps {fl : Bool} {s₀ : State} {k : ℕ} {s : State} (hk : Keeps fl s₀ s) :
    Keeps fl s₀ (seqSlotStart k s) := by
  unfold seqSlotStart
  repeat' first
    | with_reducible assumption
    | with_reducible first | apply Keeps.ite | apply Keeps.ite1 | apply State.forN_keeps | apply State.wr_keeps | apply setSeqOne_keeps | apply State.bump_keeps | exact Nat.le_refl _ | rfl
    | intro t
    | split
    | with_reducible apply Keeps.mk'

theorem seqWordUe_keeps {fl : Bool} {s₀ : State} {q : ℕ} {s : State} (hk : Keeps fl s₀ s) :
    Keeps fl s₀ (seqWordUe q s) := by
  unfold seqWordUe
  repeat' first
    | with_reducible assumption
    | with_reducible first | apply Keeps.ite | apply Keeps.ite1 | apply setSeqOne_keeps | apply State.clrBit_keeps | exact Nat.le_refl _ | rfl
    | intro t
    | split
    | with_reducible apply Keeps.mk'

theorem walk_keeps {fl : Bool} {s₀ : State} {code : ℕ} {q : ℕ} {errs : List EccErr} {act : ℕ → ℕ → State → State} {s : State} (hk : Keeps fl s₀ s) (h_act : ∀ x0 x1 u, Keeps fl s₀ u → Keeps fl s₀ (act x0 x1 u)) :
    Keeps fl s₀ (walk code q errs act s) := by
  unfold walk
  repeat' first
    | with_reducible assumption
    | with_reducible first | apply Keeps.ite | apply Keeps.ite1 | apply seqWordUe_keeps | apply noteErrs_keeps | apply State.wr_keeps | apply h_act
    | intro t
    | split

theorem walkArray_keeps {fl : Bool} {s₀ : State} {code : ℕ} {q : ℕ} {errs : List EccErr} {act : ℕ → ℕ → State → State} {s : State} (hk : Keeps fl s₀ s) (h_act : ∀ x0 x1 u, Keeps fl s₀ u → Keeps fl s₀ (act x0 x1 u)) :
    Keeps fl s₀ (walkArray code q errs act s) := by
  unfold walkArray
  repeat' first
    | with_reducible assumption
    | (intro t; refine (have ht : Keeps fl s₀ t := ?_; ?_); (on_goal 1 => subst t); (on_goal 2 => clear_value t; obtain ⟨u, hu⟩ : ∃ u, u = t := ⟨t, rfl⟩; subst hu))
    | intro t
    | lift_lets
    | with_reducible first | apply Keeps.ite | apply Keeps.ite1 | apply walk_keeps | apply h_act

theorem seqCntClr_keeps {fl : Bool} {s₀ : State} {q : ℕ} {s : State} (hk : Keeps fl s₀ s) :
    Keeps fl s₀ (seqCntClr q s) := by
  unfold seqCntClr
  with_reducible repeat' first | assumption | apply Keeps.ite | apply Keeps.ite1 | apply State.setReg_keeps

theorem setUnitValue_keeps {fl : Bool} {s₀ : State} {n : ℕ} {v : ℕ} {s : State} (hk : Keeps fl s₀ s) :
    Keeps fl s₀ (setUnitValue n v s) := by
  unfold setUnitValue
  with_reducible repeat' first | assumption | apply Keeps.ite | apply Keeps.ite1 | apply State.setReg_keeps

theorem unitInit_keeps {fl : Bool} {s₀ : State} {n : ℕ} {s : State} (hk : Keeps fl s₀ s) :
    Keeps fl s₀ (unitInit n s) := by
  unfold unitInit
  with_reducible repeat' first | assumption | apply Keeps.ite | apply Keeps.ite1 | apply setUnitValue_keeps

theorem unitFeed_keeps {fl : Bool} {s₀ : State} {n : ℕ} {bs : List ℕ} {s : State} (hk : Keeps fl s₀ s) :
    Keeps fl s₀ (unitFeed n bs s) := by
  unfold unitFeed
  with_reducible repeat' first | assumption | apply Keeps.ite | apply Keeps.ite1 | apply setUnitValue_keeps

theorem unitOpen_keeps {fl : Bool} {s₀ : State} {n : ℕ} {s : State} (hk : Keeps fl s₀ s) :
    Keeps fl s₀ (unitOpen n s) := by
  unfold unitOpen
  with_reducible repeat' first | assumption | apply Keeps.ite | apply Keeps.ite1 | apply unitInit_keeps

theorem openUnit_keeps {fl : Bool} {s₀ : State} {u : Option ℕ} {s : State} (hk : Keeps fl s₀ s) :
    Keeps fl s₀ (openUnit u s) := by
  unfold openUnit
  repeat' first
    | with_reducible assumption
    | with_reducible first | apply Keeps.ite | apply Keeps.ite1 | apply unitOpen_keeps
    | intro t
    | split

theorem feedUnit_keeps {fl : Bool} {s₀ : State} {u : Option ℕ} {bs : List ℕ} {s : State} (hk : Keeps fl s₀ s) :
    Keeps fl s₀ (feedUnit u bs s) := by
  unfold feedUnit
  repeat' first
    | with_reducible assumption
    | with_reducible first | apply Keeps.ite | apply Keeps.ite1 | apply unitFeed_keeps
    | intro t
    | split

theorem checkField_keeps {fl : Bool} {s₀ : State} {u : Option ℕ} {field : List ℕ} {s : State} (hk : Keeps fl s₀ s) :
    Keeps fl s₀ (checkField u field s).1 := by
  unfold checkField
  repeat' first
    | with_reducible assumption
    | with_reducible first | apply Keeps.ite | apply Keeps.ite1 | apply State.bump_keeps
    | intro t
    | split

theorem openXfer_keeps {fl : Bool} {s₀ : State} {o : Outst} {n : ℕ} {given : List ℕ} {absorb : Bool} {s : State} (hk : Keeps fl s₀ s) :
    Keeps fl s₀ (openXfer o n given absorb s) := by
  unfold openXfer
  repeat' first
    | with_reducible assumption
    | with_reducible first | apply Keeps.ite | apply Keeps.ite1 | apply syncStat_keeps | exact Nat.le_refl _ | rfl
    | intro t
    | split
    | with_reducible apply Keeps.mk'

theorem refuseXfer_keeps {fl : Bool} {s₀ : State} {o : Outst} {st : Status} {s : State} (hk : Keeps fl s₀ s) :
    Keeps fl s₀ (refuseXfer o st s).1 := by
  unfold refuseXfer
  with_reducible repeat' first | assumption | apply Keeps.ite | apply Keeps.ite1 | apply ans_keeps | apply openXfer_keeps

theorem appendCheck_keeps {fl : Bool} {s₀ : State} {o : Outst} {a : Ans} {s : State} (hk : Keeps fl s₀ s) :
    Keeps fl s₀ (appendCheck o a s).1 := by
  unfold appendCheck
  repeat' first
    | with_reducible assumption
    | with_reducible first | apply Keeps.ite | apply Keeps.ite1 | apply unitFeed_keeps | apply unitOpen_keeps
    | intro t
    | split

theorem putBytes_wf {a : Nat} {l : List Nat} {m : List (Nat × BitVec 8)} (h : storeWf (fun _ => 0#8) m = true) :
    storeWf (fun _ => 0#8) (putBytes a l m) = true := by
  induction l generalizing a m with
  | nil => exact h
  | cons b l ih => exact ih (storeWf_storeSet (fun _ => 0#8) m a _ h)

theorem smemWrite_keeps {fl : Bool} {s₀ : State} {errs : List EccErr} {a : Nat} {bs : List Nat} {s : State}
    (hk : Keeps fl s₀ s) : Keeps fl s₀ (smemWrite errs a bs s) := by
  unfold smemWrite
  exact noteErrs_keeps { hk with mem := fun e => putBytes_wf (hk.mem e) }

theorem endSurf_keeps {fl : Bool} {s₀ : State} {u : Option ℕ} {n : ℕ} {field : List ℕ} {s : State} (hk : Keeps fl s₀ s) :
    Keeps fl s₀ (endSurf u n field s).1 := by
  unfold endSurf
  with_reducible repeat' first | assumption | apply Keeps.ite | apply Keeps.ite1 | apply checkField_keeps

theorem surfWrite_keeps {fl : Bool} {s₀ : State} {o : Outst} {s : State} (hk : Keeps fl s₀ s) :
    Keeps fl s₀ (surfWrite o s).1 := by
  unfold surfWrite
  repeat' first
    | with_reducible assumption
    | with_reducible first | apply Keeps.ite | apply Keeps.ite1 | apply refuseXfer_keeps | apply raise_keeps | apply feedUnit_keeps | apply openUnit_keeps | apply smemWrite_keeps | apply endSurf_keeps | apply answerLater_keeps | apply openXfer_keeps
    | intro t
    | split

theorem surfRead_keeps {fl : Bool} {s₀ : State} {o : Outst} {s : State} (hk : Keeps fl s₀ s) :
    Keeps fl s₀ (surfRead o s).1 := by
  unfold surfRead
  repeat' first
    | with_reducible assumption
    | with_reducible first | apply Keeps.ite | apply Keeps.ite1 | apply answerOff_keeps | apply ans_keeps | apply noteErrs_keeps | apply okW_keeps
    | intro t
    | split

theorem surfFill_keeps {fl : Bool} {s₀ : State} {o : Outst} {s : State} (hk : Keeps fl s₀ s) :
    Keeps fl s₀ (surfFill o s).1 := by
  unfold surfFill
  repeat' first
    | with_reducible assumption
    | with_reducible first | apply Keeps.ite | apply Keeps.ite1 | apply answerOff_keeps | apply ans_keeps | apply ok_keeps | apply smemWrite_keeps
    | intro t
    | split

theorem surfCopy_keeps {fl : Bool} {s₀ : State} {o : Outst} {s : State} (hk : Keeps fl s₀ s) :
    Keeps fl s₀ (surfCopy o s).1 := by
  unfold surfCopy
  repeat' first
    | with_reducible assumption
    | with_reducible first | apply Keeps.ite | apply Keeps.ite1 | apply answerOff_keeps | apply ans_keeps | apply smemWrite_keeps | apply noteErrs_keeps | apply ok_keeps
    | intro t
    | split

theorem retireQuery_keeps {fl : Bool} {s₀ : State} {o : Outst} {s : State} (hk : Keeps fl s₀ s) :
    Keeps fl s₀ (retireQuery o s).1 := by
  unfold retireQuery
  with_reducible repeat' first | assumption | apply Keeps.ite | apply Keeps.ite1 | apply ans_keeps | apply answerOff_keeps | apply okW_keeps

theorem smemTrain_keeps {fl : Bool} {s₀ : State} {s : State} (hk : Keeps fl s₀ s) :
    Keeps fl s₀ (smemTrain s).1 := by
  unfold smemTrain
  with_reducible repeat' first | assumption | apply Keeps.ite | apply Keeps.ite1 | apply State.wr_keeps | apply State.setReg_keeps

theorem execTrainingComplete_keeps {fl : Bool} {s₀ : State} {fail : Fin 8} {rdEye : BitVec 8} {wrEye : BitVec 8} {s : State} (hk : Keeps fl s₀ s) :
    Keeps fl s₀ (execTrainingComplete fail rdEye wrEye s) := by
  unfold execTrainingComplete
  repeat' first
    | with_reducible assumption
    | with_reducible first | apply Keeps.ite | apply Keeps.ite1 | apply State.wr_keeps | apply State.setReg_keeps | exact Nat.le_refl _ | rfl
    | intro t
    | split
    | with_reducible apply Keeps.mk'

theorem execMr4Read_keeps {fl : Bool} {s₀ : State} {code : BitVec 3} {s : State} (hk : Keeps fl s₀ s) :
    Keeps fl s₀ (execMr4Read code s) := by
  unfold execMr4Read
  repeat' first
    | with_reducible assumption
    | with_reducible first | apply Keeps.ite | apply Keeps.ite1 | apply State.wr_keeps | exact Nat.le_refl _ | rfl
    | intro t
    | split
    | with_reducible apply Keeps.mk'

theorem execDqsOscRead_keeps {fl : Bool} {s₀ : State} {drift : ℕ} {s : State} (hk : Keeps fl s₀ s) :
    Keeps fl s₀ (execDqsOscRead drift s) := by
  unfold execDqsOscRead
  repeat' first
    | with_reducible assumption
    | with_reducible first | apply Keeps.ite | apply Keeps.ite1 | exact Nat.le_refl _ | rfl
    | intro t
    | split
    | with_reducible apply Keeps.mk'

theorem execSelfRefreshExit_keeps {fl : Bool} {s₀ : State} {s : State} (hk : Keeps fl s₀ s) :
    Keeps fl s₀ (execSelfRefreshExit s) := by
  unfold execSelfRefreshExit
  with_reducible repeat' first | assumption | apply Keeps.ite | apply Keeps.ite1 | apply State.wr_keeps

theorem smemCntClr_keeps {fl : Bool} {s₀ : State} {s : State} (hk : Keeps fl s₀ s) :
    Keeps fl s₀ (smemCntClr s) := by
  unfold smemCntClr
  with_reducible repeat' first | assumption | apply Keeps.ite | apply Keeps.ite1 | apply State.setReg_keeps

theorem writeBack_keeps {fl : Bool} {s₀ : State} {bank : List (ℕ × BitVec 16)} {crc : ℕ} {s : State} (hk : Keeps fl s₀ s) :
    Keeps fl s₀ (writeBack bank crc s) := by
  unfold writeBack
  with_reducible repeat' first | assumption | apply Keeps.ite | apply Keeps.ite1 | apply smemWrite_keeps

theorem fbRegionUe_keeps {fl : Bool} {s₀ : State} {errs : List EccErr} {s : State} (hk : Keeps fl s₀ s) :
    Keeps fl s₀ (fbRegionUe errs s) := by
  unfold fbRegionUe
  with_reducible repeat' first | assumption | apply Keeps.ite | apply Keeps.ite1 | apply fbClear_keeps

theorem execCompositionComplete_keeps {fl : Bool} {s₀ : State} {errs : List EccErr} {s : State} (hk : Keeps fl s₀ s) :
    Keeps fl s₀ (execCompositionComplete errs s) := by
  unfold execCompositionComplete
  repeat' first
    | with_reducible assumption
    | (intro t; refine (have ht : Keeps fl s₀ t := ?_; ?_); (on_goal 1 => subst t); (on_goal 2 => clear_value t; obtain ⟨u, hu⟩ : ∃ u, u = t := ⟨t, rfl⟩; subst hu))
    | (intro t; refine (have ht : Keeps fl s₀ t.1 := ?_; ?_); (on_goal 1 => subst t); (on_goal 2 => clear_value t; obtain ⟨u, hu⟩ : ∃ u, u = t := ⟨t, rfl⟩; subst hu))
    | intro t
    | lift_lets
    | with_reducible first
      | apply Keeps.ite
      | apply Keeps.ite1
      | apply noteErrs_keeps
      | apply State.when_keeps
      | apply raise_keeps
      | apply State.forL_keeps
      | apply State.bump_keeps
      | apply fbRegionUe_keeps
      | apply State.wr_keeps
      | apply writeBack_keeps
      | exact Nat.le_refl _
      | rfl
      | (refine Keeps.foldl _ ?_ _ ?_)
      | (refine Keeps.foldl1 _ ?_ _ ?_)
    | split
    | (refine Keeps.of_fst ?_ (by assumption))
    | (with_reducible apply Keeps.mk')
    | exact rfl
    | exact Nat.le_add_right _ _

theorem ownerNote_keeps {fl : Bool} {s₀ : State} {ch : ℕ} {k : ℕ} {s : State} (hk : Keeps fl s₀ s) :
    Keeps fl s₀ (ownerNote ch k s) := by
  unfold ownerNote
  with_reducible repeat' first | assumption | apply Keeps.ite | apply Keeps.ite1 | apply State.wr_keeps

theorem layerSet_keeps {fl : Bool} {s₀ : State} {o : Outst} {s : State} (hk : Keeps fl s₀ s) :
    Keeps fl s₀ (layerSet o s).1 := by
  unfold layerSet
  repeat' first
    | with_reducible assumption
    | with_reducible first | apply Keeps.ite | apply Keeps.ite1 | apply ans_keeps | apply answerOff_keeps | apply ok_keeps | apply ownerNote_keeps | apply State.forN_keeps | apply State.setReg_keeps
    | intro t

theorem layerSwitch_keeps {fl : Bool} {s₀ : State} {en : ℕ} {o : Outst} {s : State} (hk : Keeps fl s₀ s) :
    Keeps fl s₀ (layerSwitch en o s).1 := by
  unfold layerSwitch
  with_reducible repeat' first | assumption | apply Keeps.ite | apply Keeps.ite1 | apply ans_keeps | apply answerOff_keeps | apply ok_keeps | apply ownerNote_keeps | apply State.wr_keeps

theorem layerEnable_keeps {fl : Bool} {s₀ : State} {o : Outst} {s : State} (hk : Keeps fl s₀ s) :
    Keeps fl s₀ (layerEnable o s).1 := by
  unfold layerEnable
  with_reducible repeat' first | assumption | apply Keeps.ite | apply Keeps.ite1 | apply layerSwitch_keeps

theorem layerDisable_keeps {fl : Bool} {s₀ : State} {o : Outst} {s : State} (hk : Keeps fl s₀ s) :
    Keeps fl s₀ (layerDisable o s).1 := by
  unfold layerDisable
  with_reducible repeat' first | assumption | apply Keeps.ite | apply Keeps.ite1 | apply layerSwitch_keeps

theorem syncArmed_keeps {fl : Bool} {s₀ : State} {s : State} (hk : Keeps fl s₀ s) :
    Keeps fl s₀ (syncArmed s) := by
  unfold syncArmed
  with_reducible repeat' first | assumption | apply Keeps.ite | apply Keeps.ite1 | apply State.wr_keeps

theorem commit_keeps {fl : Bool} {s₀ : State} {o : Outst} {s : State} (hk : Keeps fl s₀ s) :
    Keeps fl s₀ (commit o s).1 := by
  unfold commit
  repeat' first
    | with_reducible assumption
    | with_reducible first | apply Keeps.ite | apply Keeps.ite1 | apply ans_keeps | apply answerOff_keeps | apply answerLater_keeps | apply syncArmed_keeps | exact Nat.le_refl _ | rfl
    | intro t
    | split
    | with_reducible apply Keeps.mk'

theorem commitAt_keeps {fl : Bool} {s₀ : State} {o : Outst} {s : State} (hk : Keeps fl s₀ s) :
    Keeps fl s₀ (commitAt o s).1 := by
  unfold commitAt
  repeat' first
    | with_reducible assumption
    | with_reducible first | apply Keeps.ite | apply Keeps.ite1 | apply ans_keeps | apply answerOff_keeps | apply State.setReg_keeps | apply State.wr_keeps | exact Nat.le_refl _ | rfl
    | intro t
    | split
    | with_reducible apply Keeps.mk'

theorem showFigs_keeps {fl : Bool} {s₀ : State} {g : LatchFigs} {s : State} (hk : Keeps fl s₀ s) :
    Keeps fl s₀ (showFigs g s) := by
  unfold showFigs
  with_reducible repeat' first | assumption | apply Keeps.ite | apply Keeps.ite1 | apply State.setReg_keeps

theorem latchCheck_keeps {fl : Bool} {s₀ : State} {s : State} (hk : Keeps fl s₀ s) :
    Keeps fl s₀ (latchCheck s).1 := by
  unfold latchCheck
  repeat' first
    | with_reducible assumption
    | with_reducible first | apply Keeps.ite | apply Keeps.ite1 | apply showFigs_keeps | apply State.wr_keeps | apply State.forN_keeps | apply State.setReg_keeps
    | intro t
    | split

theorem takeShadow_keeps {fl : Bool} {s₀ : State} {a : ℕ} {act : ℕ} {s : State} (hk : Keeps fl s₀ s) :
    Keeps fl s₀ (takeShadow a act s) := by
  unfold takeShadow
  with_reducible repeat' first | assumption | apply Keeps.ite | apply Keeps.ite1 | apply State.setReg_keeps

theorem latchAll_keeps {fl : Bool} {s₀ : State} {fn : ℕ} {s : State} (hk : Keeps fl s₀ s) :
    Keeps fl s₀ (latchAll fn s) := by
  unfold latchAll
  repeat' first
    | with_reducible assumption
    | with_reducible first | apply Keeps.ite | apply Keeps.ite1 | apply State.forL_keeps | apply takeShadow_keeps | apply State.forN_keeps | apply seqLatch_keeps | apply State.wr_keeps | apply State.setReg_keeps | exact Nat.le_refl _ | rfl
    | intro t
    | split
    | with_reducible apply Keeps.mk'

theorem latchCommits_keeps {fl : Bool} {s₀ : State} {fn : ℕ} {s : State} (hk : Keeps fl s₀ s) :
    Keeps fl s₀ (latchCommits fn s) := by
  unfold latchCommits
  repeat' first
    | with_reducible assumption
    | with_reducible first | apply Keeps.ite | apply Keeps.ite1 | apply latchCheck_keeps | apply latchAll_keeps | apply State.when_keeps | apply State.wr_keeps | apply syncArmed_keeps | apply State.forL_keeps | apply replyTo_keeps | exact Nat.le_refl _ | rfl
    | intro t
    | split
    | with_reducible apply Keeps.mk'

theorem setLevels_keeps {fl : Bool} {s₀ : State} {fb : Bool} {s : State} (hk : Keeps fl s₀ s) :
    Keeps fl s₀ (setLevels fb s) := by
  unfold setLevels
  repeat' first
    | with_reducible assumption
    | with_reducible first | apply Keeps.ite | apply Keeps.ite1 | exact Nat.le_refl _ | rfl
    | intro t
    | split
    | with_reducible apply Keeps.mk'
    | exact rfl

theorem takeEst_keeps {fl : Bool} {s₀ : State} {s : State} (hk : Keeps fl s₀ s) :
    Keeps fl s₀ (takeEst s) := by
  unfold takeEst
  repeat' first
    | with_reducible assumption
    | with_reducible first | apply Keeps.ite | apply Keeps.ite1 | exact Nat.le_refl _ | rfl
    | intro t
    | split
    | with_reducible apply Keeps.mk'

theorem execCompositionStart_keeps {fl : Bool} {s₀ : State} {s : State} (hk : Keeps fl s₀ s) :
    Keeps fl s₀ (execCompositionStart s) := by
  unfold execCompositionStart
  repeat' first
    | with_reducible assumption
    | with_reducible first | apply Keeps.ite | apply Keeps.ite1 | apply setLevels_keeps | apply takeEst_keeps | apply latchCommits_keeps | apply State.wr_keeps | exact Nat.le_refl _ | rfl
    | intro t
    | split
    | with_reducible apply Keeps.mk'

theorem showFade_keeps {fl : Bool} {s₀ : State} {k : ℕ} {s : State} (hk : Keeps fl s₀ s) :
    Keeps fl s₀ (showFade k s) := by
  unfold showFade
  with_reducible repeat' first | assumption | apply Keeps.ite | apply Keeps.ite1 | apply State.wr_keeps

theorem swapFrame_keeps {s₀ : State} {c : Comp} {s : State} (hk : Keeps false s₀ s) :
    Keeps false s₀ (swapFrame c s) := by
  unfold swapFrame
  repeat' first
    | with_reducible assumption
    | with_reducible first | apply Keeps.ite | apply Keeps.ite1 | apply State.wr_keeps | apply State.setReg_keeps | apply State.when_keeps | apply State.forN_keeps | apply showFade_keeps | apply recoveryEnd_keeps | exact Nat.le_refl _ | rfl
    | intro t
    | split
    | with_reducible apply Keeps.mkF

theorem repeatFrame_keeps {fl : Bool} {s₀ : State} {c : Comp} {s : State} (hk : Keeps fl s₀ s) :
    Keeps fl s₀ (repeatFrame c s).state := by
  unfold repeatFrame
  dsimp only
  repeat' first
    | with_reducible assumption
    | with_reducible first | apply Keeps.ite | apply State.wr_keeps | apply State.bump_keeps | apply State.when_keeps | apply raise_keeps | apply requireRung_keeps | apply recoveryBegin_keeps | exact Nat.le_refl _ | rfl
    | intro t
    | with_reducible apply Keeps.mk'

theorem cmpTick_keeps {s₀ : State} {s : State} (hk : Keeps false s₀ s) :
    Keeps false s₀ (cmpTick s).state := by
  unfold cmpTick
  split
  · exact Keeps.mk' hk (Nat.le_refl _) rfl rfl rfl rfl rfl rfl
  · dsimp only
    split
    · exact swapFrame_keeps (Keeps.mk' hk (Nat.le_refl _) rfl rfl rfl rfl rfl rfl)
    · exact repeatFrame_keeps (Keeps.mk' hk (Nat.le_refl _) rfl rfl rfl rfl rfl rfl)

theorem cmpCntClr_keeps {fl : Bool} {s₀ : State} {s : State} (hk : Keeps fl s₀ s) :
    Keeps fl s₀ (cmpCntClr s) := by
  unfold cmpCntClr
  with_reducible repeat' first | assumption | apply Keeps.ite | apply Keeps.ite1 | apply State.setReg_keeps

end Sys2Proof.Machine
end

