-- ==== Sys2Proof/Laws/KeepsUnits.lean ====
section
/-!
SUPPORT. What every operation keeps (the structure Keeps of Laws/Keeps.lean): pixel health, the thermal unit, the converter sequences, the trace and loop 0, and table loads.
One lemma per operation, over any state the operation is applied to.
-/
namespace Sys2Proof.Machine

set_option maxRecDepth 2000

theorem setHealth_keeps {fl : Bool} {s₀ : State} {p : ℕ} {v : ℕ} {s : State} (hk : Keeps fl s₀ s) :
    Keeps fl s₀ (setHealth p v s) := by
  unfold setHealth
  repeat' first
    | with_reducible assumption
    | with_reducible first | apply Keeps.ite | apply Keeps.ite1 | exact Nat.le_refl _ | rfl
    | intro t
    | split
    | with_reducible apply Keeps.mk'

theorem setAge_keeps {fl : Bool} {s₀ : State} {p : ℕ} {a : ℕ} {s : State} (hk : Keeps fl s₀ s) :
    Keeps fl s₀ (setAge p a s) := by
  unfold setAge
  with_reducible repeat' first | assumption | apply Keeps.ite | apply Keeps.ite1 | apply setHealth_keeps

theorem syncHealth_keeps {fl : Bool} {s₀ : State} {s : State} (hk : Keeps fl s₀ s) :
    Keeps fl s₀ (syncHealth s) := by
  unfold syncHealth
  with_reducible repeat' first | assumption | apply Keeps.ite | apply Keeps.ite1 | apply State.wr_keeps

theorem setCache_keeps {fl : Bool} {s₀ : State} {i : ℕ} {e : Option Suspect} {s : State} (hk : Keeps fl s₀ s) :
    Keeps fl s₀ (setCache i e s) := by
  unfold setCache
  repeat' first
    | with_reducible assumption
    | with_reducible first | apply Keeps.ite | apply Keeps.ite1 | exact Nat.le_refl _ | rfl
    | intro t
    | split
    | with_reducible apply Keeps.mk'

theorem dropCache_keeps {fl : Bool} {s₀ : State} {p : ℕ} {s : State} (hk : Keeps fl s₀ s) :
    Keeps fl s₀ (dropCache p s) := by
  unfold dropCache
  repeat' first
    | with_reducible assumption
    | with_reducible first | apply Keeps.ite | apply Keeps.ite1 | apply setCache_keeps
    | intro t
    | split

theorem healthRebuild_keeps {fl : Bool} {s₀ : State} {errs : List EccErr} {s : State} (hk : Keeps fl s₀ s) :
    Keeps fl s₀ (healthRebuild errs s) := by
  unfold healthRebuild
  repeat' first
    | with_reducible assumption
    | with_reducible first | apply Keeps.ite | apply Keeps.ite1 | apply State.forL_keeps | apply State.forN_keeps | apply setHealth_keeps | apply dropCache_keeps
    | intro t

theorem pxhLast_keeps {fl : Bool} {s₀ : State} {event : ℕ} {p : ℕ} {s : State} (hk : Keeps fl s₀ s) :
    Keeps fl s₀ (pxhLast event p s) := by
  unfold pxhLast
  with_reducible repeat' first | assumption | apply Keeps.ite | apply Keeps.ite1 | apply State.wr_keeps

theorem confirmFail_keeps {fl : Bool} {s₀ : State} {p : ℕ} {kind : ℕ} {s : State} (hk : Keeps fl s₀ s) :
    Keeps fl s₀ (confirmFail p kind s) := by
  unfold confirmFail
  repeat' first
    | with_reducible assumption
    | with_reducible first | apply Keeps.ite | apply Keeps.ite1 | apply raise_keeps | apply pxhLast_keeps | exact Nat.le_refl _ | rfl
    | intro t
    | split
    | with_reducible apply Keeps.mk'

theorem newSuspect_keeps {fl : Bool} {s₀ : State} {p : ℕ} {kind : ℕ} {fresh : Bool} {s : State} (hk : Keeps fl s₀ s) :
    Keeps fl s₀ (newSuspect p kind fresh s) := by
  unfold newSuspect
  repeat' first
    | with_reducible assumption
    | with_reducible first | apply Keeps.ite | apply Keeps.ite1 | apply setCache_keeps | apply confirmFail_keeps | apply raise_keeps | apply State.bump_keeps
    | intro t
    | split

theorem pixelFail_keeps {fl : Bool} {s₀ : State} {p : ℕ} {kind : ℕ} {s : State} (hk : Keeps fl s₀ s) :
    Keeps fl s₀ (pixelFail p kind s) := by
  unfold pixelFail
  repeat' first
    | with_reducible assumption
    | with_reducible first | apply Keeps.ite | apply Keeps.ite1 | apply setCache_keeps | apply confirmFail_keeps | apply newSuspect_keeps | apply setHealth_keeps
    | intro t
    | split

theorem clearSuspect_keeps {fl : Bool} {s₀ : State} {p : ℕ} {s : State} (hk : Keeps fl s₀ s) :
    Keeps fl s₀ (clearSuspect p s) := by
  unfold clearSuspect
  with_reducible repeat' first | assumption | apply Keeps.ite | apply Keeps.ite1 | apply setHealth_keeps

theorem pixelVerify_keeps {fl : Bool} {s₀ : State} {p : ℕ} {s : State} (hk : Keeps fl s₀ s) :
    Keeps fl s₀ (pixelVerify p s) := by
  unfold pixelVerify
  repeat' first
    | with_reducible assumption
    | with_reducible first | apply Keeps.ite | apply Keeps.ite1 | apply clearSuspect_keeps | apply setCache_keeps | apply setAge_keeps
    | intro t
    | split

theorem strobePixel_keeps {fl : Bool} {s₀ : State} {useHr : Bool} {useVf : Bool} {hrTrip : Bool} {vfTrip : Bool} {p : ℕ} {s : State} (hk : Keeps fl s₀ s) :
    Keeps fl s₀ (strobePixel useHr useVf hrTrip vfTrip p s) := by
  unfold strobePixel
  repeat' first
    | with_reducible assumption
    | with_reducible first | apply Keeps.ite | apply Keeps.ite1 | apply pixelFail_keeps | apply pixelVerify_keeps | exact Nat.le_refl _ | rfl
    | intro t
    | split
    | with_reducible apply Keeps.mk'

theorem strobe_keeps {fl : Bool} {s₀ : State} {comp : ℕ} {hr : List ℕ} {vf : List ℕ} {px : List ℕ} {s : State} (hk : Keeps fl s₀ s) :
    Keeps fl s₀ (strobe comp hr vf px s) := by
  unfold strobe
  repeat' first
    | with_reducible assumption
    | with_reducible first | apply Keeps.ite | apply Keeps.ite1 | apply State.bumpBy_keeps | apply syncHealth_keeps | apply State.forL_keeps | apply strobePixel_keeps
    | intro t

theorem measEvent_keeps {fl : Bool} {s₀ : State} {q : ℕ} {m : ℕ} {comp : ℕ} {hr : List ℕ} {vf : List ℕ} {errs : List EccErr} {s : State} (hk : Keeps fl s₀ s) :
    Keeps fl s₀ (measEvent q m comp hr vf errs s) := by
  unfold measEvent
  repeat' first
    | with_reducible assumption
    | with_reducible first | apply Keeps.ite | apply Keeps.ite1 | apply syncHealth_keeps | apply healthRebuild_keeps | apply strobe_keeps | apply State.bumpBy_keeps | exact Nat.le_refl _ | rfl
    | intro t
    | split
    | with_reducible apply Keeps.mk'

theorem retireOne_keeps {fl : Bool} {s₀ : State} {errs : List EccErr} {r : Retire} {s : State} (hk : Keeps fl s₀ s) :
    Keeps fl s₀ (retireOne errs r s) := by
  unfold retireOne
  repeat' first
    | with_reducible assumption
    | with_reducible first | apply Keeps.ite | apply Keeps.ite1 | apply dropCache_keeps | apply setHealth_keeps | apply mergeTrim_keeps | apply pxhLast_keeps | apply raise_keeps | apply State.bump_keeps
    | intro t
    | split

theorem healthMeets_keeps {fl : Bool} {s₀ : State} {errs : List EccErr} {s : State} (hk : Keeps fl s₀ s) :
    Keeps fl s₀ (healthMeets errs s) := by
  unfold healthMeets
  with_reducible repeat' first | assumption | apply Keeps.ite | apply Keeps.ite1 | apply syncHealth_keeps | apply healthRebuild_keeps | apply noteErrs_keeps

theorem retireAll_keeps {fl : Bool} {s₀ : State} {errs : List EccErr} {s : State} (hk : Keeps fl s₀ s) :
    Keeps fl s₀ (retireAll errs s) := by
  unfold retireAll
  repeat' first
    | with_reducible assumption
    | with_reducible first | apply Keeps.ite | apply Keeps.ite1 | apply syncHealth_keeps | apply State.forL_keeps | apply retireOne_keeps | exact Nat.le_refl _ | rfl
    | intro t
    | split
    | with_reducible apply Keeps.mk'
    | exact rfl

theorem execRetireWrite_keeps {fl : Bool} {s₀ : State} {errs : List EccErr} {s : State} (hk : Keeps fl s₀ s) :
    Keeps fl s₀ (execRetireWrite errs s) := by
  unfold execRetireWrite
  with_reducible repeat' first | assumption | apply Keeps.ite | apply Keeps.ite1 | apply retireAll_keeps | apply healthMeets_keeps

theorem trimMerge_keeps {fl : Bool} {s₀ : State} {p : ℕ} {v : ℕ} {s : State} (hk : Keeps fl s₀ s) :
    Keeps fl s₀ (trimMerge p v s) := by
  unfold trimMerge
  with_reducible repeat' first | assumption | apply Keeps.ite | apply Keeps.ite1 | apply setTrim_keeps | apply dropCache_keeps | apply setHealth_keeps

theorem trimWrite_keeps {fl : Bool} {s₀ : State} {s : State} (hk : Keeps fl s₀ s) :
    Keeps fl s₀ (trimWrite s) := by
  unfold trimWrite
  repeat' first
    | with_reducible assumption
    | with_reducible first | apply Keeps.ite | apply Keeps.ite1 | apply syncHealth_keeps | apply State.forL_keeps | apply wholeTrimRow_keeps | apply State.forN_keeps | apply trimMerge_keeps | exact Nat.le_refl _ | rfl
    | intro t
    | split
    | with_reducible apply Keeps.mk'
    | exact rfl

theorem proofFix_keeps {fl : Bool} {s₀ : State} {scan : ℕ} {reach : ℕ} {s : State} (hk : Keeps fl s₀ s) :
    Keeps fl s₀ (proofFix scan reach s) := by
  unfold proofFix
  repeat' first
    | with_reducible assumption
    | with_reducible first | apply Keeps.ite | apply Keeps.ite1 | apply State.bumpBy_keeps | exact Nat.le_refl _ | rfl
    | intro t
    | split
    | with_reducible apply Keeps.mk'

theorem execProofListFix_keeps {fl : Bool} {s₀ : State} {scan : ℕ} {reach : ℕ} {errs : List EccErr} {s : State} (hk : Keeps fl s₀ s) :
    Keeps fl s₀ (execProofListFix scan reach errs s) := by
  unfold execProofListFix
  repeat' first
    | with_reducible assumption
    | with_reducible first | apply Keeps.ite | apply Keeps.ite1 | apply proofFix_keeps | apply healthMeets_keeps | exact Nat.le_refl _ | rfl
    | intro t
    | split
    | with_reducible apply Keeps.mk'
    | exact rfl

theorem proofEvent_keeps {fl : Bool} {s₀ : State} {st : ℕ} {arg : ℕ} {s : State} (hk : Keeps fl s₀ s) :
    Keeps fl s₀ (proofEvent st arg s) := by
  unfold proofEvent
  repeat' first
    | with_reducible assumption
    | with_reducible first | apply Keeps.ite | apply Keeps.ite1 | apply State.forN_keeps | apply setSeqOne_keeps
    | intro t

theorem stuckLoc_keeps {fl : Bool} {s₀ : State} {band : ℕ} {pos : ℕ} {s : State} (hk : Keeps fl s₀ s) :
    Keeps fl s₀ (stuckLoc band pos s) := by
  unfold stuckLoc
  repeat' first
    | with_reducible assumption
    | (intro t; refine (have ht : Keeps fl s₀ t := ?_; ?_); (on_goal 1 => subst t); (on_goal 2 => clear_value t; obtain ⟨u, hu⟩ : ∃ u, u = t := ⟨t, rfl⟩; subst hu))
    | intro t
    | lift_lets
    | with_reducible first | apply Keeps.ite | apply Keeps.ite1 | apply State.forN_keeps | apply State.wr_keeps

theorem stuckConfirm_keeps {fl : Bool} {s₀ : State} {z : ℕ} {s : State} (hk : Keeps fl s₀ s) :
    Keeps fl s₀ (stuckConfirm z s) := by
  unfold stuckConfirm
  with_reducible repeat' first | assumption | apply Keeps.ite | apply Keeps.ite1 | apply stuckZoneOff_keeps | apply raise_keeps | apply State.setW1c_keeps

theorem scanConfirm_keeps {fl : Bool} {s₀ : State} {s : State} (hk : Keeps fl s₀ s) :
    Keeps fl s₀ (scanConfirm s) := by
  unfold scanConfirm
  repeat' first
    | with_reducible assumption
    | (intro t; refine (have ht : Keeps fl s₀ t := ?_; ?_); (on_goal 1 => subst t); (on_goal 2 => clear_value t; obtain ⟨u, hu⟩ : ∃ u, u = t := ⟨t, rfl⟩; subst hu))
    | intro t
    | lift_lets
    | with_reducible first | apply Keeps.ite | apply Keeps.ite1 | apply State.forN_keeps | apply stuckConfirm_keeps | exact Nat.le_refl _ | rfl
    | split
    | with_reducible apply Keeps.mk'
    | exact rfl

theorem setLoc_keeps {fl : Bool} {s₀ : State} {l : List (ℕ × ℕ)} {s : State} (hk : Keeps fl s₀ s) :
    Keeps fl s₀ (setLoc l s) := by
  unfold setLoc
  repeat' first
    | with_reducible assumption
    | with_reducible first | apply Keeps.ite | apply Keeps.ite1 | apply State.wr_keeps | exact Nat.le_refl _ | rfl
    | intro t
    | split
    | with_reducible apply Keeps.mk'
    | exact rfl

theorem wholeScan_keeps {fl : Bool} {s₀ : State} {pos : ℕ} {off : ℕ} {s : State} (hk : Keeps fl s₀ s) :
    Keeps fl s₀ (wholeScan pos off s) := by
  unfold wholeScan
  repeat' first
    | with_reducible assumption
    | with_reducible first | apply Keeps.ite | apply Keeps.ite1 | apply State.wr_keeps | apply setLoc_keeps | exact Nat.le_refl _ | rfl
    | intro t
    | split
    | with_reducible apply Keeps.mk'
    | exact rfl

theorem bandScan_keeps {fl : Bool} {s₀ : State} {b : ℕ} {pos : ℕ} {s : State} (hk : Keeps fl s₀ s) :
    Keeps fl s₀ (bandScan b pos s) := by
  unfold bandScan
  with_reducible repeat' first | assumption | apply Keeps.ite | apply Keeps.ite1 | apply setLoc_keeps | apply stuckLoc_keeps

theorem darkscanEvent_keeps {fl : Bool} {s₀ : State} {arg : ℕ} {sense : ℕ} {s : State} (hk : Keeps fl s₀ s) :
    Keeps fl s₀ (darkscanEvent arg sense s) := by
  unfold darkscanEvent
  repeat' first
    | with_reducible assumption
    | with_reducible first | apply Keeps.ite | apply Keeps.ite1 | apply wholeScan_keeps | apply scanConfirm_keeps | apply bandScan_keeps | apply stuckLoc_keeps
    | intro t
    | split

theorem pxhTick_keeps {fl : Bool} {s₀ : State} {s : State} (hk : Keeps fl s₀ s) :
    Keeps fl s₀ (pxhTick s) := by
  unfold pxhTick
  repeat' first
    | with_reducible assumption
    | with_reducible first | apply Keeps.ite | apply Keeps.ite1 | exact Nat.le_refl _ | rfl
    | intro t
    | split
    | with_reducible apply Keeps.mk'

theorem stuckTick_keeps {fl : Bool} {s₀ : State} {s : State} (hk : Keeps fl s₀ s) :
    Keeps fl s₀ (stuckTick s) := by
  unfold stuckTick
  repeat' first
    | with_reducible assumption
    | with_reducible first | apply Keeps.ite | apply Keeps.ite1 | apply scanConfirm_keeps | exact Nat.le_refl _ | rfl
    | intro t
    | split
    | with_reducible apply Keeps.mk'
    | exact rfl

theorem sweepPixel_keeps {fl : Bool} {s₀ : State} {p : ℕ} {s : State} (hk : Keeps fl s₀ s) :
    Keeps fl s₀ (sweepPixel p s) := by
  unfold sweepPixel
  repeat' first
    | with_reducible assumption
    | with_reducible first | apply Keeps.ite | apply Keeps.ite1 | apply setHealth_keeps | exact Nat.le_refl _ | rfl
    | intro t
    | split
    | with_reducible apply Keeps.mk'

theorem pxhSlot_keeps {fl : Bool} {s₀ : State} {k : ℕ} {errs : List EccErr} {s : State} (hk : Keeps fl s₀ s) :
    Keeps fl s₀ (pxhSlot k errs s) := by
  unfold pxhSlot
  repeat' first
    | with_reducible assumption
    | with_reducible first | apply Keeps.ite | apply Keeps.ite1 | apply healthRebuild_keeps | apply State.takeAct_keeps | apply syncHealth_keeps | apply State.forL_keeps | apply sweepPixel_keeps | apply raise_keeps | exact Nat.le_refl _ | rfl
    | intro t
    | split
    | with_reducible apply Keeps.mk'

theorem healthRead_keeps {fl : Bool} {s₀ : State} {o : Outst} {s : State} (hk : Keeps fl s₀ s) :
    Keeps fl s₀ (healthRead o s).1 := by
  unfold healthRead
  repeat' first
    | with_reducible assumption
    | with_reducible first | apply Keeps.ite | apply Keeps.ite1 | apply ans_keeps | apply healthMeets_keeps | apply okW_keeps
    | intro t
    | split

theorem spareForce_keeps {fl : Bool} {s₀ : State} {o : Outst} {s : State} (hk : Keeps fl s₀ s) :
    Keeps fl s₀ (spareForce o s).1 := by
  unfold spareForce
  repeat' first
    | with_reducible assumption
    | with_reducible first | apply Keeps.ite | apply Keeps.ite1 | apply ans_keeps | apply healthMeets_keeps | apply ok_keeps | exact Nat.le_refl _ | rfl
    | intro t
    | split
    | with_reducible apply Keeps.mk'
    | exact rfl

theorem proofReq_keeps {fl : Bool} {s₀ : State} {o : Outst} {s : State} (hk : Keeps fl s₀ s) :
    Keeps fl s₀ (proofReq o s).1 := by
  unfold proofReq
  repeat' first
    | with_reducible assumption
    | with_reducible first | apply Keeps.ite | apply Keeps.ite1 | apply ans_keeps | apply ok_keeps | apply syncHealth_keeps | apply State.forN_keeps | apply healthMeets_keeps | apply setAge_keeps
    | intro t
    | split

theorem pxhCntClr_keeps {fl : Bool} {s₀ : State} {s : State} (hk : Keeps fl s₀ s) :
    Keeps fl s₀ (pxhCntClr s) := by
  unfold pxhCntClr
  with_reducible repeat' first | assumption | apply Keeps.ite | apply Keeps.ite1 | apply State.setReg_keeps

theorem pxhStuckClear_keeps {fl : Bool} {s₀ : State} {mask : ℕ} {s : State} (hk : Keeps fl s₀ s) :
    Keeps fl s₀ (pxhStuckClear mask s) := by
  unfold pxhStuckClear
  with_reducible repeat' first | assumption | apply Keeps.ite | apply Keeps.ite1 | apply State.wr_keeps

theorem thmTake_keeps {fl : Bool} {s₀ : State} {s : State} (hk : Keeps fl s₀ s) :
    Keeps fl s₀ (thmTake s) := by
  unfold thmTake
  with_reducible repeat' first | assumption | apply Keeps.ite | apply Keeps.ite1 | apply State.takeAct_keeps

theorem openWins_keeps {fl : Bool} {s₀ : State} {cmd : Bool} {l : List ℕ} {s : State} (hk : Keeps fl s₀ s) :
    Keeps fl s₀ (openWins cmd l s) := by
  unfold openWins
  repeat' first
    | with_reducible assumption
    | with_reducible first | apply Keeps.ite | apply Keeps.ite1 | apply thmTake_keeps | exact Nat.le_refl _ | rfl
    | intro t
    | split
    | with_reducible apply Keeps.mk'
    | exact rfl

theorem tempDemand_keeps {fl : Bool} {s₀ : State} {tie : Bool} {key : ℕ} {arg : ℕ} {s : State} (hk : Keeps fl s₀ s) :
    Keeps fl s₀ (tempDemand tie key arg s) := by
  unfold tempDemand
  repeat' first
    | with_reducible assumption
    | with_reducible first | apply Keeps.ite | apply Keeps.ite1 | apply openWins_keeps | apply State.bumpBy_keeps | exact Nat.le_refl _ | rfl
    | intro t
    | split
    | with_reducible apply Keeps.mk'
    | exact rfl

theorem execThmAutoDemand_keeps {fl : Bool} {s₀ : State} {s : State} (hk : Keeps fl s₀ s) :
    Keeps fl s₀ (execThmAutoDemand s) := by
  unfold execThmAutoDemand
  repeat' first
    | with_reducible assumption
    | with_reducible first | apply Keeps.ite | apply Keeps.ite1 | apply openWins_keeps | apply State.bump_keeps | exact Nat.le_refl _ | rfl
    | intro t
    | split
    | with_reducible apply Keeps.mk'

theorem tempMeasure_keeps {fl : Bool} {s₀ : State} {o : Outst} {s : State} (hk : Keeps fl s₀ s) :
    Keeps fl s₀ (tempMeasure o s).1 := by
  unfold tempMeasure
  repeat' first
    | with_reducible assumption
    | with_reducible first | apply Keeps.ite | apply Keeps.ite1 | apply ans_keeps | apply answerLater_keeps | apply holdCmd_keeps | apply openWins_keeps | exact Nat.le_refl _ | rfl
    | intro t
    | split
    | with_reducible apply Keeps.mk'

theorem markBroken_keeps {fl : Bool} {s₀ : State} {k : ℕ} {s : State} (hk : Keeps fl s₀ s) :
    Keeps fl s₀ (markBroken k s) := by
  unfold markBroken
  repeat' first
    | with_reducible assumption
    | with_reducible first | apply Keeps.ite | apply Keeps.ite1 | apply State.setW1c_keeps | apply State.wr_keeps | exact Nat.le_refl _ | rfl
    | intro t
    | split
    | with_reducible apply Keeps.mk'
    | exact rfl

theorem syncBroken_keeps {fl : Bool} {s₀ : State} {s : State} (hk : Keeps fl s₀ s) :
    Keeps fl s₀ (syncBroken s) := by
  unfold syncBroken
  with_reducible repeat' first | assumption | apply Keeps.ite | apply Keeps.ite1 | apply State.wr_keeps

theorem takeCount_keeps {fl : Bool} {s₀ : State} {k : ℕ} {n : ℕ} {win : ℕ} {s : State} (hk : Keeps fl s₀ s) :
    Keeps fl s₀ (takeCount k n win s) := by
  unfold takeCount
  repeat' first
    | with_reducible assumption
    | with_reducible first | apply Keeps.ite | apply Keeps.ite1 | apply State.wr_keeps | apply raise_keeps | apply markBroken_keeps | exact Nat.le_refl _ | rfl
    | intro t
    | split
    | with_reducible apply Keeps.mk'

theorem judgeDev_keeps {fl : Bool} {s₀ : State} {v : State} {k : ℕ} {s : State} (hk : Keeps fl s₀ s) :
    Keeps fl s₀ (judgeDev v k s) := by
  unfold judgeDev
  repeat' first
    | with_reducible assumption
    | with_reducible first | apply Keeps.ite | apply Keeps.ite1 | apply raise_keeps | apply markBroken_keeps | exact Nat.le_refl _ | rfl
    | intro t
    | split
    | with_reducible apply Keeps.mk'

theorem showTemp_keeps {fl : Bool} {s₀ : State} {k : ℕ} {s : State} (hk : Keeps fl s₀ s) :
    Keeps fl s₀ (showTemp k s) := by
  unfold showTemp
  repeat' first
    | with_reducible assumption
    | with_reducible first | apply Keeps.ite | apply Keeps.ite1 | apply State.wr_keeps
    | intro t
    | split

theorem holdDr_keeps {fl : Bool} {s₀ : State} {s : State} (hk : Keeps fl s₀ s) :
    Keeps fl s₀ (holdDr s) := by
  unfold holdDr
  repeat' first
    | with_reducible assumption
    | with_reducible first | apply Keeps.ite | apply Keeps.ite1 | exact Nat.le_refl _ | rfl
    | intro t
    | split
    | with_reducible apply Keeps.mk'
    | exact rfl

theorem thmSummary_keeps {fl : Bool} {s₀ : State} {newly : ℕ} {s : State} (hk : Keeps fl s₀ s) :
    Keeps fl s₀ (thmSummary newly s) := by
  unfold thmSummary
  repeat' first
    | with_reducible assumption
    | with_reducible first | apply Keeps.ite | apply Keeps.ite1 | apply State.wr_keeps | apply State.forN_keeps | apply raise_keeps
    | intro t

theorem zoneConvert_keeps {fl : Bool} {s₀ : State} {z : ℕ} {s : State} (hk : Keeps fl s₀ s) :
    Keeps fl s₀ (zoneConvert z s) := by
  unfold zoneConvert
  repeat' first
    | with_reducible assumption
    | with_reducible first | apply Keeps.ite | apply Keeps.ite1 | apply State.wr_keeps | exact Nat.le_refl _ | rfl
    | intro t
    | split
    | with_reducible apply Keeps.mk'

theorem releaseZones_keeps {fl : Bool} {s₀ : State} {s : State} (hk : Keeps fl s₀ s) :
    Keeps fl s₀ (releaseZones s) := by
  unfold releaseZones
  repeat' first
    | with_reducible assumption
    | (intro t; refine (have ht : Keeps fl s₀ t := ?_; ?_); (on_goal 1 => subst t); (on_goal 2 => clear_value t; obtain ⟨u, hu⟩ : ∃ u, u = t := ⟨t, rfl⟩; subst hu))
    | intro t
    | lift_lets
    | with_reducible first | apply Keeps.ite | apply Keeps.ite1 | apply State.forL_keeps | apply State.wr_keeps | exact Nat.le_refl _ | rfl
    | split
    | with_reducible apply Keeps.mk'
    | exact rfl

theorem thmShutdown_keeps {fl : Bool} {s₀ : State} {s : State} (hk : Keeps fl s₀ s) :
    Keeps fl s₀ (thmShutdown s) := by
  unfold thmShutdown
  with_reducible repeat' first | assumption | apply Keeps.ite | apply Keeps.ite1 | apply refreshCeiling_keeps | apply raise_keeps | apply State.wr_keeps

theorem tempAnswers_keeps {fl : Bool} {s₀ : State} {ended : List ℕ} {s : State} (hk : Keeps fl s₀ s) :
    Keeps fl s₀ (tempAnswers ended s) := by
  unfold tempAnswers
  repeat' first
    | with_reducible assumption
    | with_reducible first | apply Keeps.ite | apply Keeps.ite1 | apply State.forL_keeps | apply finish_keeps | exact Nat.le_refl _ | rfl
    | intro t
    | split
    | with_reducible apply Keeps.mk'

theorem breakAll_keeps {fl : Bool} {s₀ : State} {l : List ℕ} {s : State} (hk : Keeps fl s₀ s) :
    Keeps fl s₀ (breakAll l s) := by
  unfold breakAll
  repeat' first
    | with_reducible assumption
    | with_reducible first | apply Keeps.ite | apply Keeps.ite1 | apply raise_keeps | apply State.forL_keeps | apply markBroken_keeps
    | intro t
    | split

theorem convert_keeps {fl : Bool} {s₀ : State} {brk : List ℕ} {l : List (ℕ × ℕ × ℕ)} {s : State} (hk : Keeps fl s₀ s) :
    Keeps fl s₀ (convert brk l s) := by
  unfold convert
  repeat' first
    | with_reducible assumption
    | (intro t; refine (have ht : Keeps fl s₀ t := ?_; ?_); (on_goal 1 => subst t); (on_goal 2 => clear_value t; obtain ⟨u, hu⟩ : ∃ u, u = t := ⟨t, rfl⟩; subst hu))
    | (intro t; refine (have ht : Keeps fl s₀ t.1 := ?_; ?_); (on_goal 1 => subst t); (on_goal 2 => clear_value t; obtain ⟨u, hu⟩ : ∃ u, u = t := ⟨t, rfl⟩; subst hu))
    | intro t
    | lift_lets
    | with_reducible first
      | apply Keeps.ite
      | apply Keeps.ite1
      | apply State.forL_keeps
      | apply holdDr_keeps
      | apply takeCount_keeps
      | apply syncBroken_keeps
      | apply breakAll_keeps
      | apply judgeDev_keeps
      | apply State.forN_keeps
      | apply showTemp_keeps
      | apply zoneConvert_keeps
      | apply thmShutdown_keeps
      | apply thmSummary_keeps
      | exact Nat.le_refl _
      | rfl
      | (refine Keeps.foldl _ ?_ _ ?_)
      | (refine Keeps.foldl1 _ ?_ _ ?_)
    | split
    | (refine Keeps.of_fst ?_ (by assumption))
    | (with_reducible apply Keeps.mk')
    | exact rfl
    | exact Nat.le_add_right _ _

theorem openXchk_keeps {fl : Bool} {s₀ : State} {l : List ℕ} {s : State} (hk : Keeps fl s₀ s) :
    Keeps fl s₀ (openXchk l s) := by
  unfold openXchk
  repeat' first
    | with_reducible assumption
    | with_reducible first | apply Keeps.ite | apply Keeps.ite1 | apply thmTake_keeps | exact Nat.le_refl _ | rfl
    | intro t
    | split
    | with_reducible apply Keeps.mk'
    | exact rfl

theorem windowsEnd_keeps {fl : Bool} {s₀ : State} {ks : List ℕ} {s : State} (hk : Keeps fl s₀ s) :
    Keeps fl s₀ (windowsEnd ks s) := by
  unfold windowsEnd
  repeat' first
    | with_reducible assumption
    | with_reducible first | apply Keeps.ite | apply Keeps.ite1 | apply tempAnswers_keeps | apply openXchk_keeps | apply openWins_keeps | exact Nat.le_refl _ | rfl
    | intro t
    | split
    | with_reducible apply Keeps.mk'
    | exact rfl

theorem execThmConversion_keeps {fl : Bool} {s₀ : State} {counts : List (Fin 72 × BitVec 20)} {s : State} (hk : Keeps fl s₀ s) :
    Keeps fl s₀ (execThmConversion counts s) := by
  unfold execThmConversion
  with_reducible repeat' first | assumption | apply Keeps.ite | apply Keeps.ite1 | apply windowsEnd_keeps | apply convert_keeps

theorem thmTick_keeps {fl : Bool} {s₀ : State} {s : State} (hk : Keeps fl s₀ s) :
    Keeps fl s₀ (thmTick s) := by
  unfold thmTick
  repeat' first
    | with_reducible assumption
    | (intro t; refine (have ht : Keeps fl s₀ t := ?_; ?_); (on_goal 1 => subst t); (on_goal 2 => clear_value t; obtain ⟨u, hu⟩ : ∃ u, u = t := ⟨t, rfl⟩; subst hu))
    | intro t
    | lift_lets
    | with_reducible first | apply Keeps.ite | apply Keeps.ite1 | apply thmTake_keeps | apply holdDr_keeps | apply State.forN_keeps | apply State.bump_keeps | apply State.wr_keeps | apply thmSummary_keeps | exact Nat.le_refl _ | rfl
    | split
    | with_reducible apply Keeps.mk'
    | exact rfl

theorem thmDarkCheck_keeps {fl : Bool} {s₀ : State} {s : State} (hk : Keeps fl s₀ s) :
    Keeps fl s₀ (thmDarkCheck s) := by
  unfold thmDarkCheck
  repeat' first
    | with_reducible assumption
    | with_reducible first | apply Keeps.ite | apply Keeps.ite1 | exact Nat.le_refl _ | rfl
    | intro t
    | split
    | with_reducible apply Keeps.mk'

theorem thmSlot_keeps {fl : Bool} {s₀ : State} {s : State} (hk : Keeps fl s₀ s) :
    Keeps fl s₀ (thmSlot s) := by
  unfold thmSlot
  repeat' first
    | with_reducible assumption
    | with_reducible first | apply Keeps.ite | apply Keeps.ite1 | apply releaseZones_keeps | exact Nat.le_refl _ | rfl
    | intro t
    | split
    | with_reducible apply Keeps.mk'
    | exact rfl

theorem derateLoad_keeps {fl : Bool} {s₀ : State} {img : List ℕ} {s : State} (hk : Keeps fl s₀ s) :
    Keeps fl s₀ (derateLoad img s).1 := by
  unfold derateLoad
  repeat' first
    | with_reducible assumption
    | with_reducible first | apply Keeps.ite | apply Keeps.ite1 | apply State.wr_keeps | exact Nat.le_refl _ | rfl
    | intro t
    | split
    | with_reducible apply Keeps.mk'

theorem xchkRun_keeps {fl : Bool} {s₀ : State} {s : State} (hk : Keeps fl s₀ s) :
    Keeps fl s₀ (xchkRun s) := by
  unfold xchkRun
  repeat' first
    | with_reducible assumption
    | with_reducible first | apply Keeps.ite | apply Keeps.ite1 | apply State.wr_keeps | apply openXchk_keeps | exact Nat.le_refl _ | rfl
    | intro t
    | split
    | with_reducible apply Keeps.mk'
    | exact rfl

theorem ntcArrive_keeps {fl : Bool} {s₀ : State} {n : ℕ} {s : State} (hk : Keeps fl s₀ s) :
    Keeps fl s₀ (ntcArrive n s) := by
  unfold ntcArrive
  repeat' first
    | with_reducible assumption
    | with_reducible first | apply Keeps.ite | apply Keeps.ite1 | exact Nat.le_refl _ | rfl
    | intro t
    | split
    | with_reducible apply Keeps.mk'

theorem showFails_keeps {fl : Bool} {s₀ : State} {l : List ℕ} {s : State} (hk : Keeps fl s₀ s) :
    Keeps fl s₀ (showFails l s) := by
  unfold showFails
  with_reducible repeat' first | assumption | apply Keeps.ite | apply Keeps.ite1 | apply State.setReg_keeps

theorem xchkResult_keeps {fl : Bool} {s₀ : State} {n : ℕ} {s : State} (hk : Keeps fl s₀ s) :
    Keeps fl s₀ (xchkResult n s) := by
  unfold xchkResult
  repeat' first
    | with_reducible assumption
    | with_reducible first | apply Keeps.ite | apply Keeps.ite1 | apply State.wr_keeps | exact Nat.le_refl _ | rfl
    | intro t
    | split
    | with_reducible apply Keeps.mk'
    | exact rfl

theorem execXchkEnd_keeps {fl : Bool} {s₀ : State} {counts : List (Fin 72 × BitVec 20)} {s : State} (hk : Keeps fl s₀ s) :
    Keeps fl s₀ (execXchkEnd counts s) := by
  unfold execXchkEnd
  with_reducible repeat' first | assumption | apply Keeps.ite | apply Keeps.ite1 | apply xchkResult_keeps | apply convert_keeps | apply State.wr_keeps | apply showFails_keeps | apply windowsEnd_keeps

theorem thmBrokenClear_keeps {fl : Bool} {s₀ : State} {n : ℕ} {mask : ℕ} {s : State} (hk : Keeps fl s₀ s) :
    Keeps fl s₀ (thmBrokenClear n mask s) := by
  unfold thmBrokenClear
  repeat' first
    | with_reducible assumption
    | with_reducible first | apply Keeps.ite | apply Keeps.ite1 | apply State.setReg_keeps | apply syncBroken_keeps | apply State.forL_keeps | apply State.wr_keeps | exact Nat.le_refl _ | rfl
    | intro t
    | split
    | with_reducible apply Keeps.mk'

theorem thmCntClr_keeps {fl : Bool} {s₀ : State} {s : State} (hk : Keeps fl s₀ s) :
    Keeps fl s₀ (thmCntClr s) := by
  unfold thmCntClr
  with_reducible repeat' first | assumption | apply Keeps.ite | apply Keeps.ite1 | apply State.setReg_keeps

theorem unitStart_keeps {fl : Bool} {s₀ : State} {u : UnitF} {s : State} (hk : Keeps fl s₀ s) (h_u : ∀ x, Keeps fl s₀ x → Keeps fl s₀ (u.start x)) :
    Keeps fl s₀ (unitStart u s) := by
  unfold unitStart
  with_reducible repeat' first | assumption | apply Keeps.ite | apply Keeps.ite1 | apply UnitF.start_keeps | apply State.wr_keeps | apply h_u

theorem unitEnable_keeps {fl : Bool} {s₀ : State} {u : UnitF} {s : State} (hk : Keeps fl s₀ s) (h_u : ∀ x, Keeps fl s₀ x → Keeps fl s₀ (u.start x)) :
    Keeps fl s₀ (unitEnable u s).1 := by
  unfold unitEnable
  repeat' first
    | with_reducible assumption
    | with_reducible first | apply Keeps.ite | apply Keeps.ite1 | apply unitStart_keeps | apply State.wr_keeps | apply h_u
    | intro t
    | split

theorem unitDisable_keeps {fl : Bool} {s₀ : State} {u : UnitF} {stop : State → State} {s : State} (hk : Keeps fl s₀ s) (h_stop : ∀ u, Keeps fl s₀ u → Keeps fl s₀ (stop u)) (h_u : ∀ x, Keeps fl s₀ x → Keeps fl s₀ (u.start x)) :
    Keeps fl s₀ (unitDisable u stop s).1 := by
  unfold unitDisable
  repeat' first
    | with_reducible assumption
    | with_reducible first | apply Keeps.ite | apply Keeps.ite1 | apply State.wr_keeps | apply h_stop | apply h_u
    | intro t
    | split

theorem unitOff_keeps {fl : Bool} {s₀ : State} {u : UnitF} {may : State → Bool} {s : State} (hk : Keeps fl s₀ s) (h_u : ∀ x, Keeps fl s₀ x → Keeps fl s₀ (u.start x)) :
    Keeps fl s₀ (unitOff u may s) := by
  unfold unitOff
  with_reducible repeat' first | assumption | apply Keeps.ite | apply Keeps.ite1 | apply State.wr_keeps | apply unitStart_keeps

theorem noteOvr_keeps {fl : Bool} {s₀ : State} {k : ℕ} {c : Conv} {s : State} (hk : Keeps fl s₀ s) :
    Keeps fl s₀ (noteOvr k c s) := by
  unfold noteOvr
  repeat' first
    | with_reducible assumption
    | with_reducible first | apply Keeps.ite | apply Keeps.ite1 | apply State.setW1c_keeps | apply raise_keeps | exact Nat.le_refl _ | rfl
    | intro t
    | split
    | with_reducible apply Keeps.mk'
    | exact rfl

theorem setLast_keeps {fl : Bool} {s₀ : State} {k : ℕ} {mean : ℕ} {ovr : Bool} {s : State} (hk : Keeps fl s₀ s) :
    Keeps fl s₀ (setLast k mean ovr s) := by
  unfold setLast
  with_reducible repeat' first | assumption | apply Keeps.ite | apply Keeps.ite1 | apply State.wr_keeps | apply ntcArrive_keeps

theorem loopSample_keeps {fl : Bool} {s₀ : State} {m : ℕ} {k : ℕ} {c : Conv} {s : State} (hk : Keeps fl s₀ s) :
    Keeps fl s₀ (loopSample m k c s) := by
  unfold loopSample
  with_reducible repeat' first | assumption | apply Keeps.ite | apply Keeps.ite1 | apply setLast_keeps | apply noteOvr_keeps

theorem setSq_keeps {fl : Bool} {s₀ : State} {n : ℕ} {x : SqSt} {s : State} (hk : Keeps fl s₀ s) :
    Keeps fl s₀ (setSq n x s) := by
  unfold setSq
  repeat' first
    | with_reducible assumption
    | with_reducible first | apply Keeps.ite | apply Keeps.ite1 | exact Nat.le_refl _ | rfl
    | intro t
    | split
    | with_reducible apply Keeps.mk'

theorem syncFill_keeps {fl : Bool} {s₀ : State} {n : ℕ} {s : State} (hk : Keeps fl s₀ s) :
    Keeps fl s₀ (syncFill n s) := by
  unfold syncFill
  with_reducible repeat' first | assumption | apply Keeps.ite | apply Keeps.ite1 | apply State.wr_keeps

theorem syncAdc_keeps {fl : Bool} {s₀ : State} {s : State} (hk : Keeps fl s₀ s) :
    Keeps fl s₀ (syncAdc s) := by
  unfold syncAdc
  with_reducible repeat' first | assumption | apply Keeps.ite | apply Keeps.ite1 | apply State.wr_keeps

theorem nextOwner_keeps {fl : Bool} {s₀ : State} {m : ℕ} {s : State} (hk : Keeps fl s₀ s) :
    Keeps fl s₀ (nextOwner m s) := by
  unfold nextOwner
  repeat' first
    | with_reducible assumption
    | with_reducible first | apply Keeps.ite | apply Keeps.ite1 | exact Nat.le_refl _ | rfl
    | intro t
    | split
    | with_reducible apply Keeps.mk'
    | exact rfl

theorem passStart_keeps {fl : Bool} {s₀ : State} {n : ℕ} {s : State} (hk : Keeps fl s₀ s) :
    Keeps fl s₀ (passStart n s) := by
  unfold passStart
  with_reducible repeat' first | assumption | apply Keeps.ite | apply Keeps.ite1 | apply setSq_keeps | apply State.wr_keeps | apply nextOwner_keeps

theorem trigger_keeps {fl : Bool} {s₀ : State} {n : ℕ} {s : State} (hk : Keeps fl s₀ s) :
    Keeps fl s₀ (trigger n s) := by
  unfold trigger
  with_reducible repeat' first | assumption | apply Keeps.ite | apply Keeps.ite1 | apply State.bump_keeps | apply passStart_keeps | apply State.wr_keeps

theorem adcTrig_keeps {fl : Bool} {s₀ : State} {key : ℕ} {line : ℕ} {s : State} (hk : Keeps fl s₀ s) :
    Keeps fl s₀ (adcTrig key line s) := by
  unfold adcTrig
  repeat' first
    | with_reducible assumption
    | (intro t; refine (have ht : Keeps fl s₀ t := ?_; ?_); (on_goal 1 => subst t); (on_goal 2 => clear_value t; obtain ⟨u, hu⟩ : ∃ u, u = t := ⟨t, rfl⟩; subst hu))
    | intro t
    | lift_lets
    | with_reducible first | apply Keeps.ite | apply Keeps.ite1 | apply State.forN_keeps | apply trigger_keeps | exact Nat.le_refl _ | rfl
    | split
    | with_reducible apply Keeps.mk'
    | exact rfl

theorem execAdcTimerTrigger_keeps {fl : Bool} {s₀ : State} {n : Fin 8} {s : State} (hk : Keeps fl s₀ s) :
    Keeps fl s₀ (execAdcTimerTrigger n s) := by
  unfold execAdcTimerTrigger
  with_reducible repeat' first | assumption | apply Keeps.ite | apply Keeps.ite1 | apply trigger_keeps

theorem rptrAdvance_keeps {fl : Bool} {s₀ : State} {n : ℕ} {k : ℕ} {s : State} (hk : Keeps fl s₀ s) :
    Keeps fl s₀ (rptrAdvance n k s) := by
  unfold rptrAdvance
  with_reducible repeat' first | assumption | apply Keeps.ite | apply Keeps.ite1 | apply State.wr_keeps

theorem bobWord_keeps {fl : Bool} {s₀ : State} {n : ℕ} {w : ℕ} {s : State} (hk : Keeps fl s₀ s) :
    Keeps fl s₀ (bobWord n w s) := by
  unfold bobWord
  repeat' first
    | with_reducible assumption
    | with_reducible first | apply Keeps.ite | apply Keeps.ite1 | apply State.bump_keeps | apply rptrAdvance_keeps | apply syncFill_keeps | apply State.wr_keeps | exact Nat.le_refl _ | rfl
    | intro t
    | split
    | with_reducible apply Keeps.mk'

theorem stageWord_keeps {fl : Bool} {s₀ : State} {n : ℕ} {w : ℕ} {s : State} (hk : Keeps fl s₀ s) :
    Keeps fl s₀ (stageWord n w s) := by
  unfold stageWord
  with_reducible repeat' first | assumption | apply Keeps.ite | apply Keeps.ite1 | apply State.bump_keeps | apply setSq_keeps

theorem bobBlock_keeps {fl : Bool} {s₀ : State} {n : ℕ} {b : List ℕ} {s : State} (hk : Keeps fl s₀ s) :
    Keeps fl s₀ (bobBlock n b s) := by
  unfold bobBlock
  with_reducible repeat' first | assumption | apply Keeps.ite | apply Keeps.ite1 | apply State.bumpBy_keeps | apply rptrAdvance_keeps | apply smemWrite_keeps | apply syncFill_keeps | apply State.wr_keeps

theorem execBobbinBlockAccept_keeps {fl : Bool} {s₀ : State} {n : Fin 8} {s : State} (hk : Keeps fl s₀ s) :
    Keeps fl s₀ (execBobbinBlockAccept n s) := by
  unfold execBobbinBlockAccept
  repeat' first
    | with_reducible assumption
    | with_reducible first | apply Keeps.ite | apply Keeps.ite1 | apply bobBlock_keeps | apply setSq_keeps | exact Nat.le_refl _ | rfl
    | intro t
    | split
    | with_reducible apply Keeps.mk'

theorem bobResult_keeps {fl : Bool} {s₀ : State} {n : ℕ} {w : ℕ} {s : State} (hk : Keeps fl s₀ s) :
    Keeps fl s₀ (bobResult n w s) := by
  unfold bobResult
  with_reducible repeat' first | assumption | apply Keeps.ite | apply Keeps.ite1 | apply stageWord_keeps | apply bobWord_keeps

theorem passEnd_keeps {fl : Bool} {s₀ : State} {n : ℕ} {s : State} (hk : Keeps fl s₀ s) :
    Keeps fl s₀ (passEnd n s) := by
  unfold passEnd
  with_reducible repeat' first | assumption | apply Keeps.ite | apply Keeps.ite1 | apply State.wr_keeps | apply trigger_keeps | apply setSq_keeps

theorem execAdcEntryComplete_keeps {fl : Bool} {s₀ : State} {n : Fin 8} {convs : List Conv} {s : State} (hk : Keeps fl s₀ s) :
    Keeps fl s₀ (execAdcEntryComplete n convs s) := by
  unfold execAdcEntryComplete
  repeat' first
    | with_reducible assumption
    | (intro t; refine (have ht : Keeps fl s₀ t := ?_; ?_); (on_goal 1 => subst t); (on_goal 2 => clear_value t; obtain ⟨u, hu⟩ : ∃ u, u = t := ⟨t, rfl⟩; subst hu))
    | intro t
    | lift_lets
    | with_reducible first | apply Keeps.ite | apply Keeps.ite1 | apply State.forL_keeps | apply noteOvr_keeps | apply setLast_keeps | apply bobResult_keeps | apply nextOwner_keeps | apply passEnd_keeps | apply setSq_keeps | exact Nat.le_refl _ | rfl
    | split
    | with_reducible apply Keeps.mk'
    | exact rfl

theorem sqUnit_start_keeps {fl : Bool} {s₀ : State} {n : ℕ} (x : State) (hk : Keeps fl s₀ x) :
    Keeps fl s₀ ((sqUnit n).start x) :=
  syncAdc_keeps (syncFill_keeps (setSq_keeps (State.wr_keeps (State.wr_keeps (State.wr_keeps (State.wr_keeps hk))))))

theorem sqEnable_keeps {fl : Bool} {s₀ : State} {n : ℕ} {s : State} (hk : Keeps fl s₀ s) : Keeps fl s₀ (sqEnable n s).1 := by
  unfold sqEnable
  split
  · exact hk
  · exact syncAdc_keeps (unitEnable_keeps hk sqUnit_start_keeps)

theorem sqDisable_keeps {fl : Bool} {s₀ : State} {n : ℕ} {s : State} (hk : Keeps fl s₀ s) : Keeps fl s₀ (sqDisable n s).1 := by
  unfold sqDisable
  exact syncAdc_keeps (unitDisable_keeps hk (fun u h => by split; exact h; exact passEnd_keeps h) sqUnit_start_keeps)

theorem adcStart_keeps {fl : Bool} {s₀ : State} {o : Outst} {s : State} (hk : Keeps fl s₀ s) :
    Keeps fl s₀ (adcStart o s).1 := by
  unfold adcStart
  repeat' first
    | with_reducible assumption
    | with_reducible first | unfold resOf | apply Keeps.ite | apply Keeps.ite1 | apply ans_keeps | apply sqEnable_keeps

theorem adcStop_keeps {fl : Bool} {s₀ : State} {o : Outst} {s : State} (hk : Keeps fl s₀ s) :
    Keeps fl s₀ (adcStop o s).1 := by
  unfold adcStop
  repeat' first
    | with_reducible assumption
    | with_reducible first | unfold resOf | apply Keeps.ite | apply Keeps.ite1 | apply ans_keeps | apply sqDisable_keeps

theorem execAdcSeqOn_keeps {fl : Bool} {s₀ : State} {n : Fin 8} {s : State} (hk : Keeps fl s₀ s) :
    Keeps fl s₀ (execAdcSeqOn n s) := by
  unfold execAdcSeqOn
  with_reducible repeat' first | assumption | apply Keeps.ite | apply Keeps.ite1 | apply syncAdc_keeps | apply State.wr_keeps | apply trigger_keeps

theorem execAdcSeqOff_keeps {fl : Bool} {s₀ : State} {n : Fin 8} {s : State} (hk : Keeps fl s₀ s) : Keeps fl s₀ (execAdcSeqOff n s) := by
  unfold execAdcSeqOff
  exact .ite (syncAdc_keeps (unitOff_keeps hk sqUnit_start_keeps)) hk

theorem adcSeqCfg_keeps {fl : Bool} {s₀ : State} {o : Outst} {s : State} (hk : Keeps fl s₀ s) :
    Keeps fl s₀ (adcSeqCfg o s).1 := by
  unfold adcSeqCfg
  repeat' first
    | with_reducible assumption
    | with_reducible first | apply Keeps.ite | apply Keeps.ite1 | apply ans_keeps | apply State.wr_keeps | apply State.setReg_keeps | apply ok_keeps | apply syncFill_keeps | apply State.forN_keeps
    | intro t
    | split

theorem rptrWrite_keeps {fl : Bool} {s₀ : State} {n : ℕ} {v : ℕ} {s : State} (hk : Keeps fl s₀ s) :
    Keeps fl s₀ (rptrWrite n v s).1 := by
  unfold rptrWrite
  with_reducible repeat' first | assumption | apply Keeps.ite | apply Keeps.ite1 | apply syncFill_keeps | apply State.wr_keeps

theorem adcCntClr_keeps {fl : Bool} {s₀ : State} {s : State} (hk : Keeps fl s₀ s) :
    Keeps fl s₀ (adcCntClr s) := by
  unfold adcCntClr
  repeat' first
    | with_reducible assumption
    | with_reducible first | apply Keeps.ite | apply Keeps.ite1 | apply State.forN_keeps | apply State.setReg_keeps
    | intro t

theorem adcTick_keeps {fl : Bool} {s₀ : State} {s : State} (hk : Keeps fl s₀ s) :
    Keeps fl s₀ (adcTick s) := by
  unfold adcTick
  repeat' first
    | with_reducible assumption
    | with_reducible first | apply Keeps.ite | apply Keeps.ite1 | exact Nat.le_refl _ | rfl
    | intro t
    | split
    | with_reducible apply Keeps.mk'

theorem traceRecord_keeps {fl : Bool} {s₀ : State} {e : ℕ} {a : ℕ} {b : ℕ} {s : State} (hk : Keeps fl s₀ s) :
    Keeps fl s₀ (traceRecord e a b s) := by
  unfold traceRecord
  with_reducible repeat' first | assumption | apply Keeps.ite | apply Keeps.ite1 | apply State.wr_keeps | apply setTrace_keeps

theorem traceSample_keeps {fl : Bool} {s₀ : State} {e : ℕ} {sig : ℕ → ℤ} {s : State} (hk : Keeps fl s₀ s) :
    Keeps fl s₀ (traceSample e sig s) := by
  unfold traceSample
  with_reducible repeat' first | assumption | apply Keeps.ite | apply Keeps.ite1 | apply State.when_keeps | apply setTrace_keeps | apply traceFire_keeps | apply traceRecord_keeps

theorem traceArm_keeps {fl : Bool} {s₀ : State} {o : Outst} {s : State} (hk : Keeps fl s₀ s) :
    Keeps fl s₀ (traceArm o s).1 := by
  unfold traceArm
  with_reducible repeat' first | assumption | apply Keeps.ite | apply Keeps.ite1 | apply ans_keeps | apply ok_keeps | apply setTrace_keeps | apply State.wr_keeps

theorem traceRead_keeps {fl : Bool} {s₀ : State} {o : Outst} {s : State} (hk : Keeps fl s₀ s) :
    Keeps fl s₀ (traceRead o s).1 := by
  unfold traceRead
  with_reducible repeat' first | assumption | apply Keeps.ite | apply Keeps.ite1 | apply ans_keeps | apply okW_keeps

theorem gsLoad_keeps {fl : Bool} {s₀ : State} {len : ℕ} {g : List ℕ} {s : State} (hk : Keeps fl s₀ s) :
    Keeps fl s₀ (gsLoad len g s).1 := by
  unfold gsLoad
  repeat' first
    | with_reducible assumption
    | with_reducible first | apply Keeps.ite | apply Keeps.ite1 | apply State.wr_keeps | exact Nat.le_refl _ | rfl
    | intro t
    | split
    | with_reducible apply Keeps.mk'

theorem clampInt_keeps {fl : Bool} {s₀ : State} {s : State} (hk : Keeps fl s₀ s) :
    Keeps fl s₀ (clampInt s) := by
  unfold clampInt
  repeat' first
    | with_reducible assumption
    | with_reducible first | apply Keeps.ite | apply Keeps.ite1 | exact Nat.le_refl _ | rfl
    | intro t
    | split
    | with_reducible apply Keeps.mk'

theorem takeLoad_keeps {fl : Bool} {s₀ : State} {s : State} (hk : Keeps fl s₀ s) :
    Keeps fl s₀ (takeLoad s) := by
  unfold takeLoad
  repeat' first
    | with_reducible assumption
    | with_reducible first | apply Keeps.ite | apply Keeps.ite1 | apply State.wr_keeps | exact Nat.le_refl _ | rfl
    | intro t
    | split
    | with_reducible apply Keeps.mk'
    | exact rfl

theorem takeSet_keeps {fl : Bool} {s₀ : State} {s : State} (hk : Keeps fl s₀ s) :
    Keeps fl s₀ (takeSet s) := by
  unfold takeSet
  with_reducible repeat' first | assumption | apply Keeps.ite | apply Keeps.ite1 | apply State.bump_keeps | apply State.wr_keeps

theorem chooseSet_keeps {fl : Bool} {s₀ : State} {s : State} (hk : Keeps fl s₀ s) :
    Keeps fl s₀ (chooseSet s) := by
  unfold chooseSet
  with_reducible repeat' first | assumption | apply Keeps.ite | apply Keeps.ite1 | apply takeSet_keeps | apply takeLoad_keeps | apply clampInt_keeps

theorem endHold_keeps {fl : Bool} {s₀ : State} {s : State} (hk : Keeps fl s₀ s) :
    Keeps fl s₀ (endHold s) := by
  unfold endHold
  with_reducible repeat' first | assumption | apply Keeps.ite | apply Keeps.ite1 | apply clampInt_keeps | apply State.wr_keeps

theorem setSelWrite_keeps {fl : Bool} {s₀ : State} {v : ℕ} {s : State} (hk : Keeps fl s₀ s) :
    Keeps fl s₀ (setSelWrite v s).1 := by
  unfold setSelWrite
  with_reducible repeat' first | assumption | apply Keeps.ite | apply Keeps.ite1 | apply State.wr_keeps

theorem setPhase_keeps {fl : Bool} {s₀ : State} {k : ℕ} {hi : Bool} {s : State} (hk : Keeps fl s₀ s) :
    Keeps fl s₀ (setPhase k hi s) := by
  unfold setPhase
  repeat' first
    | with_reducible assumption
    | with_reducible first | apply Keeps.ite | apply Keeps.ite1 | exact Nat.le_refl _ | rfl
    | intro t
    | split
    | with_reducible apply Keeps.mk'

theorem allLow_keeps {fl : Bool} {s₀ : State} {s : State} (hk : Keeps fl s₀ s) :
    Keeps fl s₀ (allLow s) := by
  unfold allLow
  repeat' first
    | with_reducible assumption
    | with_reducible first | apply Keeps.ite | apply Keeps.ite1 | apply State.forN_keeps | apply setPhase_keeps
    | intro t

theorem execPhaseThresholdCrossing_keeps {fl : Bool} {s₀ : State} {k : Fin 6} {rise : Bool} {since : ℕ} {s : State} (hk : Keeps fl s₀ s) :
    Keeps fl s₀ (execPhaseThresholdCrossing k rise since s) := by
  unfold execPhaseThresholdCrossing
  repeat' first
    | with_reducible assumption
    | with_reducible first | apply Keeps.ite | apply Keeps.ite1 | apply setPhase_keeps | exact Nat.le_refl _ | rfl
    | intro t
    | split
    | with_reducible apply Keeps.mk'

theorem execPhaseOcTrip_keeps {fl : Bool} {s₀ : State} {k : Fin 6} {s : State} (hk : Keeps fl s₀ s) :
    Keeps fl s₀ (execPhaseOcTrip k s) := by
  unfold execPhaseOcTrip
  repeat' first
    | with_reducible assumption
    | with_reducible first | apply Keeps.ite | apply Keeps.ite1 | apply setPhase_keeps | apply State.bump_keeps | apply raise_keeps | exact Nat.le_refl _ | rfl
    | intro t
    | split
    | with_reducible apply Keeps.mk'

theorem execPhaseOcPersist_keeps {fl : Bool} {s₀ : State} {k : Fin 6} {s : State} (hk : Keeps fl s₀ s) :
    Keeps fl s₀ (execPhaseOcPersist k s) := by
  unfold execPhaseOcPersist
  repeat' first
    | with_reducible assumption
    | with_reducible first | apply Keeps.ite | apply Keeps.ite1 | apply raiseSev_keeps | apply railForceStop_keeps | exact Nat.le_refl _ | rfl
    | intro t
    | split
    | with_reducible apply Keeps.mk'

theorem chooseSense_keeps {fl : Bool} {s₀ : State} {s : State} (hk : Keeps fl s₀ s) :
    Keeps fl s₀ (chooseSense s) := by
  unfold chooseSense
  with_reducible repeat' first | assumption | apply Keeps.ite | apply Keeps.ite1 | apply State.wr_keeps

theorem superviseSense_keeps {fl : Bool} {s₀ : State} {k : ℕ} {code : ℕ} {ovr : Bool} {s : State} (hk : Keeps fl s₀ s) :
    Keeps fl s₀ (superviseSense k code ovr s) := by
  unfold superviseSense
  repeat' first
    | with_reducible assumption
    | (intro t; refine (have ht : Keeps fl s₀ t := ?_; ?_); (on_goal 1 => subst t); (on_goal 2 => clear_value t; obtain ⟨u, hu⟩ : ∃ u, u = t := ⟨t, rfl⟩; subst hu))
    | intro t
    | lift_lets
    | with_reducible first | apply Keeps.ite | apply Keeps.ite1 | apply State.forL_keeps | apply State.clrBit_keeps | exact Nat.le_refl _ | rfl
    | split
    | with_reducible apply Keeps.mk'

theorem supervise_keeps {fl : Bool} {s₀ : State} {a : ℕ} {b : ℕ} {oa : Bool} {ob : Bool} {s : State} (hk : Keeps fl s₀ s) :
    Keeps fl s₀ (supervise a b oa ob s) := by
  unfold supervise
  repeat' first
    | with_reducible assumption
    | with_reducible first | apply Keeps.ite | apply Keeps.ite1 | apply superviseSense_keeps | exact Nat.le_refl _ | rfl
    | intro t
    | split
    | with_reducible apply Keeps.mk'

theorem railLaw_keeps {fl : Bool} {s₀ : State} {v : ℤ} {s : State} (hk : Keeps fl s₀ s) :
    Keeps fl s₀ (railLaw v s) := by
  unfold railLaw
  repeat' first
    | with_reducible assumption
    | with_reducible first | apply Keeps.ite | apply Keeps.ite1 | exact Nat.le_refl _ | rfl
    | intro t
    | split
    | with_reducible apply Keeps.mk'

theorem railShow_keeps {fl : Bool} {s₀ : State} {s : State} (hk : Keeps fl s₀ s) :
    Keeps fl s₀ (railShow s) := by
  unfold railShow
  repeat' first
    | with_reducible assumption
    | with_reducible first | apply Keeps.ite | apply Keeps.ite1 | apply State.wr_keeps | exact Nat.le_refl _ | rfl
    | intro t
    | split
    | with_reducible apply Keeps.mk'

theorem holdStep_keeps {fl : Bool} {s₀ : State} {s : State} (hk : Keeps fl s₀ s) :
    Keeps fl s₀ (holdStep s) := by
  unfold holdStep
  repeat' first
    | with_reducible assumption
    | with_reducible first | apply Keeps.ite | apply Keeps.ite1 | apply State.wr_keeps | apply endHold_keeps | exact Nat.le_refl _ | rfl
    | intro t
    | split
    | with_reducible apply Keeps.mk'
    | exact rfl

theorem railSample_keeps {fl : Bool} {s₀ : State} {a : ℕ} {b : ℕ} {oa : Bool} {ob : Bool} {s : State} (hk : Keeps fl s₀ s) :
    Keeps fl s₀ (railSample a b oa ob s) := by
  unfold railSample
  repeat' first
    | with_reducible assumption
    | with_reducible first | apply Keeps.ite | apply Keeps.ite1 | apply holdStep_keeps | apply chooseSet_keeps | apply chooseSense_keeps | apply railLaw_keeps | apply railShow_keeps | apply supervise_keeps | apply traceSample_keeps | exact Nat.le_refl _ | rfl
    | intro t
    | split
    | with_reducible apply Keeps.mk'

theorem fbSet_keeps {fl : Bool} {s₀ : State} {b : ℕ} {s : State} (hk : Keeps fl s₀ s) :
    Keeps fl s₀ (fbSet b s) := by
  unfold fbSet
  repeat' first
    | with_reducible assumption
    | with_reducible first | apply Keeps.ite | apply Keeps.ite1 | apply State.setW1c_keeps | exact Nat.le_refl _ | rfl
    | intro t
    | split
    | with_reducible apply Keeps.mk'
    | exact rfl

theorem senseFails_keeps {fl : Bool} {s₀ : State} {k : ℕ} {frozen : Bool} {s : State} (hk : Keeps fl s₀ s) :
    Keeps fl s₀ (senseFails k frozen s) := by
  unfold senseFails
  repeat' first
    | with_reducible assumption
    | with_reducible first | apply Keeps.ite | apply Keeps.ite1 | apply fbSet_keeps | apply State.when_keeps | apply raiseSev_keeps | apply State.bump_keeps | apply requireRung_keeps | apply railForceStop_keeps
    | intro t
    | split

theorem execRailSenseLost_keeps {fl : Bool} {s₀ : State} {b : Bool} {s : State} (hk : Keeps fl s₀ s) :
    Keeps fl s₀ (execRailSenseLost b s) := by
  unfold execRailSenseLost
  with_reducible repeat' first | assumption | apply Keeps.ite | apply Keeps.ite1 | apply senseFails_keeps

theorem execRailSenseFrozen_keeps {fl : Bool} {s₀ : State} {b : Bool} {s : State} (hk : Keeps fl s₀ s) :
    Keeps fl s₀ (execRailSenseFrozen b s) := by
  unfold execRailSenseFrozen
  with_reducible repeat' first | assumption | apply Keeps.ite | apply Keeps.ite1 | apply senseFails_keeps

theorem le0FbClear_keeps {fl : Bool} {s₀ : State} {v : ℕ} {s : State} (hk : Keeps fl s₀ s) :
    Keeps fl s₀ (le0FbClear v s) := by
  unfold le0FbClear
  repeat' first
    | with_reducible assumption
    | (intro t; refine (have ht : Keeps fl s₀ t := ?_; ?_); (on_goal 1 => subst t); (on_goal 2 => clear_value t; obtain ⟨u, hu⟩ : ∃ u, u = t := ⟨t, rfl⟩; subst hu))
    | intro t
    | lift_lets
    | with_reducible first | apply Keeps.ite | apply Keeps.ite1 | apply State.forN_keeps | exact Nat.le_refl _ | rfl
    | split
    | with_reducible apply Keeps.mk'

theorem execLoopIntSat_keeps {fl : Bool} {s₀ : State} {s : State} (hk : Keeps fl s₀ s) :
    Keeps fl s₀ (execLoopIntSat s) := by
  unfold execLoopIntSat
  repeat' first
    | with_reducible assumption
    | with_reducible first | apply Keeps.ite | apply Keeps.ite1 | apply raise_keeps | exact Nat.le_refl _ | rfl
    | intro t
    | split
    | with_reducible apply Keeps.mk'

theorem execRailOv_keeps {fl : Bool} {s₀ : State} {b : Bool} {s : State} (hk : Keeps fl s₀ s) :
    Keeps fl s₀ (execRailOv b s) := by
  unfold execRailOv
  repeat' first
    | with_reducible assumption
    | with_reducible first | apply Keeps.ite | apply Keeps.ite1 | apply allLow_keeps | apply raise_keeps | exact Nat.le_refl _ | rfl
    | intro t
    | split
    | with_reducible apply Keeps.mk'

theorem execRailUv_keeps {fl : Bool} {s₀ : State} {s : State} (hk : Keeps fl s₀ s) :
    Keeps fl s₀ (execRailUv s) := by
  unfold execRailUv
  repeat' first
    | with_reducible assumption
    | with_reducible first | apply Keeps.ite | apply Keeps.ite1 | apply raise_keeps | exact Nat.le_refl _ | rfl
    | intro t
    | split
    | with_reducible apply Keeps.mk'

theorem railBlind_keeps {fl : Bool} {s₀ : State} {s : State} (hk : Keeps fl s₀ s) :
    Keeps fl s₀ (railBlind s) := by
  unfold railBlind
  with_reducible repeat' first | assumption | apply Keeps.ite | apply Keeps.ite1 | apply requireRung_keeps | apply railForceStop_keeps

theorem railStop_keeps {fl : Bool} {s₀ : State} {s : State} (hk : Keeps fl s₀ s) :
    Keeps fl s₀ (railStop s) := by
  unfold railStop
  with_reducible repeat' first | assumption | apply Keeps.ite | apply Keeps.ite1 | apply allLow_keeps

theorem loopsUpd_keeps {fl : Bool} {s₀ : State} {s : State} (x : LoopSt) (hk : Keeps fl s₀ s) : Keeps fl s₀ { s with loops := x } :=
  hk.upd rfl rfl (Nat.le_refl _) rfl rfl rfl rfl rfl rfl rfl rfl

theorem railUnit_start_keeps {fl : Bool} {s₀ : State} (x : State) (hk : Keeps fl s₀ x) : Keeps fl s₀ (railUnit.start x) :=
  railBlind_keeps (loopsUpd_keeps _ (chooseSense_keeps (State.wr_keeps hk)))

theorem railEnable_keeps {fl : Bool} {s₀ : State} {s : State} (hk : Keeps fl s₀ s) : Keeps fl s₀ (railEnable s).1 := by
  unfold railEnable
  split
  · exact unitEnable_keeps hk railUnit_start_keeps
  · exact hk

theorem railDisable_keeps {fl : Bool} {s₀ : State} {s : State} (hk : Keeps fl s₀ s) : Keeps fl s₀ (railDisable s).1 := by
  unfold railDisable
  split
  · exact unitDisable_keeps hk (fun u h => railStop_keeps h) railUnit_start_keeps
  · exact hk

theorem execRailAutoStart_keeps {fl : Bool} {s₀ : State} {sns : Bool} {s : State} (hk : Keeps fl s₀ s) : Keeps fl s₀ (execRailAutoStart sns s) := by
  unfold execRailAutoStart
  exact .ite (unitStart_keeps (State.wr_keeps (State.wr_keeps hk)) railUnit_start_keeps) (State.wr_keeps hk)

theorem execRailOn_keeps {fl : Bool} {s₀ : State} {s : State} (hk : Keeps fl s₀ s) :
    Keeps fl s₀ (execRailOn s) := by
  unfold execRailOn
  with_reducible repeat' first | assumption | apply Keeps.ite | apply Keeps.ite1 | apply State.wr_keeps

theorem execRailStartTimeout_keeps {fl : Bool} {s₀ : State} {s : State} (hk : Keeps fl s₀ s) :
    Keeps fl s₀ (execRailStartTimeout s) := by
  unfold execRailStartTimeout
  with_reducible repeat' first | assumption | apply Keeps.ite | apply Keeps.ite1 | apply State.wr_keeps | apply railStop_keeps | apply raise_keeps

theorem execRailStopComplete_keeps {fl : Bool} {s₀ : State} {s : State} (hk : Keeps fl s₀ s) : Keeps fl s₀ (execRailStopComplete s) := by
  unfold execRailStopComplete
  refine .ite (unitOff_keeps (State.when_keeps (State.wr_keeps (State.wr_keeps ?_)) (fun _ h => safeOffLow_keeps h)) railUnit_start_keeps) hk
  exact loopsUpd_keeps _ hk

theorem loopHold_keeps {fl : Bool} {s₀ : State} {o : Outst} {s : State} (hk : Keeps fl s₀ s) :
    Keeps fl s₀ (loopHold o s).1 := by
  unfold loopHold
  repeat' first
    | with_reducible assumption
    | with_reducible first | apply Keeps.ite | apply Keeps.ite1 | apply ans_keeps | apply ok_keeps | exact Nat.le_refl _ | rfl
    | intro t
    | split
    | with_reducible apply Keeps.mk'

theorem execLoopHoldExpiry_keeps {fl : Bool} {s₀ : State} {s : State} (hk : Keeps fl s₀ s) :
    Keeps fl s₀ (execLoopHoldExpiry s) := by
  unfold execLoopHoldExpiry
  with_reducible repeat' first | assumption | apply Keeps.ite | apply Keeps.ite1 | apply endHold_keeps

theorem railFf_keeps {fl : Bool} {s₀ : State} {sum : ℕ} {s : State} (hk : Keeps fl s₀ s) :
    Keeps fl s₀ (railFf sum s) := by
  unfold railFf
  repeat' first
    | with_reducible assumption
    | with_reducible first | apply Keeps.ite | apply Keeps.ite1 | apply traceEvent_keeps | exact Nat.le_refl _ | rfl
    | intro t
    | split
    | with_reducible apply Keeps.mk'

theorem execFfApply_keeps {fl : Bool} {s₀ : State} {s : State} (hk : Keeps fl s₀ s) :
    Keeps fl s₀ (execFfApply s) := by
  unfold execFfApply
  repeat' first
    | with_reducible assumption
    | with_reducible first | apply Keeps.ite | apply Keeps.ite1 | apply State.wr_keeps | exact Nat.le_refl _ | rfl
    | intro t
    | split
    | with_reducible apply Keeps.mk'

theorem ffSlot_keeps {fl : Bool} {s₀ : State} {s : State} (hk : Keeps fl s₀ s) :
    Keeps fl s₀ (ffSlot s) := by
  unfold ffSlot
  repeat' first
    | with_reducible assumption
    | with_reducible first | apply Keeps.ite | apply Keeps.ite1 | apply State.wr_keeps | exact Nat.le_refl _ | rfl
    | intro t
    | split
    | with_reducible apply Keeps.mk'

theorem le0CntClr_keeps {fl : Bool} {s₀ : State} {s : State} (hk : Keeps fl s₀ s) :
    Keeps fl s₀ (le0CntClr s) := by
  unfold le0CntClr
  with_reducible repeat' first | assumption | apply Keeps.ite | apply Keeps.ite1 | apply State.setReg_keeps

theorem pxaReject_keeps {fl : Bool} {s₀ : State} {id : ℕ} {code : ℕ} {idx : ℕ} {s : State} (hk : Keeps fl s₀ s) :
    Keeps fl s₀ (pxaReject id code idx s).1 := by
  unfold pxaReject
  with_reducible repeat' first | assumption | apply Keeps.ite | apply Keeps.ite1 | apply State.wr_keeps

theorem patLoad_keeps {fl : Bool} {s₀ : State} {k : ℕ} {img : List ℕ} {s : State} (hk : Keeps fl s₀ s) :
    Keeps fl s₀ (patLoad k img s).1 := by
  unfold patLoad
  repeat' first
    | with_reducible assumption
    | with_reducible first | apply Keeps.ite | apply Keeps.ite1 | apply pxaReject_keeps | apply State.setBit_keeps | apply State.setReg_keeps | exact Nat.le_refl _ | rfl
    | intro t
    | split
    | with_reducible apply Keeps.mk'

theorem trimLoad_keeps {fl : Bool} {s₀ : State} {r : ℕ} {n : ℕ} {img : List ℕ} {s : State} (hk : Keeps fl s₀ s) :
    Keeps fl s₀ (trimLoad r n img s).1 := by
  unfold trimLoad
  repeat' first
    | with_reducible assumption
    | with_reducible first | apply Keeps.ite | apply Keeps.ite1 | apply pxaReject_keeps | apply State.wr_keeps | exact Nat.le_refl _ | rfl
    | intro t
    | split
    | with_reducible apply Keeps.mk'

theorem spadjLoad_keeps {fl : Bool} {s₀ : State} {img : List ℕ} {s : State} (hk : Keeps fl s₀ s) :
    Keeps fl s₀ (spadjLoad img s).1 := by
  unfold spadjLoad
  repeat' first
    | with_reducible assumption
    | with_reducible first | apply Keeps.ite | apply Keeps.ite1 | apply pxaReject_keeps | apply State.wr_keeps | exact Nat.le_refl _ | rfl
    | intro t
    | split
    | with_reducible apply Keeps.mk'

theorem estLoad_keeps {fl : Bool} {s₀ : State} {img : List ℕ} {s : State} (hk : Keeps fl s₀ s) :
    Keeps fl s₀ (estLoad img s).1 := by
  unfold estLoad
  repeat' first
    | with_reducible assumption
    | with_reducible first | apply Keeps.ite | apply Keeps.ite1 | apply pxaReject_keeps | apply State.wr_keeps | exact Nat.le_refl _ | rfl
    | intro t
    | split
    | with_reducible apply Keeps.mk'

theorem lutLoad_keeps {fl : Bool} {s₀ : State} {k : ℕ} {img : List ℕ} {s : State} (hk : Keeps fl s₀ s) :
    Keeps fl s₀ (lutLoad k img s).1 := by
  unfold lutLoad
  repeat' first
    | with_reducible assumption
    | with_reducible first | apply Keeps.ite | apply Keeps.ite1 | apply State.setBit_keeps | exact Nat.le_refl _ | rfl
    | intro t
    | split
    | with_reducible apply Keeps.mk'

theorem fbLoad_keeps {fl : Bool} {s₀ : State} {n : ℕ} {img : List ℕ} {s : State} (hk : Keeps fl s₀ s) :
    Keeps fl s₀ (fbLoad n img s).1 := by
  unfold fbLoad
  repeat' first
    | with_reducible assumption
    | with_reducible first | apply Keeps.ite | apply Keeps.ite1 | apply smcLoadErr_keeps | apply State.wr_keeps | apply State.setReg_keeps | exact Nat.le_refl _ | rfl
    | intro t
    | split
    | with_reducible apply Keeps.mk'

theorem headerReject_keeps {fl : Bool} {s₀ : State} {id : ℕ} {sel : ℕ} {n : ℕ} {g : List ℕ} {s : State} (hk : Keeps fl s₀ s) :
    Keeps fl s₀ (headerReject id sel n g s).1 := by
  unfold headerReject
  repeat' first
    | with_reducible assumption
    | (intro t; refine (have ht : Keeps fl s₀ t := ?_; ?_); (on_goal 1 => subst t); (on_goal 2 => clear_value t; obtain ⟨u, hu⟩ : ∃ u, u = t := ⟨t, rfl⟩; subst hu))
    | intro t
    | lift_lets
    | with_reducible first | apply Keeps.ite | apply Keeps.ite1 | apply State.forN_keeps | apply State.wr_keeps | apply fbLoad_keeps | apply gsLoad_keeps | exact Nat.le_refl _ | rfl
    | split
    | with_reducible apply Keeps.mk'
    | exact rfl

theorem tableInstall_keeps {fl : Bool} {s₀ : State} {id : ℕ} {sel : ℕ} {n : ℕ} {img : List ℕ} {s : State} (hk : Keeps fl s₀ s) :
    Keeps fl s₀ (tableInstall id sel n img s).1 := by
  unfold tableInstall
  repeat' first
    | with_reducible assumption
    | with_reducible first | apply Keeps.ite | apply Keeps.ite1 | apply patLoad_keeps | apply seqLoad_keeps | apply trimLoad_keeps | apply hemLoad_keeps | apply derateLoad_keeps | apply lutLoad_keeps | apply fbLoad_keeps | apply gsLoad_keeps | apply spadjLoad_keeps | apply estLoad_keeps
    | intro t
    | split

theorem endTable_keeps {fl : Bool} {s₀ : State} {u : Option ℕ} {id : ℕ} {sel : ℕ} {n : ℕ} {img : List ℕ} {field : List ℕ} {s : State} (hk : Keeps fl s₀ s) :
    Keeps fl s₀ (endTable u id sel n img field s).1 := by
  unfold endTable
  repeat' first
    | with_reducible assumption
    | (intro t; refine (have ht : Keeps fl s₀ t := ?_; ?_); (on_goal 1 => subst t); (on_goal 2 => clear_value t; obtain ⟨u, hu⟩ : ∃ u, u = t := ⟨t, rfl⟩; subst hu))
    | intro t
    | lift_lets
    | with_reducible first | apply Keeps.ite | apply Keeps.ite1 | apply checkField_keeps | apply tableInstall_keeps | exact Nat.le_refl _ | rfl
    | split

theorem tableLoad_keeps {fl : Bool} {s₀ : State} {o : Outst} {s : State} (hk : Keeps fl s₀ s) :
    Keeps fl s₀ (tableLoad o s).1 := by
  unfold tableLoad
  with_reducible repeat' first | assumption | apply Keeps.ite | apply Keeps.ite1 | apply refuseXfer_keeps | apply answerOff_keeps | apply openXfer_keeps | apply tableInstall_keeps | apply headerReject_keeps | apply feedUnit_keeps | apply openUnit_keeps | apply endTable_keeps | apply answerLater_keeps

theorem sramMeets_keeps {fl : Bool} {s₀ : State} {errs : List EccErr} {s : State} (hk : Keeps fl s₀ s) :
    Keeps fl s₀ (sramMeets errs s) := by
  unfold sramMeets
  with_reducible repeat' first | assumption | apply Keeps.ite | apply Keeps.ite1 | apply fbRegionUe_keeps | apply noteErrs_keeps

theorem tableRead_keeps {fl : Bool} {s₀ : State} {o : Outst} {s : State} (hk : Keeps fl s₀ s) :
    Keeps fl s₀ (tableRead o s).1 := by
  unfold tableRead
  repeat' first
    | with_reducible assumption
    | with_reducible first | apply Keeps.ite | apply Keeps.ite1 | apply ans_keeps | apply answerOff_keeps | apply sramMeets_keeps | apply okW_keeps
    | intro t
    | split

end Sys2Proof.Machine
end

