-- ==== Sys2Proof/Laws/KeepsHost.lean ====
section
/-!
SUPPORT. What every operation keeps (the structure Keeps of Laws/Keeps.lean): admission, the links, reads, the channels and the cores.
One lemma per operation, over any state the operation is applied to.
-/
namespace Sys2Proof.Machine

set_option maxRecDepth 2000

theorem refuse_keeps {fl : Bool} {s₀ : State} {st : Status} {capped : Bool} {on255 : Bool} {ws : List ℕ} {op : Opcode} {c : Cmd} {s : State} (hk : Keeps fl s₀ s) :
    Keeps fl s₀ (refuse st capped on255 ws op c s) := by
  unfold refuse
  repeat' first
    | with_reducible assumption
    | with_reducible first | apply Keeps.ite | apply Keeps.ite1 | apply State.wr_keeps | apply State.bump_keeps | apply State.when_keeps | apply queueReply_keeps | exact Nat.le_refl _ | rfl
    | intro t
    | split
    | with_reducible apply Keeps.mk'

theorem admitA_keeps {fl : Bool} {s₀ : State} {op : Opcode} {c : Cmd} {s : State} {t : State} (hk : Keeps fl s₀ s)
    (e : admitA op c s = some t) : Keeps fl s₀ t := by
  unfold admitA at e
  dsimp only at e
  repeat' split at e
  all_goals cases e
  with_reducible repeat' first | assumption | apply Keeps.ite | apply Keeps.ite1 | apply refuse_keeps | apply raise_keeps | apply State.bump_keeps

theorem countRate_keeps {fl : Bool} {s₀ : State} {c : Cmd} {s : State} (hk : Keeps fl s₀ s) :
    Keeps fl s₀ (countRate c s) := by
  unfold countRate
  repeat' first
    | with_reducible assumption
    | with_reducible first | apply Keeps.ite | apply Keeps.ite1 | exact Nat.le_refl _ | rfl
    | intro t
    | split
    | with_reducible apply Keeps.mk'

theorem admitRate_keeps {fl : Bool} {s₀ : State} {n : ℕ} {op : Opcode} {c : Cmd} {s : State} {t : State} (hk : Keeps fl s₀ s)
    (e : admitRate n op c s = some t) : Keeps fl s₀ t := by
  unfold admitRate at e
  dsimp only at e
  repeat' split at e
  all_goals cases e
  with_reducible repeat' first | assumption | apply Keeps.ite | apply Keeps.ite1 | apply refuse_keeps | apply raise_keeps | apply State.bump_keeps

theorem absorbRefused_keeps {fl : Bool} {s₀ : State} {op : Opcode} {c : Cmd} {s : State} (hk : Keeps fl s₀ s) :
    Keeps fl s₀ (absorbRefused op c s) := by
  unfold absorbRefused
  with_reducible repeat' first | assumption | apply Keeps.ite | apply Keeps.ite1 | apply openXfer_keeps

theorem admitForm_keeps {fl : Bool} {s₀ : State} {op : Opcode} {c : Cmd} {s : State} {t : State} (hk : Keeps fl s₀ s)
    (e : admitForm op c s = some t) : Keeps fl s₀ t := by
  unfold admitForm at e
  repeat' split at e
  all_goals cases e
  all_goals exact refuse_keeps hk

theorem refuseDup_keeps {fl : Bool} {s₀ : State} {key : ℕ} {diverged : Bool} {op : Opcode} {c : Cmd} {s : State} (hk : Keeps fl s₀ s) :
    Keeps fl s₀ (refuseDup key diverged op c s) := by
  unfold refuseDup
  with_reducible repeat' first | assumption | apply Keeps.ite | apply Keeps.ite1 | apply refuse_keeps | apply State.bump_keeps

theorem admitSeq_keeps {fl : Bool} {s₀ : State} {op : Opcode} {c : Cmd} {s : State} {t : State} (hk : Keeps fl s₀ s)
    (e : admitSeq op c s = some t) : Keeps fl s₀ t := by
  unfold admitSeq at e
  dsimp only at e
  repeat' split at e
  all_goals cases e
  with_reducible repeat' first | assumption | apply Keeps.ite | apply Keeps.ite1 | apply refuseDup_keeps

theorem admitClaim_keeps {fl : Bool} {s₀ : State} {op : Opcode} {c : Cmd} {s : State} {t : State} (hk : Keeps fl s₀ s)
    (e : admitClaim op c s = some t) : Keeps fl s₀ t := by
  unfold admitClaim at e
  dsimp only at e
  repeat' split at e
  all_goals cases e
  with_reducible repeat' first | assumption | apply Keeps.ite | apply Keeps.ite1 | apply refuse_keeps | apply raise_keeps

theorem admitRights_keeps {fl : Bool} {s₀ : State} {op : Opcode} {c : Cmd} {s : State} {t : State} (hk : Keeps fl s₀ s)
    (e : admitRights op c s = some t) : Keeps fl s₀ t := by
  unfold admitRights at e
  dsimp only at e
  repeat' split at e
  all_goals cases e
  with_reducible repeat' first | assumption | apply Keeps.ite | apply Keeps.ite1 | apply refuse_keeps | apply raise_keeps | apply State.bump_keeps | apply absorbRefused_keeps

theorem syncFence_keeps {fl : Bool} {s₀ : State} {s : State} (hk : Keeps fl s₀ s) :
    Keeps fl s₀ (syncFence s) := by
  unfold syncFence
  with_reducible repeat' first | assumption | apply Keeps.ite | apply Keeps.ite1 | apply State.wr_keeps

theorem execute_keeps {fl : Bool} {s₀ : State} {body : Outst → State → Res} {o : Outst} {s : State} (hk : Keeps fl s₀ s) (h_body : ∀ x0 u, Keeps fl s₀ u → Keeps fl s₀ (body x0 u).1) :
    Keeps fl s₀ (execute body o s) := by
  unfold execute
  repeat' first
    | with_reducible assumption
    | (intro t; refine (have ht : Keeps fl s₀ t := ?_; ?_); (on_goal 1 => subst t); (on_goal 2 => clear_value t; obtain ⟨u, hu⟩ : ∃ u, u = t := ⟨t, rfl⟩; subst hu))
    | (intro t; refine (have ht : Keeps fl s₀ t.1 := ?_; ?_); (on_goal 1 => subst t); (on_goal 2 => clear_value t; obtain ⟨u, hu⟩ : ∃ u, u = t := ⟨t, rfl⟩; subst hu))
    | intro t
    | lift_lets
    | with_reducible first | apply Keeps.ite | apply Keeps.ite1 | apply replyTo_keeps | apply appendCheck_keeps | apply h_body | exact Nat.le_refl _ | rfl | refine Keeps.foldl _ ?_ _ ?_
    | split
    | (refine Keeps.of_fst ?_ (by assumption))

theorem wakeAdmit_keeps {fl : Bool} {s₀ : State} {p : ℕ} {s : State} (hk : Keeps fl s₀ s) :
    Keeps fl s₀ (wakeAdmit p s) := by
  unfold wakeAdmit
  repeat' first
    | with_reducible assumption
    | with_reducible first | apply Keeps.ite | apply Keeps.ite1 | apply State.setBit_keeps | exact Nat.le_refl _ | rfl
    | intro t
    | split
    | with_reducible apply Keeps.mk'
    | exact rfl

theorem recordAdmit_keeps {fl : Bool} {s₀ : State} {op : Opcode} {c : Cmd} {both : Bool} {s : State} (hk : Keeps fl s₀ s) :
    Keeps fl s₀ (recordAdmit op c both s) := by
  unfold recordAdmit
  repeat' first
    | with_reducible assumption
    | with_reducible first | apply Keeps.ite | apply Keeps.ite1 | apply State.when_keeps | apply wakeAdmit_keeps | apply journalCmd_keeps | exact Nat.le_refl _ | rfl
    | intro t
    | split
    | with_reducible apply Keeps.mk'
    | exact rfl

theorem admitTail_keeps {fl : Bool} {s₀ : State} {op : Opcode} {body : Outst → State → Res} {c : Cmd} {both : Bool} {s : State} (hk : Keeps fl s₀ s) (h_body : ∀ x0 u, Keeps fl s₀ u → Keeps fl s₀ (body x0 u).1) :
    Keeps fl s₀ (admitTail op body c both s) := by
  unfold admitTail
  repeat' first
    | with_reducible assumption
    | with_reducible first | apply Keeps.ite | apply Keeps.ite1 | apply recordAdmit_keeps | apply replyTo_keeps | apply syncFence_keeps | apply execute_keeps | apply h_body | exact Nat.le_refl _ | rfl
    | intro t
    | split
    | (refine admitClaim_keeps ?_ (by assumption))
    | (refine admitRights_keeps ?_ (by assumption))
    | with_reducible apply Keeps.mk'
    | exact rfl

theorem twinDiffers_keeps {fl : Bool} {s₀ : State} {key : ℕ} {op : Opcode} {c : Cmd} {s : State} (hk : Keeps fl s₀ s) :
    Keeps fl s₀ (twinDiffers key op c s) := by
  unfold twinDiffers
  with_reducible repeat' first | assumption | apply Keeps.ite | apply Keeps.ite1 | apply raise_keeps | apply State.bump_keeps | apply refuseDup_keeps

theorem unhold_keeps {fl : Bool} {s₀ : State} {o : Outst} {s : State} (hk : Keeps fl s₀ s) :
    Keeps fl s₀ (unhold o s) := by
  unfold unhold
  repeat' first
    | with_reducible assumption
    | with_reducible first | apply Keeps.ite | apply Keeps.ite1 | exact Nat.le_refl _ | rfl
    | intro t
    | split
    | with_reducible apply Keeps.mk'

theorem lateCopy_keeps {fl : Bool} {s₀ : State} {e : DupEntry} {op : Opcode} {c : Cmd} {s : State} (hk : Keeps fl s₀ s) :
    Keeps fl s₀ (lateCopy e op c s) := by
  unfold lateCopy
  with_reducible repeat' first | assumption | apply Keeps.ite | apply Keeps.ite1 | apply State.bump_keeps | apply twinDiffers_keeps

theorem admitDup_keeps {fl : Bool} {s₀ : State} {run : Opcode → Outst → State → Res} {op : Opcode} {c : Cmd} {s : State} (hk : Keeps fl s₀ s) (h_run : ∀ x0 x1 u, Keeps fl s₀ u → Keeps fl s₀ (run x0 x1 u).1) :
    Keeps fl s₀ (admitDup run op c s) := by
  unfold admitDup
  repeat' first
    | with_reducible assumption
    | with_reducible first | apply Keeps.ite | apply Keeps.ite1 | apply unhold_keeps | apply State.bump_keeps | apply admitTail_keeps | apply twinDiffers_keeps | apply lateCopy_keeps | apply refuse_keeps | apply raise_keeps | apply h_run | exact Nat.le_refl _ | rfl
    | intro t
    | split
    | with_reducible apply Keeps.mk'
    | exact rfl

theorem setPortLink_keeps {fl : Bool} {s₀ : State} {p : ℕ} {l : PortLink} {s : State} (hk : Keeps fl s₀ s) :
    Keeps fl s₀ (setPortLink p l s) := by
  unfold setPortLink
  repeat' first
    | with_reducible assumption
    | with_reducible first | apply Keeps.ite | apply Keeps.ite1 | exact Nat.le_refl _ | rfl
    | intro t
    | split
    | with_reducible apply Keeps.mk'

theorem takePacket_keeps {fl : Bool} {s₀ : State} {p : ℕ} {ch : ℕ} {f : RxPkt → Bool} {s : State} (hk : Keeps fl s₀ s) :
    Keeps fl s₀ (takePacket p ch f s) := by
  unfold takePacket
  repeat' first
    | with_reducible assumption
    | with_reducible first | apply Keeps.ite | apply Keeps.ite1 | apply setPortLink_keeps | apply State.wr_keeps | exact Nat.le_refl _ | rfl
    | intro t
    | split
    | with_reducible apply Keeps.mk'
    | exact rfl

theorem heard_keeps {fl : Bool} {s₀ : State} {chan : ℕ} {p : ℕ} {ptype : ℕ} {s : State} (hk : Keeps fl s₀ s) :
    Keeps fl s₀ (heard chan p ptype s) := by
  unfold heard
  repeat' first
    | with_reducible assumption
    | with_reducible first | apply Keeps.ite | apply Keeps.ite1 | exact Nat.le_refl _ | rfl
    | intro t
    | split
    | with_reducible apply Keeps.mk'

theorem cutTransfer_keeps {fl : Bool} {s₀ : State} {c : Cmd} {s : State} (hk : Keeps fl s₀ s) :
    Keeps fl s₀ (cutTransfer c s) := by
  unfold cutTransfer
  with_reducible repeat' first | assumption | apply Keeps.ite | apply Keeps.ite1 | apply abandonWhere_keeps

theorem refuseUnknown_keeps {fl : Bool} {s₀ : State} {op : Opcode} {c : Cmd} {s : State} (hk : Keeps fl s₀ s) :
    Keeps fl s₀ (refuseUnknown op c s) := by
  unfold refuseUnknown
  repeat' first
    | with_reducible assumption
    | with_reducible first | apply Keeps.ite | apply Keeps.ite1 | apply cutTransfer_keeps | apply heard_keeps | apply countRate_keeps | apply refuse_keeps | exact Nat.le_refl _ | rfl
    | intro t
    | split
    | (refine admitA_keeps ?_ (by assumption))
    | (refine admitRate_keeps ?_ (by assumption))
    | with_reducible apply Keeps.mk'

theorem drainUnknown_keeps {fl : Bool} {s₀ : State} {y0 : ℕ} {y1 : State} (hk : Keeps fl s₀ y1) :
    Keeps fl s₀ (drainUnknown y0 y1) := by
  induction y0 generalizing y1 with
  | zero => exact hk
  | succ n ih =>
    unfold drainUnknown
    split
    · exact hk
    · exact ih (refuseUnknown_keeps (takePacket_keeps hk))

theorem drained_keeps {fl : Bool} {s₀ : State} {s : State} (hk : Keeps fl s₀ s) :
    Keeps fl s₀ (drained s) := by
  unfold drained
  with_reducible repeat' first | assumption | apply Keeps.ite | apply Keeps.ite1 | apply drainUnknown_keeps

theorem hostCommand_keeps {fl : Bool} {s₀ : State} {run : Opcode → Outst → State → Res} {op : Opcode} {c : Cmd} {s : State} (hk : Keeps fl s₀ s) (h_run : ∀ x0 x1 u, Keeps fl s₀ u → Keeps fl s₀ (run x0 x1 u).1) :
    Keeps fl s₀ (hostCommand run op c s) := by
  unfold hostCommand
  repeat' first
    | with_reducible assumption
    | with_reducible first | apply Keeps.ite | apply Keeps.ite1 | apply drained_keeps | apply heard_keeps | apply takePacket_keeps | apply cutTransfer_keeps | apply countRate_keeps | apply admitDup_keeps | apply admitTail_keeps | apply h_run | exact Nat.le_refl _ | rfl
    | intro t
    | split
    | (refine admitA_keeps ?_ (by assumption))
    | (refine admitRate_keeps ?_ (by assumption))
    | (refine admitForm_keeps ?_ (by assumption))
    | (refine admitSeq_keeps ?_ (by assumption))
    | with_reducible apply Keeps.mk'
    | exact rfl

theorem hostTack_keeps {fl : Bool} {s₀ : State} {body : Cmd → State → State} {c : Cmd} {s : State} (hk : Keeps fl s₀ s) (h_body : ∀ x0 u, Keeps fl s₀ u → Keeps fl s₀ (body x0 u)) :
    Keeps fl s₀ (hostTack body c s) := by
  unfold hostTack
  repeat' first
    | with_reducible assumption
    | with_reducible first | apply Keeps.ite | apply Keeps.ite1 | apply drained_keeps | apply takePacket_keeps | apply refuseUnknown_keeps | apply heard_keeps | apply refuse_keeps | apply h_body | exact Nat.le_refl _ | rfl
    | intro t
    | split
    | (refine admitA_keeps ?_ (by assumption))
    | with_reducible apply Keeps.mk'
    | exact rfl

theorem dropReplies_keeps {fl : Bool} {s₀ : State} {p : ℕ} {s : State} (hk : Keeps fl s₀ s) :
    Keeps fl s₀ (dropReplies p s) := by
  unfold dropReplies
  repeat' first
    | with_reducible assumption
    | with_reducible first | apply Keeps.ite | apply Keeps.ite1 | apply syncStat_keeps | exact Nat.le_refl _ | rfl
    | intro t
    | split
    | with_reducible apply Keeps.mk'

theorem syncCred_keeps {fl : Bool} {s₀ : State} {p : ℕ} {s : State} (hk : Keeps fl s₀ s) :
    Keeps fl s₀ (syncCred p s) := by
  unfold syncCred
  with_reducible repeat' first | assumption | apply Keeps.ite | apply Keeps.ite1 | apply State.wr_keeps

theorem putPort_keeps {fl : Bool} {s₀ : State} {p : ℕ} {l : PortLink} {s : State} (hk : Keeps fl s₀ s) :
    Keeps fl s₀ (putPort p l s) := by
  unfold putPort
  with_reducible repeat' first | assumption | apply Keeps.ite | apply Keeps.ite1 | apply syncCred_keeps | apply setPortLink_keeps

theorem injUse_keeps {fl : Bool} {s₀ : State} {p : ℕ} {s : State} (hk : Keeps fl s₀ s) :
    Keeps fl s₀ (injUse p s) := by
  unfold injUse
  with_reducible repeat' first | assumption | apply Keeps.ite | apply Keeps.ite1 | apply State.wr_keeps

theorem setLanes_keeps {fl : Bool} {s₀ : State} {p : ℕ} {x : List Sym} {y : List Sym} {s : State} (hk : Keeps fl s₀ s) :
    Keeps fl s₀ (setLanes p x y s) := by
  unfold setLanes
  with_reducible repeat' first | assumption | apply Keeps.ite | apply Keeps.ite1 | apply setPortLink_keeps

theorem cutLink_keeps {fl : Bool} {s₀ : State} {p : ℕ} {s : State} (hk : Keeps fl s₀ s) :
    Keeps fl s₀ (cutLink p s) := by
  unfold cutLink
  with_reducible repeat' first | assumption | apply Keeps.ite | apply Keeps.ite1 | apply dropReplies_keeps | apply setCause_keeps | apply State.bump_keeps | apply State.wr_keeps | apply putPort_keeps

theorem linkDown_keeps {fl : Bool} {s₀ : State} {p : ℕ} {cause : ℕ} {s : State} (hk : Keeps fl s₀ s) :
    Keeps fl s₀ (linkDown p cause s) := by
  unfold linkDown
  with_reducible repeat' first | assumption | apply Keeps.ite | apply Keeps.ite1 | apply State.wr_keeps | apply cutLink_keeps | apply raise_keeps

theorem retrain_keeps {fl : Bool} {s₀ : State} {p : ℕ} {s : State} (hk : Keeps fl s₀ s) :
    Keeps fl s₀ (retrain p s) := by
  unfold retrain
  with_reducible repeat' first | assumption | apply Keeps.ite | apply Keeps.ite1 | apply State.bump_keeps | apply State.wr_keeps | apply setPortLink_keeps

theorem firstL0_keeps {fl : Bool} {s₀ : State} {p : ℕ} {s : State} (hk : Keeps fl s₀ s) :
    Keeps fl s₀ (firstL0 p s) := by
  unfold firstL0
  with_reducible repeat' first | assumption | apply Keeps.ite | apply Keeps.ite1 | apply State.wr_keeps

theorem enterL0_keeps {fl : Bool} {s₀ : State} {p : ℕ} {s : State} (hk : Keeps fl s₀ s) :
    Keeps fl s₀ (enterL0 p s) := by
  unfold enterL0
  with_reducible repeat' first | assumption | apply Keeps.ite | apply Keeps.ite1 | apply firstL0_keeps | apply State.wr_keeps | apply putPort_keeps

theorem execLaneSignalDetect_keeps {fl : Bool} {s₀ : State} {p : Port} {s : State} (hk : Keeps fl s₀ s) :
    Keeps fl s₀ (execLaneSignalDetect p s) := by
  unfold execLaneSignalDetect
  with_reducible repeat' first | assumption | apply Keeps.ite | apply Keeps.ite1 | apply State.wr_keeps

theorem execTrainingSetReceive_keeps {fl : Bool} {s₀ : State} {p : Port} {t0 : TrainSet} {t1 : TrainSet} {run : ℕ} {sent : ℕ} {skew : ℕ} {s : State} (hk : Keeps fl s₀ s) :
    Keeps fl s₀ (execTrainingSetReceive p t0 t1 run sent skew s) := by
  unfold execTrainingSetReceive
  with_reducible repeat' first | assumption | apply Keeps.ite | apply Keeps.ite1 | apply setPortLink_keeps | apply State.wr_keeps | apply enterL0_keeps

theorem execTrainingTimeout_keeps {fl : Bool} {s₀ : State} {p : Port} {s : State} (hk : Keeps fl s₀ s) :
    Keeps fl s₀ (execTrainingTimeout p s) := by
  unfold execTrainingTimeout
  with_reducible repeat' first | assumption | apply Keeps.ite | apply Keeps.ite1 | apply State.wr_keeps

theorem execCodeViolationLimit_keeps {fl : Bool} {s₀ : State} {p : Port} {bad : ℕ} {misplaced : ℕ} {s : State} (hk : Keeps fl s₀ s) :
    Keeps fl s₀ (execCodeViolationLimit p bad misplaced s) := by
  unfold execCodeViolationLimit
  with_reducible repeat' first | assumption | apply Keeps.ite | apply Keeps.ite1 | apply State.bumpBy_keeps | apply retrain_keeps

theorem execRetrainTimeout_keeps {fl : Bool} {s₀ : State} {p : Port} {s : State} (hk : Keeps fl s₀ s) :
    Keeps fl s₀ (execRetrainTimeout p s) := by
  unfold execRetrainTimeout
  with_reducible repeat' first | assumption | apply Keeps.ite | apply Keeps.ite1 | apply linkDown_keeps

theorem sendCtl_keeps {fl : Bool} {s₀ : State} {p : ℕ} {kind : ℕ} {v : ℕ} {s : State} (hk : Keeps fl s₀ s) :
    Keeps fl s₀ (sendCtl p kind v s) := by
  unfold sendCtl
  with_reducible repeat' first | assumption | apply Keeps.ite | apply Keeps.ite1 | apply setPortLink_keeps

theorem sendAck_keeps {fl : Bool} {s₀ : State} {p : ℕ} {s : State} (hk : Keeps fl s₀ s) :
    Keeps fl s₀ (sendAck p s) := by
  unfold sendAck
  with_reducible repeat' first | assumption | apply Keeps.ite | apply Keeps.ite1 | apply setPortLink_keeps | apply injUse_keeps | apply sendCtl_keeps

theorem owesAck_keeps {fl : Bool} {s₀ : State} {p : ℕ} {s : State} (hk : Keeps fl s₀ s) :
    Keeps fl s₀ (owesAck p s) := by
  unfold owesAck
  with_reducible repeat' first | assumption | apply Keeps.ite | apply Keeps.ite1 | apply setPortLink_keeps | apply sendAck_keeps

theorem execAckLatencyExpiry_keeps {fl : Bool} {s₀ : State} {p : Port} {s : State} (hk : Keeps fl s₀ s) :
    Keeps fl s₀ (execAckLatencyExpiry p s) := by
  unfold execAckLatencyExpiry
  with_reducible repeat' first | assumption | apply Keeps.ite | apply Keeps.ite1 | apply sendAck_keeps

theorem sendNak_keeps {fl : Bool} {s₀ : State} {p : ℕ} {s : State} (hk : Keeps fl s₀ s) :
    Keeps fl s₀ (sendNak p s) := by
  unfold sendNak
  with_reducible repeat' first | assumption | apply Keeps.ite | apply Keeps.ite1 | apply sendCtl_keeps | apply setPortLink_keeps

theorem malformed_keeps {fl : Bool} {s₀ : State} {p : ℕ} {ptype : ℕ} {s : State} (hk : Keeps fl s₀ s) :
    Keeps fl s₀ (malformed p ptype s) := by
  unfold malformed
  with_reducible repeat' first | assumption | apply Keeps.ite | apply Keeps.ite1 | apply raise_keeps | apply State.bump_keeps

theorem ackTo_keeps {fl : Bool} {s₀ : State} {p : ℕ} {v : ℕ} {s : State} (hk : Keeps fl s₀ s) :
    Keeps fl s₀ (ackTo p v s) := by
  unfold ackTo
  with_reducible repeat' first | assumption | apply Keeps.ite | apply Keeps.ite1 | apply putPort_keeps

theorem startResend_keeps {fl : Bool} {s₀ : State} {p : ℕ} {s : State} (hk : Keeps fl s₀ s) :
    Keeps fl s₀ (startResend p s) := by
  unfold startResend
  with_reducible repeat' first | assumption | apply Keeps.ite | apply Keeps.ite1 | apply retrain_keeps | apply raise_keeps | apply setPortLink_keeps | apply State.bump_keeps

theorem takeNak_keeps {fl : Bool} {s₀ : State} {p : ℕ} {v : ℕ} {s : State} (hk : Keeps fl s₀ s) :
    Keeps fl s₀ (takeNak p v s) := by
  unfold takeNak
  with_reducible repeat' first | assumption | apply Keeps.ite | apply Keeps.ite1 | apply startResend_keeps | apply ackTo_keeps

theorem takeCredit_keeps {fl : Bool} {s₀ : State} {p : ℕ} {v : ℕ} {s : State} (hk : Keeps fl s₀ s) :
    Keeps fl s₀ (takeCredit p v s) := by
  unfold takeCredit
  repeat' first
    | with_reducible assumption
    | with_reducible first | apply Keeps.ite | apply Keeps.ite1 | apply putPort_keeps | apply malformed_keeps | exact Nat.le_refl _ | rfl
    | intro t
    | split
    | with_reducible apply Keeps.mk'

theorem enterLow_keeps {fl : Bool} {s₀ : State} {p : ℕ} {link : ℕ} {s : State} (hk : Keeps fl s₀ s) :
    Keeps fl s₀ (enterLow p link s) := by
  unfold enterLow
  with_reducible repeat' first | assumption | apply Keeps.ite | apply Keeps.ite1 | apply setLanes_keeps | apply setPortLink_keeps | apply State.wr_keeps

theorem startL2Exit_keeps {fl : Bool} {s₀ : State} {p : ℕ} {s : State} (hk : Keeps fl s₀ s) :
    Keeps fl s₀ (startL2Exit p s) := by
  unfold startL2Exit
  with_reducible repeat' first | assumption | apply Keeps.ite | apply Keeps.ite1 | apply setPortLink_keeps | apply setCause_keeps

theorem enterAsked_keeps {fl : Bool} {s₀ : State} {p : ℕ} {s : State} (hk : Keeps fl s₀ s) :
    Keeps fl s₀ (enterAsked p s) := by
  unfold enterAsked
  with_reducible repeat' first | assumption | apply Keeps.ite | apply Keeps.ite1 | apply enterLow_keeps | apply startL2Exit_keeps

theorem takeL1Req_keeps {fl : Bool} {s₀ : State} {p : ℕ} {s : State} (hk : Keeps fl s₀ s) :
    Keeps fl s₀ (takeL1Req p s) := by
  unfold takeL1Req
  with_reducible repeat' first | assumption | apply Keeps.ite | apply Keeps.ite1 | apply enterLow_keeps | apply sendCtl_keeps | apply setPortLink_keeps

theorem takeL2Req_keeps {fl : Bool} {s₀ : State} {p : ℕ} {s : State} (hk : Keeps fl s₀ s) :
    Keeps fl s₀ (takeL2Req p s) := by
  unfold takeL2Req
  with_reducible repeat' first | assumption | apply Keeps.ite | apply Keeps.ite1 | apply enterAsked_keeps | apply sendCtl_keeps | apply setPortLink_keeps

theorem takeCtl_keeps {fl : Bool} {s₀ : State} {p : ℕ} {kind : ℕ} {v : ℕ} {s : State} (hk : Keeps fl s₀ s) :
    Keeps fl s₀ (takeCtl p kind v s) := by
  unfold takeCtl
  repeat' first
    | with_reducible assumption
    | with_reducible first | apply Keeps.ite | apply Keeps.ite1 | apply ackTo_keeps | apply takeNak_keeps | apply takeCredit_keeps | apply takeL1Req_keeps | apply enterLow_keeps | apply setPortLink_keeps | apply takeL2Req_keeps | apply enterAsked_keeps
    | intro t
    | split

theorem execAck_keeps {fl : Bool} {s₀ : State} {p : Port} {v : BitVec 16} {s : State} (hk : Keeps fl s₀ s) :
    Keeps fl s₀ (execAck p v s) := by
  unfold execAck
  with_reducible repeat' first | assumption | apply Keeps.ite | apply Keeps.ite1 | apply takeCtl_keeps

theorem execNak_keeps {fl : Bool} {s₀ : State} {p : Port} {v : BitVec 16} {s : State} (hk : Keeps fl s₀ s) :
    Keeps fl s₀ (execNak p v s) := by
  unfold execNak
  with_reducible repeat' first | assumption | apply Keeps.ite | apply Keeps.ite1 | apply takeCtl_keeps

theorem execCredit_keeps {fl : Bool} {s₀ : State} {p : Port} {v : BitVec 16} {s : State} (hk : Keeps fl s₀ s) :
    Keeps fl s₀ (execCredit p v s) := by
  unfold execCredit
  with_reducible repeat' first | assumption | apply Keeps.ite | apply Keeps.ite1 | apply takeCtl_keeps

theorem execL1Req_keeps {fl : Bool} {s₀ : State} {p : Port} {s : State} (hk : Keeps fl s₀ s) :
    Keeps fl s₀ (execL1Req p s) := by
  unfold execL1Req
  with_reducible repeat' first | assumption | apply Keeps.ite | apply Keeps.ite1 | apply takeCtl_keeps

theorem execL1Ack_keeps {fl : Bool} {s₀ : State} {p : Port} {s : State} (hk : Keeps fl s₀ s) :
    Keeps fl s₀ (execL1Ack p s) := by
  unfold execL1Ack
  with_reducible repeat' first | assumption | apply Keeps.ite | apply Keeps.ite1 | apply takeCtl_keeps

theorem execL1Nak_keeps {fl : Bool} {s₀ : State} {p : Port} {s : State} (hk : Keeps fl s₀ s) :
    Keeps fl s₀ (execL1Nak p s) := by
  unfold execL1Nak
  with_reducible repeat' first | assumption | apply Keeps.ite | apply Keeps.ite1 | apply takeCtl_keeps

theorem execL2Req_keeps {fl : Bool} {s₀ : State} {p : Port} {s : State} (hk : Keeps fl s₀ s) :
    Keeps fl s₀ (execL2Req p s) := by
  unfold execL2Req
  with_reducible repeat' first | assumption | apply Keeps.ite | apply Keeps.ite1 | apply takeCtl_keeps

theorem execL2Ack_keeps {fl : Bool} {s₀ : State} {p : Port} {s : State} (hk : Keeps fl s₀ s) :
    Keeps fl s₀ (execL2Ack p s) := by
  unfold execL2Ack
  with_reducible repeat' first | assumption | apply Keeps.ite | apply Keeps.ite1 | apply takeCtl_keeps

theorem execL2Nak_keeps {fl : Bool} {s₀ : State} {p : Port} {s : State} (hk : Keeps fl s₀ s) :
    Keeps fl s₀ (execL2Nak p s) := by
  unfold execL2Nak
  with_reducible repeat' first | assumption | apply Keeps.ite | apply Keeps.ite1 | apply takeCtl_keeps

theorem execReplayTimeout_keeps {fl : Bool} {s₀ : State} {p : Port} {s : State} (hk : Keeps fl s₀ s) :
    Keeps fl s₀ (execReplayTimeout p s) := by
  unfold execReplayTimeout
  with_reducible repeat' first | assumption | apply Keeps.ite | apply Keeps.ite1 | apply startResend_keeps

theorem execCreditAdvertise_keeps {fl : Bool} {s₀ : State} {p : Port} {s : State} (hk : Keeps fl s₀ s) :
    Keeps fl s₀ (execCreditAdvertise p s) := by
  unfold execCreditAdvertise
  with_reducible repeat' first | assumption | apply Keeps.ite | apply Keeps.ite1 | apply sendCtl_keeps | apply setPortLink_keeps

theorem acceptPacket_keeps {fl : Bool} {s₀ : State} {p : ℕ} {h : Heard} {c : ℕ} {s : State} (hk : Keeps fl s₀ s) :
    Keeps fl s₀ (acceptPacket p h c s) := by
  unfold acceptPacket
  with_reducible repeat' first | assumption | apply Keeps.ite | apply Keeps.ite1 | apply putPort_keeps | apply owesAck_keeps | apply State.wr_keeps | apply drained_keeps

theorem badPacket_keeps {fl : Bool} {s₀ : State} {p : ℕ} {w : List ℕ} {s : State} (hk : Keeps fl s₀ s) :
    Keeps fl s₀ (badPacket p w s) := by
  unfold badPacket
  with_reducible repeat' first | assumption | apply Keeps.ite | apply Keeps.ite1 | apply State.bump_keeps | apply raise_keeps | apply sendNak_keeps

theorem goodPacket_keeps {fl : Bool} {s₀ : State} {p : ℕ} {w : List ℕ} {s : State} (hk : Keeps fl s₀ s) :
    Keeps fl s₀ (goodPacket p w s) := by
  unfold goodPacket
  with_reducible repeat' first | assumption | apply Keeps.ite | apply Keeps.ite1 | apply sendNak_keeps | apply sendAck_keeps | apply malformed_keeps | apply putPort_keeps | apply owesAck_keeps | apply State.wr_keeps | apply acceptPacket_keeps

theorem withdrawL1_keeps {fl : Bool} {s₀ : State} {p : ℕ} {s : State} (hk : Keeps fl s₀ s) :
    Keeps fl s₀ (withdrawL1 p s) := by
  unfold withdrawL1
  with_reducible repeat' first | assumption | apply Keeps.ite | apply Keeps.ite1 | apply setPortLink_keeps

theorem takeWords_keeps {fl : Bool} {s₀ : State} {p : ℕ} {all : List ℕ} {edb : Bool} {errs : List EccErr} {s : State} (hk : Keeps fl s₀ s) :
    Keeps fl s₀ (takeWords p all edb errs s) := by
  unfold takeWords
  with_reducible repeat' first | assumption | apply Keeps.ite | apply Keeps.ite1 | apply withdrawL1_keeps | apply State.bump_keeps | apply noteErrs_keeps | apply badPacket_keeps | apply injUse_keeps | apply takeCtl_keeps | apply malformed_keeps | apply goodPacket_keeps

theorem execLinkPacketReceive_keeps {fl : Bool} {s₀ : State} {p : Port} {l0 : List Byte} {l1 : List Byte} {edb : Bool} {errs : List EccErr} {s : State} (hk : Keeps fl s₀ s) :
    Keeps fl s₀ (execLinkPacketReceive p l0 l1 edb errs s) := by
  unfold execLinkPacketReceive
  with_reducible repeat' first | assumption | apply Keeps.ite | apply Keeps.ite1 | apply takeWords_keeps

theorem onWire_keeps {fl : Bool} {s₀ : State} {p : ℕ} {w : List ℕ} {fresh : Bool} {edb : Bool} {s : State} (hk : Keeps fl s₀ s) :
    Keeps fl s₀ (onWire p w fresh edb s) := by
  unfold onWire
  with_reducible repeat' first | assumption | apply Keeps.ite | apply Keeps.ite1 | apply setLanes_keeps | apply setPortLink_keeps | apply injUse_keeps

theorem sendIdle_keeps {fl : Bool} {s₀ : State} {p : ℕ} {s : State} (hk : Keeps fl s₀ s) :
    Keeps fl s₀ (sendIdle p s) := by
  unfold sendIdle
  with_reducible repeat' first | assumption | apply Keeps.ite | apply Keeps.ite1 | apply setLanes_keeps | apply injUse_keeps

theorem sendNew_keeps {fl : Bool} {s₀ : State} {p : ℕ} {bad : Bool} {s : State} (hk : Keeps fl s₀ s) :
    Keeps fl s₀ (sendNew p bad s) := by
  unfold sendNew
  repeat' first
    | with_reducible assumption
    | with_reducible first | apply Keeps.ite | apply Keeps.ite1 | apply sendIdle_keeps | apply onWire_keeps | apply syncStat_keeps | apply putPort_keeps | apply State.wr_keeps | exact Nat.le_refl _ | rfl
    | intro t
    | split
    | with_reducible apply Keeps.mk'
    | exact rfl

theorem leaveL1_keeps {fl : Bool} {s₀ : State} {p : ℕ} {s : State} (hk : Keeps fl s₀ s) :
    Keeps fl s₀ (leaveL1 p s) := by
  unfold leaveL1
  with_reducible repeat' first | assumption | apply Keeps.ite | apply Keeps.ite1 | apply setLanes_keeps | apply setPortLink_keeps | apply State.wr_keeps

theorem dropL1Req_keeps {fl : Bool} {s₀ : State} {p : ℕ} {s : State} (hk : Keeps fl s₀ s) :
    Keeps fl s₀ (dropL1Req p s) := by
  unfold dropL1Req
  with_reducible repeat' first | assumption | apply Keeps.ite | apply Keeps.ite1 | apply withdrawL1_keeps

theorem execPacketTransmit_keeps {fl : Bool} {s₀ : State} {p : Port} {errs : List EccErr} {s : State} (hk : Keeps fl s₀ s) :
    Keeps fl s₀ (execPacketTransmit p errs s) := by
  unfold execPacketTransmit
  repeat' first
    | with_reducible assumption
    | with_reducible first | apply Keeps.ite | apply Keeps.ite1 | apply leaveL1_keeps | apply dropL1Req_keeps | apply onWire_keeps | apply setPortLink_keeps | apply enterLow_keeps | apply noteErrs_keeps | apply putPort_keeps | apply sendNew_keeps | exact Nat.le_refl _ | rfl
    | intro t
    | split
    | with_reducible apply Keeps.mk'
    | exact rfl

theorem execCreditStallTimeout_keeps {fl : Bool} {s₀ : State} {p : Port} {s : State} (hk : Keeps fl s₀ s) :
    Keeps fl s₀ (execCreditStallTimeout p s) := by
  unfold execCreditStallTimeout
  repeat' first
    | with_reducible assumption
    | with_reducible first | apply Keeps.ite | apply Keeps.ite1 | apply linkDown_keeps | exact Nat.le_refl _ | rfl
    | intro t
    | split
    | with_reducible apply Keeps.mk'

theorem execSkipSetDue_keeps {fl : Bool} {s₀ : State} {p : Port} {s : State} (hk : Keeps fl s₀ s) :
    Keeps fl s₀ (execSkipSetDue p s) := by
  unfold execSkipSetDue
  with_reducible repeat' first | assumption | apply Keeps.ite | apply Keeps.ite1 | apply setLanes_keeps | apply setPortLink_keeps

theorem execL1IdleExpiry_keeps {fl : Bool} {s₀ : State} {p : Port} {s : State} (hk : Keeps fl s₀ s) :
    Keeps fl s₀ (execL1IdleExpiry p s) := by
  unfold execL1IdleExpiry
  with_reducible repeat' first | assumption | apply Keeps.ite | apply Keeps.ite1 | apply sendCtl_keeps | apply setPortLink_keeps

theorem askL2_keeps {fl : Bool} {s₀ : State} {p : ℕ} {s : State} (hk : Keeps fl s₀ s) :
    Keeps fl s₀ (askL2 p s) := by
  unfold askL2
  with_reducible repeat' first | assumption | apply Keeps.ite | apply Keeps.ite1 | apply sendCtl_keeps | apply setPortLink_keeps

theorem dropL2_keeps {fl : Bool} {s₀ : State} {p : ℕ} {s : State} (hk : Keeps fl s₀ s) :
    Keeps fl s₀ (dropL2 p s) := by
  unfold dropL2
  with_reducible repeat' first | assumption | apply Keeps.ite | apply Keeps.ite1 | apply setPortLink_keeps

theorem execL1Exit_keeps {fl : Bool} {s₀ : State} {p : Port} {s : State} (hk : Keeps fl s₀ s) :
    Keeps fl s₀ (execL1Exit p s) := by
  unfold execL1Exit
  with_reducible repeat' first | assumption | apply Keeps.ite | apply Keeps.ite1 | apply leaveL1_keeps

theorem leaveL2_keeps {fl : Bool} {s₀ : State} {p : ℕ} {s : State} (hk : Keeps fl s₀ s) :
    Keeps fl s₀ (leaveL2 p s) := by
  unfold leaveL2
  with_reducible repeat' first | assumption | apply Keeps.ite | apply Keeps.ite1 | apply State.wr_keeps | apply setPortLink_keeps

theorem execL2Wake_keeps {fl : Bool} {s₀ : State} {p : Port} {s : State} (hk : Keeps fl s₀ s) :
    Keeps fl s₀ (execL2Wake p s) := by
  unfold execL2Wake
  with_reducible repeat' first | assumption | apply Keeps.ite | apply Keeps.ite1 | apply leaveL2_keeps

theorem execEngineL2Exit_keeps {fl : Bool} {s₀ : State} {p : Port} {s : State} (hk : Keeps fl s₀ s) :
    Keeps fl s₀ (execEngineL2Exit p s) := by
  unfold execEngineL2Exit
  with_reducible repeat' first | assumption | apply Keeps.ite | apply Keeps.ite1 | apply startL2Exit_keeps

theorem execWakePatternEnd_keeps {fl : Bool} {s₀ : State} {p : Port} {s : State} (hk : Keeps fl s₀ s) :
    Keeps fl s₀ (execWakePatternEnd p s) := by
  unfold execWakePatternEnd
  with_reducible repeat' first | assumption | apply Keeps.ite | apply Keeps.ite1 | apply leaveL2_keeps | apply setPortLink_keeps

theorem portOff_keeps {fl : Bool} {s₀ : State} {p : ℕ} {s : State} (hk : Keeps fl s₀ s) :
    Keeps fl s₀ (portOff p s) := by
  unfold portOff
  with_reducible repeat' first | assumption | apply Keeps.ite | apply Keeps.ite1 | apply State.wr_keeps | apply cutLink_keeps

theorem portEnable_keeps {fl : Bool} {s₀ : State} {p : ℕ} {s : State} (hk : Keeps fl s₀ s) :
    Keeps fl s₀ (portEnable p s).1 := by
  unfold portEnable
  with_reducible repeat' first | assumption | apply Keeps.ite | apply Keeps.ite1 | apply State.wr_keeps

theorem portDisable_keeps {fl : Bool} {s₀ : State} {p : ℕ} {s : State} (hk : Keeps fl s₀ s) :
    Keeps fl s₀ (portDisable p s).1 := by
  unfold portDisable
  with_reducible repeat' first | assumption | apply Keeps.ite | apply Keeps.ite1 | apply State.wr_keeps | apply setPortLink_keeps

theorem execPortStopComplete_keeps {fl : Bool} {s₀ : State} {p : Port} {s : State} (hk : Keeps fl s₀ s) :
    Keeps fl s₀ (execPortStopComplete p s) := by
  unfold execPortStopComplete
  with_reducible repeat' first | assumption | apply Keeps.ite | apply Keeps.ite1 | apply portOff_keeps

theorem hlCntClr_keeps {fl : Bool} {s₀ : State} {p : ℕ} {s : State} (hk : Keeps fl s₀ s) :
    Keeps fl s₀ (hlCntClr p s) := by
  unfold hlCntClr
  with_reducible repeat' first | assumption | apply Keeps.ite | apply Keeps.ite1 | apply State.setReg_keeps

theorem lmeCntClr_keeps {fl : Bool} {s₀ : State} {s : State} (hk : Keeps fl s₀ s) :
    Keeps fl s₀ (lmeCntClr s) := by
  unfold lmeCntClr
  repeat' first
    | with_reducible assumption
    | with_reducible first | apply Keeps.ite | apply Keeps.ite1 | apply State.setReg_keeps | apply State.forN_keeps
    | intro t

theorem linkTest_keeps {fl : Bool} {s₀ : State} {o : Outst} {s : State} (hk : Keeps fl s₀ s) :
    Keeps fl s₀ (linkTest o s).1 := by
  unfold linkTest
  repeat' first
    | with_reducible assumption
    | (intro t; refine (have ht : Keeps fl s₀ t := ?_; ?_); (on_goal 1 => subst t); (on_goal 2 => clear_value t; obtain ⟨u, hu⟩ : ∃ u, u = t := ⟨t, rfl⟩; subst hu))
    | intro t
    | lift_lets
    | with_reducible first | apply Keeps.ite | apply Keeps.ite1 | apply ans_keeps | apply answerLater_keeps | apply holdCmd_keeps | apply ok_keeps | apply State.wr_keeps | apply State.forN_keeps | apply State.setReg_keeps | apply State.forL_keeps | exact Nat.le_refl _ | rfl
    | split
    | with_reducible apply Keeps.mk'

theorem execCheckerInSync_keeps {fl : Bool} {s₀ : State} {lane : Fin 4} {l : List Bool} {s : State} (hk : Keeps fl s₀ s) :
    Keeps fl s₀ (execCheckerInSync lane l s) := by
  unfold execCheckerInSync
  with_reducible repeat' first | assumption | apply Keeps.ite | apply Keeps.ite1 | apply State.setBit_keeps

theorem laneErrs_keeps {fl : Bool} {s₀ : State} {i : ℕ} {n : ℕ} {s : State} (hk : Keeps fl s₀ s) :
    Keeps fl s₀ (laneErrs i n s) := by
  unfold laneErrs
  with_reducible repeat' first | assumption | apply Keeps.ite | apply Keeps.ite1 | apply State.bumpBy_keeps

theorem execCheckerSyncLoss_keeps {fl : Bool} {s₀ : State} {lane : Fin 4} {n : ℕ} {s : State} (hk : Keeps fl s₀ s) :
    Keeps fl s₀ (execCheckerSyncLoss lane n s) := by
  unfold execCheckerSyncLoss
  with_reducible repeat' first | assumption | apply Keeps.ite | apply Keeps.ite1 | apply State.clrBit_keeps | apply State.bump_keeps | apply laneErrs_keeps

theorem injFlip_keeps {fl : Bool} {s₀ : State} {p : ℕ} {s : State} (hk : Keeps fl s₀ s) :
    Keeps fl s₀ (injFlip p s) := by
  unfold injFlip
  repeat' first
    | with_reducible assumption
    | with_reducible first | apply Keeps.ite | apply Keeps.ite1 | apply State.wr_keeps | exact Nat.le_refl _ | rfl
    | intro t
    | split
    | with_reducible apply Keeps.mk'
    | exact rfl

theorem endTest_keeps {fl : Bool} {s₀ : State} {s : State} (hk : Keeps fl s₀ s) :
    Keeps fl s₀ (endTest s) := by
  unfold endTest
  repeat' first
    | with_reducible assumption
    | with_reducible first | apply Keeps.ite | apply Keeps.ite1 | apply State.setReg_keeps | apply State.wr_keeps | apply State.forL_keeps | apply injFlip_keeps | apply finish_keeps | apply finishSt_keeps | exact Nat.le_refl _ | rfl
    | intro t
    | split
    | with_reducible apply Keeps.mk'
    | exact rfl

theorem execLinkTestEnd_keeps {fl : Bool} {s₀ : State} {e0 : ℕ} {e1 : ℕ} {e2 : ℕ} {e3 : ℕ} {s : State} (hk : Keeps fl s₀ s) :
    Keeps fl s₀ (execLinkTestEnd e0 e1 e2 e3 s) := by
  unfold execLinkTestEnd
  with_reducible repeat' first | assumption | apply Keeps.ite | apply Keeps.ite1 | apply endTest_keeps | apply laneErrs_keeps

theorem linkInject_keeps {fl : Bool} {s₀ : State} {o : Outst} {s : State} (hk : Keeps fl s₀ s) :
    Keeps fl s₀ (linkInject o s).1 := by
  unfold linkInject
  repeat' first
    | with_reducible assumption
    | with_reducible first | apply Keeps.ite | apply Keeps.ite1 | apply ans_keeps | apply State.wr_keeps | apply ok_keeps | exact Nat.le_refl _ | rfl
    | intro t
    | split
    | with_reducible apply Keeps.mk'

theorem execEyeMeasure_keeps {fl : Bool} {s₀ : State} {lane : Fin 4} {width : BitVec 8} {s : State} (hk : Keeps fl s₀ s) :
    Keeps fl s₀ (execEyeMeasure lane width s) := by
  unfold execEyeMeasure
  with_reducible repeat' first | assumption | apply Keeps.ite | apply Keeps.ite1 | apply State.wr_keeps | apply raise_keeps

theorem sramWord_keeps {fl : Bool} {s₀ : State} {a : ℕ} {s : State} (hk : Keeps fl s₀ s) :
    Keeps fl s₀ (sramWord a s).1 := by
  unfold sramWord
  with_reducible repeat' first | assumption | apply Keeps.ite | apply Keeps.ite1 | apply State.fresh_keeps

theorem readWord_keeps {fl : Bool} {s₀ : State} {errs : List EccErr} {a : ℕ} {s : State} (hk : Keeps fl s₀ s) :
    Keeps fl s₀ (readWord errs a s).1 := by
  unfold readWord
  repeat' first
    | with_reducible assumption
    | with_reducible first | apply Keeps.ite | apply Keeps.ite1 | apply sramMeets_keeps | apply sramWord_keeps | apply raise_keeps | apply noteErrs_keeps
    | intro t
    | split

theorem readRegCmd_keeps {fl : Bool} {s₀ : State} {o : Outst} {s : State} (hk : Keeps fl s₀ s) :
    Keeps fl s₀ (readRegCmd o s).1 := by
  unfold readRegCmd
  repeat' first
    | with_reducible assumption
    | (intro t; refine (have ht : Keeps fl s₀ t := ?_; ?_); (on_goal 1 => subst t); (on_goal 2 => clear_value t; obtain ⟨u, hu⟩ : ∃ u, u = t := ⟨t, rfl⟩; subst hu))
    | (intro t; refine (have ht : Keeps fl s₀ t.1 := ?_; ?_); (on_goal 1 => subst t); (on_goal 2 => clear_value t; obtain ⟨u, hu⟩ : ∃ u, u = t := ⟨t, rfl⟩; subst hu))
    | intro t
    | lift_lets
    | with_reducible first | apply Keeps.ite | apply Keeps.ite1 | apply ans_keeps | apply readWord_keeps | apply okW_keeps | exact Nat.le_refl _ | rfl | refine Keeps.foldl _ ?_ _ ?_
    | split
    | (refine Keeps.of_fst ?_ (by assumption))

theorem readWords_keeps {fl : Bool} {s₀ : State} {errs : List EccErr} {l : List Nat} {s : State} (hk : Keeps fl s₀ s) :
    Keeps fl s₀ (readWords errs l s).1 := by
  induction l generalizing s with
  | nil => exact hk
  | cons a l ih =>
    unfold readWords
    have h1 : Keeps fl s₀ (readWord errs a s).1 := readWord_keeps hk
    split
    · rename_i e; rw [e] at h1; exact h1
    · rename_i e
      rw [e] at h1
      have h2 := ih h1
      split <;> (rename_i e2; rw [e2] at h2; exact h2)

theorem readBlock_keeps {fl : Bool} {s₀ : State} {o : Outst} {s : State} (hk : Keeps fl s₀ s) :
    Keeps fl s₀ (readBlock o s).1 := by
  unfold readBlock
  repeat' first
    | with_reducible assumption
    | (intro t; refine (have ht : Keeps fl s₀ t := ?_; ?_); (on_goal 1 => subst t); (on_goal 2 => clear_value t; obtain ⟨u, hu⟩ : ∃ u, u = t := ⟨t, rfl⟩; subst hu))
    | (intro t; refine (have ht : Keeps fl s₀ t.1 := ?_; ?_); (on_goal 1 => subst t); (on_goal 2 => clear_value t; obtain ⟨u, hu⟩ : ∃ u, u = t := ⟨t, rfl⟩; subst hu))
    | intro t
    | lift_lets
    | with_reducible first | apply Keeps.ite | apply Keeps.ite1 | apply ans_keeps | apply readWords_keeps | apply okW_keeps | exact Nat.le_refl _ | rfl | refine Keeps.foldl _ ?_ _ ?_
    | split
    | (refine Keeps.of_fst ?_ (by assumption))

theorem plainCmd_keeps {fl : Bool} {s₀ : State} {o : Outst} {s : State} (hk : Keeps fl s₀ s) :
    Keeps fl s₀ (plainCmd o s).1 := by
  unfold plainCmd
  with_reducible repeat' first | assumption | apply Keeps.ite | apply Keeps.ite1 | apply ans_keeps | apply ok_keeps

theorem ping_keeps {fl : Bool} {s₀ : State} {o : Outst} {s : State} (hk : Keeps fl s₀ s) :
    Keeps fl s₀ (ping o s).1 := by
  unfold ping
  with_reducible repeat' first | assumption | apply Keeps.ite | apply Keeps.ite1 | apply okW_keeps

theorem deviceInfo_keeps {fl : Bool} {s₀ : State} {o : Outst} {s : State} (hk : Keeps fl s₀ s) :
    Keeps fl s₀ (deviceInfo o s).1 := by
  unfold deviceInfo
  with_reducible repeat' first | assumption | apply Keeps.ite | apply Keeps.ite1 | apply ans_keeps | apply okW_keeps

theorem grantThimble_keeps {fl : Bool} {s₀ : State} {t : ℕ} {port : ℕ} {lease : ℕ} {s : State} (hk : Keeps fl s₀ s) :
    Keeps fl s₀ (grantThimble t port lease s) := by
  unfold grantThimble
  repeat' first
    | with_reducible assumption
    | with_reducible first | apply Keeps.ite | apply Keeps.ite1 | apply State.setBit_keeps | apply State.wr_keeps | exact Nat.le_refl _ | rfl
    | intro t
    | split
    | with_reducible apply Keeps.mk'

theorem renewThimble_keeps {fl : Bool} {s₀ : State} {t : ℕ} {port : ℕ} {lease : ℕ} {s : State} (hk : Keeps fl s₀ s) :
    Keeps fl s₀ (renewThimble t port lease s) := by
  unfold renewThimble
  repeat' first
    | with_reducible assumption
    | with_reducible first | apply Keeps.ite | apply Keeps.ite1 | apply grantThimble_keeps | exact Nat.le_refl _ | rfl
    | intro t
    | split
    | with_reducible apply Keeps.mk'
    | exact rfl

theorem dropWaiter_keeps {fl : Bool} {s₀ : State} {t : ℕ} {s : State} (hk : Keeps fl s₀ s) :
    Keeps fl s₀ (dropWaiter t s) := by
  unfold dropWaiter
  repeat' first
    | with_reducible assumption
    | with_reducible first | apply Keeps.ite | apply Keeps.ite1 | apply State.wr_keeps | exact Nat.le_refl _ | rfl
    | intro t
    | split
    | with_reducible apply Keeps.mk'

theorem grantWaiter_keeps {fl : Bool} {s₀ : State} {t : ℕ} {s : State} (hk : Keeps fl s₀ s) :
    Keeps fl s₀ (grantWaiter t s) := by
  unfold grantWaiter
  repeat' first
    | with_reducible assumption
    | with_reducible first | apply Keeps.ite | apply Keeps.ite1 | apply replyTo_keeps | apply grantThimble_keeps | apply dropWaiter_keeps
    | intro t
    | split

theorem releaseThimble_keeps {fl : Bool} {s₀ : State} {t : ℕ} {s : State} (hk : Keeps fl s₀ s) :
    Keeps fl s₀ (releaseThimble t s) := by
  unfold releaseThimble
  repeat' first
    | with_reducible assumption
    | with_reducible first | apply Keeps.ite | apply Keeps.ite1 | apply State.clrBit_keeps | apply State.wr_keeps | apply grantWaiter_keeps | exact Nat.le_refl _ | rfl
    | intro t
    | split
    | with_reducible apply Keeps.mk'

theorem waitThimble_keeps {fl : Bool} {s₀ : State} {o : Outst} {t : ℕ} {lease : ℕ} {s : State} (hk : Keeps fl s₀ s) :
    Keeps fl s₀ (waitThimble o t lease s).1 := by
  unfold waitThimble
  repeat' first
    | with_reducible assumption
    | with_reducible first | apply Keeps.ite | apply Keeps.ite1 | apply ans_keeps | apply answerLater_keeps | apply State.wr_keeps | exact Nat.le_refl _ | rfl
    | intro t
    | split
    | with_reducible apply Keeps.mk'

theorem thimbleAcquire_keeps {fl : Bool} {s₀ : State} {o : Outst} {s : State} (hk : Keeps fl s₀ s) :
    Keeps fl s₀ (thimbleAcquire o s).1 := by
  unfold thimbleAcquire
  with_reducible repeat' first | assumption | apply Keeps.ite | apply Keeps.ite1 | apply ans_keeps | apply State.wr_keeps | apply State.bump_keeps | apply okW_keeps | apply grantThimble_keeps | apply waitThimble_keeps | apply renewThimble_keeps

theorem thimbleRelease_keeps {fl : Bool} {s₀ : State} {o : Outst} {s : State} (hk : Keeps fl s₀ s) :
    Keeps fl s₀ (thimbleRelease o s).1 := by
  unfold thimbleRelease
  with_reducible repeat' first | assumption | apply Keeps.ite | apply Keeps.ite1 | apply ans_keeps | apply ok_keeps | apply releaseThimble_keeps

theorem thimbleQuery_keeps {fl : Bool} {s₀ : State} {o : Outst} {s : State} (hk : Keeps fl s₀ s) :
    Keeps fl s₀ (thimbleQuery o s).1 := by
  unfold thimbleQuery
  with_reducible repeat' first | assumption | apply Keeps.ite | apply Keeps.ite1 | apply ans_keeps | apply okW_keeps

theorem execThimbleLeaseExpiry_keeps {fl : Bool} {s₀ : State} {t : Fin 8} {s : State} (hk : Keeps fl s₀ s) :
    Keeps fl s₀ (execThimbleLeaseExpiry t s) := by
  unfold execThimbleLeaseExpiry
  with_reducible repeat' first | assumption | apply Keeps.ite | apply Keeps.ite1 | apply releaseThimble_keeps | apply raise_keeps

theorem endWait_keeps {fl : Bool} {s₀ : State} {t : ℕ} {s : State} (hk : Keeps fl s₀ s) :
    Keeps fl s₀ (endWait t s) := by
  unfold endWait
  repeat' first
    | with_reducible assumption
    | with_reducible first | apply Keeps.ite | apply Keeps.ite1 | apply replyTo_keeps | apply dropWaiter_keeps
    | intro t
    | split

theorem execThimbleWaitExpiry_keeps {fl : Bool} {s₀ : State} {t : Fin 8} {s : State} (hk : Keeps fl s₀ s) :
    Keeps fl s₀ (execThimbleWaitExpiry t s) := by
  unfold execThimbleWaitExpiry
  with_reducible repeat' first | assumption | apply Keeps.ite | apply Keeps.ite1 | apply endWait_keeps

theorem chanCfg_keeps {fl : Bool} {s₀ : State} {o : Outst} {s : State} (hk : Keeps fl s₀ s) :
    Keeps fl s₀ (chanCfg o s).1 := by
  unfold chanCfg
  with_reducible repeat' first | assumption | apply Keeps.ite | apply Keeps.ite1 | apply ans_keeps | apply State.setReg_keeps | apply ok_keeps | apply abandonWhere_keeps

theorem chanQuery_keeps {fl : Bool} {s₀ : State} {o : Outst} {s : State} (hk : Keeps fl s₀ s) :
    Keeps fl s₀ (chanQuery o s).1 := by
  unfold chanQuery
  with_reducible repeat' first | assumption | apply Keeps.ite | apply Keeps.ite1 | apply ans_keeps | apply okW_keeps

theorem syncKeyEn_keeps {fl : Bool} {s₀ : State} {s : State} (hk : Keeps fl s₀ s) :
    Keeps fl s₀ (syncKeyEn s) := by
  unfold syncKeyEn
  with_reducible repeat' first | assumption | apply Keeps.ite | apply Keeps.ite1 | apply State.wr_keeps

theorem keyCtrl_keeps {fl : Bool} {s₀ : State} {load : ℕ} {clr : ℕ} {s : State} (hk : Keeps fl s₀ s) :
    Keeps fl s₀ (keyCtrl load clr s).1 := by
  unfold keyCtrl
  repeat' first
    | with_reducible assumption
    | with_reducible first | apply Keeps.ite | apply Keeps.ite1 | apply State.forN_keeps | apply State.setBit_keeps | apply State.clrBit_keeps | apply State.setReg_keeps | apply syncKeyEn_keeps | exact Nat.le_refl _ | rfl
    | intro t
    | split
    | with_reducible apply Keeps.mk'

theorem keyStage_keeps {fl : Bool} {s₀ : State} {i : ℕ} {v : ℕ} {s : State} (hk : Keeps fl s₀ s) :
    Keeps fl s₀ (keyStage i v s).1 := by
  unfold keyStage
  with_reducible repeat' first | assumption | apply Keeps.ite | apply Keeps.ite1 | apply State.setReg_keeps

theorem cmdCntClr_keeps {fl : Bool} {s₀ : State} {s : State} (hk : Keeps fl s₀ s) :
    Keeps fl s₀ (cmdCntClr s) := by
  unfold cmdCntClr
  with_reducible repeat' first | assumption | apply Keeps.ite | apply Keeps.ite1 | apply State.setReg_keeps

theorem strayData_keeps {fl : Bool} {s₀ : State} {s : State} (hk : Keeps fl s₀ s) :
    Keeps fl s₀ (strayData s) := by
  unfold strayData
  with_reducible repeat' first | assumption | apply Keeps.ite | apply Keeps.ite1 | apply State.bump_keeps

theorem twinData_keeps {fl : Bool} {s₀ : State} {d : DataPkt} {ws : List ℕ} {s : State} (hk : Keeps fl s₀ s) :
    Keeps fl s₀ (twinData d ws s) := by
  unfold twinData
  with_reducible repeat' first | assumption | apply Keeps.ite | apply Keeps.ite1 | apply raise_keeps | apply State.bump_keeps

theorem putXfer_keeps {fl : Bool} {s₀ : State} {x : Xfer} {y : Xfer} {s : State} (hk : Keeps fl s₀ s) :
    Keeps fl s₀ (putXfer x y s) := by
  unfold putXfer
  repeat' first
    | with_reducible assumption
    | with_reducible first | apply Keeps.ite | apply Keeps.ite1 | exact Nat.le_refl _ | rfl
    | intro t
    | split
    | with_reducible apply Keeps.mk'

theorem endXfer_keeps {fl : Bool} {s₀ : State} {x : Xfer} {s : State} (hk : Keeps fl s₀ s) :
    Keeps fl s₀ (endXfer x s) := by
  unfold endXfer
  repeat' first
    | with_reducible assumption
    | with_reducible first | apply Keeps.ite | apply Keeps.ite1 | apply dropXfer_keeps | apply endSurf_keeps | apply replyTo_keeps | apply endTable_keeps | exact Nat.le_refl _ | rfl
    | intro t
    | split
    | with_reducible apply Keeps.mk'
    | exact rfl

theorem takeData_keeps {fl : Bool} {s₀ : State} {d : DataPkt} {x : Xfer} {s : State} (hk : Keeps fl s₀ s) :
    Keeps fl s₀ (takeData d x s) := by
  unfold takeData
  with_reducible repeat' first | assumption | apply Keeps.ite | apply Keeps.ite1 | apply smemWrite_keeps | apply feedUnit_keeps | apply putXfer_keeps | apply endXfer_keeps

theorem dataOf_keeps {fl : Bool} {s₀ : State} {d : DataPkt} {x : Xfer} {s : State} (hk : Keeps fl s₀ s) :
    Keeps fl s₀ (dataOf d x s) := by
  unfold dataOf
  repeat' first
    | with_reducible assumption
    | with_reducible first | apply Keeps.ite | apply Keeps.ite1 | apply twinData_keeps | apply strayData_keeps | apply abandonXfer_keeps | apply takeData_keeps
    | intro t
    | split

theorem execDataPacket_keeps {fl : Bool} {s₀ : State} {d : DataPkt} {s : State} (hk : Keeps fl s₀ s) :
    Keeps fl s₀ (execDataPacket d s) := by
  unfold execDataPacket
  repeat' first
    | with_reducible assumption
    | with_reducible first | apply Keeps.ite | apply Keeps.ite1 | apply heard_keeps | apply takePacket_keeps | apply twinData_keeps | apply dataOf_keeps | apply strayData_keeps | exact Nat.le_refl _ | rfl
    | intro t
    | split
    | with_reducible apply Keeps.mk'
    | exact rfl

theorem execXferTimeout_keeps {fl : Bool} {s₀ : State} {p : Port} {ch : BitVec 8} {s : State} (hk : Keeps fl s₀ s) :
    Keeps fl s₀ (execXferTimeout p ch s) := by
  unfold execXferTimeout
  with_reducible repeat' first | assumption | apply Keeps.ite | apply Keeps.ite1 | apply abandonWhere_keeps

theorem execChanTimeout_keeps {fl : Bool} {s₀ : State} {ch : BitVec 8} {s : State} (hk : Keeps fl s₀ s) :
    Keeps fl s₀ (execChanTimeout ch s) := by
  unfold execChanTimeout
  repeat' first
    | with_reducible assumption
    | with_reducible first | apply Keeps.ite | apply Keeps.ite1 | apply abandonWhere_keeps | apply raise_keeps | exact Nat.le_refl _ | rfl
    | intro t
    | split
    | with_reducible apply Keeps.mk'

theorem quietTick_keeps {fl : Bool} {s₀ : State} {s : State} (hk : Keeps fl s₀ s) :
    Keeps fl s₀ (quietTick s) := by
  unfold quietTick
  repeat' first
    | with_reducible assumption
    | (intro t; refine (have ht : Keeps fl s₀ t := ?_; ?_); (on_goal 1 => subst t); (on_goal 2 => clear_value t; obtain ⟨u, hu⟩ : ∃ u, u = t := ⟨t, rfl⟩; subst hu))
    | intro t
    | lift_lets
    | with_reducible first | apply Keeps.ite | apply Keeps.ite1 | apply State.forN_keeps | exact Nat.le_refl _ | rfl
    | split
    | with_reducible apply Keeps.mk'

theorem hostBeat_keeps {fl : Bool} {s₀ : State} {p : ℕ} {s : State} (hk : Keeps fl s₀ s) :
    Keeps fl s₀ (hostBeat p s) := by
  unfold hostBeat
  with_reducible repeat' first | assumption | apply Keeps.ite | apply Keeps.ite1 | apply State.wr_keeps

theorem linkBeat_keeps {fl : Bool} {s₀ : State} {p : ℕ} {s : State} (hk : Keeps fl s₀ s) :
    Keeps fl s₀ (linkBeat p s) := by
  unfold linkBeat
  repeat' first
    | with_reducible assumption
    | with_reducible first | apply Keeps.ite | apply Keeps.ite1 | apply hostBeat_keeps | exact Nat.le_refl _ | rfl
    | intro t
    | split
    | with_reducible apply Keeps.mk'

theorem tack_keeps {fl : Bool} {s₀ : State} {c : Cmd} {s : State} (hk : Keeps fl s₀ s) :
    Keeps fl s₀ (tack c s) := by
  unfold tack
  with_reducible repeat' first | assumption | apply Keeps.ite | apply Keeps.ite1 | apply linkBeat_keeps | apply queueReply_keeps

theorem execHeartbeatBeat_keeps {fl : Bool} {s₀ : State} {p : Port} {s : State} (hk : Keeps fl s₀ s) :
    Keeps fl s₀ (execHeartbeatBeat p s) := by
  unfold execHeartbeatBeat
  repeat' first
    | with_reducible assumption
    | with_reducible first | apply Keeps.ite | apply Keeps.ite1 | apply State.wr_keeps | apply hostBeat_keeps | exact Nat.le_refl _ | rfl
    | intro t
    | split
    | with_reducible apply Keeps.mk'

theorem dropThimbles_keeps {fl : Bool} {s₀ : State} {p : ℕ} {s : State} (hk : Keeps fl s₀ s) :
    Keeps fl s₀ (dropThimbles p s) := by
  unfold dropThimbles
  repeat' first
    | with_reducible assumption
    | (intro t; refine (have ht : Keeps fl s₀ t := ?_; ?_); (on_goal 1 => subst t); (on_goal 2 => clear_value t; obtain ⟨u, hu⟩ : ∃ u, u = t := ⟨t, rfl⟩; subst hu))
    | intro t
    | lift_lets
    | with_reducible first | apply Keeps.ite | apply Keeps.ite1 | apply State.forN_keeps | apply endWait_keeps | apply releaseThimble_keeps

theorem noHost_keeps {fl : Bool} {s₀ : State} {s : State} (hk : Keeps fl s₀ s) :
    Keeps fl s₀ (noHost s) := by
  unfold noHost
  with_reducible repeat' first | assumption | apply Keeps.ite | apply Keeps.ite1 | apply State.wr_keeps | apply requireRung_keeps | apply abandonWhere_keeps

theorem execHostHbTimeout_keeps {fl : Bool} {s₀ : State} {p : Port} {s : State} (hk : Keeps fl s₀ s) :
    Keeps fl s₀ (execHostHbTimeout p s) := by
  unfold execHostHbTimeout
  with_reducible repeat' first | assumption | apply Keeps.ite | apply Keeps.ite1 | apply State.wr_keeps | apply dropThimbles_keeps | apply raise_keeps | apply abandonWhere_keeps | apply journalEvent_keeps | apply noHost_keeps | apply recoveryBegin_keeps | apply recoveryRefuse_keeps

theorem stateRead_keeps {fl : Bool} {s₀ : State} {o : Outst} {s : State} (hk : Keeps fl s₀ s) :
    Keeps fl s₀ (stateRead o s).1 := by
  unfold stateRead
  repeat' first
    | with_reducible assumption
    | with_reducible first | apply Keeps.ite | apply Keeps.ite1 | apply ans_keeps | apply State.fresh_keeps | apply okW_keeps
    | intro t
    | split

theorem resync_keeps {fl : Bool} {s₀ : State} {o : Outst} {s : State} (hk : Keeps fl s₀ s) :
    Keeps fl s₀ (resync o s).1 := by
  unfold resync
  repeat' first
    | with_reducible assumption
    | with_reducible first | apply Keeps.ite | apply Keeps.ite1 | apply ans_keeps | apply State.when_keeps | apply State.wr_keeps | apply journal_keeps | apply okW_keeps
    | intro t

theorem bumpCepoch_keeps {fl : Bool} {s₀ : State} {n : ℕ} {s : State} (hk : Keeps fl s₀ s) :
    Keeps fl s₀ (bumpCepoch n s) := by
  unfold bumpCepoch
  with_reducible repeat' first | assumption | apply Keeps.ite | apply Keeps.ite1 | apply State.wr_keeps

theorem execCoreBeat_keeps {fl : Bool} {s₀ : State} {core : Fin 2} {s : State} (hk : Keeps fl s₀ s) :
    Keeps fl s₀ (execCoreBeat core s) := by
  unfold execCoreBeat
  repeat' first
    | with_reducible assumption
    | with_reducible first | apply Keeps.ite | apply Keeps.ite1 | apply State.takeAct_keeps | exact Nat.le_refl _ | rfl
    | intro t
    | split
    | with_reducible apply Keeps.mk'

theorem dropStandins_keeps {fl : Bool} {s₀ : State} {s : State} (hk : Keeps fl s₀ s) :
    Keeps fl s₀ (dropStandins s) := by
  unfold dropStandins
  repeat' first
    | with_reducible assumption
    | with_reducible first | apply Keeps.ite | apply Keeps.ite1 | exact Nat.le_refl _ | rfl
    | intro t
    | split
    | with_reducible apply Keeps.mk'
    | exact rfl

theorem pairRestart_keeps {fl : Bool} {s₀ : State} {s : State} (hk : Keeps fl s₀ s) :
    Keeps fl s₀ (pairRestart s) := by
  unfold pairRestart
  repeat' first
    | with_reducible assumption
    | with_reducible first | apply Keeps.ite | apply Keeps.ite1 | apply recoveryRefuse_keeps | apply basteFail_keeps | apply State.forL_keeps | apply replyTo_keeps | apply State.wr_keeps | apply syncFence_keeps | exact Nat.le_refl _ | rfl
    | intro t
    | split
    | with_reducible apply Keeps.mk'
    | exact rfl

theorem execCoreRestartDone_keeps {fl : Bool} {s₀ : State} {core : Fin 2} {s : State} (hk : Keeps fl s₀ s) :
    Keeps fl s₀ (execCoreRestartDone core s) := by
  unfold execCoreRestartDone
  repeat' first
    | with_reducible assumption
    | with_reducible first | apply Keeps.ite | apply Keeps.ite1 | apply State.wr_keeps | apply bumpCepoch_keeps | apply startCkpt_keeps | exact Nat.le_refl _ | rfl
    | intro t
    | split
    | with_reducible apply Keeps.mk'

theorem execRecoveryEnd_keeps {fl : Bool} {s₀ : State} {s : State} (hk : Keeps fl s₀ s) :
    Keeps fl s₀ (execRecoveryEnd s) := by
  unfold execRecoveryEnd
  with_reducible repeat' first | assumption | apply Keeps.ite | apply Keeps.ite1 | apply recoveryEnd_keeps

theorem ccxCkpt_keeps {fl : Bool} {s₀ : State} {s : State} (hk : Keeps fl s₀ s) :
    Keeps fl s₀ (ccxCkpt s) := by
  unfold ccxCkpt
  with_reducible repeat' first | assumption | apply Keeps.ite | apply Keeps.ite1 | apply startCkpt_keeps

theorem ccxSwap_keeps {fl : Bool} {s₀ : State} {s : State} (hk : Keeps fl s₀ s) :
    Keeps fl s₀ (ccxSwap s).1 := by
  unfold ccxSwap
  repeat' first
    | with_reducible assumption
    | with_reducible first | apply Keeps.ite | apply Keeps.ite1 | apply State.wr_keeps | apply bumpCepoch_keeps | apply dropStandins_keeps | exact Nat.le_refl _ | rfl
    | intro t
    | split
    | with_reducible apply Keeps.mk'
    | exact rfl

theorem ccxRstCore_keeps {fl : Bool} {s₀ : State} {k : ℕ} {s : State} (hk : Keeps fl s₀ s) :
    Keeps fl s₀ (ccxRstCore k s).1 := by
  unfold ccxRstCore
  with_reducible repeat' first | assumption | apply Keeps.ite | apply Keeps.ite1 | apply basteFail_keeps | apply dropStandins_keeps | apply State.wr_keeps

theorem ccxCntClr_keeps {fl : Bool} {s₀ : State} {s : State} (hk : Keeps fl s₀ s) :
    Keeps fl s₀ (ccxCntClr s) := by
  unfold ccxCntClr
  with_reducible repeat' first | assumption | apply Keeps.ite | apply Keeps.ite1 | apply State.setReg_keeps

theorem execCheckpointCommit_keeps {fl : Bool} {s₀ : State} {body : List Word} {s : State} (hk : Keeps fl s₀ s) :
    Keeps fl s₀ (execCheckpointCommit body s) := by
  unfold execCheckpointCommit
  repeat' first
    | with_reducible assumption
    | with_reducible first | apply Keeps.ite | apply Keeps.ite1 | apply State.wr_keeps | apply State.setReg_keeps | apply startCkpt_keeps | exact Nat.le_refl _ | rfl
    | intro t
    | split
    | with_reducible apply Keeps.mk'
    | exact rfl

theorem slotLost_keeps {fl : Bool} {s₀ : State} {n : ℕ} {s : State} (hk : Keeps fl s₀ s) :
    Keeps fl s₀ (slotLost n s) := by
  unfold slotLost
  repeat' first
    | with_reducible assumption
    | with_reducible first | apply Keeps.ite | apply Keeps.ite1 | apply State.wr_keeps | apply State.setReg_keeps | exact Nat.le_refl _ | rfl
    | intro t
    | split
    | with_reducible apply Keeps.mk'
    | exact rfl

theorem execBasteStart_keeps {fl : Bool} {s₀ : State} {core : Fin 2} {errs : List EccErr} {s : State} (hk : Keeps fl s₀ s) :
    Keeps fl s₀ (execBasteStart core errs s) := by
  unfold execBasteStart
  repeat' first
    | with_reducible assumption
    | with_reducible first | apply Keeps.ite | apply Keeps.ite1 | apply State.wr_keeps | apply noteErrs_keeps | apply basteFail_keeps | apply slotLost_keeps | exact Nat.le_refl _ | rfl
    | intro t
    | split
    | with_reducible apply Keeps.mk'
    | exact rfl

theorem execBasteJoin_keeps {fl : Bool} {s₀ : State} {core : Fin 2} {errs : List EccErr} {s : State} (hk : Keeps fl s₀ s) :
    Keeps fl s₀ (execBasteJoin core errs s) := by
  unfold execBasteJoin
  with_reducible repeat' first | assumption | apply Keeps.ite | apply Keeps.ite1 | apply noteErrs_keeps | apply startCkpt_keeps | apply journalOverflow_keeps | apply State.wr_keeps

theorem execBasteTimeout_keeps {fl : Bool} {s₀ : State} {s : State} (hk : Keeps fl s₀ s) :
    Keeps fl s₀ (execBasteTimeout s) := by
  unfold execBasteTimeout
  with_reducible repeat' first | assumption | apply Keeps.ite | apply Keeps.ite1 | apply basteFail_keeps

theorem setMemRun_keeps {fl : Bool} {s₀ : State} {n : ℕ} {o : Option Outst} {s : State} (hk : Keeps fl s₀ s) :
    Keeps fl s₀ (setMemRun n o s) := by
  unfold setMemRun
  repeat' first
    | with_reducible assumption
    | with_reducible first | apply Keeps.ite | apply Keeps.ite1 | exact Nat.le_refl _ | rfl
    | intro t
    | split
    | with_reducible apply Keeps.mk'

theorem crcRun_keeps {fl : Bool} {s₀ : State} {o : Outst} {s : State} (hk : Keeps fl s₀ s) :
    Keeps fl s₀ (crcRun o s).1 := by
  unfold crcRun
  repeat' first
    | with_reducible assumption
    | with_reducible first | apply Keeps.ite | apply Keeps.ite1 | apply ans_keeps | apply ok_keeps | apply unitInit_keeps | apply unitFeed_keeps | apply okW_keeps | apply answerOff_keeps | apply answerLater_keeps | apply holdCmd_keeps | apply setMemRun_keeps
    | intro t
    | split

theorem execCrcMemRunEnd_keeps {fl : Bool} {s₀ : State} {n : Fin 3} {errs : List EccErr} {s : State} (hk : Keeps fl s₀ s) :
    Keeps fl s₀ (execCrcMemRunEnd n errs s) := by
  unfold execCrcMemRunEnd
  repeat' first
    | with_reducible assumption
    | (intro t; refine (have ht : Keeps fl s₀ t := ?_; ?_); (on_goal 1 => subst t); (on_goal 2 => clear_value t; obtain ⟨u, hu⟩ : ∃ u, u = t := ⟨t, rfl⟩; subst hu))
    | (intro t; refine (have ht : Keeps fl s₀ t.1 := ?_; ?_); (on_goal 1 => subst t); (on_goal 2 => clear_value t; obtain ⟨u, hu⟩ : ∃ u, u = t := ⟨t, rfl⟩; subst hu))
    | intro t
    | lift_lets
    | with_reducible first
      | apply Keeps.ite
      | apply Keeps.ite1
      | apply setMemRun_keeps
      | apply fbRegionUe_keeps
      | apply noteErrs_keeps
      | apply finishSt_keeps
      | apply unitFeed_keeps
      | apply finish_keeps
      | exact Nat.le_refl _
      | rfl
      | (refine Keeps.foldl _ ?_ _ ?_)
      | (refine Keeps.foldl1 _ ?_ _ ?_)
    | split
    | (refine Keeps.of_fst ?_ (by assumption))
    | (with_reducible apply Keeps.mk')
    | exact rfl
    | exact Nat.le_add_right _ _

theorem crcCfgWrite_keeps {fl : Bool} {s₀ : State} {n : ℕ} {v : ℕ} {s : State} (hk : Keeps fl s₀ s) :
    Keeps fl s₀ (crcCfgWrite n v s).1 := by
  unfold crcCfgWrite
  with_reducible repeat' first | assumption | apply Keeps.ite | apply Keeps.ite1 | apply unitInit_keeps | apply State.wr_keeps

theorem crcValueWrite_keeps {fl : Bool} {s₀ : State} {n : ℕ} {v : ℕ} {s : State} (hk : Keeps fl s₀ s) :
    Keeps fl s₀ (crcValueWrite n v s).1 := by
  unfold crcValueWrite
  with_reducible repeat' first | assumption | apply Keeps.ite | apply Keeps.ite1 | apply setUnitValue_keeps

theorem crcBindWrite_keeps {fl : Bool} {s₀ : State} {n : ℕ} {v : ℕ} {s : State} (hk : Keeps fl s₀ s) :
    Keeps fl s₀ (crcBindWrite n v s).1 := by
  unfold crcBindWrite
  with_reducible repeat' first | assumption | apply Keeps.ite | apply Keeps.ite1 | apply State.wrWord_keeps | apply unitInit_keeps

theorem crcScanCtrlWrite_keeps {fl : Bool} {s₀ : State} {v : ℕ} {s : State} (hk : Keeps fl s₀ s) :
    Keeps fl s₀ (crcScanCtrlWrite v s).1 := by
  unfold crcScanCtrlWrite
  repeat' first
    | with_reducible assumption
    | with_reducible first | apply Keeps.ite | apply Keeps.ite1 | apply State.wr_keeps | exact Nat.le_refl _ | rfl
    | intro t
    | split
    | with_reducible apply Keeps.mk'

theorem crcCntClr_keeps {fl : Bool} {s₀ : State} {s : State} (hk : Keeps fl s₀ s) :
    Keeps fl s₀ (crcCntClr s) := by
  unfold crcCntClr
  repeat' first
    | with_reducible assumption
    | with_reducible first | apply Keeps.ite | apply Keeps.ite1 | apply State.forN_keeps | apply State.setReg_keeps | apply State.wr_keeps
    | intro t

theorem execSramScanRead_keeps {fl : Bool} {s₀ : State} {err : Option Bool} {raced : Bool} {s : State} (hk : Keeps fl s₀ s) :
    Keeps fl s₀ (execSramScanRead err raced s) := by
  unfold execSramScanRead
  repeat' first
    | with_reducible assumption
    | with_reducible first | apply Keeps.ite | apply Keeps.ite1 | apply State.when_keeps | apply State.bump_keeps | apply sramErr_keeps | exact Nat.le_refl _ | rfl
    | intro t
    | split
    | with_reducible apply Keeps.mk'

theorem execSurfScanRead_keeps {fl : Bool} {s₀ : State} {err : Option Bool} {raced : Bool} {s : State} (hk : Keeps fl s₀ s) :
    Keeps fl s₀ (execSurfScanRead err raced s) := by
  unfold execSurfScanRead
  repeat' first
    | with_reducible assumption
    | with_reducible first | apply Keeps.ite | apply Keeps.ite1 | apply State.when_keeps | apply State.bump_keeps | apply smemErr_keeps | exact Nat.le_refl _ | rfl
    | intro t
    | split
    | with_reducible apply Keeps.mk'

theorem bufferFails_keeps {fl : Bool} {s₀ : State} {q : ℕ} {b : ℕ} {s : State} (hk : Keeps fl s₀ s) :
    Keeps fl s₀ (bufferFails q b s) := by
  unfold bufferFails
  repeat' first
    | with_reducible assumption
    | with_reducible first | apply Keeps.ite | apply Keeps.ite1 | apply seqWordUe_keeps | apply setSeqOne_keeps | apply State.clrBit_keeps | exact Nat.le_refl _ | rfl
    | intro t
    | split
    | with_reducible apply Keeps.mk'

theorem regionMismatch_keeps {fl : Bool} {s₀ : State} {r : ℕ} {s : State} (hk : Keeps fl s₀ s) :
    Keeps fl s₀ (regionMismatch r s) := by
  unfold regionMismatch
  with_reducible repeat' first | assumption | apply Keeps.ite | apply Keeps.ite1 | apply State.wr_keeps | apply State.bump_keeps | apply raise_keeps | apply needGone_keeps | apply State.setReg_keeps | apply State.clrBit_keeps | apply bufferFails_keeps | apply fbClear_keeps

theorem execRegionCheckEnd_keeps {fl : Bool} {s₀ : State} {r : Fin 17} {crc : Word} {s : State} (hk : Keeps fl s₀ s) :
    Keeps fl s₀ (execRegionCheckEnd r crc s) := by
  unfold execRegionCheckEnd
  with_reducible repeat' first | assumption | apply Keeps.ite | apply Keeps.ite1 | apply setUnitValue_keeps | apply regionMismatch_keeps

end Sys2Proof.Machine
end

