-- ==== Sys2Proof/Laws/KeepsMachine.lean ====
section
/-!
SUPPORT. What every operation keeps (the structure Keeps of Laws/Keeps.lean): calibration, loops 1 and 2, power, frames, register writes and the rows.
One lemma per operation, over any state the operation is applied to.
-/
namespace Sys2Proof.Machine

set_option maxRecDepth 2000

theorem setCalRun_keeps {fl : Bool} {s₀ : State} {t : ℕ} {r : CalRun} {s : State} (hk : Keeps fl s₀ s) :
    Keeps fl s₀ (setCalRun t r s) := by
  unfold setCalRun
  repeat' first
    | with_reducible assumption
    | with_reducible first | apply Keeps.ite | apply Keeps.ite1 | exact Nat.le_refl _ | rfl
    | intro t
    | split
    | with_reducible apply Keeps.mk'

theorem calStart_keeps {fl : Bool} {s₀ : State} {t : ℕ} {wait : Option Outst} {s : State} (hk : Keeps fl s₀ s) :
    Keeps fl s₀ (calStart t wait s) := by
  unfold calStart
  with_reducible repeat' first | assumption | apply Keeps.ite | apply Keeps.ite1 | apply setCalRun_keeps | apply State.wr_keeps | apply State.setReg_keeps

theorem calEnable_keeps {fl : Bool} {s₀ : State} {t : ℕ} {wait : Option Outst} {s : State} (hk : Keeps fl s₀ s) :
    Keeps fl s₀ (calEnable t wait s).1 := by
  unfold calEnable
  repeat' first
    | with_reducible assumption
    | with_reducible first | apply Keeps.ite | apply Keeps.ite1 | apply holdCmd_keeps | apply calStart_keeps | apply State.wr_keeps
    | intro t
    | split

theorem calStop_keeps {fl : Bool} {s₀ : State} {t : ℕ} {result : ℕ} {s : State} (hk : Keeps fl s₀ s) :
    Keeps fl s₀ (calStop t result s) := by
  unfold calStop
  with_reducible repeat' first | assumption | apply Keeps.ite | apply Keeps.ite1 | apply State.wr_keeps

theorem calDisable_keeps {fl : Bool} {s₀ : State} {t : ℕ} {s : State} (hk : Keeps fl s₀ s) :
    Keeps fl s₀ (calDisable t s) := by
  unfold calDisable
  repeat' first
    | with_reducible assumption
    | with_reducible first | apply Keeps.ite | apply Keeps.ite1 | apply State.wr_keeps | apply calStop_keeps
    | intro t
    | split

theorem calDone_keeps {fl : Bool} {s₀ : State} {t : ℕ} {s : State} (hk : Keeps fl s₀ s) :
    Keeps fl s₀ (calDone t s) := by
  unfold calDone
  with_reducible repeat' first | assumption | apply Keeps.ite | apply Keeps.ite1 | apply calStop_keeps

theorem calOff_keeps {fl : Bool} {s₀ : State} {t : ℕ} {s : State} (hk : Keeps fl s₀ s) :
    Keeps fl s₀ (calOff t s) := by
  unfold calOff
  repeat' first
    | with_reducible assumption
    | with_reducible first | apply Keeps.ite | apply Keeps.ite1 | apply State.when_keeps | apply State.bump_keeps | apply raise_keeps | apply State.wr_keeps | apply setCalRun_keeps | apply finish_keeps | apply calStart_keeps
    | intro t
    | split

theorem calStep_keeps {fl : Bool} {s₀ : State} {t : ℕ} {kind : ℕ} {s : State} (hk : Keeps fl s₀ s) :
    Keeps fl s₀ (calStep t kind s) := by
  unfold calStep
  repeat' first
    | with_reducible assumption
    | with_reducible first | apply Keeps.ite | apply Keeps.ite1 | apply State.when_keeps | apply setCalRun_keeps | apply State.bump_keeps
    | intro t

theorem colStep_keeps {fl : Bool} {s₀ : State} {t : ℕ} {a : List ℤ} {b : List ℤ} {s : State} (hk : Keeps fl s₀ s) :
    Keeps fl s₀ (colStep t a b s) := by
  unfold colStep
  repeat' first
    | with_reducible assumption
    | with_reducible first | apply Keeps.ite | apply Keeps.ite1 | apply calStep_keeps | apply State.when_keeps | apply State.bump_keeps | apply State.wr_keeps | exact Nat.le_refl _ | rfl
    | intro t
    | split
    | with_reducible apply Keeps.mk'

theorem colMeasure_keeps {fl : Bool} {s₀ : State} {t : ℕ} {e : ColErr} {s : State} (hk : Keeps fl s₀ s) :
    Keeps fl s₀ (colMeasure t e s) := by
  unfold colMeasure
  with_reducible repeat' first | assumption | apply Keeps.ite | apply Keeps.ite1 | apply setCalRun_keeps | apply colStep_keeps | apply calDone_keeps

theorem calWin_keeps {fl : Bool} {s₀ : State} {q : ℕ} {len : ℕ} {es : List ColErr} {s : State} (hk : Keeps fl s₀ s) :
    Keeps fl s₀ (calWin q len es s) := by
  unfold calWin
  with_reducible repeat' first | assumption | apply Keeps.ite | apply Keeps.ite1 | apply State.forL_keeps | apply colMeasure_keeps

theorem colTransfer_keeps {fl : Bool} {s₀ : State} {s : State} (hk : Keeps fl s₀ s) :
    Keeps fl s₀ (colTransfer s) := by
  unfold colTransfer
  repeat' first
    | with_reducible assumption
    | (intro t; refine (have ht : Keeps fl s₀ t := ?_; ?_); (on_goal 1 => subst t); (on_goal 2 => clear_value t; obtain ⟨u, hu⟩ : ∃ u, u = t := ⟨t, rfl⟩; subst hu))
    | intro t
    | lift_lets
    | with_reducible first | apply Keeps.ite | apply Keeps.ite1 | apply State.forN_keeps | apply calOff_keeps | exact Nat.le_refl _ | rfl
    | split
    | with_reducible apply Keeps.mk'

theorem laneStep_keeps {fl : Bool} {s₀ : State} {p : ℕ} {i : ℕ} {m0 : SliceMeas} {m1 : SliceMeas} {s : State} (hk : Keeps fl s₀ s) :
    Keeps fl s₀ (laneStep p i m0 m1 s) := by
  unfold laneStep
  repeat' first
    | with_reducible assumption
    | with_reducible first | apply Keeps.ite | apply Keeps.ite1 | apply calStep_keeps | apply State.wr_keeps | apply State.when_keeps | apply State.bump_keeps | exact Nat.le_refl _ | rfl
    | intro t
    | split
    | with_reducible apply Keeps.mk'

theorem execCalLaneMeasure_keeps {fl : Bool} {s₀ : State} {p : Port} {m0 : SliceMeas} {m1 : SliceMeas} {s : State} (hk : Keeps fl s₀ s) :
    Keeps fl s₀ (execCalLaneMeasure p m0 m1 s) := by
  unfold execCalLaneMeasure
  with_reducible repeat' first | assumption | apply Keeps.ite | apply Keeps.ite1 | apply laneStep_keeps | apply setCalRun_keeps | apply calDone_keeps

theorem laneApply_keeps {fl : Bool} {s₀ : State} {p : ℕ} {s : State} (hk : Keeps fl s₀ s) :
    Keeps fl s₀ (laneApply p s) := by
  unfold laneApply
  repeat' first
    | with_reducible assumption
    | with_reducible first | apply Keeps.ite | apply Keeps.ite1 | apply calOff_keeps | exact Nat.le_refl _ | rfl
    | intro t
    | split
    | with_reducible apply Keeps.mk'

theorem convStep_keeps {fl : Bool} {s₀ : State} {m : ℕ} {s0 : ℕ} {s1 : ℕ} {r0 : ℕ} {r1 : ℕ} {s : State} (hk : Keeps fl s₀ s) :
    Keeps fl s₀ (convStep m s0 s1 r0 r1 s) := by
  unfold convStep
  repeat' first
    | with_reducible assumption
    | (intro t; refine (have ht : Keeps fl s₀ t := ?_; ?_); (on_goal 1 => subst t); (on_goal 2 => clear_value t; obtain ⟨u, hu⟩ : ∃ u, u = t := ⟨t, rfl⟩; subst hu))
    | (intro t; refine (have ht : Keeps fl s₀ t.1 := ?_; ?_); (on_goal 1 => subst t); (on_goal 2 => clear_value t; obtain ⟨u, hu⟩ : ∃ u, u = t := ⟨t, rfl⟩; subst hu))
    | intro t
    | lift_lets
    | with_reducible first
      | apply Keeps.ite
      | apply Keeps.ite1
      | apply calStep_keeps
      | apply State.wr_keeps
      | exact Nat.le_refl _
      | rfl
      | (refine Keeps.foldl _ ?_ _ ?_)
      | (refine Keeps.foldl1 _ ?_ _ ?_)
    | split
    | (refine Keeps.of_fst ?_ (by assumption))
    | (with_reducible apply Keeps.mk')
    | exact rfl
    | exact Nat.le_add_right _ _

theorem skewStep_keeps {fl : Bool} {s₀ : State} {a : ℤ} {b : ℤ} {s : State} (hk : Keeps fl s₀ s) :
    Keeps fl s₀ (skewStep a b s) := by
  unfold skewStep
  with_reducible repeat' first | assumption | apply Keeps.ite | apply Keeps.ite1 | apply calStep_keeps | apply State.wr_keeps

theorem execCalConverterSet_keeps {fl : Bool} {s₀ : State} {m : ConvMeas} {s : State} (hk : Keeps fl s₀ s) :
    Keeps fl s₀ (execCalConverterSet m s) := by
  unfold execCalConverterSet
  repeat' first
    | with_reducible assumption
    | with_reducible first | apply Keeps.ite | apply Keeps.ite1 | apply setCalRun_keeps | apply convStep_keeps | apply skewStep_keeps | apply calDone_keeps
    | intro t
    | split

theorem execCalRunTimeout_keeps {fl : Bool} {s₀ : State} {t : Fin 7} {s : State} (hk : Keeps fl s₀ s) :
    Keeps fl s₀ (execCalRunTimeout t s) := by
  unfold execCalRunTimeout
  with_reducible repeat' first | assumption | apply Keeps.ite | apply Keeps.ite1 | apply calStop_keeps

theorem execCalRunOff_keeps {fl : Bool} {s₀ : State} {t : Fin 7} {s : State} (hk : Keeps fl s₀ s) :
    Keeps fl s₀ (execCalRunOff t s) := by
  unfold execCalRunOff
  with_reducible repeat' first | assumption | apply Keeps.ite | apply Keeps.ite1 | apply calOff_keeps

theorem calDrift_keeps {fl : Bool} {s₀ : State} {ks : List ℕ} {s : State} (hk : Keeps fl s₀ s) :
    Keeps fl s₀ (calDrift ks s) := by
  unfold calDrift
  repeat' first
    | with_reducible assumption
    | (intro t; refine (have ht : Keeps fl s₀ t := ?_; ?_); (on_goal 1 => subst t); (on_goal 2 => clear_value t; obtain ⟨u, hu⟩ : ∃ u, u = t := ⟨t, rfl⟩; subst hu))
    | intro t
    | lift_lets
    | with_reducible first | apply Keeps.ite | apply Keeps.ite1 | apply State.forN_keeps | apply calEnable_keeps

theorem calCntClr_keeps {fl : Bool} {s₀ : State} {s : State} (hk : Keeps fl s₀ s) :
    Keeps fl s₀ (calCntClr s) := by
  unfold calCntClr
  with_reducible repeat' first | assumption | apply Keeps.ite | apply Keeps.ite1 | apply State.setReg_keeps

theorem calRun_keeps {fl : Bool} {s₀ : State} {o : Outst} {s : State} (hk : Keeps fl s₀ s) :
    Keeps fl s₀ (calRun o s).1 := by
  unfold calRun
  with_reducible repeat' first | assumption | apply Keeps.ite | apply Keeps.ite1 | apply ans_keeps | apply ok_keeps | apply calDisable_keeps | apply calEnable_keeps

theorem calRead_keeps {fl : Bool} {s₀ : State} {o : Outst} {s : State} (hk : Keeps fl s₀ s) :
    Keeps fl s₀ (calRead o s).1 := by
  unfold calRead
  with_reducible repeat' first | assumption | apply Keeps.ite | apply Keeps.ite1 | apply ans_keeps | apply okW_keeps

theorem calTake_keeps {fl : Bool} {s₀ : State} {t : ℕ} {es : List ℕ} {s : State} (hk : Keeps fl s₀ s) :
    Keeps fl s₀ (calTake t es s) := by
  unfold calTake
  repeat' first
    | with_reducible assumption
    | with_reducible first | apply Keeps.ite | apply Keeps.ite1 | apply State.forN_keeps | apply State.wr_keeps | exact Nat.le_refl _ | rfl
    | intro t
    | split
    | with_reducible apply Keeps.mk'

theorem calWrite_keeps {fl : Bool} {s₀ : State} {o : Outst} {s : State} (hk : Keeps fl s₀ s) :
    Keeps fl s₀ (calWrite o s).1 := by
  unfold calWrite
  with_reducible repeat' first | assumption | apply Keeps.ite | apply Keeps.ite1 | apply ans_keeps | apply calTake_keeps | apply ok_keeps | apply State.wr_keeps

theorem syncAim_keeps {fl : Bool} {s₀ : State} {s : State} (hk : Keeps fl s₀ s) :
    Keeps fl s₀ (syncAim s) := by
  unfold syncAim
  with_reducible repeat' first | assumption | apply Keeps.ite | apply Keeps.ite1 | apply State.wr_keeps

theorem lvlDrive_keeps {fl : Bool} {s₀ : State} {s : State} (hk : Keeps fl s₀ s) :
    Keeps fl s₀ (lvlDrive s) := by
  unfold lvlDrive
  repeat' first
    | with_reducible assumption
    | with_reducible first | apply Keeps.ite | apply Keeps.ite1 | apply State.wr_keeps | exact Nat.le_refl _ | rfl
    | intro t
    | split
    | with_reducible apply Keeps.mk'

theorem lvlBrake_keeps {fl : Bool} {s₀ : State} {s : State} (hk : Keeps fl s₀ s) :
    Keeps fl s₀ (lvlBrake s) := by
  unfold lvlBrake
  repeat' first
    | with_reducible assumption
    | with_reducible first | apply Keeps.ite | apply Keeps.ite1 | apply State.wr_keeps | exact Nat.le_refl _ | rfl
    | intro t
    | split
    | with_reducible apply Keeps.mk'

theorem hallSample_keeps {fl : Bool} {s₀ : State} {a : ℕ} {b : ℕ} {ovr : Bool} {s : State} (hk : Keeps fl s₀ s) :
    Keeps fl s₀ (hallSample a b ovr s) := by
  unfold hallSample
  repeat' first
    | with_reducible assumption
    | with_reducible first | apply Keeps.ite | apply Keeps.ite1 | apply State.wr_keeps | apply syncAim_keeps | apply State.when_keeps | apply lvlDrive_keeps | apply traceSample_keeps | exact Nat.le_refl _ | rfl
    | intro t
    | split
    | with_reducible apply Keeps.mk'

theorem lvlEnable_keeps {fl : Bool} {s₀ : State} {s : State} (hk : Keeps fl s₀ s) :
    Keeps fl s₀ (lvlEnable s).1 := by
  unfold lvlEnable
  repeat' first
    | with_reducible assumption
    | with_reducible first | unfold lvlUnit | apply Keeps.ite | apply Keeps.ite1 | apply unitEnable_keeps | exact Nat.le_refl _ | rfl
    | intro t
    | split
    | with_reducible apply Keeps.mk'

theorem lvlDisable_keeps {fl : Bool} {s₀ : State} {s : State} (hk : Keeps fl s₀ s) :
    Keeps fl s₀ (lvlDisable s).1 := by
  unfold lvlDisable
  repeat' first
    | with_reducible assumption
    | with_reducible first | unfold lvlUnit | apply Keeps.ite | apply Keeps.ite1 | apply unitDisable_keeps | apply lvlBrake_keeps | exact Nat.le_refl _ | rfl
    | intro t
    | split
    | with_reducible apply Keeps.mk'

theorem execLvlOn_keeps {fl : Bool} {s₀ : State} {s : State} (hk : Keeps fl s₀ s) :
    Keeps fl s₀ (execLvlOn s) := by
  unfold execLvlOn
  repeat' first
    | with_reducible assumption
    | with_reducible first | apply Keeps.ite | apply Keeps.ite1 | apply State.wr_keeps | exact Nat.le_refl _ | rfl
    | intro t
    | split
    | with_reducible apply Keeps.mk'

theorem execLvlStartTimeout_keeps {fl : Bool} {s₀ : State} {s : State} (hk : Keeps fl s₀ s) :
    Keeps fl s₀ (execLvlStartTimeout s) := by
  unfold execLvlStartTimeout
  with_reducible repeat' first | assumption | apply Keeps.ite | apply Keeps.ite1 | apply State.wr_keeps | apply raise_keeps

theorem execLvlStopComplete_keeps {fl : Bool} {s₀ : State} {s : State} (hk : Keeps fl s₀ s) :
    Keeps fl s₀ (execLvlStopComplete s) := by
  unfold execLvlStopComplete
  repeat' first
    | with_reducible assumption
    | with_reducible first | unfold lvlUnit | apply Keeps.ite | apply Keeps.ite1 | apply unitOff_keeps | exact Nat.le_refl _ | rfl
    | intro t
    | split
    | with_reducible apply Keeps.mk'

theorem lvlFails_keeps {fl : Bool} {s₀ : State} {f : Fld} {detail : ℕ} {s : State} (hk : Keeps fl s₀ s) :
    Keeps fl s₀ (lvlFails f detail s) := by
  unfold lvlFails
  with_reducible repeat' first | assumption | apply Keeps.ite | apply Keeps.ite1 | apply syncAim_keeps | apply State.setW1c_keeps | apply lvlBrake_keeps | apply raise_keeps | apply State.wr_keeps

theorem execLvlFbLost_keeps {fl : Bool} {s₀ : State} {s : State} (hk : Keeps fl s₀ s) :
    Keeps fl s₀ (execLvlFbLost s) := by
  unfold execLvlFbLost
  with_reducible repeat' first | assumption | apply Keeps.ite | apply Keeps.ite1 | apply lvlFails_keeps

theorem execLvlFbFrozen_keeps {fl : Bool} {s₀ : State} {s : State} (hk : Keeps fl s₀ s) :
    Keeps fl s₀ (execLvlFbFrozen s) := by
  unfold execLvlFbFrozen
  with_reducible repeat' first | assumption | apply Keeps.ite | apply Keeps.ite1 | apply lvlFails_keeps

theorem execLvlLimit_keeps {fl : Bool} {s₀ : State} {s : State} (hk : Keeps fl s₀ s) :
    Keeps fl s₀ (execLvlLimit s) := by
  unfold execLvlLimit
  repeat' first
    | with_reducible assumption
    | with_reducible first | apply Keeps.ite | apply Keeps.ite1 | apply State.wr_keeps | apply State.setW1c_keeps | apply raise_keeps | exact Nat.le_refl _ | rfl
    | intro t
    | split
    | with_reducible apply Keeps.mk'
    | exact rfl

theorem le1FbClear_keeps {fl : Bool} {s₀ : State} {v : ℕ} {s : State} (hk : Keeps fl s₀ s) :
    Keeps fl s₀ (le1FbClear v s) := by
  unfold le1FbClear
  repeat' first
    | with_reducible assumption
    | (intro t; refine (have ht : Keeps fl s₀ t := ?_; ?_); (on_goal 1 => subst t); (on_goal 2 => clear_value t; obtain ⟨u, hu⟩ : ∃ u, u = t := ⟨t, rfl⟩; subst hu))
    | intro t
    | lift_lets
    | with_reducible first | apply Keeps.ite | apply Keeps.ite1 | apply syncAim_keeps | apply State.forN_keeps | apply State.clrBit_keeps

theorem fanEnable_keeps {fl : Bool} {s₀ : State} {s : State} (hk : Keeps fl s₀ s) :
    Keeps fl s₀ (fanEnable s).1 := by
  unfold fanEnable
  repeat' first
    | with_reducible assumption
    | with_reducible first | unfold fanUnit | apply Keeps.ite | apply Keeps.ite1 | apply State.wr_keeps | apply unitEnable_keeps
    | intro t

theorem fanDisable_keeps {fl : Bool} {s₀ : State} {s : State} (hk : Keeps fl s₀ s) :
    Keeps fl s₀ (fanDisable s).1 := by
  unfold fanDisable
  repeat' first
    | with_reducible assumption
    | with_reducible first | unfold fanUnit | apply Keeps.ite | apply Keeps.ite1 | apply State.wr_keeps | apply unitDisable_keeps | apply State.wr_keeps
    | intro t

theorem execFanTachEdge_keeps {fl : Bool} {s₀ : State} {p : ℕ} {s : State} (hk : Keeps fl s₀ s) :
    Keeps fl s₀ (execFanTachEdge p s) := by
  unfold execFanTachEdge
  repeat' first
    | with_reducible assumption
    | with_reducible first | apply Keeps.ite | apply Keeps.ite1 | apply State.wr_keeps | apply State.fresh_keeps | exact Nat.le_refl _ | rfl
    | intro t
    | split
    | with_reducible apply Keeps.mk'

theorem execFanTachTimeout_keeps {fl : Bool} {s₀ : State} {s : State} (hk : Keeps fl s₀ s) :
    Keeps fl s₀ (execFanTachTimeout s) := by
  unfold execFanTachTimeout
  with_reducible repeat' first | assumption | apply Keeps.ite | apply Keeps.ite1 | apply State.wr_keeps | apply raise_keeps

theorem execFanDutyUpdate_keeps {fl : Bool} {s₀ : State} {s : State} (hk : Keeps fl s₀ s) :
    Keeps fl s₀ (execFanDutyUpdate s) := by
  unfold execFanDutyUpdate
  with_reducible repeat' first | assumption | apply Keeps.ite | apply Keeps.ite1 | apply State.wr_keeps

theorem execFanKickEnd_keeps {fl : Bool} {s₀ : State} {s : State} (hk : Keeps fl s₀ s) :
    Keeps fl s₀ (execFanKickEnd s) := by
  unfold execFanKickEnd
  with_reducible repeat' first | assumption | apply Keeps.ite | apply Keeps.ite1 | apply State.wr_keeps

theorem execFanStopComplete_keeps {fl : Bool} {s₀ : State} {s : State} (hk : Keeps fl s₀ s) :
    Keeps fl s₀ (execFanStopComplete s) := by
  unfold execFanStopComplete
  repeat' first
    | with_reducible assumption
    | with_reducible first | unfold fanUnit | apply Keeps.ite | apply Keeps.ite1 | apply State.wr_keeps | apply unitOff_keeps
    | intro t

theorem execLoopSlotConversion_keeps {fl : Bool} {s₀ : State} {x : LoopSlot} {s : State} (hk : Keeps fl s₀ s) :
    Keeps fl s₀ (execLoopSlotConversion x s) := by
  unfold execLoopSlotConversion
  repeat' first
    | with_reducible assumption
    | with_reducible first | apply Keeps.ite | apply Keeps.ite1 | apply railSample_keeps | apply loopSample_keeps | apply hallSample_keeps | apply State.wr_keeps
    | intro t
    | split

theorem execProfileTick_keeps {fl : Bool} {s₀ : State} {lvl : Bool} {s : State} (hk : Keeps fl s₀ s) :
    Keeps fl s₀ (execProfileTick lvl s) := by
  unfold execProfileTick
  repeat' first
    | with_reducible assumption
    | with_reducible first | apply Keeps.ite | apply Keeps.ite1 | exact Nat.le_refl _ | rfl
    | intro t
    | split
    | with_reducible apply Keeps.mk'

theorem loopEnable_keeps {fl : Bool} {s₀ : State} {o : Outst} {s : State} (hk : Keeps fl s₀ s) :
    Keeps fl s₀ (loopEnable o s).1 := by
  unfold loopEnable
  repeat' first
    | with_reducible assumption
    | with_reducible first | unfold resOf | apply Keeps.ite | apply Keeps.ite1 | apply railEnable_keeps | apply lvlEnable_keeps | apply fanEnable_keeps | apply ans_keeps
    | intro t
    | split

theorem loopDisable_keeps {fl : Bool} {s₀ : State} {o : Outst} {s : State} (hk : Keeps fl s₀ s) :
    Keeps fl s₀ (loopDisable o s).1 := by
  unfold loopDisable
  repeat' first
    | with_reducible assumption
    | with_reducible first | unfold resOf | apply Keeps.ite | apply Keeps.ite1 | apply railDisable_keeps | apply lvlDisable_keeps | apply fanDisable_keeps | apply ans_keeps
    | intro t
    | split

theorem setpoint_keeps {fl : Bool} {s₀ : State} {o : Outst} {s : State} (hk : Keeps fl s₀ s) :
    Keeps fl s₀ (setpoint o s).1 := by
  unfold setpoint
  repeat' first
    | with_reducible assumption
    | with_reducible first | apply Keeps.ite | apply Keeps.ite1 | apply ok_keeps | apply State.wr_keeps | apply ans_keeps
    | intro t
    | split

theorem loopCfg_keeps {fl : Bool} {s₀ : State} {o : Outst} {s : State} (hk : Keeps fl s₀ s) :
    Keeps fl s₀ (loopCfg o s).1 := by
  unfold loopCfg
  repeat' first
    | with_reducible assumption
    | with_reducible first | apply Keeps.ite | apply Keeps.ite1 | apply ans_keeps | apply ok_keeps | apply State.forL_keeps | apply State.wrWord_keeps
    | intro t

theorem driveVsel_keeps {fl : Bool} {s₀ : State} {v : ℕ} {s : State} (hk : Keeps fl s₀ s) :
    Keeps fl s₀ (driveVsel v s) := by
  unfold driveVsel
  repeat' first
    | with_reducible assumption
    | with_reducible first | apply Keeps.ite | apply Keeps.ite1 | apply State.wr_keeps | exact Nat.le_refl _ | rfl
    | intro t
    | split
    | with_reducible apply Keeps.mk'
    | exact rfl

theorem refusedBy_keeps {fl : Bool} {s₀ : State} {i : ℕ} {s : State} (hk : Keeps fl s₀ s) :
    Keeps fl s₀ (refusedBy i s) := by
  unfold refusedBy
  with_reducible repeat' first | assumption | apply Keeps.ite | apply Keeps.ite1 | apply raise_keeps | apply State.wr_keeps

theorem setOp_keeps {fl : Bool} {s₀ : State} {op : ℕ} {s : State} (hk : Keeps fl s₀ s) :
    Keeps fl s₀ (setOp op s) := by
  unfold setOp
  with_reducible repeat' first | assumption | apply Keeps.ite | apply Keeps.ite1 | apply State.wr_keeps | apply driveVsel_keeps

theorem leaveSleep_keeps {fl : Bool} {s₀ : State} {s : State} (hk : Keeps fl s₀ s) :
    Keeps fl s₀ (leaveSleep s) := by
  unfold leaveSleep
  with_reducible repeat' first | assumption | apply Keeps.ite | apply Keeps.ite1 | apply setOp_keeps | apply State.wr_keeps

theorem abortEntry_keeps {fl : Bool} {s₀ : State} {i : ℕ} {s : State} (hk : Keeps fl s₀ s) :
    Keeps fl s₀ (abortEntry i s) := by
  unfold abortEntry
  repeat' first
    | with_reducible assumption
    | (intro t; refine (have ht : Keeps fl s₀ t := ?_; ?_); (on_goal 1 => subst t); (on_goal 2 => clear_value t; obtain ⟨u, hu⟩ : ∃ u, u = t := ⟨t, rfl⟩; subst hu))
    | intro t
    | lift_lets
    | with_reducible first | apply Keeps.ite | apply Keeps.ite1 | apply refusedBy_keeps | apply State.bump_keeps | apply State.wr_keeps | apply leaveSleep_keeps | apply State.forN_keeps | apply startL2Exit_keeps | apply dropL2_keeps | exact Nat.le_refl _ | rfl
    | split
    | with_reducible apply Keeps.mk'
    | exact rfl

theorem powerEnter_keeps {fl : Bool} {s₀ : State} {o : Outst} {s : State} (hk : Keeps fl s₀ s) :
    Keeps fl s₀ (powerEnter o s).1 := by
  unfold powerEnter
  repeat' first
    | with_reducible assumption
    | with_reducible first | apply Keeps.ite | apply Keeps.ite1 | apply ans_keeps | apply State.wr_keeps | apply ok_keeps | apply refusedBy_keeps | apply State.bump_keeps | exact Nat.le_refl _ | rfl
    | intro t
    | split
    | with_reducible apply Keeps.mk'

theorem sleepSteps_keeps {fl : Bool} {s₀ : State} {s : State} (hk : Keeps fl s₀ s) :
    Keeps fl s₀ (sleepSteps s) := by
  unfold sleepSteps
  repeat' first
    | with_reducible assumption
    | with_reducible first | apply Keeps.ite | apply Keeps.ite1 | apply State.wr_keeps | apply abandonComp_keeps | apply setOp_keeps | exact Nat.le_refl _ | rfl
    | intro t
    | split
    | with_reducible apply Keeps.mk'

theorem execPowerDownStart_keeps {fl : Bool} {s₀ : State} {s : State} (hk : Keeps fl s₀ s) :
    Keeps fl s₀ (execPowerDownStart s) := by
  unfold execPowerDownStart
  repeat' first
    | with_reducible assumption
    | with_reducible first | apply Keeps.ite | apply Keeps.ite1 | apply abortEntry_keeps | apply State.forL_keeps | apply askL2_keeps | apply leaveL1_keeps | apply sleepSteps_keeps | exact Nat.le_refl _ | rfl
    | intro t
    | split
    | with_reducible apply Keeps.mk'
    | exact rfl

theorem execPowerDownComplete_keeps {fl : Bool} {s₀ : State} {s : State} (hk : Keeps fl s₀ s) :
    Keeps fl s₀ (execPowerDownComplete s) := by
  unfold execPowerDownComplete
  repeat' first
    | with_reducible assumption
    | (intro t; refine (have ht : Keeps fl s₀ t := ?_; ?_); (on_goal 1 => subst t); (on_goal 2 => clear_value t; obtain ⟨u, hu⟩ : ∃ u, u = t := ⟨t, rfl⟩; subst hu))
    | intro t
    | lift_lets
    | with_reducible first | apply Keeps.ite | apply Keeps.ite1 | apply abortEntry_keeps | apply State.wr_keeps | apply refreshCeiling_keeps | exact Nat.le_refl _ | rfl
    | split
    | with_reducible apply Keeps.mk'

theorem execReturnToD0_keeps {fl : Bool} {s₀ : State} {s : State} (hk : Keeps fl s₀ s) :
    Keeps fl s₀ (execReturnToD0 s) := by
  unfold execReturnToD0
  repeat' first
    | with_reducible assumption
    | (intro t; refine (have ht : Keeps fl s₀ t := ?_; ?_); (on_goal 1 => subst t); (on_goal 2 => clear_value t; obtain ⟨u, hu⟩ : ∃ u, u = t := ⟨t, rfl⟩; subst hu))
    | intro t
    | lift_lets
    | with_reducible first | apply Keeps.ite | apply Keeps.ite1 | apply leaveSleep_keeps | apply State.wr_keeps | apply refreshCeiling_keeps | exact Nat.le_refl _ | rfl
    | split
    | with_reducible apply Keeps.mk'
    | exact rfl

theorem keepRegs_keeps {fl : Bool} {s₀ : State} {l : List ℕ} {old : State} {s : State} (hk : Keeps fl s₀ s) :
    Keeps fl s₀ (keepRegs l old s) := by
  unfold keepRegs
  repeat' first
    | with_reducible assumption
    | with_reducible first | apply Keeps.ite | apply Keeps.ite1 | apply State.forL_keeps | apply State.setReg_keeps
    | intro t

theorem keepAon_keeps {fl : Bool} {s₀ : State} {old : State} {s : State} (hk : Keeps fl s₀ s) :
    Keeps fl s₀ (keepAon old s) := by
  unfold keepAon
  repeat' first
    | with_reducible assumption
    | with_reducible first | apply Keeps.ite | apply Keeps.ite1 | apply keepRegs_keeps | apply State.wr_keeps | apply syncKeyEn_keeps | exact Nat.le_refl _ | rfl
    | intro t
    | split
    | with_reducible apply Keeps.mk'

theorem keepWake_keeps {fl : Bool} {s₀ old s : State} (hk : Keeps fl s₀ s)
    (hm : storeWf (fun _ => 0#8) s₀.smem.mem = true → storeWf (fun _ => 0#8) old.smem.mem = true) :
    Keeps fl s₀ (keepWake old s) := by
  unfold keepWake
  have h1 := State.wr_keeps (f := DEV_CONFIG_SMEM_SIZE) (v := old.rd DEV_CONFIG_SMEM_SIZE)
    (State.wr_keeps (f := DEV_CONFIG_SMEM_TRAINED) (v := old.rd DEV_CONFIG_SMEM_TRAINED)
      (State.wr_keeps (f := PXA_STAT_TRIM_LOADED) (v := 1) (State.wr_keeps (f := SMC_STRAPS_CHANGED) (v := 0)
        (keepRegs_keeps (l := [SMEM_CFG, SMEM_STAT, SMEM_EYE, SMEM_USABLE, SMC_STRAPS]) (old := old) hk))))
  exact syncHealth_keeps (Keeps.mkM h1 (Nat.le_refl _) hm rfl rfl rfl rfl rfl)

theorem engineReset_keeps {fl : Bool} {s₀ : State} {cause : Nat} {s : State} (hk : Keeps fl s₀ s) :
    Keeps fl s₀ (engineReset cause s) := by
  have h0 : Keeps fl s₀ (
      { State.reset with
        now := s.now, pending := s.pending, freeCtr := s.freeCtr,
        smc := { State.reset.smc with sealFuse := s.smc.sealFuse, jtagFuse := s.smc.jtagFuse } } : State) :=
    ⟨hk.queue, hk.clock, hk.free, fun _ => rfl, fun _ => rfl, fun _ => rfl, hk.fuse, hk.jtag, fun _ => .inr ⟨rfl, rfl, rfl⟩⟩
  unfold engineReset
  exact State.wr_keeps (.ite (keepWake_keeps (.ite (showFuses_keeps h0) (keepAon_keeps (showFuses_keeps h0))) hk.mem)
    (.ite (showFuses_keeps h0) (keepAon_keeps (showFuses_keeps h0))))

theorem execPowerOnReset_keeps {fl : Bool} {s₀ : State} {s : State} (hk : Keeps fl s₀ s) :
    Keeps fl s₀ (execPowerOnReset s) := by
  unfold execPowerOnReset
  with_reducible repeat' first | assumption | apply Keeps.ite | apply Keeps.ite1 | apply engineReset_keeps

theorem execResetNLow_keeps {fl : Bool} {s₀ : State} {s : State} (hk : Keeps fl s₀ s) :
    Keeps fl s₀ (execResetNLow s) := by
  unfold execResetNLow
  with_reducible repeat' first | assumption | apply Keeps.ite | apply Keeps.ite1 | apply engineReset_keeps

theorem wakeFire_keeps {fl : Bool} {s₀ : State} {n : ℕ} {s : State} (hk : Keeps fl s₀ s) :
    Keeps fl s₀ (wakeFire n s) := by
  unfold wakeFire
  repeat' first
    | with_reducible assumption
    | (intro t; refine (have ht : Keeps fl s₀ t := ?_; ?_); (on_goal 1 => subst t); (on_goal 2 => clear_value t; obtain ⟨u, hu⟩ : ∃ u, u = t := ⟨t, rfl⟩; subst hu))
    | intro t
    | lift_lets
    | with_reducible first | apply Keeps.ite | apply Keeps.ite1 | apply State.setBit_keeps | apply abortEntry_keeps | apply engineReset_keeps | exact Nat.le_refl _ | rfl
    | split
    | with_reducible apply Keeps.mk'

theorem execWakeSourceFire_keeps {fl : Bool} {s₀ : State} {n : Fin 8} {s : State} (hk : Keeps fl s₀ s) :
    Keeps fl s₀ (execWakeSourceFire n s) := by
  unfold execWakeSourceFire
  with_reducible repeat' first | assumption | apply Keeps.ite | apply Keeps.ite1 | apply wakeFire_keeps

theorem execPmuTimerExpiry_keeps {fl : Bool} {s₀ : State} {s : State} (hk : Keeps fl s₀ s) :
    Keeps fl s₀ (execPmuTimerExpiry s) := by
  unfold execPmuTimerExpiry
  with_reducible repeat' first | assumption | apply Keeps.ite | apply Keeps.ite1 | apply wakeFire_keeps

theorem execPwrEnHigh_keeps {fl : Bool} {s₀ : State} {s : State} (hk : Keeps fl s₀ s) :
    Keeps fl s₀ (execPwrEnHigh s) := by
  unfold execPwrEnHigh
  with_reducible repeat' first | assumption | apply Keeps.ite | apply Keeps.ite1 | apply State.wr_keeps | apply engineReset_keeps | apply wakeFire_keeps

theorem loseRetained_keeps {fl : Bool} {s₀ : State} {s : State} (hk : Keeps fl s₀ s) :
    Keeps fl s₀ (loseRetained s) := by
  have h1 := State.wr_keeps (f := DEV_CONFIG_SMEM_TRAINED) (v := 0) (State.wr_keeps (f := SMEM_STAT_TRAINED) (v := 0) hk)
  exact { h1 with mem := fun _ => rfl }

theorem execPwrEnLow_keeps {fl : Bool} {s₀ : State} {s : State} (hk : Keeps fl s₀ s) : Keeps fl s₀ (execPwrEnLow s) := by
  have h1 : Keeps fl s₀ (s.wr PMU_STAT_PWR_EN 0) := State.wr_keeps hk
  unfold execPwrEnLow
  refine .ite h1 ?_
  have off : ∀ u : State, Keeps fl s₀ u → Keeps fl s₀ (
      { u with
        smc := { u.smc with alive := false },
        pmu := { u.pmu with off := true, released := false } } : State) := fun u h =>
    ⟨h.queue, h.clock, h.free, h.regs, h.act, h.mem, h.fuse, h.jtag, fun e => (h.drive e).imp id (fun x => ⟨rfl, x.2⟩)⟩
  exact off _ (State.wr_keeps (State.wr_keeps (.ite (loseRetained_keeps h1) (State.wr_keeps (State.forN_keeps
    (fanDisable_keeps (lvlDisable_keeps (railForceStop_keeps (goDark_keeps h1)))) (fun _ _ h => sqDisable_keeps h))))))

theorem execVcorePgLow_keeps {fl : Bool} {s₀ : State} {s : State} (hk : Keeps fl s₀ s) :
    Keeps fl s₀ (execVcorePgLow s) := by
  unfold execVcorePgLow
  with_reducible repeat' first | assumption | apply Keeps.ite | apply Keeps.ite1 | apply raise_keeps | apply State.wr_keeps

theorem execVcorePgReset_keeps {fl : Bool} {s₀ : State} {s : State} (hk : Keeps fl s₀ s) :
    Keeps fl s₀ (execVcorePgReset s) := by
  unfold execVcorePgReset
  with_reducible repeat' first | assumption | apply Keeps.ite | apply Keeps.ite1 | apply engineReset_keeps

theorem execInternalResetRelease_keeps {s₀ : State} {testMode : Bool} {s : State} (hk : Keeps false s₀ s) :
    Keeps false s₀ (execInternalResetRelease testMode s) := by
  unfold execInternalResetRelease
  refine .ite hk (State.forN_keeps (State.wr_keeps (State.wr_keeps (State.wr_keeps ?_))) (fun _ _ h => portEnable_keeps h))
  exact Keeps.mkF hk (Nat.le_refl _) rfl rfl rfl

theorem execCoreBootDone_keeps {fl : Bool} {s₀ : State} {romOk : Bool} {s : State} (hk : Keeps fl s₀ s) :
    Keeps fl s₀ (execCoreBootDone romOk s) := by
  unfold execCoreBootDone
  repeat' first
    | with_reducible assumption
    | with_reducible first | apply Keeps.ite | apply Keeps.ite1 | apply State.wr_keeps | apply scnStart_keeps | exact Nat.le_refl _ | rfl
    | intro t
    | split
    | with_reducible apply Keeps.mk'

theorem vscaleEnd_keeps {fl : Bool} {s₀ : State} {s : State} (hk : Keeps fl s₀ s) :
    Keeps fl s₀ (vscaleEnd s) := by
  unfold vscaleEnd
  repeat' first
    | with_reducible assumption
    | with_reducible first | apply Keeps.ite | apply Keeps.ite1 | apply State.wr_keeps | apply finish_keeps | exact Nat.le_refl _ | rfl
    | intro t
    | split
    | with_reducible apply Keeps.mk'

theorem vscale_keeps {fl : Bool} {s₀ : State} {o : Outst} {s : State} (hk : Keeps fl s₀ s) :
    Keeps fl s₀ (vscale o s).1 := by
  unfold vscale
  repeat' first
    | with_reducible assumption
    | with_reducible first | apply Keeps.ite | apply Keeps.ite1 | apply ans_keeps | apply State.wr_keeps | apply okW_keeps | apply holdCmd_keeps | apply answerLater_keeps | apply driveVsel_keeps | exact Nat.le_refl _ | rfl
    | intro t
    | split
    | with_reducible apply Keeps.mk'
    | exact rfl

theorem execVscaleSettled_keeps {fl : Bool} {s₀ : State} {s : State} (hk : Keeps fl s₀ s) :
    Keeps fl s₀ (execVscaleSettled s) := by
  unfold execVscaleSettled
  with_reducible repeat' first | assumption | apply Keeps.ite | apply Keeps.ite1 | apply State.wr_keeps

theorem execVscaleTimeout_keeps {fl : Bool} {s₀ : State} {s : State} (hk : Keeps fl s₀ s) :
    Keeps fl s₀ (execVscaleTimeout s) := by
  unfold execVscaleTimeout
  repeat' first
    | with_reducible assumption
    | with_reducible first | apply Keeps.ite | apply Keeps.ite1 | apply State.wr_keeps | apply driveVsel_keeps | apply refusedBy_keeps | apply State.bump_keeps | apply finish_keeps | exact Nat.le_refl _ | rfl
    | intro t
    | split
    | with_reducible apply Keeps.mk'
    | exact rfl

theorem execCorePllRelock_keeps {fl : Bool} {s₀ : State} {s : State} (hk : Keeps fl s₀ s) :
    Keeps fl s₀ (execCorePllRelock s) := by
  unfold execCorePllRelock
  with_reducible repeat' first | assumption | apply Keeps.ite | apply Keeps.ite1 | apply State.wr_keeps | apply vscaleEnd_keeps | apply setOp_keeps

theorem powerQuery_keeps {fl : Bool} {s₀ : State} {o : Outst} {s : State} (hk : Keeps fl s₀ s) :
    Keeps fl s₀ (powerQuery o s).1 := by
  unfold powerQuery
  with_reducible repeat' first | assumption | apply Keeps.ite | apply Keeps.ite1 | apply ans_keeps | apply okW_keeps

theorem pmuCntClr_keeps {fl : Bool} {s₀ : State} {s : State} (hk : Keeps fl s₀ s) :
    Keeps fl s₀ (pmuCntClr s) := by
  unfold pmuCntClr
  with_reducible repeat' first | assumption | apply Keeps.ite | apply Keeps.ite1 | apply State.wr_keeps

theorem fwPatchLoad_keeps {fl : Bool} {s₀ : State} {o : Outst} {s : State} (hk : Keeps fl s₀ s) :
    Keeps fl s₀ (fwPatchLoad o s).1 := by
  unfold fwPatchLoad
  repeat' first
    | with_reducible assumption
    | with_reducible first | apply Keeps.ite | apply Keeps.ite1 | apply ans_keeps | apply ok_keeps | exact Nat.le_refl _ | rfl
    | intro t
    | split
    | with_reducible apply Keeps.mk'

theorem patchCkpt_keeps {fl : Bool} {s₀ : State} {s : State} (hk : Keeps fl s₀ s) :
    Keeps fl s₀ (patchCkpt s) := by
  unfold patchCkpt
  repeat' first
    | with_reducible assumption
    | with_reducible first | apply Keeps.ite | apply Keeps.ite1 | apply startCkpt_keeps | exact Nat.le_refl _ | rfl
    | intro t
    | split
    | with_reducible apply Keeps.mk'

theorem fwPatchActivate_keeps {fl : Bool} {s₀ : State} {o : Outst} {s : State} (hk : Keeps fl s₀ s) :
    Keeps fl s₀ (fwPatchActivate o s).1 := by
  unfold fwPatchActivate
  repeat' first
    | with_reducible assumption
    | with_reducible first | apply Keeps.ite | apply Keeps.ite1 | apply ans_keeps | apply answerLater_keeps | apply patchCkpt_keeps | exact Nat.le_refl _ | rfl
    | intro t
    | split
    | with_reducible apply Keeps.mk'

theorem execPatchRestartDone_keeps {fl : Bool} {s₀ : State} {s : State} (hk : Keeps fl s₀ s) :
    Keeps fl s₀ (execPatchRestartDone s) := by
  unfold execPatchRestartDone
  repeat' first
    | with_reducible assumption
    | with_reducible first | apply Keeps.ite | apply Keeps.ite1 | apply State.wr_keeps | apply bumpCepoch_keeps | apply replyTo_keeps | exact Nat.le_refl _ | rfl
    | intro t
    | split
    | with_reducible apply Keeps.mk'

theorem execRefLoss_keeps {fl : Bool} {s₀ : State} {s : State} (hk : Keeps fl s₀ s) :
    Keeps fl s₀ (execRefLoss s) := by
  unfold execRefLoss
  repeat' first
    | with_reducible assumption
    | (intro t; refine (have ht : Keeps fl s₀ t := ?_; ?_); (on_goal 1 => subst t); (on_goal 2 => clear_value t; obtain ⟨u, hu⟩ : ∃ u, u = t := ⟨t, rfl⟩; subst hu))
    | intro t
    | lift_lets
    | with_reducible first | apply Keeps.ite | apply Keeps.ite1 | apply State.bump_keeps | apply State.wr_keeps | apply State.forN_keeps | apply linkDown_keeps

theorem execRefRestore_keeps {fl : Bool} {s₀ : State} {s : State} (hk : Keeps fl s₀ s) :
    Keeps fl s₀ (execRefRestore s) := by
  unfold execRefRestore
  with_reducible repeat' first | assumption | apply Keeps.ite | apply Keeps.ite1 | apply State.wr_keeps

theorem gateWrite_keeps {fl : Bool} {s₀ : State} {v : ℕ} {s : State} (hk : Keeps fl s₀ s) :
    Keeps fl s₀ (gateWrite v s).1 := by
  unfold gateWrite
  with_reducible repeat' first | assumption | apply Keeps.ite | apply Keeps.ite1 | apply State.wrWord_keeps | apply abandonComp_keeps | apply State.wr_keeps

theorem measWrite_keeps {fl : Bool} {s₀ : State} {v : ℕ} {s : State} (hk : Keeps fl s₀ s) :
    Keeps fl s₀ (measWrite v s).1 := by
  unfold measWrite
  with_reducible repeat' first | assumption | apply Keeps.ite | apply Keeps.ite1 | apply State.wr_keeps

theorem execCkuMeasDone_keeps {fl : Bool} {s₀ : State} {freq : BitVec 18} {s : State} (hk : Keeps fl s₀ s) :
    Keeps fl s₀ (execCkuMeasDone freq s) := by
  unfold execCkuMeasDone
  with_reducible repeat' first | assumption | apply Keeps.ite | apply Keeps.ite1 | apply State.wr_keeps

theorem cmdTick_keeps {fl : Bool} {s₀ : State} {s : State} (hk : Keeps fl s₀ s) :
    Keeps fl s₀ (cmdTick s) := by
  unfold cmdTick
  repeat' first
    | with_reducible assumption
    | with_reducible first | apply Keeps.ite | apply Keeps.ite1 | apply quietTick_keeps | exact Nat.le_refl _ | rfl
    | intro t
    | split
    | with_reducible apply Keeps.mk'

theorem offTick_keeps {fl : Bool} {s₀ : State} {was : Bool} {s : State} (hk : Keeps fl s₀ s) :
    Keeps fl s₀ (offTick was s) := by
  unfold offTick
  repeat' first
    | with_reducible assumption
    | (intro t; refine (have ht : Keeps fl s₀ t := ?_; ?_); (on_goal 1 => subst t); (on_goal 2 => clear_value t; obtain ⟨u, hu⟩ : ∃ u, u = t := ⟨t, rfl⟩; subst hu))
    | intro t
    | lift_lets
    | with_reducible first | apply Keeps.ite | apply Keeps.ite1 | apply offPulseMissing_keeps | exact Nat.le_refl _ | rfl
    | split
    | with_reducible apply Keeps.mk'
    | exact rfl

theorem unitsTick_keeps {fl : Bool} {s₀ : State} {s : State} (hk : Keeps fl s₀ s) :
    Keeps fl s₀ (unitsTick s) := by
  unfold unitsTick
  repeat' first
    | with_reducible assumption
    | with_reducible first | apply Keeps.ite | apply Keeps.ite1 | apply adcTick_keeps | apply pxhTick_keeps | apply thmTick_keeps | apply seqActivate_keeps | apply State.takeAct_keeps | exact Nat.le_refl _ | rfl
    | intro t
    | split
    | with_reducible apply Keeps.mk'

theorem lostTick_keeps {fl : Bool} {s₀ : State} {was : Bool} {s : State} (hk : Keeps fl s₀ s) :
    Keeps fl s₀ (lostTick was s) := by
  unfold lostTick
  with_reducible repeat' first | assumption | apply Keeps.ite | apply Keeps.ite1 | apply raise_keeps

theorem moveTick_keeps {s₀ : State} {was : Bool} {first : Bool} {s : State} (hk : Keeps false s₀ s) :
    Keeps false s₀ (moveTick was first s) := by
  have h1 := releaseTick_keeps (swap := (cmpTick s).swapped) (fb := (cmpTick s).fallback) (repeated := (cmpTick s).repeated)
    (offTick_keeps (was := was) (stuckTick_keeps (cmpTick_keeps hk)))
  have h2 := lostTick_keeps (was := was) (thmDarkCheck_keeps (.ite (c := first = true) (startUpPlain_keeps h1) h1))
  unfold moveTick
  dsimp only
  split
  · exact recoveryRefuse_keeps h2
  · exact h2

theorem execTick_keeps {s₀ : State} {s : State} (hk : Keeps false s₀ s) :
    Keeps false s₀ (execTick s) := by
  unfold execTick
  with_reducible repeat' first | assumption | apply Keeps.ite | apply Keeps.ite1 | apply unitsTick_keeps | apply scnTick_keeps | apply offTick_keeps | apply modeTick_keeps | apply hemTick_keeps | apply spbTick_keeps | apply plainLevel_keeps | apply traceEvent_keeps | apply cmdTick_keeps | apply moveTick_keeps

theorem slotTables_keeps {fl : Bool} {s₀ : State} {errs : List EccErr} {s : State} (hk : Keeps fl s₀ s) :
    Keeps fl s₀ (slotTables errs s) := by
  unfold slotTables
  repeat' first
    | with_reducible assumption
    | with_reducible first | apply Keeps.ite | apply Keeps.ite1 | apply trimWrite_keeps | apply retireAll_keeps | exact Nat.le_refl _ | rfl
    | intro t
    | split
    | with_reducible apply Keeps.mk'
    | exact rfl

theorem slotPlain_keeps {fl : Bool} {s₀ : State} {s : State} (hk : Keeps fl s₀ s) :
    Keeps fl s₀ (slotPlain s) := by
  unfold slotPlain
  repeat' first
    | with_reducible assumption
    | with_reducible first | apply Keeps.ite | apply Keeps.ite1 | apply requireRung_keeps | exact Nat.le_refl _ | rfl
    | intro t
    | split
    | with_reducible apply Keeps.mk'

theorem execSlotPeriodStart_keeps {fl : Bool} {s₀ : State} {errs : List EccErr} {s : State} (hk : Keeps fl s₀ s) :
    Keeps fl s₀ (execSlotPeriodStart errs s) := by
  unfold execSlotPeriodStart
  repeat' first
    | with_reducible assumption
    | with_reducible first | apply Keeps.ite | apply Keeps.ite1 | apply slotPlain_keeps | apply ffSlot_keeps | apply thmSlot_keeps | apply pxhSlot_keeps | apply slotTables_keeps | apply modeSlot_keeps | apply noteErrs_keeps | apply seqSlotStart_keeps | apply clearSums_keeps | apply plainLevel_keeps | exact Nat.le_refl _ | rfl
    | intro t
    | split
    | with_reducible apply Keeps.mk'

theorem execLoad_keeps {fl : Bool} {s₀ : State} {q : Fin 4} {errs : List EccErr} {s : State} (hk : Keeps fl s₀ s) :
    Keeps fl s₀ (execLoad q errs s) := by
  unfold execLoad
  repeat' first
    | with_reducible assumption
    | with_reducible first | apply Keeps.ite | apply Keeps.ite1 | apply walk_keeps | apply loadRows_keeps
    | intro t

theorem execTransfer_keeps {s₀ : State} {q : Fin 4} {sns : Bool} {errs : List EccErr} {s : State} (hk : Keeps false s₀ s) :
    Keeps false s₀ (execTransfer q sns errs s) := by
  unfold execTransfer
  repeat' first
    | with_reducible assumption
    | with_reducible first | apply Keeps.ite | apply Keeps.ite1 | apply walkArray_keeps | apply State.wr_keeps | apply colTransfer_keeps | apply transferLatches_keeps | apply State.forN_keeps | apply setSeqOne_keeps
    | intro t
    | split

theorem execMeas_keeps {fl : Bool} {s₀ : State} {q : Fin 4} {hr : List ℕ} {vf : List ℕ} {errs : List EccErr} {s : State} (hk : Keeps fl s₀ s) :
    Keeps fl s₀ (execMeas q hr vf errs s) := by
  unfold execMeas
  repeat' first
    | with_reducible assumption
    | with_reducible first | apply Keeps.ite | apply Keeps.ite1 | apply walk_keeps | apply measEvent_keeps
    | intro t

theorem execProof_keeps {fl : Bool} {s₀ : State} {q : Fin 4} {errs : List EccErr} {s : State} (hk : Keeps fl s₀ s) :
    Keeps fl s₀ (execProof q errs s) := by
  unfold execProof
  with_reducible repeat' first | assumption | apply Keeps.ite | apply Keeps.ite1 | apply walkArray_keeps | apply proofEvent_keeps

theorem execOffpulse_keeps {fl : Bool} {s₀ : State} {q : Fin 4} {b : OffObs} {errs : List EccErr} {s : State} (hk : Keeps fl s₀ s) :
    Keeps fl s₀ (execOffpulse q b errs s) := by
  unfold execOffpulse
  repeat' first
    | with_reducible assumption
    | with_reducible first | apply Keeps.ite | apply Keeps.ite1 | apply walkArray_keeps | apply offPulse_keeps
    | intro t
    | split

theorem execDarkscan_keeps {fl : Bool} {s₀ : State} {q : Fin 4} {sense : BitVec 8} {errs : List EccErr} {s : State} (hk : Keeps fl s₀ s) :
    Keeps fl s₀ (execDarkscan q sense errs s) := by
  unfold execDarkscan
  repeat' first
    | with_reducible assumption
    | with_reducible first | apply Keeps.ite | apply Keeps.ite1 | apply walkArray_keeps | apply darkscanEvent_keeps
    | intro t

theorem execTempDemand_keeps {fl : Bool} {s₀ : State} {q : Fin 4} {tie : Bool} {errs : List EccErr} {s : State} (hk : Keeps fl s₀ s) :
    Keeps fl s₀ (execTempDemand q tie errs s) := by
  unfold execTempDemand
  repeat' first
    | with_reducible assumption
    | with_reducible first | apply Keeps.ite | apply Keeps.ite1 | apply walk_keeps | apply tempDemand_keeps
    | intro t
    | split

theorem execAdcTrig_keeps {fl : Bool} {s₀ : State} {q : Fin 4} {errs : List EccErr} {s : State} (hk : Keeps fl s₀ s) :
    Keeps fl s₀ (execAdcTrig q errs s) := by
  unfold execAdcTrig
  repeat' first
    | with_reducible assumption
    | with_reducible first | apply Keeps.ite | apply Keeps.ite1 | apply walk_keeps | apply adcTrig_keeps
    | intro t
    | split

theorem execCalWin_keeps {fl : Bool} {s₀ : State} {q : Fin 4} {es : List ColErr} {errs : List EccErr} {s : State} (hk : Keeps fl s₀ s) :
    Keeps fl s₀ (execCalWin q es errs s) := by
  unfold execCalWin
  repeat' first
    | with_reducible assumption
    | with_reducible first | apply Keeps.ite | apply Keeps.ite1 | apply walk_keeps | apply calWin_keeps
    | intro t

theorem execLoopFf_keeps {fl : Bool} {s₀ : State} {q : Fin 4} {errs : List EccErr} {s : State} (hk : Keeps fl s₀ s) :
    Keeps fl s₀ (execLoopFf q errs s) := by
  unfold execLoopFf
  repeat' first
    | with_reducible assumption
    | with_reducible first | apply Keeps.ite | apply Keeps.ite1 | apply walkArray_keeps | apply railFf_keeps
    | intro t

theorem execPatternSel_keeps {fl : Bool} {s₀ : State} {q : Fin 4} {errs : List EccErr} {s : State} (hk : Keeps fl s₀ s) :
    Keeps fl s₀ (execPatternSel q errs s) := by
  unfold execPatternSel
  repeat' first
    | with_reducible assumption
    | with_reducible first | apply Keeps.ite | apply Keeps.ite1 | apply walk_keeps | apply setSeqOne_keeps
    | intro t

theorem execStagger_keeps {fl : Bool} {s₀ : State} {q : Fin 4} {errs : List EccErr} {s : State} (hk : Keeps fl s₀ s) :
    Keeps fl s₀ (execStagger q errs s) := by
  unfold execStagger
  repeat' first
    | with_reducible assumption
    | with_reducible first | apply Keeps.ite | apply Keeps.ite1 | apply walk_keeps | exact Nat.le_refl _ | rfl
    | intro t
    | split
    | with_reducible apply Keeps.mk'

theorem execEnd_keeps {fl : Bool} {s₀ : State} {q : Fin 4} {errs : List EccErr} {s : State} (hk : Keeps fl s₀ s) :
    Keeps fl s₀ (execEnd q errs s) := by
  unfold execEnd
  repeat' first
    | with_reducible assumption
    | with_reducible first | apply Keeps.ite | apply Keeps.ite1 | apply walk_keeps | apply setSeqOne_keeps
    | intro t

theorem execFaultEvent_keeps {fl : Bool} {s₀ : State} {src : BitVec 8} {sev : BitVec 2} {detail : Word} {drop : Bool} {s : State} (hk : Keeps fl s₀ s) :
    Keeps fl s₀ (execFaultEvent src sev detail drop s) := by
  unfold execFaultEvent
  with_reducible repeat' first | assumption | apply Keeps.ite | apply Keeps.ite1 | apply handleEvent_keeps

theorem fcrCntClr_keeps {fl : Bool} {s₀ : State} {s : State} (hk : Keeps fl s₀ s) :
    Keeps fl s₀ (fcrCntClr s) := by
  unfold fcrCntClr
  repeat' first
    | with_reducible assumption
    | with_reducible first | apply Keeps.ite | apply Keeps.ite1 | apply State.wr_keeps | apply State.forL_keeps
    | intro t

theorem faultRead_keeps {fl : Bool} {s₀ : State} {o : Outst} {s : State} (hk : Keeps fl s₀ s) :
    Keeps fl s₀ (faultRead o s).1 := by
  unfold faultRead
  repeat' first
    | with_reducible assumption
    | (intro t; refine (have ht : Keeps fl s₀ t := ?_; ?_); (on_goal 1 => subst t); (on_goal 2 => clear_value t; obtain ⟨u, hu⟩ : ∃ u, u = t := ⟨t, rfl⟩; subst hu))
    | (intro t; refine (have ht : Keeps fl s₀ t.1 := ?_; ?_); (on_goal 1 => subst t); (on_goal 2 => clear_value t; obtain ⟨u, hu⟩ : ∃ u, u = t := ⟨t, rfl⟩; subst hu))
    | (intro t; (fail_if_success first | have _x : SmcSt := t | have _x : PxaSt := t | have _x : CmpSt := t | have _x : SmemSt := t | have _x : PmuSt := t); clear_value t; obtain ⟨u, hu⟩ : ∃ u, u = t := ⟨t, rfl⟩; subst hu)
    | intro t
    | lift_lets
    | with_reducible first
      | apply Keeps.ite
      | apply Keeps.ite1
      | apply ans_keeps
      | apply okW_keeps
      | exact Nat.le_refl _
      | rfl
      | (refine Keeps.foldl _ ?_ _ ?_)
      | (refine Keeps.foldl1 _ ?_ _ ?_)
    | split

theorem faultClear_keeps {fl : Bool} {s₀ : State} {o : Outst} {s : State} (hk : Keeps fl s₀ s) :
    Keeps fl s₀ (faultClear o s).1 := by
  unfold faultClear
  repeat' first
    | with_reducible assumption
    | with_reducible first | apply Keeps.ite | apply Keeps.ite1 | apply ans_keeps | apply ok_keeps | apply State.wr_keeps | exact Nat.le_refl _ | rfl
    | intro t
    | split
    | with_reducible apply Keeps.mk'

theorem faultCfg_keeps {fl : Bool} {s₀ : State} {o : Outst} {s : State} (hk : Keeps fl s₀ s) :
    Keeps fl s₀ (faultCfg o s).1 := by
  unfold faultCfg
  with_reducible repeat' first | assumption | apply Keeps.ite | apply Keeps.ite1 | apply ans_keeps | apply ok_keeps | apply State.setReg_keeps

theorem smcCntClr_keeps {fl : Bool} {s₀ : State} {s : State} (hk : Keeps fl s₀ s) :
    Keeps fl s₀ (smcCntClr s) := by
  unfold smcCntClr
  with_reducible repeat' first | assumption | apply Keeps.ite | apply Keeps.ite1 | apply State.setReg_keeps

theorem cntClrOf_keeps {fl : Bool} {s₀ : State} {a : Nat} {f : Fld} {g : State → State} (e : cntClrOf a = some (f, g))
    (t : State) (hk : Keeps fl s₀ t) : Keeps fl s₀ (g t) := by
  unfold cntClrOf at e
  split at e <;>
    first
    | (cases e; done)
    | (cases e
       with_reducible first
       | exact hlCntClr_keeps hk | exact cmdCntClr_keeps hk | exact ccxCntClr_keeps hk | exact smcCntClr_keeps hk
       | exact cmpCntClr_keeps hk | exact scnCntClr_keeps hk | exact seqCntClr_keeps hk | exact pxaCntClr_keeps hk
       | exact pxhCntClr_keeps hk | exact thmCntClr_keeps hk | exact le0CntClr_keeps hk | exact adcCntClr_keeps hk
       | exact fcrCntClr_keeps hk | exact pmuCntClr_keeps hk | exact crcCntClr_keeps hk | exact calCntClr_keeps hk
       | exact smemCntClr_keeps hk | exact lmeCntClr_keeps hk)

theorem cntClr_keeps {fl : Bool} {s₀ : State} {a : Nat} {x m : Word} {s : State} (hk : Keeps fl s₀ s) :
    Keeps fl s₀ (cntClr a x m s) := by
  unfold cntClr
  split
  · split
    · exact cntClrOf_keeps (by assumption) s hk
    · exact hk
  · exact hk

theorem enableBit_keeps {fl : Bool} {s₀ : State} {f : Fld} {x : Word} {m : Word} {en : State → State × Status} {dis : State → State × Status} {s : State} (hk : Keeps fl s₀ s) (h_en : ∀ u, Keeps fl s₀ u → Keeps fl s₀ (en u).1) (h_dis : ∀ u, Keeps fl s₀ u → Keeps fl s₀ (dis u).1) :
    Keeps fl s₀ (enableBit f x m en dis s).1 := by
  unfold enableBit
  with_reducible repeat' first | assumption | apply Keeps.ite | apply Keeps.ite1 | apply h_en | apply h_dis

theorem hlWrite_keeps {fl : Bool} {s₀ : State} {p : ℕ} {a : ℕ} {x : Word} {m : Word} {s : State} (hk : Keeps fl s₀ s) :
    Keeps fl s₀ (hlWrite p a x m s).1 := by
  unfold hlWrite
  with_reducible repeat' first | assumption | apply Keeps.ite | apply Keeps.ite1 | apply enableBit_keeps | apply portEnable_keeps | apply portDisable_keeps | apply retrain_keeps | apply State.wrWord_keeps

theorem cmdWrite_keeps {fl : Bool} {s₀ : State} {a : ℕ} {x : Word} {m : Word} {s : State} (hk : Keeps fl s₀ s) :
    Keeps fl s₀ (cmdWrite a x m s).1 := by
  unfold cmdWrite
  with_reducible repeat' first | assumption | apply Keeps.ite | apply Keeps.ite1 | apply keyCtrl_keeps | apply keyStage_keeps | apply State.wrWord_keeps

theorem onHit_keeps {fl : Bool} {s₀ : State} {f : Fld} {x : Word} {m : Word} {g : State → State × Status} {s : State} (hk : Keeps fl s₀ s) (h_g : ∀ u, Keeps fl s₀ u → Keeps fl s₀ (g u).1) :
    Keeps fl s₀ (onHit f x m g s).1 := by
  unfold onHit
  with_reducible repeat' first | assumption | apply Keeps.ite | apply Keeps.ite1 | apply h_g

theorem ccxWrite_keeps {fl : Bool} {s₀ : State} {a : ℕ} {x : Word} {m : Word} {s : State} (hk : Keeps fl s₀ s) :
    Keeps fl s₀ (ccxWrite a x m s).1 := by
  unfold ccxWrite
  repeat' first
    | with_reducible assumption
    | with_reducible first | apply Keeps.ite | apply Keeps.ite1 | apply andThen_keeps | apply onHit_keeps | apply ccxCkpt_keeps | apply State.wrWord_keeps | apply ccxRstCore_keeps | apply ccxSwap_keeps
    | intro t

theorem soWrite_keeps {fl : Bool} {s₀ : State} {so : Bool} {s : State} (hk : Keeps fl s₀ s) :
    Keeps fl s₀ (soWrite so s) := by
  unfold soWrite
  repeat' first
    | with_reducible assumption
    | with_reducible first | apply Keeps.ite | apply Keeps.ite1 | apply State.wr_keeps | exact Nat.le_refl _ | rfl
    | intro t
    | split
    | with_reducible apply Keeps.mk'

theorem scnWrite_keeps {fl : Bool} {s₀ : State} {a : ℕ} {x : Word} {m : Word} {s : State} (hk : Keeps fl s₀ s) :
    Keeps fl s₀ (scnWrite a x m s).1 := by
  unfold scnWrite
  repeat' first
    | with_reducible assumption
    | with_reducible first | apply Keeps.ite | apply Keeps.ite1 | apply soWrite_keeps | apply State.wrWord_keeps
    | intro t
    | split
    | (refine scnCtrlWrite_keeps ?_ (by assumption))

theorem thmWrite_keeps {fl : Bool} {s₀ : State} {a : ℕ} {x : Word} {m : Word} {s : State} (hk : Keeps fl s₀ s) :
    Keeps fl s₀ (thmWrite a x m s).1 := by
  unfold thmWrite
  with_reducible repeat' first | assumption | apply Keeps.ite | apply Keeps.ite1 | apply State.wrWord_keeps | apply xchkRun_keeps | apply thmBrokenClear_keeps

theorem le0Write_keeps {fl : Bool} {s₀ : State} {a : ℕ} {x : Word} {m : Word} {s : State} (hk : Keeps fl s₀ s) :
    Keeps fl s₀ (le0Write a x m s).1 := by
  unfold le0Write
  repeat' first
    | with_reducible assumption
    | with_reducible first | apply Keeps.ite | apply Keeps.ite1 | apply andThen_keeps | apply enableBit_keeps | apply railEnable_keeps | apply railDisable_keeps | apply State.wr_keeps | apply setSelWrite_keeps | apply le0FbClear_keeps | apply State.wrWord_keeps
    | intro t

theorem le1Write_keeps {fl : Bool} {s₀ : State} {a : ℕ} {x : Word} {m : Word} {s : State} (hk : Keeps fl s₀ s) :
    Keeps fl s₀ (le1Write a x m s).1 := by
  unfold le1Write
  repeat' first
    | with_reducible assumption
    | with_reducible first | apply Keeps.ite | apply Keeps.ite1 | apply andThen_keeps | apply syncAim_keeps | apply State.wr_keeps | apply enableBit_keeps | apply lvlEnable_keeps | apply lvlDisable_keeps | apply fanEnable_keeps | apply fanDisable_keeps | apply State.wrWord_keeps | apply le1FbClear_keeps
    | intro t

theorem adcWrite_keeps {fl : Bool} {s₀ : State} {a : ℕ} {x : Word} {m : Word} {s : State} (hk : Keeps fl s₀ s) :
    Keeps fl s₀ (adcWrite a x m s).1 := by
  unfold adcWrite
  with_reducible repeat' first | assumption | apply Keeps.ite | apply Keeps.ite1 | apply enableBit_keeps | apply sqEnable_keeps | apply sqDisable_keeps | apply rptrWrite_keeps | apply syncFill_keeps | apply State.wrWord_keeps

theorem pmuWrite_keeps {fl : Bool} {s₀ : State} {a : ℕ} {x : Word} {m : Word} {s : State} (hk : Keeps fl s₀ s) :
    Keeps fl s₀ (pmuWrite a x m s).1 := by
  unfold pmuWrite
  with_reducible repeat' first | assumption | apply Keeps.ite | apply Keeps.ite1 | apply engineReset_keeps | apply State.wrWord_keeps

theorem ckuWrite_keeps {fl : Bool} {s₀ : State} {a : ℕ} {x : Word} {m : Word} {s : State} (hk : Keeps fl s₀ s) :
    Keeps fl s₀ (ckuWrite a x m s).1 := by
  unfold ckuWrite
  with_reducible repeat' first | assumption | apply Keeps.ite | apply Keeps.ite1 | apply gateWrite_keeps | apply measWrite_keeps | apply State.wrWord_keeps

theorem crcWrite_keeps {fl : Bool} {s₀ : State} {a : ℕ} {x : Word} {m : Word} {s : State} (hk : Keeps fl s₀ s) :
    Keeps fl s₀ (crcWrite a x m s).1 := by
  unfold crcWrite
  with_reducible repeat' first | assumption | apply Keeps.ite | apply Keeps.ite1 | apply crcCfgWrite_keeps | apply crcBindWrite_keeps | apply crcValueWrite_keeps | apply crcScanCtrlWrite_keeps | apply State.wr_keeps | apply State.wrWord_keeps

theorem smemRegWrite_keeps {fl : Bool} {s₀ : State} {a : ℕ} {x : Word} {m : Word} {s : State} (hk : Keeps fl s₀ s) :
    Keeps fl s₀ (smemRegWrite a x m s).1 := by
  unfold smemRegWrite
  repeat' first
    | with_reducible assumption
    | with_reducible first | apply Keeps.ite | apply Keeps.ite1 | apply andThen_keeps | apply smemTrain_keeps | apply State.wr_keeps | apply State.wrWord_keeps
    | intro t

theorem regHook_keeps {fl : Bool} {s₀ : State} {a : ℕ} {x : Word} {m : Word} {s : State} (hk : Keeps fl s₀ s) :
    Keeps fl s₀ (regHook a x m s).1 := by
  unfold regHook
  repeat' first
    | with_reducible assumption
    | with_reducible first | apply Keeps.ite | apply Keeps.ite1 | apply hlWrite_keeps | apply cmdWrite_keeps | apply ccxWrite_keeps | apply scnWrite_keeps | apply thmWrite_keeps | apply le0Write_keeps | apply le1Write_keeps | apply adcWrite_keeps | apply pmuWrite_keeps | apply ckuWrite_keeps | apply crcWrite_keeps | apply smemRegWrite_keeps | apply State.wrWord_keeps
    | intro t
    | split

theorem w1cClear_keeps {fl : Bool} {s₀ : State} {c : ℕ} {a : ℕ} {x : Word} {m : Word} {s : State} (hk : Keeps fl s₀ s) :
    Keeps fl s₀ (w1cClear c a x m s) := by
  unfold w1cClear
  with_reducible repeat' first | assumption | apply Keeps.ite | apply Keeps.ite1 | apply State.setReg_keeps

theorem layerNote_keeps {fl : Bool} {s₀ : State} {chan : Option (ℕ × ℕ)} {a : ℕ} {s : State} (hk : Keeps fl s₀ s) :
    Keeps fl s₀ (layerNote chan a s) := by
  unfold layerNote
  repeat' first
    | with_reducible assumption
    | with_reducible first | apply Keeps.ite | apply Keeps.ite1 | apply ownerNote_keeps
    | intro t
    | split

theorem regApply_keeps {fl : Bool} {s₀ : State} {chan : Option (ℕ × ℕ)} {r : RegInfo} {a : ℕ} {x : Word} {m : Word} {s : State} (hk : Keeps fl s₀ s) :
    Keeps fl s₀ (regApply chan r a x m s).1 := by
  unfold regApply
  with_reducible repeat' first | assumption | apply Keeps.ite | apply Keeps.ite1 | apply regHook_keeps | apply cntClr_keeps | apply layerNote_keeps | apply w1cClear_keeps

theorem surfWordWrite_keeps {fl : Bool} {s₀ : State} {errs : List EccErr} {a : ℕ} {v : Word} {s : State} (hk : Keeps fl s₀ s) :
    Keeps fl s₀ (surfWordWrite errs a v s).1 := by
  unfold surfWordWrite
  with_reducible repeat' first | assumption | apply Keeps.ite | apply Keeps.ite1 | apply raise_keeps | apply smemWrite_keeps

theorem regWrite_keeps {fl : Bool} {s₀ : State} {chan : Option (ℕ × ℕ)} {errs : List EccErr} {a : ℕ} {v : Word} {m : Word} {s : State} (hk : Keeps fl s₀ s) :
    Keeps fl s₀ (regWrite chan errs a v m s).1 := by
  unfold regWrite
  repeat' first
    | with_reducible assumption
    | with_reducible first | apply Keeps.ite | apply Keeps.ite1 | apply surfWordWrite_keeps | apply raise_keeps | apply regApply_keeps
    | intro t
    | split

theorem regPut_keeps {fl : Bool} {s₀ : State} {a : ℕ} {v : Word} {s : State} (hk : Keeps fl s₀ s) :
    Keeps fl s₀ (regPut a v s) := by
  unfold regPut
  with_reducible repeat' first | assumption | apply Keeps.ite | apply Keeps.ite1 | apply regWrite_keeps | apply State.apart_keeps

theorem applyWrites_keeps {fl : Bool} {s₀ : State} {l : List RegWrite} {s : State} (hk : Keeps fl s₀ s) :
    Keeps fl s₀ (applyWrites l s) := by
  unfold applyWrites
  repeat' first
    | with_reducible assumption
    | with_reducible first | apply Keeps.ite | apply Keeps.ite1 | apply State.forL_keeps | apply regPut_keeps
    | intro t

theorem applyGroup_keeps {fl : Bool} {s₀ : State} {g : Group} {s : State} (hk : Keeps fl s₀ s) :
    Keeps fl s₀ (applyGroup g s) := by
  unfold applyGroup
  repeat' first
    | with_reducible assumption
    | with_reducible first | apply Keeps.ite | apply Keeps.ite1 | apply applyWrites_keeps | apply queueReply_keeps
    | intro t
    | split

theorem tryWaiting_keeps {fl : Bool} {s₀ : State} {g : Group} {s : State} (hk : Keeps fl s₀ s) :
    Keeps fl s₀ (tryWaiting g s) := by
  unfold tryWaiting
  repeat' first
    | with_reducible assumption
    | with_reducible first | apply Keeps.ite | apply Keeps.ite1 | apply applyGroup_keeps | exact Nat.le_refl _ | rfl
    | intro t
    | split
    | with_reducible apply Keeps.mk'
    | exact rfl

theorem drainWait_keeps {fl : Bool} {s₀ : State} {s : State} (hk : Keeps fl s₀ s) :
    Keeps fl s₀ (drainWait s) := by
  unfold drainWait
  with_reducible repeat' first | assumption | apply Keeps.ite | apply Keeps.ite1 | apply State.forL_keeps | apply tryWaiting_keeps

theorem afterWrite_keeps {fl : Bool} {s₀ : State} {x : State × Status} (hk : Keeps fl s₀ x.1) : Keeps fl s₀ (afterWrite x).1 := by
  have h := drainWait_keeps hk
  unfold afterWrite resOf
  repeat' first | exact h | apply Keeps.ite1 | split

theorem writeRegCmd_keeps {fl : Bool} {s₀ : State} {o : Outst} {s : State} (hk : Keeps fl s₀ s) :
    Keeps fl s₀ (writeRegCmd o s).1 := by
  unfold writeRegCmd
  exact .ite1 hk (afterWrite_keeps (regWrite_keeps (State.apart_keeps hk)))

theorem modifyRegCmd_keeps {fl : Bool} {s₀ : State} {o : Outst} {s : State} (hk : Keeps fl s₀ s) :
    Keeps fl s₀ (modifyRegCmd o s).1 := by
  unfold modifyRegCmd
  repeat' first
    | with_reducible assumption
    | (intro t; refine (have ht : Keeps fl s₀ t := ?_; ?_); (on_goal 1 => subst t); (on_goal 2 => clear_value t; obtain ⟨u, hu⟩ : ∃ u, u = t := ⟨t, rfl⟩; subst hu))
    | (intro t; refine (have ht : Keeps fl s₀ t.1 := ?_; ?_); (on_goal 1 => subst t); (on_goal 2 => clear_value t; obtain ⟨u, hu⟩ : ∃ u, u = t := ⟨t, rfl⟩; subst hu))
    | intro t
    | lift_lets
    | with_reducible first | apply Keeps.ite | apply Keeps.ite1 | apply ans_keeps | apply readWord_keeps | apply regWrite_keeps | apply State.apart_keeps | apply okW_keeps | apply drainWait_keeps | exact Nat.le_refl _ | rfl | refine Keeps.foldl _ ?_ _ ?_
    | split
    | (refine Keeps.of_fst ?_ (by assumption))
    | with_reducible apply Keeps.mk'
    | exact rfl

theorem execStaleWriteReject_keeps {fl : Bool} {s₀ : State} {core : Fin 2} {epoch : BitVec 15} {s : State} (hk : Keeps fl s₀ s) :
    Keeps fl s₀ (execStaleWriteReject core epoch s) := by
  unfold execStaleWriteReject
  with_reducible repeat' first | assumption | apply Keeps.ite | apply Keeps.ite1 | apply raise_keeps | apply State.bump_keeps | apply basteFail_keeps | apply State.wr_keeps | apply drainWait_keeps | apply dropStandins_keeps

theorem compareGroups_keeps {fl : Bool} {s₀ : State} {g : Group} {h : Group} {s : State} (hk : Keeps fl s₀ s) :
    Keeps fl s₀ (compareGroups g h s) := by
  unfold compareGroups
  repeat' first
    | with_reducible assumption
    | with_reducible first | apply Keeps.ite | apply Keeps.ite1 | apply raise_keeps | apply State.bump_keeps | apply drainWait_keeps | apply dropStandins_keeps | apply State.wr_keeps | exact Nat.le_refl _ | rfl
    | intro t
    | split
    | with_reducible apply Keeps.mk'
    | exact rfl

theorem meetTwin_keeps {fl : Bool} {s₀ : State} {g : Group} {s : State} (hk : Keeps fl s₀ s) :
    Keeps fl s₀ (meetTwin g s) := by
  unfold meetTwin
  repeat' first
    | with_reducible assumption
    | with_reducible first | apply Keeps.ite | apply Keeps.ite1 | apply compareGroups_keeps | exact Nat.le_refl _ | rfl
    | intro t
    | split
    | with_reducible apply Keeps.mk'
    | exact rfl

theorem endActive_keeps {fl : Bool} {s₀ : State} {g : Group} {s : State} (hk : Keeps fl s₀ s) :
    Keeps fl s₀ (endActive g s) := by
  unfold endActive
  repeat' first
    | with_reducible assumption
    | with_reducible first | apply Keeps.ite | apply Keeps.ite1 | apply meetTwin_keeps | apply drainWait_keeps | apply applyGroup_keeps | exact Nat.le_refl _ | rfl
    | intro t
    | split
    | with_reducible apply Keeps.mk'
    | exact rfl

theorem endStandin_keeps {fl : Bool} {s₀ : State} {g : Group} {s : State} (hk : Keeps fl s₀ s) :
    Keeps fl s₀ (endStandin g s) := by
  unfold endStandin
  repeat' first
    | with_reducible assumption
    | with_reducible first | apply Keeps.ite | apply Keeps.ite1 | apply compareGroups_keeps | exact Nat.le_refl _ | rfl
    | intro t
    | split
    | with_reducible apply Keeps.mk'

theorem execWriteGroupApply_keeps {fl : Bool} {s₀ : State} {core : Fin 2} {epoch : BitVec 15} {jseq : Word} {writes : List RegWrite} {reply : Option Reply} {s : State} (hk : Keeps fl s₀ s) :
    Keeps fl s₀ (execWriteGroupApply core epoch jseq writes reply s) := by
  unfold execWriteGroupApply
  with_reducible repeat' first | assumption | apply Keeps.ite | apply Keeps.ite1 | apply execStaleWriteReject_keeps | apply endActive_keeps | apply endStandin_keeps

theorem takeover_keeps {fl : Bool} {s₀ : State} {k : ℕ} {s : State} (hk : Keeps fl s₀ s) :
    Keeps fl s₀ (takeover k s) := by
  unfold takeover
  repeat' first
    | with_reducible assumption
    | with_reducible first | apply Keeps.ite | apply Keeps.ite1 | apply State.wr_keeps | apply bumpCepoch_keeps | apply State.bump_keeps | apply journalEvent_keeps | apply raise_keeps | apply recoveryBegin_keeps | apply recoveryRefuse_keeps | apply startCkpt_keeps | apply State.forL_keeps | apply applyGroup_keeps | exact Nat.le_refl _ | rfl
    | intro t
    | split
    | with_reducible apply Keeps.mk'
    | exact rfl

theorem standbyLost_keeps {fl : Bool} {s₀ : State} {k : ℕ} {s : State} (hk : Keeps fl s₀ s) :
    Keeps fl s₀ (standbyLost k s) := by
  unfold standbyLost
  repeat' first
    | with_reducible assumption
    | with_reducible first | apply Keeps.ite | apply Keeps.ite1 | apply basteFail_keeps | apply State.wr_keeps | apply drainWait_keeps | apply dropStandins_keeps | exact Nat.le_refl _ | rfl
    | intro t
    | split
    | with_reducible apply Keeps.mk'
    | exact rfl

theorem backInStandby_keeps {fl : Bool} {s₀ : State} {k : ℕ} {s : State} (hk : Keeps fl s₀ s) :
    Keeps fl s₀ (backInStandby k s) := by
  unfold backInStandby
  repeat' first
    | with_reducible assumption
    | with_reducible first | apply Keeps.ite | apply Keeps.ite1 | apply State.wr_keeps | exact Nat.le_refl _ | rfl
    | intro t
    | split
    | with_reducible apply Keeps.mk'
    | exact rfl

theorem unswap_keeps {fl : Bool} {s₀ : State} {k : ℕ} {s : State} (hk : Keeps fl s₀ s) :
    Keeps fl s₀ (unswap k s) := by
  unfold unswap
  repeat' first
    | with_reducible assumption
    | with_reducible first | apply Keeps.ite | apply Keeps.ite1 | apply State.wr_keeps | exact Nat.le_refl _ | rfl
    | intro t
    | split
    | with_reducible apply Keeps.mk'
    | exact rfl

theorem activeLost_keeps {fl : Bool} {s₀ : State} {tie : Bool} {k : ℕ} {s : State} (hk : Keeps fl s₀ s) :
    Keeps fl s₀ (activeLost tie k s) := by
  unfold activeLost
  with_reducible repeat' first | assumption | apply Keeps.ite | apply Keeps.ite1 | apply takeover_keeps | apply backInStandby_keeps | apply pairRestart_keeps

theorem execCoreHbTimeout_keeps {fl : Bool} {s₀ : State} {core : Fin 2} {tie : Bool} {s : State} (hk : Keeps fl s₀ s) :
    Keeps fl s₀ (execCoreHbTimeout core tie s) := by
  unfold execCoreHbTimeout
  with_reducible repeat' first | assumption | apply Keeps.ite | apply Keeps.ite1 | apply State.takeAct_keeps | apply raise_keeps | apply activeLost_keeps | apply unswap_keeps | apply standbyLost_keeps

theorem runBody_keeps {fl : Bool} {s₀ : State} {y0 : Opcode} {y1 : Outst} {y2 : State} (hk : Keeps fl s₀ y2) :
    Keeps fl s₀ (runBody y0 y1 y2).1 := by
  unfold runBody
  repeat' first
    | with_reducible assumption
    | with_reducible first | apply Keeps.ite | apply Keeps.ite1 | apply plainCmd_keeps | apply ping_keeps | apply tack_keeps | apply readRegCmd_keeps | apply writeRegCmd_keeps | apply modifyRegCmd_keeps | apply readBlock_keeps | apply thimbleAcquire_keeps | apply thimbleRelease_keeps | apply thimbleQuery_keeps | apply surfWrite_keeps | apply surfRead_keeps | apply surfFill_keeps | apply surfCopy_keeps | apply tableLoad_keeps | apply tableRead_keeps | apply layerSet_keeps | apply layerEnable_keeps | apply layerDisable_keeps | apply commit_keeps | apply commitAt_keeps | apply retireQuery_keeps | apply safeMsg_keeps | apply spbLoad_keeps | apply safeStatus_keeps | apply safeTest_keeps | apply loopCfg_keeps | apply loopEnable_keeps | apply loopDisable_keeps | apply setpoint_keeps | apply loopHold_keeps | apply traceArm_keeps | apply traceRead_keeps | apply adcSeqCfg_keeps | apply adcStart_keeps | apply adcStop_keeps | apply tempMeasure_keeps | apply calRun_keeps | apply calRead_keeps | apply calWrite_keeps | apply powerEnter_keeps | apply powerQuery_keeps | apply vscale_keeps | apply faultRead_keeps | apply faultClear_keeps | apply faultCfg_keeps | apply healthRead_keeps | apply spareForce_keeps | apply proofReq_keeps | apply crcRun_keeps | apply linkTest_keeps | apply linkInject_keeps | apply chanCfg_keeps | apply chanQuery_keeps | apply fwPatchLoad_keeps | apply fwPatchActivate_keeps | apply stateRead_keeps | apply resync_keeps | apply deviceInfo_keeps | apply ans_keeps
    | intro t
    | split

theorem hostRun_keeps {fl : Bool} {s₀ : State} {op : Opcode} {c : Cmd} {s : State} (hk : Keeps fl s₀ s) :
    Keeps fl s₀ (hostRun op c s) := by
  unfold hostRun
  with_reducible repeat' first | assumption | apply Keeps.ite | apply Keeps.ite1 | apply hostCommand_keeps | apply runBody_keeps

theorem execFenceRelease_keeps {fl : Bool} {s₀ : State} {s : State} (hk : Keeps fl s₀ s) :
    Keeps fl s₀ (execFenceRelease s) := by
  unfold execFenceRelease
  repeat' first
    | with_reducible assumption
    | with_reducible first | apply Keeps.ite | apply Keeps.ite1 | apply patchCkpt_keeps | apply execute_keeps | apply runBody_keeps | apply syncFence_keeps | exact Nat.le_refl _ | rfl
    | intro t
    | split
    | with_reducible apply Keeps.mk'

theorem execDupHoldExpiry_keeps {fl : Bool} {s₀ : State} {ch : BitVec 8} {s : State} (hk : Keeps fl s₀ s) :
    Keeps fl s₀ (execDupHoldExpiry ch s) := by
  unfold execDupHoldExpiry
  repeat' first
    | with_reducible assumption
    | with_reducible first | apply Keeps.ite | apply Keeps.ite1 | apply admitTail_keeps | apply runBody_keeps | apply State.bump_keeps | apply unhold_keeps
    | intro t
    | split

theorem groupsAfter_keeps {fl : Bool} {s₀ : State} {s : State} (hk : Keeps fl s₀ s) :
    Keeps fl s₀ (groupsAfter s) := by
  unfold groupsAfter
  with_reducible repeat' first | assumption | apply Keeps.ite | apply Keeps.ite1 | apply drainWait_keeps

theorem writeField_keeps {fl : Bool} {s₀ : State} {f : Fld} {v : ℕ} {s : State} (hk : Keeps fl s₀ s) :
    Keeps fl s₀ (writeField f v s) := by
  unfold writeField
  repeat' first
    | with_reducible assumption
    | with_reducible first | unfold answered | apply Keeps.ite | apply Keeps.ite1 | apply regWrite_keeps | exact Nat.le_refl _ | rfl
    | intro t
    | split
    | with_reducible apply Keeps.mk'

theorem writeWord_keeps {fl : Bool} {s₀ : State} {a : ℕ} {v : Word} {s : State} (hk : Keeps fl s₀ s) :
    Keeps fl s₀ (writeWord a v s) := by
  unfold writeWord
  repeat' first
    | with_reducible assumption
    | with_reducible first | unfold answered | apply Keeps.ite | apply Keeps.ite1 | apply regWrite_keeps | exact Nat.le_refl _ | rfl
    | intro t
    | split
    | with_reducible apply Keeps.mk'

theorem execPortEnable_keeps {fl : Bool} {s₀ : State} {p : Port} {s : State} (hk : Keeps fl s₀ s) :
    Keeps fl s₀ (execPortEnable p s) := by
  unfold execPortEnable
  with_reducible repeat' first | assumption | apply Keeps.ite | apply Keeps.ite1 | apply writeField_keeps

theorem execPortDisable_keeps {fl : Bool} {s₀ : State} {p : Port} {s : State} (hk : Keeps fl s₀ s) :
    Keeps fl s₀ (execPortDisable p s) := by
  unfold execPortDisable
  with_reducible repeat' first | assumption | apply Keeps.ite | apply Keeps.ite1 | apply writeField_keeps

theorem execPortRetrain_keeps {fl : Bool} {s₀ : State} {p : Port} {s : State} (hk : Keeps fl s₀ s) :
    Keeps fl s₀ (execPortRetrain p s) := by
  unfold execPortRetrain
  with_reducible repeat' first | assumption | apply Keeps.ite | apply Keeps.ite1 | apply writeField_keeps

theorem execAttnClear_keeps {fl : Bool} {s₀ : State} {p : Port} {mask : BitVec 4} {tie : Bool} {s : State} (hk : Keeps fl s₀ s) :
    Keeps fl s₀ (execAttnClear p mask tie s) := by
  unfold execAttnClear
  with_reducible repeat' first | assumption | apply Keeps.ite | apply Keeps.ite1 | apply writeField_keeps | apply State.apart_keeps

theorem execHlxCntClr_keeps {fl : Bool} {s₀ : State} {p : Port} {s : State} (hk : Keeps fl s₀ s) :
    Keeps fl s₀ (execHlxCntClr p s) := by
  unfold execHlxCntClr
  with_reducible repeat' first | assumption | apply Keeps.ite | apply Keeps.ite1 | apply writeField_keeps

theorem execLmeCntClr_keeps {fl : Bool} {s₀ : State} {s : State} (hk : Keeps fl s₀ s) :
    Keeps fl s₀ (execLmeCntClr s) := by
  unfold execLmeCntClr
  with_reducible repeat' first | assumption | apply Keeps.ite | apply Keeps.ite1 | apply writeField_keeps

theorem execScnRunStart_keeps {fl : Bool} {s₀ : State} {s : State} (hk : Keeps fl s₀ s) :
    Keeps fl s₀ (execScnRunStart s) := by
  unfold execScnRunStart
  with_reducible repeat' first | assumption | apply Keeps.ite | apply Keeps.ite1 | apply writeField_keeps

theorem execScnRunStop_keeps {fl : Bool} {s₀ : State} {s : State} (hk : Keeps fl s₀ s) :
    Keeps fl s₀ (execScnRunStop s) := by
  unfold execScnRunStop
  with_reducible repeat' first | assumption | apply Keeps.ite | apply Keeps.ite1 | apply writeField_keeps

theorem execSoEn_keeps {fl : Bool} {s₀ : State} {on : Bool} {s : State} (hk : Keeps fl s₀ s) :
    Keeps fl s₀ (execSoEn on s) := by
  unfold execSoEn
  with_reducible repeat' first | assumption | apply Keeps.ite | apply Keeps.ite1 | apply writeField_keeps

theorem execScnCntClr_keeps {fl : Bool} {s₀ : State} {s : State} (hk : Keeps fl s₀ s) :
    Keeps fl s₀ (execScnCntClr s) := by
  unfold execScnCntClr
  with_reducible repeat' first | assumption | apply Keeps.ite | apply Keeps.ite1 | apply writeField_keeps

theorem execSmcCntClr_keeps {fl : Bool} {s₀ : State} {s : State} (hk : Keeps fl s₀ s) :
    Keeps fl s₀ (execSmcCntClr s) := by
  unfold execSmcCntClr
  with_reducible repeat' first | assumption | apply Keeps.ite | apply Keeps.ite1 | apply writeField_keeps

theorem execPxhStuckClear_keeps {fl : Bool} {s₀ : State} {mask : BitVec 8} {tie : Bool} {s : State} (hk : Keeps fl s₀ s) :
    Keeps fl s₀ (execPxhStuckClear mask tie s) := by
  unfold execPxhStuckClear
  with_reducible repeat' first | assumption | apply Keeps.ite | apply Keeps.ite1 | apply writeField_keeps | apply State.apart_keeps

theorem execPxhCntClr_keeps {fl : Bool} {s₀ : State} {s : State} (hk : Keeps fl s₀ s) :
    Keeps fl s₀ (execPxhCntClr s) := by
  unfold execPxhCntClr
  with_reducible repeat' first | assumption | apply Keeps.ite | apply Keeps.ite1 | apply writeField_keeps

theorem execXchkRun_keeps {fl : Bool} {s₀ : State} {s : State} (hk : Keeps fl s₀ s) :
    Keeps fl s₀ (execXchkRun s) := by
  unfold execXchkRun
  with_reducible repeat' first | assumption | apply Keeps.ite | apply Keeps.ite1 | apply writeField_keeps

theorem execThmBrokenClear_keeps {fl : Bool} {s₀ : State} {n : Fin 3} {mask : Word} {tie : Bool} {s : State} (hk : Keeps fl s₀ s) :
    Keeps fl s₀ (execThmBrokenClear n mask tie s) := by
  unfold execThmBrokenClear
  with_reducible repeat' first | assumption | apply Keeps.ite | apply Keeps.ite1 | apply writeWord_keeps | apply State.apart_keeps

theorem execThmCntClr_keeps {fl : Bool} {s₀ : State} {s : State} (hk : Keeps fl s₀ s) :
    Keeps fl s₀ (execThmCntClr s) := by
  unfold execThmCntClr
  with_reducible repeat' first | assumption | apply Keeps.ite | apply Keeps.ite1 | apply writeField_keeps

theorem execLe0En_keeps {fl : Bool} {s₀ : State} {on : Bool} {s : State} (hk : Keeps fl s₀ s) :
    Keeps fl s₀ (execLe0En on s) := by
  unfold execLe0En
  with_reducible repeat' first | assumption | apply Keeps.ite | apply Keeps.ite1 | apply writeField_keeps

theorem execLvlEn_keeps {fl : Bool} {s₀ : State} {on : Bool} {s : State} (hk : Keeps fl s₀ s) :
    Keeps fl s₀ (execLvlEn on s) := by
  unfold execLvlEn
  with_reducible repeat' first | assumption | apply Keeps.ite | apply Keeps.ite1 | apply writeField_keeps

theorem execFanEn_keeps {fl : Bool} {s₀ : State} {on : Bool} {s : State} (hk : Keeps fl s₀ s) :
    Keeps fl s₀ (execFanEn on s) := by
  unfold execFanEn
  with_reducible repeat' first | assumption | apply Keeps.ite | apply Keeps.ite1 | apply writeField_keeps

theorem execLe0SetSelWrite_keeps {fl : Bool} {s₀ : State} {v : BitVec 3} {s : State} (hk : Keeps fl s₀ s) :
    Keeps fl s₀ (execLe0SetSelWrite v s) := by
  unfold execLe0SetSelWrite
  with_reducible repeat' first | assumption | apply Keeps.ite | apply Keeps.ite1 | apply writeField_keeps

theorem execLe0FbClear_keeps {fl : Bool} {s₀ : State} {mask : BitVec 4} {tie : Bool} {s : State} (hk : Keeps fl s₀ s) :
    Keeps fl s₀ (execLe0FbClear mask tie s) := by
  unfold execLe0FbClear
  with_reducible repeat' first | assumption | apply Keeps.ite | apply Keeps.ite1 | apply writeField_keeps | apply State.apart_keeps

theorem execLe1FbClear_keeps {fl : Bool} {s₀ : State} {mask : BitVec 3} {tie : Bool} {s : State} (hk : Keeps fl s₀ s) :
    Keeps fl s₀ (execLe1FbClear mask tie s) := by
  unfold execLe1FbClear
  with_reducible repeat' first | assumption | apply Keeps.ite | apply Keeps.ite1 | apply writeField_keeps | apply State.apart_keeps

theorem execLe0CntClr_keeps {fl : Bool} {s₀ : State} {s : State} (hk : Keeps fl s₀ s) :
    Keeps fl s₀ (execLe0CntClr s) := by
  unfold execLe0CntClr
  with_reducible repeat' first | assumption | apply Keeps.ite | apply Keeps.ite1 | apply writeField_keeps

theorem execAdcSqEn_keeps {fl : Bool} {s₀ : State} {n : Fin 8} {on : Bool} {s : State} (hk : Keeps fl s₀ s) :
    Keeps fl s₀ (execAdcSqEn n on s) := by
  unfold execAdcSqEn
  with_reducible repeat' first | assumption | apply Keeps.ite | apply Keeps.ite1 | apply writeField_keeps

theorem execAdcRptrWrite_keeps {fl : Bool} {s₀ : State} {n : Fin 8} {v : BitVec 24} {s : State} (hk : Keeps fl s₀ s) :
    Keeps fl s₀ (execAdcRptrWrite n v s) := by
  unfold execAdcRptrWrite
  with_reducible repeat' first | assumption | apply Keeps.ite | apply Keeps.ite1 | apply writeField_keeps

theorem execAdcCntClr_keeps {fl : Bool} {s₀ : State} {s : State} (hk : Keeps fl s₀ s) :
    Keeps fl s₀ (execAdcCntClr s) := by
  unfold execAdcCntClr
  with_reducible repeat' first | assumption | apply Keeps.ite | apply Keeps.ite1 | apply writeField_keeps

theorem execFcrCntClr_keeps {fl : Bool} {s₀ : State} {s : State} (hk : Keeps fl s₀ s) :
    Keeps fl s₀ (execFcrCntClr s) := by
  unfold execFcrCntClr
  with_reducible repeat' first | assumption | apply Keeps.ite | apply Keeps.ite1 | apply writeField_keeps

theorem execCmdCntClr_keeps {fl : Bool} {s₀ : State} {s : State} (hk : Keeps fl s₀ s) :
    Keeps fl s₀ (execCmdCntClr s) := by
  unfold execCmdCntClr
  with_reducible repeat' first | assumption | apply Keeps.ite | apply Keeps.ite1 | apply writeField_keeps

theorem execKeyLoad_keeps {fl : Bool} {s₀ : State} {mask : BitVec 8} {s : State} (hk : Keeps fl s₀ s) :
    Keeps fl s₀ (execKeyLoad mask s) := by
  unfold execKeyLoad
  with_reducible repeat' first | assumption | apply Keeps.ite | apply Keeps.ite1 | apply writeField_keeps

theorem execKeyClr_keeps {fl : Bool} {s₀ : State} {mask : BitVec 8} {s : State} (hk : Keeps fl s₀ s) :
    Keeps fl s₀ (execKeyClr mask s) := by
  unfold execKeyClr
  with_reducible repeat' first | assumption | apply Keeps.ite | apply Keeps.ite1 | apply writeField_keeps

theorem execCcxCkpt_keeps {fl : Bool} {s₀ : State} {s : State} (hk : Keeps fl s₀ s) :
    Keeps fl s₀ (execCcxCkpt s) := by
  unfold execCcxCkpt
  with_reducible repeat' first | assumption | apply Keeps.ite | apply Keeps.ite1 | apply writeField_keeps

theorem execCcxSwap_keeps {fl : Bool} {s₀ : State} {s : State} (hk : Keeps fl s₀ s) :
    Keeps fl s₀ (execCcxSwap s) := by
  unfold execCcxSwap
  with_reducible repeat' first | assumption | apply Keeps.ite | apply Keeps.ite1 | apply groupsAfter_keeps | apply writeField_keeps

theorem execCcxRstCore_keeps {fl : Bool} {s₀ : State} {core : Fin 2} {s : State} (hk : Keeps fl s₀ s) :
    Keeps fl s₀ (execCcxRstCore core s) := by
  unfold execCcxRstCore
  with_reducible repeat' first | assumption | apply Keeps.ite | apply Keeps.ite1 | apply groupsAfter_keeps | apply writeField_keeps

theorem execCcxAutoBaste_keeps {fl : Bool} {s₀ : State} {s : State} (hk : Keeps fl s₀ s) :
    Keeps fl s₀ (execCcxAutoBaste s) := by
  unfold execCcxAutoBaste
  with_reducible repeat' first | assumption | apply Keeps.ite | apply Keeps.ite1 | apply writeField_keeps

theorem execCcxCntClr_keeps {fl : Bool} {s₀ : State} {s : State} (hk : Keeps fl s₀ s) :
    Keeps fl s₀ (execCcxCntClr s) := by
  unfold execCcxCntClr
  with_reducible repeat' first | assumption | apply Keeps.ite | apply Keeps.ite1 | apply writeField_keeps

theorem execPxaCntClr_keeps {fl : Bool} {s₀ : State} {s : State} (hk : Keeps fl s₀ s) :
    Keeps fl s₀ (execPxaCntClr s) := by
  unfold execPxaCntClr
  with_reducible repeat' first | assumption | apply Keeps.ite | apply Keeps.ite1 | apply writeField_keeps

theorem execSeqCntClr_keeps {fl : Bool} {s₀ : State} {q : Fin 4} {s : State} (hk : Keeps fl s₀ s) :
    Keeps fl s₀ (execSeqCntClr q s) := by
  unfold execSeqCntClr
  with_reducible repeat' first | assumption | apply Keeps.ite | apply Keeps.ite1 | apply writeField_keeps

theorem execCmpCntClr_keeps {fl : Bool} {s₀ : State} {s : State} (hk : Keeps fl s₀ s) :
    Keeps fl s₀ (execCmpCntClr s) := by
  unfold execCmpCntClr
  with_reducible repeat' first | assumption | apply Keeps.ite | apply Keeps.ite1 | apply writeField_keeps

theorem execSmemTrain_keeps {fl : Bool} {s₀ : State} {s : State} (hk : Keeps fl s₀ s) :
    Keeps fl s₀ (execSmemTrain s) := by
  unfold execSmemTrain
  with_reducible repeat' first | assumption | apply Keeps.ite | apply Keeps.ite1 | apply writeField_keeps

theorem execSmemCntClr_keeps {fl : Bool} {s₀ : State} {s : State} (hk : Keeps fl s₀ s) :
    Keeps fl s₀ (execSmemCntClr s) := by
  unfold execSmemCntClr
  with_reducible repeat' first | assumption | apply Keeps.ite | apply Keeps.ite1 | apply writeField_keeps

theorem execCrcCfgWrite_keeps {fl : Bool} {s₀ : State} {n : Fin 4} {v : Word} {s : State} (hk : Keeps fl s₀ s) :
    Keeps fl s₀ (execCrcCfgWrite n v s) := by
  unfold execCrcCfgWrite
  with_reducible repeat' first | assumption | apply Keeps.ite | apply Keeps.ite1 | apply writeWord_keeps

theorem execCrcValueWrite_keeps {fl : Bool} {s₀ : State} {n : Fin 4} {v : Word} {s : State} (hk : Keeps fl s₀ s) :
    Keeps fl s₀ (execCrcValueWrite n v s) := by
  unfold execCrcValueWrite
  with_reducible repeat' first | assumption | apply Keeps.ite | apply Keeps.ite1 | apply writeWord_keeps

theorem execCrcBindWrite_keeps {fl : Bool} {s₀ : State} {n : Fin 4} {v : Word} {s : State} (hk : Keeps fl s₀ s) :
    Keeps fl s₀ (execCrcBindWrite n v s) := by
  unfold execCrcBindWrite
  with_reducible repeat' first | assumption | apply Keeps.ite | apply Keeps.ite1 | apply writeWord_keeps

theorem execCrcScanCtrlWrite_keeps {fl : Bool} {s₀ : State} {v : Word} {s : State} (hk : Keeps fl s₀ s) :
    Keeps fl s₀ (execCrcScanCtrlWrite v s) := by
  unfold execCrcScanCtrlWrite
  with_reducible repeat' first | assumption | apply Keeps.ite | apply Keeps.ite1 | apply writeWord_keeps

theorem execCrcCntClr_keeps {fl : Bool} {s₀ : State} {s : State} (hk : Keeps fl s₀ s) :
    Keeps fl s₀ (execCrcCntClr s) := by
  unfold execCrcCntClr
  with_reducible repeat' first | assumption | apply Keeps.ite | apply Keeps.ite1 | apply writeField_keeps

theorem execCalCntClr_keeps {fl : Bool} {s₀ : State} {s : State} (hk : Keeps fl s₀ s) :
    Keeps fl s₀ (execCalCntClr s) := by
  unfold execCalCntClr
  with_reducible repeat' first | assumption | apply Keeps.ite | apply Keeps.ite1 | apply writeField_keeps

theorem execSwrst_keeps {fl : Bool} {s₀ : State} {s : State} (hk : Keeps fl s₀ s) :
    Keeps fl s₀ (execSwrst s) := by
  unfold execSwrst
  with_reducible repeat' first | assumption | apply Keeps.ite | apply Keeps.ite1 | apply writeField_keeps

theorem execPmuCntClr_keeps {fl : Bool} {s₀ : State} {s : State} (hk : Keeps fl s₀ s) :
    Keeps fl s₀ (execPmuCntClr s) := by
  unfold execPmuCntClr
  with_reducible repeat' first | assumption | apply Keeps.ite | apply Keeps.ite1 | apply writeField_keeps

theorem execCkuGateWrite_keeps {fl : Bool} {s₀ : State} {v : Word} {s : State} (hk : Keeps fl s₀ s) :
    Keeps fl s₀ (execCkuGateWrite v s) := by
  unfold execCkuGateWrite
  with_reducible repeat' first | assumption | apply Keeps.ite | apply Keeps.ite1 | apply writeWord_keeps

theorem execCkuMeasWrite_keeps {fl : Bool} {s₀ : State} {v : Word} {s : State} (hk : Keeps fl s₀ s) :
    Keeps fl s₀ (execCkuMeasWrite v s) := by
  unfold execCkuMeasWrite
  with_reducible repeat' first | assumption | apply Keeps.ite | apply Keeps.ite1 | apply writeWord_keeps

theorem execRegisterWrite_keeps {fl : Bool} {s₀ : State} {chan : BitVec 8} {addr : Word} {value : Word} {tie : Bool} {errs : List EccErr} {s : State} (hk : Keeps fl s₀ s) :
    Keeps fl s₀ (execRegisterWrite chan addr value tie errs s) := by
  unfold execRegisterWrite
  repeat' first
    | with_reducible assumption
    | with_reducible first | unfold answered | apply Keeps.ite | apply Keeps.ite1 | apply groupsAfter_keeps | apply regWrite_keeps | apply State.apart_keeps | exact Nat.le_refl _ | rfl
    | intro t
    | split
    | with_reducible apply Keeps.mk'
    | exact rfl

theorem powered_keeps {fl : Bool} {s₀ : State} {f : State → State} {s : State} (hk : Keeps fl s₀ s) (h_f : ∀ u, Keeps fl s₀ u → Keeps fl s₀ (f u)) :
    Keeps fl s₀ (powered f s) := by
  unfold powered
  with_reducible repeat' first | assumption | apply Keeps.ite | apply Keeps.ite1 | apply h_f

end Sys2Proof.Machine
end

