-- ==== Sys2Proof/Laws/KeepsRows.lean ====
section
/-!
SUPPORT. Every row goes on, and what it keeps: exec answers a next state for every command and every state.
-/
namespace Sys2Proof.Machine

/-- A row answers a next state, and that state keeps what Keeps names. -/
def GoesOn (fl : Bool) (s : State) (r : Host.Outcome State Fault Refusal) : Prop := ∃ t, r = .next t ∧ Keeps fl s t

theorem goesOn_powered {fl : Bool} {s : State} {f : State → State} (h : ∀ u, Keeps fl s u → Keeps fl s (f u)) :
    GoesOn fl s (.next (powered f s)) := ⟨_, rfl, powered_keeps (Keeps.refl _ _) h⟩

theorem runNop_keeps {fl : Bool} {c : Cmd} {s : State} : GoesOn fl s (runNop c s) :=
  goesOn_powered fun _ h => hostRun_keeps h
theorem runPing_keeps {fl : Bool} {c : Cmd} {s : State} : GoesOn fl s (runPing c s) :=
  goesOn_powered fun _ h => hostRun_keeps h
theorem runTack_keeps {fl : Bool} {c : Cmd} {s : State} : GoesOn fl s (runTack c s) :=
  goesOn_powered fun _ h => hostTack_keeps h fun _ _ k => tack_keeps k
theorem runReadReg_keeps {fl : Bool} {c : Cmd} {s : State} : GoesOn fl s (runReadReg c s) :=
  goesOn_powered fun _ h => hostRun_keeps h
theorem runWriteReg_keeps {fl : Bool} {c : Cmd} {s : State} : GoesOn fl s (runWriteReg c s) :=
  goesOn_powered fun _ h => hostRun_keeps h
theorem runModifyReg_keeps {fl : Bool} {c : Cmd} {s : State} : GoesOn fl s (runModifyReg c s) :=
  goesOn_powered fun _ h => hostRun_keeps h
theorem runReadBlock_keeps {fl : Bool} {c : Cmd} {s : State} : GoesOn fl s (runReadBlock c s) :=
  goesOn_powered fun _ h => hostRun_keeps h
theorem runFence_keeps {fl : Bool} {c : Cmd} {s : State} : GoesOn fl s (runFence c s) :=
  goesOn_powered fun _ h => hostRun_keeps h
theorem runFenceGlobal_keeps {fl : Bool} {c : Cmd} {s : State} : GoesOn fl s (runFenceGlobal c s) :=
  goesOn_powered fun _ h => hostRun_keeps h
theorem runThimbleAcquire_keeps {fl : Bool} {c : Cmd} {s : State} : GoesOn fl s (runThimbleAcquire c s) :=
  goesOn_powered fun _ h => hostRun_keeps h
theorem runThimbleRelease_keeps {fl : Bool} {c : Cmd} {s : State} : GoesOn fl s (runThimbleRelease c s) :=
  goesOn_powered fun _ h => hostRun_keeps h
theorem runThimbleQuery_keeps {fl : Bool} {c : Cmd} {s : State} : GoesOn fl s (runThimbleQuery c s) :=
  goesOn_powered fun _ h => hostRun_keeps h
theorem runSurfWrite_keeps {fl : Bool} {c : Cmd} {s : State} : GoesOn fl s (runSurfWrite c s) :=
  goesOn_powered fun _ h => hostRun_keeps h
theorem runSurfRead_keeps {fl : Bool} {c : Cmd} {s : State} : GoesOn fl s (runSurfRead c s) :=
  goesOn_powered fun _ h => hostRun_keeps h
theorem runSurfFill_keeps {fl : Bool} {c : Cmd} {s : State} : GoesOn fl s (runSurfFill c s) :=
  goesOn_powered fun _ h => hostRun_keeps h
theorem runSurfCopy_keeps {fl : Bool} {c : Cmd} {s : State} : GoesOn fl s (runSurfCopy c s) :=
  goesOn_powered fun _ h => hostRun_keeps h
theorem runTableLoad_keeps {fl : Bool} {c : Cmd} {s : State} : GoesOn fl s (runTableLoad c s) :=
  goesOn_powered fun _ h => hostRun_keeps h
theorem runTableRead_keeps {fl : Bool} {c : Cmd} {s : State} : GoesOn fl s (runTableRead c s) :=
  goesOn_powered fun _ h => hostRun_keeps h
theorem runLayerSet_keeps {fl : Bool} {c : Cmd} {s : State} : GoesOn fl s (runLayerSet c s) :=
  goesOn_powered fun _ h => hostRun_keeps h
theorem runLayerEnable_keeps {fl : Bool} {c : Cmd} {s : State} : GoesOn fl s (runLayerEnable c s) :=
  goesOn_powered fun _ h => hostRun_keeps h
theorem runLayerDisable_keeps {fl : Bool} {c : Cmd} {s : State} : GoesOn fl s (runLayerDisable c s) :=
  goesOn_powered fun _ h => hostRun_keeps h
theorem runCommit_keeps {fl : Bool} {c : Cmd} {s : State} : GoesOn fl s (runCommit c s) :=
  goesOn_powered fun _ h => hostRun_keeps h
theorem runCommitAt_keeps {fl : Bool} {c : Cmd} {s : State} : GoesOn fl s (runCommitAt c s) :=
  goesOn_powered fun _ h => hostRun_keeps h
theorem runRetireQuery_keeps {fl : Bool} {c : Cmd} {s : State} : GoesOn fl s (runRetireQuery c s) :=
  goesOn_powered fun _ h => hostRun_keeps h
theorem runSafeMsg_keeps {fl : Bool} {c : Cmd} {s : State} : GoesOn fl s (runSafeMsg c s) :=
  goesOn_powered fun _ h => hostRun_keeps h
theorem runSpbLoad_keeps {fl : Bool} {c : Cmd} {s : State} : GoesOn fl s (runSpbLoad c s) :=
  goesOn_powered fun _ h => hostRun_keeps h
theorem runSafeStatus_keeps {fl : Bool} {c : Cmd} {s : State} : GoesOn fl s (runSafeStatus c s) :=
  goesOn_powered fun _ h => hostRun_keeps h
theorem runSafeTest_keeps {fl : Bool} {c : Cmd} {s : State} : GoesOn fl s (runSafeTest c s) :=
  goesOn_powered fun _ h => hostRun_keeps h
theorem runLoopCfg_keeps {fl : Bool} {c : Cmd} {s : State} : GoesOn fl s (runLoopCfg c s) :=
  goesOn_powered fun _ h => hostRun_keeps h
theorem runLoopEnable_keeps {fl : Bool} {c : Cmd} {s : State} : GoesOn fl s (runLoopEnable c s) :=
  goesOn_powered fun _ h => hostRun_keeps h
theorem runLoopDisable_keeps {fl : Bool} {c : Cmd} {s : State} : GoesOn fl s (runLoopDisable c s) :=
  goesOn_powered fun _ h => hostRun_keeps h
theorem runSetpoint_keeps {fl : Bool} {c : Cmd} {s : State} : GoesOn fl s (runSetpoint c s) :=
  goesOn_powered fun _ h => hostRun_keeps h
theorem runLoopHold_keeps {fl : Bool} {c : Cmd} {s : State} : GoesOn fl s (runLoopHold c s) :=
  goesOn_powered fun _ h => hostRun_keeps h
theorem runTraceArm_keeps {fl : Bool} {c : Cmd} {s : State} : GoesOn fl s (runTraceArm c s) :=
  goesOn_powered fun _ h => hostRun_keeps h
theorem runTraceRead_keeps {fl : Bool} {c : Cmd} {s : State} : GoesOn fl s (runTraceRead c s) :=
  goesOn_powered fun _ h => hostRun_keeps h
theorem runAdcSeqCfg_keeps {fl : Bool} {c : Cmd} {s : State} : GoesOn fl s (runAdcSeqCfg c s) :=
  goesOn_powered fun _ h => hostRun_keeps h
theorem runAdcStart_keeps {fl : Bool} {c : Cmd} {s : State} : GoesOn fl s (runAdcStart c s) :=
  goesOn_powered fun _ h => hostRun_keeps h
theorem runAdcStop_keeps {fl : Bool} {c : Cmd} {s : State} : GoesOn fl s (runAdcStop c s) :=
  goesOn_powered fun _ h => hostRun_keeps h
theorem runTempMeasure_keeps {fl : Bool} {c : Cmd} {s : State} : GoesOn fl s (runTempMeasure c s) :=
  goesOn_powered fun _ h => hostRun_keeps h
theorem runCalRun_keeps {fl : Bool} {c : Cmd} {s : State} : GoesOn fl s (runCalRun c s) :=
  goesOn_powered fun _ h => hostRun_keeps h
theorem runCalRead_keeps {fl : Bool} {c : Cmd} {s : State} : GoesOn fl s (runCalRead c s) :=
  goesOn_powered fun _ h => hostRun_keeps h
theorem runCalWrite_keeps {fl : Bool} {c : Cmd} {s : State} : GoesOn fl s (runCalWrite c s) :=
  goesOn_powered fun _ h => hostRun_keeps h
theorem runPowerEnter_keeps {fl : Bool} {c : Cmd} {s : State} : GoesOn fl s (runPowerEnter c s) :=
  goesOn_powered fun _ h => hostRun_keeps h
theorem runPowerQuery_keeps {fl : Bool} {c : Cmd} {s : State} : GoesOn fl s (runPowerQuery c s) :=
  goesOn_powered fun _ h => hostRun_keeps h
theorem runVscale_keeps {fl : Bool} {c : Cmd} {s : State} : GoesOn fl s (runVscale c s) :=
  goesOn_powered fun _ h => hostRun_keeps h
theorem runFaultRead_keeps {fl : Bool} {c : Cmd} {s : State} : GoesOn fl s (runFaultRead c s) :=
  goesOn_powered fun _ h => hostRun_keeps h
theorem runFaultClear_keeps {fl : Bool} {c : Cmd} {s : State} : GoesOn fl s (runFaultClear c s) :=
  goesOn_powered fun _ h => hostRun_keeps h
theorem runFaultCfg_keeps {fl : Bool} {c : Cmd} {s : State} : GoesOn fl s (runFaultCfg c s) :=
  goesOn_powered fun _ h => hostRun_keeps h
theorem runHealthRead_keeps {fl : Bool} {c : Cmd} {s : State} : GoesOn fl s (runHealthRead c s) :=
  goesOn_powered fun _ h => hostRun_keeps h
theorem runSpareForce_keeps {fl : Bool} {c : Cmd} {s : State} : GoesOn fl s (runSpareForce c s) :=
  goesOn_powered fun _ h => hostRun_keeps h
theorem runProofReq_keeps {fl : Bool} {c : Cmd} {s : State} : GoesOn fl s (runProofReq c s) :=
  goesOn_powered fun _ h => hostRun_keeps h
theorem runCrcRun_keeps {fl : Bool} {c : Cmd} {s : State} : GoesOn fl s (runCrcRun c s) :=
  goesOn_powered fun _ h => hostRun_keeps h
theorem runLinkTest_keeps {fl : Bool} {c : Cmd} {s : State} : GoesOn fl s (runLinkTest c s) :=
  goesOn_powered fun _ h => hostRun_keeps h
theorem runLinkInject_keeps {fl : Bool} {c : Cmd} {s : State} : GoesOn fl s (runLinkInject c s) :=
  goesOn_powered fun _ h => hostRun_keeps h
theorem runChanCfg_keeps {fl : Bool} {c : Cmd} {s : State} : GoesOn fl s (runChanCfg c s) :=
  goesOn_powered fun _ h => hostRun_keeps h
theorem runChanQuery_keeps {fl : Bool} {c : Cmd} {s : State} : GoesOn fl s (runChanQuery c s) :=
  goesOn_powered fun _ h => hostRun_keeps h
theorem runFwPatchLoad_keeps {fl : Bool} {c : Cmd} {s : State} : GoesOn fl s (runFwPatchLoad c s) :=
  goesOn_powered fun _ h => hostRun_keeps h
theorem runFwPatchActivate_keeps {fl : Bool} {c : Cmd} {s : State} : GoesOn fl s (runFwPatchActivate c s) :=
  goesOn_powered fun _ h => hostRun_keeps h
theorem runStateRead_keeps {fl : Bool} {c : Cmd} {s : State} : GoesOn fl s (runStateRead c s) :=
  goesOn_powered fun _ h => hostRun_keeps h
theorem runResync_keeps {fl : Bool} {c : Cmd} {s : State} : GoesOn fl s (runResync c s) :=
  goesOn_powered fun _ h => hostRun_keeps h
theorem runDeviceInfo_keeps {fl : Bool} {c : Cmd} {s : State} : GoesOn fl s (runDeviceInfo c s) :=
  goesOn_powered fun _ h => hostRun_keeps h
theorem runDataPacket_keeps {fl : Bool} {d : DataPkt} {s : State} : GoesOn fl s (runDataPacket d s) :=
  goesOn_powered fun _ h => execDataPacket_keeps h
theorem runXferTimeout_keeps {fl : Bool} {p : Port} {ch : BitVec 8} {s : State} : GoesOn fl s (runXferTimeout p ch s) :=
  goesOn_powered fun _ h => execXferTimeout_keeps h
theorem runChanTimeout_keeps {fl : Bool} {ch : BitVec 8} {s : State} : GoesOn fl s (runChanTimeout ch s) :=
  goesOn_powered fun _ h => execChanTimeout_keeps h
theorem runDupHoldExpiry_keeps {fl : Bool} {ch : BitVec 8} {s : State} : GoesOn fl s (runDupHoldExpiry ch s) :=
  goesOn_powered fun _ h => execDupHoldExpiry_keeps h
theorem runThimbleLeaseExpiry_keeps {fl : Bool} {t : Fin 8} {s : State} : GoesOn fl s (runThimbleLeaseExpiry t s) :=
  goesOn_powered fun _ h => execThimbleLeaseExpiry_keeps h
theorem runThimbleWaitExpiry_keeps {fl : Bool} {t : Fin 8} {s : State} : GoesOn fl s (runThimbleWaitExpiry t s) :=
  goesOn_powered fun _ h => execThimbleWaitExpiry_keeps h
theorem runFenceRelease_keeps {fl : Bool} {s : State} : GoesOn fl s (runFenceRelease s) :=
  goesOn_powered fun _ h => execFenceRelease_keeps h
theorem runWriteGroupApply_keeps {fl : Bool} {core : Fin 2} {epoch : BitVec 15} {jseq : Word} {writes : List RegWrite} {reply : Option Reply} {s : State} : GoesOn fl s (runWriteGroupApply core epoch jseq writes reply s) :=
  goesOn_powered fun _ h => execWriteGroupApply_keeps h
theorem runStaleWriteReject_keeps {fl : Bool} {core : Fin 2} {epoch : BitVec 15} {s : State} : GoesOn fl s (runStaleWriteReject core epoch s) :=
  goesOn_powered fun _ h => execStaleWriteReject_keeps h
theorem runCoreBeat_keeps {fl : Bool} {core : Fin 2} {s : State} : GoesOn fl s (runCoreBeat core s) :=
  goesOn_powered fun _ h => execCoreBeat_keeps h
theorem runCoreHbTimeout_keeps {fl : Bool} {core : Fin 2} {tie : Bool} {s : State} : GoesOn fl s (runCoreHbTimeout core tie s) :=
  goesOn_powered fun _ h => execCoreHbTimeout_keeps h
theorem runCoreRestartDone_keeps {fl : Bool} {core : Fin 2} {s : State} : GoesOn fl s (runCoreRestartDone core s) :=
  goesOn_powered fun _ h => execCoreRestartDone_keeps h
theorem runRecoveryEnd_keeps {fl : Bool} {s : State} : GoesOn fl s (runRecoveryEnd s) :=
  goesOn_powered fun _ h => execRecoveryEnd_keeps h
theorem runCheckpointCommit_keeps {fl : Bool} {body : List Word} {s : State} : GoesOn fl s (runCheckpointCommit body s) :=
  goesOn_powered fun _ h => execCheckpointCommit_keeps h
theorem runBasteStart_keeps {fl : Bool} {core : Fin 2} {errs : List EccErr} {s : State} : GoesOn fl s (runBasteStart core errs s) :=
  goesOn_powered fun _ h => execBasteStart_keeps h
theorem runBasteJoin_keeps {fl : Bool} {core : Fin 2} {errs : List EccErr} {s : State} : GoesOn fl s (runBasteJoin core errs s) :=
  goesOn_powered fun _ h => execBasteJoin_keeps h
theorem runBasteTimeout_keeps {fl : Bool} {s : State} : GoesOn fl s (runBasteTimeout s) :=
  goesOn_powered fun _ h => execBasteTimeout_keeps h
theorem runHeartbeatBeat_keeps {fl : Bool} {p : Port} {s : State} : GoesOn fl s (runHeartbeatBeat p s) :=
  goesOn_powered fun _ h => execHeartbeatBeat_keeps h
theorem runHostHbTimeout_keeps {fl : Bool} {p : Port} {s : State} : GoesOn fl s (runHostHbTimeout p s) :=
  goesOn_powered fun _ h => execHostHbTimeout_keeps h
theorem runLaneSignalDetect_keeps {fl : Bool} {p : Port} {s : State} : GoesOn fl s (runLaneSignalDetect p s) :=
  goesOn_powered fun _ h => execLaneSignalDetect_keeps h
theorem runTrainingSetReceive_keeps {fl : Bool} {p : Port} {t0 t1 : TrainSet} {run sent skew : Nat} {s : State} : GoesOn fl s (runTrainingSetReceive p t0 t1 run sent skew s) :=
  goesOn_powered fun _ h => execTrainingSetReceive_keeps h
theorem runTrainingTimeout_keeps {fl : Bool} {p : Port} {s : State} : GoesOn fl s (runTrainingTimeout p s) :=
  goesOn_powered fun _ h => execTrainingTimeout_keeps h
theorem runCodeViolationLimit_keeps {fl : Bool} {p : Port} {bad misplaced : Nat} {s : State} : GoesOn fl s (runCodeViolationLimit p bad misplaced s) :=
  goesOn_powered fun _ h => execCodeViolationLimit_keeps h
theorem runRetrainTimeout_keeps {fl : Bool} {p : Port} {s : State} : GoesOn fl s (runRetrainTimeout p s) :=
  goesOn_powered fun _ h => execRetrainTimeout_keeps h
theorem runLinkPacketReceive_keeps {fl : Bool} {p : Port} {l0 l1 : List Byte} {edb : Bool} {errs : List EccErr} {s : State} : GoesOn fl s (runLinkPacketReceive p l0 l1 edb errs s) :=
  goesOn_powered fun _ h => execLinkPacketReceive_keeps h
theorem runAckLatencyExpiry_keeps {fl : Bool} {p : Port} {s : State} : GoesOn fl s (runAckLatencyExpiry p s) :=
  goesOn_powered fun _ h => execAckLatencyExpiry_keeps h
theorem runAck_keeps {fl : Bool} {p : Port} {v : BitVec 16} {s : State} : GoesOn fl s (runAck p v s) :=
  goesOn_powered fun _ h => execAck_keeps h
theorem runNak_keeps {fl : Bool} {p : Port} {v : BitVec 16} {s : State} : GoesOn fl s (runNak p v s) :=
  goesOn_powered fun _ h => execNak_keeps h
theorem runCredit_keeps {fl : Bool} {p : Port} {v : BitVec 16} {s : State} : GoesOn fl s (runCredit p v s) :=
  goesOn_powered fun _ h => execCredit_keeps h
theorem runReplayTimeout_keeps {fl : Bool} {p : Port} {s : State} : GoesOn fl s (runReplayTimeout p s) :=
  goesOn_powered fun _ h => execReplayTimeout_keeps h
theorem runCreditAdvertise_keeps {fl : Bool} {p : Port} {s : State} : GoesOn fl s (runCreditAdvertise p s) :=
  goesOn_powered fun _ h => execCreditAdvertise_keeps h
theorem runCreditStallTimeout_keeps {fl : Bool} {p : Port} {s : State} : GoesOn fl s (runCreditStallTimeout p s) :=
  goesOn_powered fun _ h => execCreditStallTimeout_keeps h
theorem runPacketTransmit_keeps {fl : Bool} {p : Port} {errs : List EccErr} {s : State} : GoesOn fl s (runPacketTransmit p errs s) :=
  goesOn_powered fun _ h => execPacketTransmit_keeps h
theorem runSkipSetDue_keeps {fl : Bool} {p : Port} {s : State} : GoesOn fl s (runSkipSetDue p s) :=
  goesOn_powered fun _ h => execSkipSetDue_keeps h
theorem runL1IdleExpiry_keeps {fl : Bool} {p : Port} {s : State} : GoesOn fl s (runL1IdleExpiry p s) :=
  goesOn_powered fun _ h => execL1IdleExpiry_keeps h
theorem runL1Req_keeps {fl : Bool} {p : Port} {s : State} : GoesOn fl s (runL1Req p s) :=
  goesOn_powered fun _ h => execL1Req_keeps h
theorem runL1Ack_keeps {fl : Bool} {p : Port} {s : State} : GoesOn fl s (runL1Ack p s) :=
  goesOn_powered fun _ h => execL1Ack_keeps h
theorem runL1Nak_keeps {fl : Bool} {p : Port} {s : State} : GoesOn fl s (runL1Nak p s) :=
  goesOn_powered fun _ h => execL1Nak_keeps h
theorem runL2Req_keeps {fl : Bool} {p : Port} {s : State} : GoesOn fl s (runL2Req p s) :=
  goesOn_powered fun _ h => execL2Req_keeps h
theorem runL2Ack_keeps {fl : Bool} {p : Port} {s : State} : GoesOn fl s (runL2Ack p s) :=
  goesOn_powered fun _ h => execL2Ack_keeps h
theorem runL2Nak_keeps {fl : Bool} {p : Port} {s : State} : GoesOn fl s (runL2Nak p s) :=
  goesOn_powered fun _ h => execL2Nak_keeps h
theorem runL1Exit_keeps {fl : Bool} {p : Port} {s : State} : GoesOn fl s (runL1Exit p s) :=
  goesOn_powered fun _ h => execL1Exit_keeps h
theorem runL2Wake_keeps {fl : Bool} {p : Port} {s : State} : GoesOn fl s (runL2Wake p s) :=
  goesOn_powered fun _ h => execL2Wake_keeps h
theorem runEngineL2Exit_keeps {fl : Bool} {p : Port} {s : State} : GoesOn fl s (runEngineL2Exit p s) :=
  goesOn_powered fun _ h => execEngineL2Exit_keeps h
theorem runWakePatternEnd_keeps {fl : Bool} {p : Port} {s : State} : GoesOn fl s (runWakePatternEnd p s) :=
  goesOn_powered fun _ h => execWakePatternEnd_keeps h
theorem runPortStopComplete_keeps {fl : Bool} {p : Port} {s : State} : GoesOn fl s (runPortStopComplete p s) :=
  goesOn_powered fun _ h => execPortStopComplete_keeps h
theorem runLinkTestEnd_keeps {fl : Bool} {e0 : Nat} {e1 : Nat} {e2 : Nat} {e3 : Nat} {s : State} : GoesOn fl s (runLinkTestEnd e0 e1 e2 e3 s) :=
  goesOn_powered fun _ h => execLinkTestEnd_keeps h
theorem runEyeMeasure_keeps {fl : Bool} {lane : Fin 4} {width : BitVec 8} {s : State} : GoesOn fl s (runEyeMeasure lane width s) :=
  goesOn_powered fun _ h => execEyeMeasure_keeps h
theorem runPortEnable_keeps {fl : Bool} {p : Port} {s : State} : GoesOn fl s (runPortEnable p s) :=
  goesOn_powered fun _ h => execPortEnable_keeps h
theorem runPortDisable_keeps {fl : Bool} {p : Port} {s : State} : GoesOn fl s (runPortDisable p s) :=
  goesOn_powered fun _ h => execPortDisable_keeps h
theorem runPortRetrain_keeps {fl : Bool} {p : Port} {s : State} : GoesOn fl s (runPortRetrain p s) :=
  goesOn_powered fun _ h => execPortRetrain_keeps h
theorem runAttnClear_keeps {fl : Bool} {p : Port} {mask : BitVec 4} {tie : Bool} {s : State} : GoesOn fl s (runAttnClear p mask tie s) :=
  goesOn_powered fun _ h => execAttnClear_keeps h
theorem runHlxCntClr_keeps {fl : Bool} {p : Port} {s : State} : GoesOn fl s (runHlxCntClr p s) :=
  goesOn_powered fun _ h => execHlxCntClr_keeps h
theorem runLmeCntClr_keeps {fl : Bool} {s : State} : GoesOn fl s (runLmeCntClr s) :=
  goesOn_powered fun _ h => execLmeCntClr_keeps h
theorem runFsyncEdge_keeps {fl : Bool} {rise : Nat} {high : Nat} {s : State} : GoesOn fl s (runFsyncEdge rise high s) :=
  goesOn_powered fun _ h => execFsyncEdge_keeps h
theorem runFsyncWindowEnd_keeps {fl : Bool} {s : State} : GoesOn fl s (runFsyncWindowEnd s) :=
  goesOn_powered fun _ h => execFsyncWindowEnd_keeps h
theorem runAcquireTimeout_keeps {fl : Bool} {at_ : Nat} {s : State} : GoesOn fl s (runAcquireTimeout at_ s) :=
  goesOn_powered fun _ h => execAcquireTimeout_keeps h
theorem runRelockTimeout_keeps {fl : Bool} {s : State} : GoesOn fl s (runRelockTimeout s) :=
  goesOn_powered fun _ h => execRelockTimeout_keeps h
theorem runScnRunStart_keeps {fl : Bool} {s : State} : GoesOn fl s (runScnRunStart s) :=
  goesOn_powered fun _ h => execScnRunStart_keeps h
theorem runScnRunStop_keeps {fl : Bool} {s : State} : GoesOn fl s (runScnRunStop s) :=
  goesOn_powered fun _ h => execScnRunStop_keeps h
theorem runSoEn_keeps {fl : Bool} {on : Bool} {s : State} : GoesOn fl s (runSoEn on s) :=
  goesOn_powered fun _ h => execSoEn_keeps h
theorem runScnCntClr_keeps {fl : Bool} {s : State} : GoesOn fl s (runScnCntClr s) :=
  goesOn_powered fun _ h => execScnCntClr_keeps h
theorem runSyncOutRise_keeps {fl : Bool} {s : State} : GoesOn fl s (runSyncOutRise s) :=
  goesOn_powered fun _ h => execSyncOutRise_keeps h
theorem runSyncOutFall_keeps {fl : Bool} {s : State} : GoesOn fl s (runSyncOutFall s) :=
  goesOn_powered fun _ h => execSyncOutFall_keeps h
theorem runTick_keeps {s : State} : GoesOn false s (runTick s) :=
  goesOn_powered fun _ h => execTick_keeps h
theorem runThmAutoDemand_keeps {fl : Bool} {s : State} : GoesOn fl s (runThmAutoDemand s) :=
  goesOn_powered fun _ h => execThmAutoDemand_keeps h
theorem runSlotPeriodStart_keeps {fl : Bool} {errs : List EccErr} {s : State} : GoesOn fl s (runSlotPeriodStart errs s) :=
  goesOn_powered fun _ h => execSlotPeriodStart_keeps h
theorem runLoad_keeps {fl : Bool} {q : Fin 4} {errs : List EccErr} {s : State} : GoesOn fl s (runLoad q errs s) :=
  goesOn_powered fun _ h => execLoad_keeps h
theorem runTransfer_keeps {q : Fin 4} {sns : Bool} {errs : List EccErr} {s : State} : GoesOn false s (runTransfer q sns errs s) :=
  goesOn_powered fun _ h => execTransfer_keeps h
theorem runMeas_keeps {fl : Bool} {q : Fin 4} {hr : List Nat} {vf : List Nat} {errs : List EccErr} {s : State} : GoesOn fl s (runMeas q hr vf errs s) :=
  goesOn_powered fun _ h => execMeas_keeps h
theorem runProof_keeps {fl : Bool} {q : Fin 4} {errs : List EccErr} {s : State} : GoesOn fl s (runProof q errs s) :=
  goesOn_powered fun _ h => execProof_keeps h
theorem runProofListFix_keeps {fl : Bool} {scan : Nat} {reach : Nat} {errs : List EccErr} {s : State} : GoesOn fl s (runProofListFix scan reach errs s) :=
  goesOn_powered fun _ h => execProofListFix_keeps h
theorem runOffpulse_keeps {fl : Bool} {q : Fin 4} {b : OffObs} {errs : List EccErr} {s : State} : GoesOn fl s (runOffpulse q b errs s) :=
  goesOn_powered fun _ h => execOffpulse_keeps h
theorem runDarkscan_keeps {fl : Bool} {q : Fin 4} {sense : BitVec 8} {errs : List EccErr} {s : State} : GoesOn fl s (runDarkscan q sense errs s) :=
  goesOn_powered fun _ h => execDarkscan_keeps h
theorem runTempDemand_keeps {fl : Bool} {q : Fin 4} {tie : Bool} {errs : List EccErr} {s : State} : GoesOn fl s (runTempDemand q tie errs s) :=
  goesOn_powered fun _ h => execTempDemand_keeps h
theorem runAdcTrig_keeps {fl : Bool} {q : Fin 4} {errs : List EccErr} {s : State} : GoesOn fl s (runAdcTrig q errs s) :=
  goesOn_powered fun _ h => execAdcTrig_keeps h
theorem runCalWin_keeps {fl : Bool} {q : Fin 4} {es : List ColErr} {errs : List EccErr} {s : State} : GoesOn fl s (runCalWin q es errs s) :=
  goesOn_powered fun _ h => execCalWin_keeps h
theorem runLoopFf_keeps {fl : Bool} {q : Fin 4} {errs : List EccErr} {s : State} : GoesOn fl s (runLoopFf q errs s) :=
  goesOn_powered fun _ h => execLoopFf_keeps h
theorem runFfApply_keeps {fl : Bool} {s : State} : GoesOn fl s (runFfApply s) :=
  goesOn_powered fun _ h => execFfApply_keeps h
theorem runPatternSel_keeps {fl : Bool} {q : Fin 4} {errs : List EccErr} {s : State} : GoesOn fl s (runPatternSel q errs s) :=
  goesOn_powered fun _ h => execPatternSel_keeps h
theorem runStagger_keeps {fl : Bool} {q : Fin 4} {errs : List EccErr} {s : State} : GoesOn fl s (runStagger q errs s) :=
  goesOn_powered fun _ h => execStagger_keeps h
theorem runEnd_keeps {fl : Bool} {q : Fin 4} {errs : List EccErr} {s : State} : GoesOn fl s (runEnd q errs s) :=
  goesOn_powered fun _ h => execEnd_keeps h
theorem runCompositionStart_keeps {fl : Bool} {s : State} : GoesOn fl s (runCompositionStart s) :=
  goesOn_powered fun _ h => execCompositionStart_keeps h
theorem runCompositionComplete_keeps {fl : Bool} {errs : List EccErr} {s : State} : GoesOn fl s (runCompositionComplete errs s) :=
  goesOn_powered fun _ h => execCompositionComplete_keeps h
theorem runSafeMsgWindowEnd_keeps {fl : Bool} {s : State} : GoesOn fl s (runSafeMsgWindowEnd s) :=
  goesOn_powered fun _ h => execSafeMsgWindowEnd_keeps h
theorem runSafeReqQualify_keeps {fl : Bool} {s : State} : GoesOn fl s (runSafeReqQualify s) :=
  goesOn_powered fun _ h => execSafeReqQualify_keeps h
theorem runSafeReqEnd_keeps {fl : Bool} {s : State} : GoesOn fl s (runSafeReqEnd s) :=
  goesOn_powered fun _ h => execSafeReqEnd_keeps h
theorem runSafeOffTimeout_keeps {fl : Bool} {s : State} : GoesOn fl s (runSafeOffTimeout s) :=
  goesOn_powered fun _ h => execSafeOffTimeout_keeps h
theorem runSafeSnsTimeout_keeps {fl : Bool} {sns : Bool} {s : State} : GoesOn fl s (runSafeSnsTimeout sns s) :=
  goesOn_powered fun _ h => execSafeSnsTimeout_keeps h
theorem runStrapLatch_keeps {fl : Bool} {v0 v1 : BitVec 16} {s : State} : GoesOn fl s (runStrapLatch v0 v1 s) :=
  goesOn_powered fun _ h => execStrapLatch_keeps h
theorem runStrapRead_keeps {fl : Bool} {v0 v1 : BitVec 16} {s : State} : GoesOn fl s (runStrapRead v0 v1 s) :=
  ⟨_, rfl, Keeps.ite (execStrapRead_keeps (Keeps.refl _ _)) (Keeps.refl _ _)⟩
theorem runSelfCheck_keeps {fl : Bool} {code : Fin 6} {fails : Bool} {s : State} : GoesOn fl s (runSelfCheck code fails s) :=
  goesOn_powered fun _ h => execSelfCheck_keeps h
theorem runBootSelfCheckDone_keeps {fl : Bool} {s : State} : GoesOn fl s (runBootSelfCheckDone s) :=
  goesOn_powered fun _ h => execBootSelfCheckDone_keeps h
theorem runAliveToggle_keeps {fl : Bool} {s : State} : GoesOn fl s (runAliveToggle s) :=
  goesOn_powered fun _ h => execAliveToggle_keeps h
theorem runSpbSealDone_keeps {fl : Bool} {s : State} : GoesOn fl s (runSpbSealDone s) :=
  goesOn_powered fun _ h => execSpbSealDone_keeps h
theorem runSmcCntClr_keeps {fl : Bool} {s : State} : GoesOn fl s (runSmcCntClr s) :=
  goesOn_powered fun _ h => execSmcCntClr_keeps h
theorem runRetireWrite_keeps {fl : Bool} {errs : List EccErr} {s : State} : GoesOn fl s (runRetireWrite errs s) :=
  goesOn_powered fun _ h => execRetireWrite_keeps h
theorem runPxhStuckClear_keeps {fl : Bool} {mask : BitVec 8} {tie : Bool} {s : State} : GoesOn fl s (runPxhStuckClear mask tie s) :=
  goesOn_powered fun _ h => execPxhStuckClear_keeps h
theorem runPxhCntClr_keeps {fl : Bool} {s : State} : GoesOn fl s (runPxhCntClr s) :=
  goesOn_powered fun _ h => execPxhCntClr_keeps h
theorem runThmConversion_keeps {fl : Bool} {counts : List (Fin 72 × BitVec 20)} {s : State} : GoesOn fl s (runThmConversion counts s) :=
  goesOn_powered fun _ h => execThmConversion_keeps h
theorem runXchkRun_keeps {fl : Bool} {s : State} : GoesOn fl s (runXchkRun s) :=
  goesOn_powered fun _ h => execXchkRun_keeps h
theorem runXchkEnd_keeps {fl : Bool} {counts : List (Fin 72 × BitVec 20)} {s : State} : GoesOn fl s (runXchkEnd counts s) :=
  goesOn_powered fun _ h => execXchkEnd_keeps h
theorem runThmBrokenClear_keeps {fl : Bool} {n : Fin 3} {mask : Word} {tie : Bool} {s : State} : GoesOn fl s (runThmBrokenClear n mask tie s) :=
  goesOn_powered fun _ h => execThmBrokenClear_keeps h
theorem runThmCntClr_keeps {fl : Bool} {s : State} : GoesOn fl s (runThmCntClr s) :=
  goesOn_powered fun _ h => execThmCntClr_keeps h
theorem runLoopSlotConversion_keeps {fl : Bool} {x : LoopSlot} {s : State} : GoesOn fl s (runLoopSlotConversion x s) :=
  goesOn_powered fun _ h => execLoopSlotConversion_keeps h
theorem runPhaseOcTrip_keeps {fl : Bool} {k : Fin 6} {s : State} : GoesOn fl s (runPhaseOcTrip k s) :=
  goesOn_powered fun _ h => execPhaseOcTrip_keeps h
theorem runPhaseOcPersist_keeps {fl : Bool} {k : Fin 6} {s : State} : GoesOn fl s (runPhaseOcPersist k s) :=
  goesOn_powered fun _ h => execPhaseOcPersist_keeps h
theorem runRailAutoStart_keeps {fl : Bool} {sns : Bool} {s : State} : GoesOn fl s (runRailAutoStart sns s) :=
  goesOn_powered fun _ h => execRailAutoStart_keeps h
theorem runRailOn_keeps {fl : Bool} {s : State} : GoesOn fl s (runRailOn s) :=
  goesOn_powered fun _ h => execRailOn_keeps h
theorem runRailStartTimeout_keeps {fl : Bool} {s : State} : GoesOn fl s (runRailStartTimeout s) :=
  goesOn_powered fun _ h => execRailStartTimeout_keeps h
theorem runRailStopComplete_keeps {fl : Bool} {s : State} : GoesOn fl s (runRailStopComplete s) :=
  goesOn_powered fun _ h => execRailStopComplete_keeps h
theorem runRailSenseLost_keeps {fl : Bool} {b : Bool} {s : State} : GoesOn fl s (runRailSenseLost b s) :=
  goesOn_powered fun _ h => execRailSenseLost_keeps h
theorem runRailSenseFrozen_keeps {fl : Bool} {b : Bool} {s : State} : GoesOn fl s (runRailSenseFrozen b s) :=
  goesOn_powered fun _ h => execRailSenseFrozen_keeps h
theorem runLoopIntSat_keeps {fl : Bool} {s : State} : GoesOn fl s (runLoopIntSat s) :=
  goesOn_powered fun _ h => execLoopIntSat_keeps h
theorem runRailOv_keeps {fl : Bool} {b : Bool} {s : State} : GoesOn fl s (runRailOv b s) :=
  goesOn_powered fun _ h => execRailOv_keeps h
theorem runRailUv_keeps {fl : Bool} {s : State} : GoesOn fl s (runRailUv s) :=
  goesOn_powered fun _ h => execRailUv_keeps h
theorem runLoopHoldExpiry_keeps {fl : Bool} {s : State} : GoesOn fl s (runLoopHoldExpiry s) :=
  goesOn_powered fun _ h => execLoopHoldExpiry_keeps h
theorem runProfileTick_keeps {fl : Bool} {lvl : Bool} {s : State} : GoesOn fl s (runProfileTick lvl s) :=
  goesOn_powered fun _ h => execProfileTick_keeps h
theorem runLvlOn_keeps {fl : Bool} {s : State} : GoesOn fl s (runLvlOn s) :=
  goesOn_powered fun _ h => execLvlOn_keeps h
theorem runLvlStartTimeout_keeps {fl : Bool} {s : State} : GoesOn fl s (runLvlStartTimeout s) :=
  goesOn_powered fun _ h => execLvlStartTimeout_keeps h
theorem runLvlStopComplete_keeps {fl : Bool} {s : State} : GoesOn fl s (runLvlStopComplete s) :=
  goesOn_powered fun _ h => execLvlStopComplete_keeps h
theorem runLvlFbLost_keeps {fl : Bool} {s : State} : GoesOn fl s (runLvlFbLost s) :=
  goesOn_powered fun _ h => execLvlFbLost_keeps h
theorem runLvlFbFrozen_keeps {fl : Bool} {s : State} : GoesOn fl s (runLvlFbFrozen s) :=
  goesOn_powered fun _ h => execLvlFbFrozen_keeps h
theorem runLvlLimit_keeps {fl : Bool} {s : State} : GoesOn fl s (runLvlLimit s) :=
  goesOn_powered fun _ h => execLvlLimit_keeps h
theorem runFanTachEdge_keeps {fl : Bool} {us : Nat} {s : State} : GoesOn fl s (runFanTachEdge us s) :=
  goesOn_powered fun _ h => execFanTachEdge_keeps h
theorem runFanTachTimeout_keeps {fl : Bool} {s : State} : GoesOn fl s (runFanTachTimeout s) :=
  goesOn_powered fun _ h => execFanTachTimeout_keeps h
theorem runFanDutyUpdate_keeps {fl : Bool} {s : State} : GoesOn fl s (runFanDutyUpdate s) :=
  goesOn_powered fun _ h => execFanDutyUpdate_keeps h
theorem runFanKickEnd_keeps {fl : Bool} {s : State} : GoesOn fl s (runFanKickEnd s) :=
  goesOn_powered fun _ h => execFanKickEnd_keeps h
theorem runFanStopComplete_keeps {fl : Bool} {s : State} : GoesOn fl s (runFanStopComplete s) :=
  goesOn_powered fun _ h => execFanStopComplete_keeps h
theorem runLe0En_keeps {fl : Bool} {on : Bool} {s : State} : GoesOn fl s (runLe0En on s) :=
  goesOn_powered fun _ h => execLe0En_keeps h
theorem runLvlEn_keeps {fl : Bool} {on : Bool} {s : State} : GoesOn fl s (runLvlEn on s) :=
  goesOn_powered fun _ h => execLvlEn_keeps h
theorem runFanEn_keeps {fl : Bool} {on : Bool} {s : State} : GoesOn fl s (runFanEn on s) :=
  goesOn_powered fun _ h => execFanEn_keeps h
theorem runLe0SetSelWrite_keeps {fl : Bool} {v : BitVec 3} {s : State} : GoesOn fl s (runLe0SetSelWrite v s) :=
  goesOn_powered fun _ h => execLe0SetSelWrite_keeps h
theorem runLe0FbClear_keeps {fl : Bool} {mask : BitVec 4} {tie : Bool} {s : State} : GoesOn fl s (runLe0FbClear mask tie s) :=
  goesOn_powered fun _ h => execLe0FbClear_keeps h
theorem runLe1FbClear_keeps {fl : Bool} {mask : BitVec 3} {tie : Bool} {s : State} : GoesOn fl s (runLe1FbClear mask tie s) :=
  goesOn_powered fun _ h => execLe1FbClear_keeps h
theorem runLe0CntClr_keeps {fl : Bool} {s : State} : GoesOn fl s (runLe0CntClr s) :=
  goesOn_powered fun _ h => execLe0CntClr_keeps h
theorem runAdcTimerTrigger_keeps {fl : Bool} {n : Fin 8} {s : State} : GoesOn fl s (runAdcTimerTrigger n s) :=
  goesOn_powered fun _ h => execAdcTimerTrigger_keeps h
theorem runAdcEntryComplete_keeps {fl : Bool} {n : Fin 8} {convs : List Conv} {s : State} : GoesOn fl s (runAdcEntryComplete n convs s) :=
  goesOn_powered fun _ h => execAdcEntryComplete_keeps h
theorem runBobbinBlockAccept_keeps {fl : Bool} {n : Fin 8} {s : State} : GoesOn fl s (runBobbinBlockAccept n s) :=
  goesOn_powered fun _ h => execBobbinBlockAccept_keeps h
theorem runAdcSeqOn_keeps {fl : Bool} {n : Fin 8} {s : State} : GoesOn fl s (runAdcSeqOn n s) :=
  goesOn_powered fun _ h => execAdcSeqOn_keeps h
theorem runAdcSeqOff_keeps {fl : Bool} {n : Fin 8} {s : State} : GoesOn fl s (runAdcSeqOff n s) :=
  goesOn_powered fun _ h => execAdcSeqOff_keeps h
theorem runAdcSqEn_keeps {fl : Bool} {n : Fin 8} {on : Bool} {s : State} : GoesOn fl s (runAdcSqEn n on s) :=
  goesOn_powered fun _ h => execAdcSqEn_keeps h
theorem runAdcRptrWrite_keeps {fl : Bool} {n : Fin 8} {v : BitVec 24} {s : State} : GoesOn fl s (runAdcRptrWrite n v s) :=
  goesOn_powered fun _ h => execAdcRptrWrite_keeps h
theorem runAdcCntClr_keeps {fl : Bool} {s : State} : GoesOn fl s (runAdcCntClr s) :=
  goesOn_powered fun _ h => execAdcCntClr_keeps h
theorem runFaultEvent_keeps {fl : Bool} {src : BitVec 8} {sev : BitVec 2} {detail : Word} {drop : Bool} {s : State} : GoesOn fl s (runFaultEvent src sev detail drop s) :=
  goesOn_powered fun _ h => execFaultEvent_keeps h
theorem runFcrCntClr_keeps {fl : Bool} {s : State} : GoesOn fl s (runFcrCntClr s) :=
  goesOn_powered fun _ h => execFcrCntClr_keeps h
theorem runCmdCntClr_keeps {fl : Bool} {s : State} : GoesOn fl s (runCmdCntClr s) :=
  goesOn_powered fun _ h => execCmdCntClr_keeps h
theorem runKeyLoad_keeps {fl : Bool} {mask : BitVec 8} {s : State} : GoesOn fl s (runKeyLoad mask s) :=
  goesOn_powered fun _ h => execKeyLoad_keeps h
theorem runKeyClr_keeps {fl : Bool} {mask : BitVec 8} {s : State} : GoesOn fl s (runKeyClr mask s) :=
  goesOn_powered fun _ h => execKeyClr_keeps h
theorem runCcxCkpt_keeps {fl : Bool} {s : State} : GoesOn fl s (runCcxCkpt s) :=
  goesOn_powered fun _ h => execCcxCkpt_keeps h
theorem runCcxSwap_keeps {fl : Bool} {s : State} : GoesOn fl s (runCcxSwap s) :=
  goesOn_powered fun _ h => execCcxSwap_keeps h
theorem runCcxRstCore_keeps {fl : Bool} {core : Fin 2} {s : State} : GoesOn fl s (runCcxRstCore core s) :=
  goesOn_powered fun _ h => execCcxRstCore_keeps h
theorem runCcxAutoBaste_keeps {fl : Bool} {s : State} : GoesOn fl s (runCcxAutoBaste s) :=
  goesOn_powered fun _ h => execCcxAutoBaste_keeps h
theorem runCcxCntClr_keeps {fl : Bool} {s : State} : GoesOn fl s (runCcxCntClr s) :=
  goesOn_powered fun _ h => execCcxCntClr_keeps h
theorem runPxaCntClr_keeps {fl : Bool} {s : State} : GoesOn fl s (runPxaCntClr s) :=
  goesOn_powered fun _ h => execPxaCntClr_keeps h
theorem runSeqCntClr_keeps {fl : Bool} {q : Fin 4} {s : State} : GoesOn fl s (runSeqCntClr q s) :=
  goesOn_powered fun _ h => execSeqCntClr_keeps h
theorem runCmpCntClr_keeps {fl : Bool} {s : State} : GoesOn fl s (runCmpCntClr s) :=
  goesOn_powered fun _ h => execCmpCntClr_keeps h
theorem runSmemTrain_keeps {fl : Bool} {s : State} : GoesOn fl s (runSmemTrain s) :=
  goesOn_powered fun _ h => execSmemTrain_keeps h
theorem runTrainingComplete_keeps {fl : Bool} {fail : Fin 8} {rdEye : BitVec 8} {wrEye : BitVec 8} {s : State} : GoesOn fl s (runTrainingComplete fail rdEye wrEye s) :=
  goesOn_powered fun _ h => execTrainingComplete_keeps h
theorem runSmemCntClr_keeps {fl : Bool} {s : State} : GoesOn fl s (runSmemCntClr s) :=
  goesOn_powered fun _ h => execSmemCntClr_keeps h
theorem runMr4Read_keeps {fl : Bool} {code : BitVec 3} {s : State} : GoesOn fl s (runMr4Read code s) :=
  goesOn_powered fun _ h => execMr4Read_keeps h
theorem runDqsOscRead_keeps {fl : Bool} {drift : Nat} {s : State} : GoesOn fl s (runDqsOscRead drift s) :=
  goesOn_powered fun _ h => execDqsOscRead_keeps h
theorem runSelfRefreshExit_keeps {fl : Bool} {s : State} : GoesOn fl s (runSelfRefreshExit s) :=
  goesOn_powered fun _ h => execSelfRefreshExit_keeps h
theorem runCrcMemRunEnd_keeps {fl : Bool} {n : Fin 3} {errs : List EccErr} {s : State} : GoesOn fl s (runCrcMemRunEnd n errs s) :=
  goesOn_powered fun _ h => execCrcMemRunEnd_keeps h
theorem runCrcCfgWrite_keeps {fl : Bool} {n : Fin 4} {v : Word} {s : State} : GoesOn fl s (runCrcCfgWrite n v s) :=
  goesOn_powered fun _ h => execCrcCfgWrite_keeps h
theorem runCrcValueWrite_keeps {fl : Bool} {n : Fin 4} {v : Word} {s : State} : GoesOn fl s (runCrcValueWrite n v s) :=
  goesOn_powered fun _ h => execCrcValueWrite_keeps h
theorem runCrcBindWrite_keeps {fl : Bool} {n : Fin 4} {v : Word} {s : State} : GoesOn fl s (runCrcBindWrite n v s) :=
  goesOn_powered fun _ h => execCrcBindWrite_keeps h
theorem runCrcScanCtrlWrite_keeps {fl : Bool} {v : Word} {s : State} : GoesOn fl s (runCrcScanCtrlWrite v s) :=
  goesOn_powered fun _ h => execCrcScanCtrlWrite_keeps h
theorem runCrcCntClr_keeps {fl : Bool} {s : State} : GoesOn fl s (runCrcCntClr s) :=
  goesOn_powered fun _ h => execCrcCntClr_keeps h
theorem runSramScanRead_keeps {fl : Bool} {err : Option Bool} {raced : Bool} {s : State} : GoesOn fl s (runSramScanRead err raced s) :=
  goesOn_powered fun _ h => execSramScanRead_keeps h
theorem runRegionCheckEnd_keeps {fl : Bool} {r : Fin 17} {crc : Word} {s : State} : GoesOn fl s (runRegionCheckEnd r crc s) :=
  goesOn_powered fun _ h => execRegionCheckEnd_keeps h
theorem runSurfScanRead_keeps {fl : Bool} {err : Option Bool} {raced : Bool} {s : State} : GoesOn fl s (runSurfScanRead err raced s) :=
  goesOn_powered fun _ h => execSurfScanRead_keeps h
theorem runCalLaneMeasure_keeps {fl : Bool} {p : Port} {m0 : SliceMeas} {m1 : SliceMeas} {s : State} : GoesOn fl s (runCalLaneMeasure p m0 m1 s) :=
  goesOn_powered fun _ h => execCalLaneMeasure_keeps h
theorem runCalConverterSet_keeps {fl : Bool} {m : ConvMeas} {s : State} : GoesOn fl s (runCalConverterSet m s) :=
  goesOn_powered fun _ h => execCalConverterSet_keeps h
theorem runCalRunTimeout_keeps {fl : Bool} {t : Fin 7} {s : State} : GoesOn fl s (runCalRunTimeout t s) :=
  goesOn_powered fun _ h => execCalRunTimeout_keeps h
theorem runCalRunOff_keeps {fl : Bool} {t : Fin 7} {s : State} : GoesOn fl s (runCalRunOff t s) :=
  goesOn_powered fun _ h => execCalRunOff_keeps h
theorem runCalCntClr_keeps {fl : Bool} {s : State} : GoesOn fl s (runCalCntClr s) :=
  goesOn_powered fun _ h => execCalCntClr_keeps h
theorem runPowerDownStart_keeps {fl : Bool} {s : State} : GoesOn fl s (runPowerDownStart s) :=
  goesOn_powered fun _ h => execPowerDownStart_keeps h
theorem runPowerDownComplete_keeps {fl : Bool} {s : State} : GoesOn fl s (runPowerDownComplete s) :=
  goesOn_powered fun _ h => execPowerDownComplete_keeps h
theorem runWakeSourceFire_keeps {fl : Bool} {n : Fin 8} {s : State} : GoesOn fl s (runWakeSourceFire n s) :=
  ⟨_, rfl, execWakeSourceFire_keeps (Keeps.refl _ _)⟩
theorem runPmuTimerExpiry_keeps {fl : Bool} {s : State} : GoesOn fl s (runPmuTimerExpiry s) :=
  ⟨_, rfl, execPmuTimerExpiry_keeps (Keeps.refl _ _)⟩
theorem runPwrEnHigh_keeps {fl : Bool} {s : State} : GoesOn fl s (runPwrEnHigh s) :=
  ⟨_, rfl, execPwrEnHigh_keeps (Keeps.refl _ _)⟩
theorem runPwrEnLow_keeps {fl : Bool} {s : State} : GoesOn fl s (runPwrEnLow s) :=
  ⟨_, rfl, execPwrEnLow_keeps (Keeps.refl _ _)⟩
theorem runPowerOnReset_keeps {fl : Bool} {s : State} : GoesOn fl s (runPowerOnReset s) :=
  ⟨_, rfl, execPowerOnReset_keeps (Keeps.refl _ _)⟩
theorem runResetNLow_keeps {fl : Bool} {s : State} : GoesOn fl s (runResetNLow s) :=
  ⟨_, rfl, execResetNLow_keeps (Keeps.refl _ _)⟩
theorem runSwrst_keeps {fl : Bool} {s : State} : GoesOn fl s (runSwrst s) :=
  goesOn_powered fun _ h => execSwrst_keeps h
theorem runPmuCntClr_keeps {fl : Bool} {s : State} : GoesOn fl s (runPmuCntClr s) :=
  goesOn_powered fun _ h => execPmuCntClr_keeps h
theorem runVcorePgLow_keeps {fl : Bool} {s : State} : GoesOn fl s (runVcorePgLow s) :=
  goesOn_powered fun _ h => execVcorePgLow_keeps h
theorem runVcorePgReset_keeps {fl : Bool} {s : State} : GoesOn fl s (runVcorePgReset s) :=
  goesOn_powered fun _ h => execVcorePgReset_keeps h
theorem runInternalResetRelease_keeps {testMode : Bool} {s : State} : GoesOn false s (runInternalResetRelease testMode s) :=
  ⟨_, rfl, execInternalResetRelease_keeps (Keeps.refl _ _)⟩
theorem runCoreBootDone_keeps {fl : Bool} {romOk : Bool} {s : State} : GoesOn fl s (runCoreBootDone romOk s) :=
  goesOn_powered fun _ h => execCoreBootDone_keeps h
theorem runVscaleSettled_keeps {fl : Bool} {s : State} : GoesOn fl s (runVscaleSettled s) :=
  goesOn_powered fun _ h => execVscaleSettled_keeps h
theorem runVscaleTimeout_keeps {fl : Bool} {s : State} : GoesOn fl s (runVscaleTimeout s) :=
  goesOn_powered fun _ h => execVscaleTimeout_keeps h
theorem runCorePllRelock_keeps {fl : Bool} {s : State} : GoesOn fl s (runCorePllRelock s) :=
  goesOn_powered fun _ h => execCorePllRelock_keeps h
theorem runPatchRestartDone_keeps {fl : Bool} {s : State} : GoesOn fl s (runPatchRestartDone s) :=
  goesOn_powered fun _ h => execPatchRestartDone_keeps h
theorem runRefLoss_keeps {fl : Bool} {s : State} : GoesOn fl s (runRefLoss s) :=
  goesOn_powered fun _ h => execRefLoss_keeps h
theorem runRefRestore_keeps {fl : Bool} {s : State} : GoesOn fl s (runRefRestore s) :=
  goesOn_powered fun _ h => execRefRestore_keeps h
theorem runCkuGateWrite_keeps {fl : Bool} {v : Word} {s : State} : GoesOn fl s (runCkuGateWrite v s) :=
  goesOn_powered fun _ h => execCkuGateWrite_keeps h
theorem runCkuMeasWrite_keeps {fl : Bool} {v : Word} {s : State} : GoesOn fl s (runCkuMeasWrite v s) :=
  goesOn_powered fun _ h => execCkuMeasWrite_keeps h
theorem runCkuMeasDone_keeps {fl : Bool} {freq : BitVec 18} {s : State} : GoesOn fl s (runCkuMeasDone freq s) :=
  goesOn_powered fun _ h => execCkuMeasDone_keeps h
theorem runRegisterWrite_keeps {fl : Bool} {chan : BitVec 8} {addr : Word} {value : Word} {tie : Bool} {errs : List EccErr} {s : State} : GoesOn fl s (runRegisterWrite chan addr value tie errs s) :=
  goesOn_powered fun _ h => execRegisterWrite_keeps h
theorem runPhaseThresholdCrossing_keeps {fl : Bool} {k : Fin 6} {rise : Bool} {since : Nat} {s : State} : GoesOn fl s (runPhaseThresholdCrossing k rise since s) :=
  goesOn_powered fun _ h => execPhaseThresholdCrossing_keeps h
theorem runCheckerInSync_keeps {fl : Bool} {lane : Fin 4} {l : List Bool} {s : State} : GoesOn fl s (runCheckerInSync lane l s) :=
  goesOn_powered fun _ h => execCheckerInSync_keeps h
theorem runCheckerSyncLoss_keeps {fl : Bool} {lane : Fin 4} {n : Nat} {s : State} : GoesOn fl s (runCheckerSyncLoss lane n s) :=
  goesOn_powered fun _ h => execCheckerSyncLoss_keeps h
theorem runReturnToD0_keeps {fl : Bool} {s : State} : GoesOn fl s (runReturnToD0 s) :=
  goesOn_powered fun _ h => execReturnToD0_keeps h

/-- The rows that may give the array new levels or another bank. -/
def mayDrive (i : Instr) : Bool :=
  match i with
  | .transfer _ _ _ | .tick | .internalResetRelease _ => true
  | _ => false

/-- Every command answers a next state, which keeps what Keeps names. -/
theorem exec_keeps (fl : Bool) (i : Instr) (s : State) (hd : fl = true → mayDrive i = false) : GoesOn fl s (exec i s) := by
  cases i
  case nop => exact runNop_keeps
  case ping => exact runPing_keeps
  case tack => exact runTack_keeps
  case readReg => exact runReadReg_keeps
  case writeReg => exact runWriteReg_keeps
  case modifyReg => exact runModifyReg_keeps
  case readBlock => exact runReadBlock_keeps
  case fence => exact runFence_keeps
  case fenceGlobal => exact runFenceGlobal_keeps
  case thimbleAcquire => exact runThimbleAcquire_keeps
  case thimbleRelease => exact runThimbleRelease_keeps
  case thimbleQuery => exact runThimbleQuery_keeps
  case surfWrite => exact runSurfWrite_keeps
  case surfRead => exact runSurfRead_keeps
  case surfFill => exact runSurfFill_keeps
  case surfCopy => exact runSurfCopy_keeps
  case tableLoad => exact runTableLoad_keeps
  case tableRead => exact runTableRead_keeps
  case layerSet => exact runLayerSet_keeps
  case layerEnable => exact runLayerEnable_keeps
  case layerDisable => exact runLayerDisable_keeps
  case commit => exact runCommit_keeps
  case commitAt => exact runCommitAt_keeps
  case retireQuery => exact runRetireQuery_keeps
  case safeMsg => exact runSafeMsg_keeps
  case spbLoad => exact runSpbLoad_keeps
  case safeStatus => exact runSafeStatus_keeps
  case safeTest => exact runSafeTest_keeps
  case loopCfg => exact runLoopCfg_keeps
  case loopEnable => exact runLoopEnable_keeps
  case loopDisable => exact runLoopDisable_keeps
  case setpoint => exact runSetpoint_keeps
  case loopHold => exact runLoopHold_keeps
  case traceArm => exact runTraceArm_keeps
  case traceRead => exact runTraceRead_keeps
  case adcSeqCfg => exact runAdcSeqCfg_keeps
  case adcStart => exact runAdcStart_keeps
  case adcStop => exact runAdcStop_keeps
  case tempMeasure => exact runTempMeasure_keeps
  case calRun => exact runCalRun_keeps
  case calRead => exact runCalRead_keeps
  case calWrite => exact runCalWrite_keeps
  case powerEnter => exact runPowerEnter_keeps
  case powerQuery => exact runPowerQuery_keeps
  case vscale => exact runVscale_keeps
  case faultRead => exact runFaultRead_keeps
  case faultClear => exact runFaultClear_keeps
  case faultCfg => exact runFaultCfg_keeps
  case healthRead => exact runHealthRead_keeps
  case spareForce => exact runSpareForce_keeps
  case proofReq => exact runProofReq_keeps
  case crcRun => exact runCrcRun_keeps
  case linkTest => exact runLinkTest_keeps
  case linkInject => exact runLinkInject_keeps
  case chanCfg => exact runChanCfg_keeps
  case chanQuery => exact runChanQuery_keeps
  case fwPatchLoad => exact runFwPatchLoad_keeps
  case fwPatchActivate => exact runFwPatchActivate_keeps
  case stateRead => exact runStateRead_keeps
  case resync => exact runResync_keeps
  case deviceInfo => exact runDeviceInfo_keeps
  case dataPacket => exact runDataPacket_keeps
  case xferTimeout => exact runXferTimeout_keeps
  case chanTimeout => exact runChanTimeout_keeps
  case dupHoldExpiry => exact runDupHoldExpiry_keeps
  case thimbleLeaseExpiry => exact runThimbleLeaseExpiry_keeps
  case thimbleWaitExpiry => exact runThimbleWaitExpiry_keeps
  case fenceRelease => exact runFenceRelease_keeps
  case writeGroupApply => exact runWriteGroupApply_keeps
  case staleWriteReject => exact runStaleWriteReject_keeps
  case coreBeat => exact runCoreBeat_keeps
  case coreHbTimeout => exact runCoreHbTimeout_keeps
  case coreRestartDone => exact runCoreRestartDone_keeps
  case recoveryEnd => exact runRecoveryEnd_keeps
  case checkpointCommit => exact runCheckpointCommit_keeps
  case basteStart => exact runBasteStart_keeps
  case basteJoin => exact runBasteJoin_keeps
  case basteTimeout => exact runBasteTimeout_keeps
  case heartbeatBeat => exact runHeartbeatBeat_keeps
  case hostHbTimeout => exact runHostHbTimeout_keeps
  case laneSignalDetect => exact runLaneSignalDetect_keeps
  case trainingSetReceive => exact runTrainingSetReceive_keeps
  case trainingTimeout => exact runTrainingTimeout_keeps
  case codeViolationLimit => exact runCodeViolationLimit_keeps
  case retrainTimeout => exact runRetrainTimeout_keeps
  case linkPacketReceive => exact runLinkPacketReceive_keeps
  case ackLatencyExpiry => exact runAckLatencyExpiry_keeps
  case ack => exact runAck_keeps
  case nak => exact runNak_keeps
  case credit => exact runCredit_keeps
  case replayTimeout => exact runReplayTimeout_keeps
  case creditAdvertise => exact runCreditAdvertise_keeps
  case creditStallTimeout => exact runCreditStallTimeout_keeps
  case packetTransmit => exact runPacketTransmit_keeps
  case skipSetDue => exact runSkipSetDue_keeps
  case l1IdleExpiry => exact runL1IdleExpiry_keeps
  case l1Req => exact runL1Req_keeps
  case l1Ack => exact runL1Ack_keeps
  case l1Nak => exact runL1Nak_keeps
  case l2Req => exact runL2Req_keeps
  case l2Ack => exact runL2Ack_keeps
  case l2Nak => exact runL2Nak_keeps
  case l1Exit => exact runL1Exit_keeps
  case l2Wake => exact runL2Wake_keeps
  case engineL2Exit => exact runEngineL2Exit_keeps
  case wakePatternEnd => exact runWakePatternEnd_keeps
  case portStopComplete => exact runPortStopComplete_keeps
  case linkTestEnd => exact runLinkTestEnd_keeps
  case eyeMeasure => exact runEyeMeasure_keeps
  case portEnable => exact runPortEnable_keeps
  case portDisable => exact runPortDisable_keeps
  case portRetrain => exact runPortRetrain_keeps
  case attnClear => exact runAttnClear_keeps
  case hlxCntClr => exact runHlxCntClr_keeps
  case lmeCntClr => exact runLmeCntClr_keeps
  case fsyncEdge => exact runFsyncEdge_keeps
  case fsyncWindowEnd => exact runFsyncWindowEnd_keeps
  case acquireTimeout => exact runAcquireTimeout_keeps
  case relockTimeout => exact runRelockTimeout_keeps
  case scnRunStart => exact runScnRunStart_keeps
  case scnRunStop => exact runScnRunStop_keeps
  case soEn => exact runSoEn_keeps
  case scnCntClr => exact runScnCntClr_keeps
  case syncOutRise => exact runSyncOutRise_keeps
  case syncOutFall => exact runSyncOutFall_keeps
  case tick => cases fl; exact runTick_keeps; cases hd rfl
  case thmAutoDemand => exact runThmAutoDemand_keeps
  case slotPeriodStart => exact runSlotPeriodStart_keeps
  case load => exact runLoad_keeps
  case transfer => cases fl; exact runTransfer_keeps; cases hd rfl
  case meas => exact runMeas_keeps
  case proof => exact runProof_keeps
  case proofListFix => exact runProofListFix_keeps
  case offpulse => exact runOffpulse_keeps
  case darkscan => exact runDarkscan_keeps
  case tempDemand => exact runTempDemand_keeps
  case adcTrig => exact runAdcTrig_keeps
  case calWin => exact runCalWin_keeps
  case loopFf => exact runLoopFf_keeps
  case ffApply => exact runFfApply_keeps
  case patternSel => exact runPatternSel_keeps
  case stagger => exact runStagger_keeps
  case endList => exact runEnd_keeps
  case compositionStart => exact runCompositionStart_keeps
  case compositionComplete => exact runCompositionComplete_keeps
  case safeMsgWindowEnd => exact runSafeMsgWindowEnd_keeps
  case safeReqQualify => exact runSafeReqQualify_keeps
  case safeReqEnd => exact runSafeReqEnd_keeps
  case safeOffTimeout => exact runSafeOffTimeout_keeps
  case safeSnsTimeout => exact runSafeSnsTimeout_keeps
  case strapLatch => exact runStrapLatch_keeps
  case strapRead => exact runStrapRead_keeps
  case selfCheck => exact runSelfCheck_keeps
  case bootSelfCheckDone => exact runBootSelfCheckDone_keeps
  case aliveToggle => exact runAliveToggle_keeps
  case spbSealDone => exact runSpbSealDone_keeps
  case smcCntClr => exact runSmcCntClr_keeps
  case retireWrite => exact runRetireWrite_keeps
  case pxhStuckClear => exact runPxhStuckClear_keeps
  case pxhCntClr => exact runPxhCntClr_keeps
  case thmConversion => exact runThmConversion_keeps
  case xchkRun => exact runXchkRun_keeps
  case xchkEnd => exact runXchkEnd_keeps
  case thmBrokenClear => exact runThmBrokenClear_keeps
  case thmCntClr => exact runThmCntClr_keeps
  case loopSlotConversion => exact runLoopSlotConversion_keeps
  case phaseOcTrip => exact runPhaseOcTrip_keeps
  case phaseOcPersist => exact runPhaseOcPersist_keeps
  case railAutoStart => exact runRailAutoStart_keeps
  case railOn => exact runRailOn_keeps
  case railStartTimeout => exact runRailStartTimeout_keeps
  case railStopComplete => exact runRailStopComplete_keeps
  case railSenseLost => exact runRailSenseLost_keeps
  case railSenseFrozen => exact runRailSenseFrozen_keeps
  case loopIntSat => exact runLoopIntSat_keeps
  case railOv => exact runRailOv_keeps
  case railUv => exact runRailUv_keeps
  case loopHoldExpiry => exact runLoopHoldExpiry_keeps
  case profileTick => exact runProfileTick_keeps
  case lvlOn => exact runLvlOn_keeps
  case lvlStartTimeout => exact runLvlStartTimeout_keeps
  case lvlStopComplete => exact runLvlStopComplete_keeps
  case lvlFbLost => exact runLvlFbLost_keeps
  case lvlFbFrozen => exact runLvlFbFrozen_keeps
  case lvlLimit => exact runLvlLimit_keeps
  case fanTachEdge => exact runFanTachEdge_keeps
  case fanTachTimeout => exact runFanTachTimeout_keeps
  case fanDutyUpdate => exact runFanDutyUpdate_keeps
  case fanKickEnd => exact runFanKickEnd_keeps
  case fanStopComplete => exact runFanStopComplete_keeps
  case le0En => exact runLe0En_keeps
  case lvlEn => exact runLvlEn_keeps
  case fanEn => exact runFanEn_keeps
  case le0SetSelWrite => exact runLe0SetSelWrite_keeps
  case le0FbClear => exact runLe0FbClear_keeps
  case le1FbClear => exact runLe1FbClear_keeps
  case le0CntClr => exact runLe0CntClr_keeps
  case adcTimerTrigger => exact runAdcTimerTrigger_keeps
  case adcEntryComplete => exact runAdcEntryComplete_keeps
  case bobbinBlockAccept => exact runBobbinBlockAccept_keeps
  case adcSeqOn => exact runAdcSeqOn_keeps
  case adcSeqOff => exact runAdcSeqOff_keeps
  case adcSqEn => exact runAdcSqEn_keeps
  case adcRptrWrite => exact runAdcRptrWrite_keeps
  case adcCntClr => exact runAdcCntClr_keeps
  case faultEvent => exact runFaultEvent_keeps
  case fcrCntClr => exact runFcrCntClr_keeps
  case cmdCntClr => exact runCmdCntClr_keeps
  case keyLoad => exact runKeyLoad_keeps
  case keyClr => exact runKeyClr_keeps
  case ccxCkpt => exact runCcxCkpt_keeps
  case ccxSwap => exact runCcxSwap_keeps
  case ccxRstCore => exact runCcxRstCore_keeps
  case ccxAutoBaste => exact runCcxAutoBaste_keeps
  case ccxCntClr => exact runCcxCntClr_keeps
  case pxaCntClr => exact runPxaCntClr_keeps
  case seqCntClr => exact runSeqCntClr_keeps
  case cmpCntClr => exact runCmpCntClr_keeps
  case smemTrain => exact runSmemTrain_keeps
  case trainingComplete => exact runTrainingComplete_keeps
  case smemCntClr => exact runSmemCntClr_keeps
  case mr4Read => exact runMr4Read_keeps
  case dqsOscRead => exact runDqsOscRead_keeps
  case selfRefreshExit => exact runSelfRefreshExit_keeps
  case crcMemRunEnd => exact runCrcMemRunEnd_keeps
  case crcCfgWrite => exact runCrcCfgWrite_keeps
  case crcValueWrite => exact runCrcValueWrite_keeps
  case crcBindWrite => exact runCrcBindWrite_keeps
  case crcScanCtrlWrite => exact runCrcScanCtrlWrite_keeps
  case crcCntClr => exact runCrcCntClr_keeps
  case sramScanRead => exact runSramScanRead_keeps
  case regionCheckEnd => exact runRegionCheckEnd_keeps
  case surfScanRead => exact runSurfScanRead_keeps
  case calLaneMeasure => exact runCalLaneMeasure_keeps
  case calConverterSet => exact runCalConverterSet_keeps
  case calRunTimeout => exact runCalRunTimeout_keeps
  case calRunOff => exact runCalRunOff_keeps
  case calCntClr => exact runCalCntClr_keeps
  case powerDownStart => exact runPowerDownStart_keeps
  case powerDownComplete => exact runPowerDownComplete_keeps
  case wakeSourceFire => exact runWakeSourceFire_keeps
  case pmuTimerExpiry => exact runPmuTimerExpiry_keeps
  case pwrEnHigh => exact runPwrEnHigh_keeps
  case pwrEnLow => exact runPwrEnLow_keeps
  case powerOnReset => exact runPowerOnReset_keeps
  case resetNLow => exact runResetNLow_keeps
  case swrst => exact runSwrst_keeps
  case pmuCntClr => exact runPmuCntClr_keeps
  case vcorePgLow => exact runVcorePgLow_keeps
  case vcorePgReset => exact runVcorePgReset_keeps
  case internalResetRelease => cases fl; exact runInternalResetRelease_keeps; cases hd rfl
  case coreBootDone => exact runCoreBootDone_keeps
  case vscaleSettled => exact runVscaleSettled_keeps
  case vscaleTimeout => exact runVscaleTimeout_keeps
  case corePllRelock => exact runCorePllRelock_keeps
  case patchRestartDone => exact runPatchRestartDone_keeps
  case refLoss => exact runRefLoss_keeps
  case refRestore => exact runRefRestore_keeps
  case ckuGateWrite => exact runCkuGateWrite_keeps
  case ckuMeasWrite => exact runCkuMeasWrite_keeps
  case ckuMeasDone => exact runCkuMeasDone_keeps
  case registerWrite => exact runRegisterWrite_keeps
  case phaseThresholdCrossing => exact runPhaseThresholdCrossing_keeps
  case checkerInSync => exact runCheckerInSync_keeps
  case checkerSyncLoss => exact runCheckerSyncLoss_keeps
  case returnToD0 => exact runReturnToD0_keeps

end Sys2Proof.Machine
end

