-- ==== Sys2Proof/Laws/Admitted.lean ====
section
/-!
SUPPORT. An admitted command (the Bool admits of Safety.lean) executes its body and is answered.
-/
namespace Sys2Proof.Machine

theorem admitA_none {op : Opcode} {c : Cmd} {u : State} (h : passesOpen c u = true) : admitA op c u = none := by
  unfold passesOpen at h
  unfold admitA
  simp only [Bool.and_eq_true, decide_eq_true_eq] at h
  obtain ⟨⟨⟨h1, h2⟩, h3⟩, h4⟩ := h
  have e : ¬ (c.ch = 255 ∨ chanW1 u c.ch / 2 ^ 31 % 2 = 0 ∨ chanW1 u c.ch / 2 ^ (29 + c.port.num) % 2 = 0) := by
    omega
  simp only [e, if_false]
  split at h4 <;> simp_all

theorem admitRate_none {op : Opcode} {c : Cmd} {u : State} (h : passesRate c u = true) :
    admitRate (storeGet 0 u.cmd.rate (rateKey c)) op c (countRate c u) = none := by
  unfold passesRate at h
  unfold admitRate
  have e : (countRate c u).rd (CMD_CHANn_W0_RATE c.ch) = u.rd (CMD_CHANn_W0_RATE c.ch) := rfl
  simp only [decide_eq_true_eq] at h
  rw [e, if_neg]
  omega

theorem hostRun_admitted {op : Opcode} {c : Cmd} {s : State} (h : admits op c s = true) :
    hostRun op c s = settled (issued op c s) (runBody op (issued op c s) (admitted op c s)) := by
  unfold admits at h
  simp only [Bool.and_eq_true, Bool.not_eq_true'] at h
  obtain ⟨⟨⟨⟨⟨⟨⟨⟨⟨⟨⟨⟨⟨⟨h0, h1⟩, h2⟩, h3⟩, h4⟩, h5⟩, h6⟩, h7⟩, h8⟩, h9⟩, hb⟩, h10⟩, h11⟩, h12⟩, h13⟩ := h
  unfold takes at h1
  unfold hostRun hostCommand
  simp only [Bool.not_eq_true'] at h1 ⊢
  rw [h1, if_neg Bool.false_ne_true]
  change (match admitA op c (taken op c s) with
    | some t => t
    | none =>
      match admitRate (storeGet 0 (taken op c s).cmd.rate (rateKey c)) op c (countRate c (taken op c s)) with
      | some t => t
      | none =>
        match admitForm op c (countRate c (taken op c s)) with
        | some t => t
        | none =>
          if dupOf (chanW1 (countRate c (taken op c s)) c.ch) then admitDup runBody op c (countRate c (taken op c s))
          else
            match admitSeq op c (countRate c (taken op c s)) with
            | some t => t
            | none => admitTail op (runBody op) c false (countRate c (taken op c s))) = _
  rw [admitA_none h2]
  have e1 : chanW1 (countRate c (taken op c s)) c.ch = chanW1 (taken op c s) c.ch := rfl
  have e2 : admitForm op c (countRate c (taken op c s)) = none := by
    unfold admitForm; simp [h4, h5, e1, h6]
  have e3 : admitSeq op c (countRate c (taken op c s)) = none := by
    unfold passesSeq at h7
    unfold admitSeq
    change (match storeGet none (taken op c s).cmd.lastSeq (streamKey (chanW1 (taken op c s) c.ch) c.ch c.port.num) with
      | some q => _ | none => none) = none
    split
    · rename_i q e; rw [e] at h7; simp only [Option.all_some] at h7; simp [h7]
    · rfl
  rw [admitRate_none h3, e2]
  simp only [e1, h6, e3]
  change admitTail op (runBody op) c false (countRate c (taken op c s)) = _
  unfold admitTail
  have e4 : admitClaim op c (countRate c (taken op c s)) = none := by
    unfold passesClaim at h8; unfold admitClaim
    simp only [Bool.or_eq_true, decide_eq_true_eq] at h8
    split
    · rfl
    · simp_all
  have e5 : admitRights op c (countRate c (taken op c s)) = none := by
    unfold passesRights at h9; unfold admitRights
    simp only [Bool.and_eq_true] at h9
    simp [h9.1.1, h9.1.2, h9.2]
  rw [e4, e5]
  change (if badFence op c = true then _ else
    if (!(admitted op c s).cmd.busyAll && fenceHolds (issued op c s) (incomplete (admitted op c s))) = true then _ else
    execute (runBody op) (issued op c s) (admitted op c s)) = _
  rw [hb, h10]
  simp only [Bool.false_eq_true, if_false]
  unfold execute settled
  have e6 : ¬ ((admitted op c s).bit PMU_STAT_BOOT_ERR = true ∧ (issued op c s).op ≠ .deviceInfo) := by
    intro ⟨a, b⟩
    have b' : op ≠ .deviceInfo := b
    simp [a, b'] at h11
  have e7 : ¬ ((admitted op c s).cmd.busyAll = true ∧ (issued op c s).op ≠ .tack ∧ (issued op c s).op ≠ .deviceInfo
      ∧ (issued op c s).op ≠ .stateRead) := by
    intro ⟨a, b⟩
    have b' : op ≠ .tack ∧ op ≠ .deviceInfo ∧ op ≠ .stateRead := b
    simp [a] at h12
    exact b'.2.2 (h12 b'.1 b'.2.1)
  rw [if_neg e6, if_neg e7, h13]
  rfl

theorem admits_powered {op : Opcode} {c : Cmd} {s : State} (h : admits op c s = true) : isPowered s = true := by
  unfold admits at h
  simp only [Bool.and_eq_true] at h
  exact h.1.1.1.1.1.1.1.1.1.1.1.1.1.1

theorem powered_run {s : State} {f : State → State} (h : isPowered s = true) : powered f s = f s := if_pos h

theorem host_admitted {op : Opcode} {c : Cmd} {s : State} (h : admits op c s = true) :
    (.next (powered (hostRun op c) s) : Host.Outcome State Fault Refusal)
      = .next (completed op c s (runBody op (issued op c s) (admitted op c s))) := by
  rw [powered_run (admits_powered h), hostRun_admitted h]
  rfl
end Sys2Proof.Machine
end

