-- ==== Sys2Proof/Laws/Writes.lean ====
section
/-!
SUPPORT. What a write of one register does, said once: a read-write register without W1C bits outside the layers clears its
counters where the write asks for that, and takes its effect from `regHook`; a refused write changes nothing.
-/
namespace Sys2Proof.Machine

/-- The checks of `regWrite` that depend on the address alone, for a read-write register without W1C bits. -/
def plainCtrl (a : Nat) : Bool :=
  decide (a % 4 = 0) && !inSram a && !inSurface a && isReg a && srcAssigned a && (layerOf a).isNone
    && decide (a ≠ ADC_SKEW ∧ ¬ (ADC_TRIMn 0 ≤ a ∧ a < ADC_TRIMn 4))
    && (match regInfo a with
        | some r => decide (r.acc = .rw ∧ r.cmask = 0)
        | none => false)

theorem regWrite_ctrl {errs : List EccErr} {a : Nat} {v m x : Word} {s : State} (h : plainCtrl a = true)
    (hb : blockOff s a = false) (hx : x = (s.reg a &&& ~~~m) ||| (v &&& m)) (hr : rangeOk a x = true) :
    regWrite none errs a v m s
      = (if went (regHook a x m (cntClr a x m s)) then regHook a x m (cntClr a x m s)
         else (s, (regHook a x m (cntClr a x m s)).2)) := by
  unfold plainCtrl at h
  simp only [Bool.and_eq_true, decide_eq_true_eq, Bool.not_eq_true', Option.isNone_iff_eq_none] at h
  obtain ⟨⟨⟨⟨⟨⟨⟨h1, h2⟩, h3⟩, h4⟩, h5⟩, h6⟩, h7⟩, h8⟩ := h
  have ht : trimBusy a s = false := by
    unfold trimBusy
    rw [decide_eq_false h7.1, decide_eq_false h7.2]
    rfl
  cases hi : regInfo a with
  | none => rw [hi] at h8; cases h8
  | some r =>
    rw [hi] at h8
    simp only [decide_eq_true_eq] at h8
    unfold regWrite regApply layerDenied layerNote
    simp [h1, h2, h3, h4, h5, h6, hb, hi, h8.1, h8.2, hr, ht, ← hx]

end Sys2Proof.Machine
end

