-- ==== Sys2Proof/WellFormed.lean ====
section
/-!
DEFINITION. Which commands the outside world can produce: packets that the link layer can carry (R257), observations that
name things the part has (R31, R165, R209, R402). A command that is not well formed has a meaning too, but stands for nothing.
-/
namespace Sys2Proof

open Machine

/-- An ECC error lies at a 64-bit word of on-chip SRAM or of surface memory (R15, R160, R167). -/
def eccWf (e : EccErr) : Bool :=
  decide (e.addr % 8 = 0) &&
    (decide (0x1000000 ≤ e.addr ∧ e.addr < 0x1C00000) || decide (0x40000000 ≤ e.addr ∧ e.addr < 0x60000000))

/-- Every error of a step lies in a memory. -/
def errsWf (l : List EccErr) : Bool := l.all eccWf

/-- A command packet: payload word 0 and `words` are LEN words, at most 512 (R257). -/
def cmdWf (c : Cmd) : Bool := decide (c.words.length ≤ 511) && errsWf c.errs

/-- A data packet: word 0 is there, and LEN is at most 512 (R257, R261). -/
def dataWf (d : DataPkt) : Bool := decide (1 ≤ d.words.length ∧ d.words.length ≤ 512) && errsWf d.errs

/-- A pixel of the array: 640 rows of 2,048 columns. -/
def pixelWf (p : Nat) : Bool := decide (p < 1310720)

/-- The bytes of a packet on the two lanes, from PFX to the CRC word: whole words, at most 3 + 512 + 2 + 1 (R225, R232). -/
def wireWf (l0 l1 : List Byte) : Bool := decide (l0.length = l1.length ∧ l0.length % 2 = 0 ∧ l0.length ≤ 1036)

/-- The conversions of one entry: 2^AVG_LOG2, at most 256 (R407). -/
def convsWf (l : List Conv) : Bool := decide (l.length ≤ 256)

/-- At most one count a sensor (R209). -/
def countsWf (l : List (Fin 72 × BitVec 20)) : Bool := decide (l.map (fun x => x.1)).Nodup

/-- The measurements of a CAL_WIN: one a stitch of its 1 to 15 (R88, R99). -/
def colsWf (l : List ColErr) : Bool := decide (l.length ≤ 15)

/-- Well-formed commands and events. -/
def Instr.wf : Instr → Bool
  | .nop c => cmdWf c
  | .ping c => cmdWf c
  | .tack c => cmdWf c
  | .readReg c => cmdWf c
  | .writeReg c => cmdWf c
  | .modifyReg c => cmdWf c
  | .readBlock c => cmdWf c
  | .fence c => cmdWf c
  | .fenceGlobal c => cmdWf c
  | .thimbleAcquire c => cmdWf c
  | .thimbleRelease c => cmdWf c
  | .thimbleQuery c => cmdWf c
  | .surfWrite c => cmdWf c
  | .surfRead c => cmdWf c
  | .surfFill c => cmdWf c
  | .surfCopy c => cmdWf c
  | .tableLoad c => cmdWf c
  | .tableRead c => cmdWf c
  | .layerSet c => cmdWf c
  | .layerEnable c => cmdWf c
  | .layerDisable c => cmdWf c
  | .commit c => cmdWf c
  | .commitAt c => cmdWf c
  | .retireQuery c => cmdWf c
  | .safeMsg c => cmdWf c
  | .spbLoad c => cmdWf c
  | .safeStatus c => cmdWf c
  | .safeTest c => cmdWf c
  | .loopCfg c => cmdWf c
  | .loopEnable c => cmdWf c
  | .loopDisable c => cmdWf c
  | .setpoint c => cmdWf c
  | .loopHold c => cmdWf c
  | .traceArm c => cmdWf c
  | .traceRead c => cmdWf c
  | .adcSeqCfg c => cmdWf c
  | .adcStart c => cmdWf c
  | .adcStop c => cmdWf c
  | .tempMeasure c => cmdWf c
  | .calRun c => cmdWf c
  | .calRead c => cmdWf c
  | .calWrite c => cmdWf c
  | .powerEnter c => cmdWf c
  | .powerQuery c => cmdWf c
  | .vscale c => cmdWf c
  | .faultRead c => cmdWf c
  | .faultClear c => cmdWf c
  | .faultCfg c => cmdWf c
  | .healthRead c => cmdWf c
  | .spareForce c => cmdWf c
  | .proofReq c => cmdWf c
  | .crcRun c => cmdWf c
  | .linkTest c => cmdWf c
  | .linkInject c => cmdWf c
  | .chanCfg c => cmdWf c
  | .chanQuery c => cmdWf c
  | .fwPatchLoad c => cmdWf c
  | .fwPatchActivate c => cmdWf c
  | .stateRead c => cmdWf c
  | .resync c => cmdWf c
  | .deviceInfo c => cmdWf c
  | .dataPacket d => dataWf d
  | .xferTimeout _ _ => true
  | .chanTimeout _ => true
  | .dupHoldExpiry _ => true
  | .thimbleLeaseExpiry _ => true
  | .thimbleWaitExpiry _ => true
  | .fenceRelease => true
  | .writeGroupApply _ _ _ writes _ => writes.all (fun w => decide (w.addr < 4294967296))
  | .staleWriteReject _ _ => true
  | .coreBeat _ => true
  | .coreHbTimeout _ _ => true
  | .coreRestartDone _ => true
  | .recoveryEnd => true
  | .checkpointCommit body => decide (body.length ≤ 32760)
  | .basteStart _ errs => errsWf errs
  | .basteJoin _ errs => errsWf errs
  | .basteTimeout => true
  | .heartbeatBeat _ => true
  | .hostHbTimeout _ => true
  | .laneSignalDetect _ => true
  | .trainingSetReceive _ _ _ _ _ _ => true
  | .trainingTimeout _ => true
  | .codeViolationLimit _ bad misplaced => decide (bad + misplaced ≤ 64)
  | .retrainTimeout _ => true
  | .linkPacketReceive _ l0 l1 _ errs => wireWf l0 l1 && errsWf errs
  | .ackLatencyExpiry _ => true
  | .ack _ _ => true
  | .nak _ _ => true
  | .credit _ _ => true
  | .replayTimeout _ => true
  | .creditAdvertise _ => true
  | .creditStallTimeout _ => true
  | .packetTransmit _ errs => errsWf errs
  | .skipSetDue _ => true
  | .l1IdleExpiry _ => true
  | .l1Req _ => true
  | .l1Ack _ => true
  | .l1Nak _ => true
  | .l2Req _ => true
  | .l2Ack _ => true
  | .l2Nak _ => true
  | .l1Exit _ => true
  | .l2Wake _ => true
  | .engineL2Exit _ => true
  | .wakePatternEnd _ => true
  | .portStopComplete _ => true
  | .linkTestEnd _ _ _ _ => true
  | .eyeMeasure _ _ => true
  | .portEnable _ => true
  | .portDisable _ => true
  | .portRetrain _ => true
  | .attnClear _ _ _ => true
  | .hlxCntClr _ => true
  | .lmeCntClr => true
  | .fsyncEdge _ _ => true
  | .fsyncWindowEnd => true
  | .acquireTimeout _ => true
  | .relockTimeout => true
  | .scnRunStart => true
  | .scnRunStop => true
  | .soEn _ => true
  | .scnCntClr => true
  | .syncOutRise => true
  | .syncOutFall => true
  | .tick => true
  | .thmAutoDemand => true
  | .slotPeriodStart errs => errsWf errs
  | .load _ errs => errsWf errs
  | .transfer _ _ errs => errsWf errs
  | .meas _ hr vf errs => hr.all pixelWf && vf.all pixelWf && errsWf errs
  | .proof _ errs => errsWf errs
  | .proofListFix _ _ errs => errsWf errs
  | .offpulse _ _ errs => errsWf errs
  | .darkscan _ _ errs => errsWf errs
  | .tempDemand _ _ errs => errsWf errs
  | .adcTrig _ errs => errsWf errs
  | .calWin _ es errs => colsWf es && errsWf errs
  | .loopFf _ errs => errsWf errs
  | .ffApply => true
  | .patternSel _ errs => errsWf errs
  | .stagger _ errs => errsWf errs
  | .endList _ errs => errsWf errs
  | .compositionStart => true
  | .compositionComplete errs => errsWf errs
  | .safeMsgWindowEnd => true
  | .safeReqQualify => true
  | .safeReqEnd => true
  | .safeOffTimeout => true
  | .safeSnsTimeout _ => true
  | .strapLatch _ _ => true
  | .strapRead _ _ => true
  | .selfCheck _ _ => true
  | .bootSelfCheckDone => true
  | .aliveToggle => true
  | .spbSealDone => true
  | .smcCntClr => true
  | .retireWrite errs => errsWf errs
  | .pxhStuckClear _ _ => true
  | .pxhCntClr => true
  | .thmConversion counts => countsWf counts
  | .xchkRun => true
  | .xchkEnd counts => countsWf counts
  | .thmBrokenClear _ _ _ => true
  | .thmCntClr => true
  | .loopSlotConversion _ => true
  | .phaseOcTrip _ => true
  | .phaseOcPersist _ => true
  | .railAutoStart _ => true
  | .railOn => true
  | .railStartTimeout => true
  | .railStopComplete => true
  | .railSenseLost _ => true
  | .railSenseFrozen _ => true
  | .loopIntSat => true
  | .railOv _ => true
  | .railUv => true
  | .loopHoldExpiry => true
  | .profileTick _ => true
  | .lvlOn => true
  | .lvlStartTimeout => true
  | .lvlStopComplete => true
  | .lvlFbLost => true
  | .lvlFbFrozen => true
  | .lvlLimit => true
  | .fanTachEdge _ => true
  | .fanTachTimeout => true
  | .fanDutyUpdate => true
  | .fanKickEnd => true
  | .fanStopComplete => true
  | .le0En _ => true
  | .lvlEn _ => true
  | .fanEn _ => true
  | .le0SetSelWrite _ => true
  | .le0FbClear _ _ => true
  | .le1FbClear _ _ => true
  | .le0CntClr => true
  | .adcTimerTrigger _ => true
  | .adcEntryComplete _ convs => convsWf convs
  | .bobbinBlockAccept _ => true
  | .adcSeqOn _ => true
  | .adcSeqOff _ => true
  | .adcSqEn _ _ => true
  | .adcRptrWrite _ _ => true
  | .adcCntClr => true
  | .faultEvent _ _ _ _ => true
  | .fcrCntClr => true
  | .cmdCntClr => true
  | .keyLoad _ => true
  | .keyClr _ => true
  | .ccxCkpt => true
  | .ccxSwap => true
  | .ccxRstCore _ => true
  | .ccxAutoBaste => true
  | .ccxCntClr => true
  | .pxaCntClr => true
  | .seqCntClr _ => true
  | .cmpCntClr => true
  | .smemTrain => true
  | .trainingComplete _ _ _ => true
  | .smemCntClr => true
  | .mr4Read _ => true
  | .dqsOscRead _ => true
  | .selfRefreshExit => true
  | .crcMemRunEnd _ errs => errsWf errs
  | .crcCfgWrite _ _ => true
  | .crcValueWrite _ _ => true
  | .crcBindWrite _ _ => true
  | .crcScanCtrlWrite _ => true
  | .crcCntClr => true
  | .sramScanRead _ _ => true
  | .regionCheckEnd _ _ => true
  | .surfScanRead _ _ => true
  | .calLaneMeasure _ _ _ => true
  | .calConverterSet _ => true
  | .calRunTimeout _ => true
  | .calRunOff _ => true
  | .calCntClr => true
  | .powerDownStart => true
  | .powerDownComplete => true
  | .wakeSourceFire _ => true
  | .pmuTimerExpiry => true
  | .pwrEnHigh => true
  | .pwrEnLow => true
  | .powerOnReset => true
  | .resetNLow => true
  | .swrst => true
  | .pmuCntClr => true
  | .vcorePgLow => true
  | .vcorePgReset => true
  | .internalResetRelease _ => true
  | .coreBootDone _ => true
  | .vscaleSettled => true
  | .vscaleTimeout => true
  | .corePllRelock => true
  | .patchRestartDone => true
  | .refLoss => true
  | .refRestore => true
  | .ckuGateWrite _ => true
  | .ckuMeasWrite _ => true
  | .ckuMeasDone _ => true
  | .registerWrite _ _ _ _ errs => errsWf errs
  | .phaseThresholdCrossing _ _ _ => true
  | .checkerInSync _ _ => true
  | .checkerSyncLoss _ _ => true
  | .returnToD0 => true

end Sys2Proof
end

