-- ==== Sys2Proof/Tests/Slice0.lean ====
section
/-!
SUPPORT. Tests: an ill-formed term for each check of WellFormed.lean, states and operands that meet the hypotheses of each statement's
clauses, and small checks of single steps, whose expected values come from the rules named.
-/
namespace Sys2Proof.Tests

open Sys2Proof Sys2Proof.Machine

-- one theorem at a time: the kernel evaluates each of them on a large state
set_option Elab.async false

/-! ### Helpers -/

/-- An engine that has booted, with host A present, channel 0 open to both ports with every class, and every Thimble held by A. -/
def up : State :=
  let t := { State.reset with pmu := { State.reset.pmu with released := true } }
  let t := ((t.wr PMU_STAT_BOOT_DONE 1).wr CCX_STAT_CCA_STATE 5).wr CCX_STAT_CCB_STATE 4
  let t := (t.wr (CMD_CHANn_W0_CLASS 0) 0x7FFF).wr (CMD_CHANn_W0_LAYERS 0) 0xFF
  let t := ((t.wr (CMD_CHANn_W1_OPEN 0) 1).wr (CMD_CHANn_W1_PORTS 0) 3).wr (CCX_HOSTx_STATE 0) 1
  t.forN 8 (fun n u => u.wr (CMD_THIMBLEn_HOLDER n) 1)

/-- A command packet of port A on channel 0. -/
def cmd (p : BitVec 16) (ws : List Word) : Cmd := ⟨.a, 1, 0, false, false, false, 1, 0, 0, p, ws, true, [], false, []⟩

/-- A command that CMD holds. -/
def held (op : Opcode) (c : Cmd) : Outst := ⟨op, c, 1, 0x7FFFFF00, 0xE0000000⟩

/-- CMD takes the command in a running engine. -/
def arrives (c : Cmd) (s : State) : Bool := isPowered s && takes .nop c s

/-- The steps 1 to 3 of admission pass. -/
def opens (op : Opcode) (c : Cmd) (s : State) : Bool :=
  isPowered s && takes op c s && passesOpen c (taken op c s) && passesRate c (taken op c s)

/-- The state at step 4. -/
def counted (op : Opcode) (c : Cmd) (s : State) : State := countRate c (taken op c s)

/-- A data packet of port A on channel 0. -/
def data (ws : List Word) : DataPkt := ⟨.a, 0, false, false, false, 2, 0, ws, true, []⟩

/-- `up` with the PLL locked and ticking. -/
def lockedUp : State := { (up.wr SCN_STAT_STATE 2) with frame := { up.frame with ticked := true } }

/-! ### Hypotheses that can be met -/

theorem test_wit_CanonicalKept : State.reset.canonical = true ∧ step State.reset = .next { State.reset with now := 1 } := by
  refine ⟨by decide +kernel, rfl⟩

theorem test_wit_DriveFrame : Obligations.drives .powerOnReset = false ∧
    exec .powerOnReset State.reset = .next (engineReset 0 State.reset) := ⟨rfl, rfl⟩

theorem test_wit_GatedRows : isPowered State.reset = false ∧ Obligations.alwaysOn .refLoss = false ∧
    State.reset.rd PMU_STAT_STATE ≠ 2 := by decide +kernel

/-- A copy on the duplicate stream. -/
def twin : Cmd := { cmd 0 [] with d := true, claim := 1 }
def dupUp : State := (up.wr (CMD_CHANn_W1_DUP 0) 1).wr (CMD_CHANn_W1_DUP_HOLD 0) 5
def seen (s : State) (l : Nat) : State :=
  { s with cmd := { s.cmd with lastSeq := [(streamKey (chanW1 s 0) 0 0, some l)] } }

theorem test_wit_AdmissionRefusals :
    (Obligations.hostRow .nop (cmd 0 [])).isSome ∧ arrives { cmd 0 [] with chan := 255 } up ∧ arrives { cmd 0 [] with chan := 9 } up ∧
    arrives (cmd 0 []) (up.wr (CMD_CHANn_W1_KEY_EN 0) 1) ∧
    (keyOf (chanW1 (taken .nop (cmd 0 []) (up.wr (CMD_CHANn_W1_KEY_EN 0) 1)) 0)).isSome ∧
    chanW1 (taken .nop (cmd 0 []) (up.wr (CMD_CHANn_W1_KEY_EN 0) 1)) 0 / 2 ^ 29 = 7 ∧
    chanW1 (taken .nop (cmd 0 []) up) 0 / 2 ^ 29 = 7 ∧ keyOf (chanW1 (taken .nop { cmd 0 [] with a := true } up) 0) = none ∧
    (∀ s, s = { up.wr (CMD_CHANn_W0_RATE 0) 1 with cmd := { up.cmd with rate := [(0, 1)] } } → arrives (cmd 0 []) s ∧
      passesOpen (cmd 0 []) (taken .nop (cmd 0 []) s) ∧ passesRate (cmd 0 []) (taken .nop (cmd 0 []) s) = false) ∧
    (opens .nop { cmd 0 [] with ptype := 6 } up ∧ ptypeOk .nop { cmd 0 [] with ptype := 6 } = false) ∧
    (opens .nop twin up ∧ ptypeOk .nop twin ∧ twin.d ≠ dupOf (chanW1 (taken .nop twin up) 0)) ∧
    (opens .nop (cmd 0 []) (seen up 1) ∧ passesSeq (cmd 0 []) (taken .nop (cmd 0 []) (seen up 1)) = false) ∧
    (opens .nop { cmd 0 [] with claim := 2 } up ∧ passesSeq (cmd 0 []) (taken .nop { cmd 0 [] with claim := 2 } up) ∧
      claimFault { cmd 0 [] with claim := 2 } (counted .nop { cmd 0 [] with claim := 2 } up) = 0x71) ∧
    (opens .nop (cmd 0 []) (up.wr (CCX_HOSTx_EPOCH 0) 3) ∧
      claimFault (cmd 0 []) (counted .nop (cmd 0 []) (up.wr (CCX_HOSTx_EPOCH 0) 3)) = 0x13) ∧
    (opens .faultClear (cmd 0 []) (up.wr (CMD_CHANn_W0_CLASS 0) 0) ∧
      passesClaim .faultClear (cmd 0 []) (counted .faultClear (cmd 0 []) (up.wr (CMD_CHANn_W0_CLASS 0) 0)) ∧
      (classesOf .faultClear (cmd 0 [])).all (fun b => decide ((counted .faultClear (cmd 0 [])
        (up.wr (CMD_CHANn_W0_CLASS 0) 0)).rd (CMD_CHANn_W0_CLASS 0) / 2 ^ b % 2 = 1)) = false) ∧
    (opens .nop (cmd 0 [0#32]) up ∧ passesClaim .nop (cmd 0 [0#32]) (counted .nop (cmd 0 [0#32]) up) ∧ lenOk .nop (cmd 0 [0#32]) = false) ∧
    (opens .vscale (cmd 0 []) (up.wr (CMD_THIMBLEn_HOLDER 3) 0) ∧ lenOk .vscale (cmd 0 []) ∧
      (thimblesOf .vscale (cmd 0 [])).all (holdsThimble (cmd 0 [])
        (counted .vscale (cmd 0 []) (up.wr (CMD_THIMBLEn_HOLDER 3) 0))) = false) := by
  simp only [forall_eq]; decide +kernel

theorem test_wit_DuplicateCopies :
    (opens .nop twin dupUp ∧ ptypeOk .nop twin ∧ dupOf (chanW1 (taken .nop twin dupUp) 0) ∧ heldOn (counted .nop twin dupUp) 0 = none ∧
      (counted .nop twin dupUp).cmd.lastSeq = [] ∧ (counted .nop twin dupUp).rd (CMD_CHANn_W1_DUP_HOLD 0) ≠ 0 ∧
      hostLost (counted .nop twin dupUp) 1 = false) ∧
    (opens .nop twin (dupUp.wr (CMD_CHANn_W1_DUP_HOLD 0) 0) ∧
      heldOn (counted .nop twin (dupUp.wr (CMD_CHANn_W1_DUP_HOLD 0) 0)) 0 = none) ∧
    (∀ s, s = { dupUp with cmd := { dupUp.cmd with held := [(held .nop { twin with port := .b }, 0)] } } → opens .nop twin s ∧
      heldOn (counted .nop twin s) 0 = some (held .nop { twin with port := .b }) ∧
      cmdWords .nop { twin with port := .b } = cmdWords .nop twin ∧
      opens .ping { twin with words := [1#32] } s ∧
      heldOn (counted .ping { twin with words := [1#32] } s) 0 = some (held .nop { twin with port := .b }) ∧
      cmdWords .nop { twin with port := .b } ≠ cmdWords .ping { twin with words := [1#32] }) ∧
    (opens .nop { twin with seq := 9 } (seen dupUp 1) ∧ heldOn (counted .nop { twin with seq := 9 } (seen dupUp 1)) 0 = none ∧
      storeGet none (counted .nop { twin with seq := 9 } (seen dupUp 1)).cmd.lastSeq (streamKey (chanW1 dupUp 0) 0 0) = some 1 ∧
      later 16 9 2) ∧
    (∀ h s, h = held .nop { twin with port := .b } → s = { dupUp with cmd := { dupUp.cmd with held := [(h, dupUp.now)] } } →
      twinFirst (h, dupUp.now) { twin with tie := true } s ∧ twinFirst (h, dupUp.now) twin s = false) ∧
    (∀ s, s = { dupUp with cmd := { dupUp.cmd with dupHist := [(0, [⟨1, cmdWords .nop twin⟩])] } } →
      heldOn (counted .nop twin s) 0 = none ∧ seqInHist (counted .nop twin s) 0 1 = some ⟨1, cmdWords .nop twin⟩ ∧
      cmdWords .ping { twin with words := [1#32] } ≠ cmdWords .nop twin) := by
  simp only [forall_eq, forall_eq_apply_imp_iff]; decide +kernel

/-- The word at `a` is read. -/
def readGood (errs : List EccErr) (a : Nat) (s : State) : Bool :=
  match readWords errs [a] s with
  | (_, .ok _) => true
  | _ => false

theorem test_wit_ReadCommands :
    (admits .nop (cmd 0 []) up ∧ admits .fence (cmd 0 []) up ∧ admits .fenceGlobal (cmd 0 []) up ∧ admits .ping (cmd 0 [7#32]) up ∧
      admits .deviceInfo (cmd 0 []) up) ∧
    (admits .readReg (cmd 0 [0x50000#32]) up ∧ (regInfo 0x50000).isSome ∧ srcAssigned 0x50000 ∧
      blockOff (admitted .readReg (cmd 0 [0x50000#32]) up) 0x50000 = false ∧ inSram 0x50000 = false ∧ inSurface 0x50000 = false) ∧
    (admits .readReg (cmd 0 [2#32]) up) ∧
    (admits .readReg (cmd 0 [0x1FFFFC#32]) up ∧ isReg 0x1FFFFC = false ∧ inSram 0x1FFFFC = false ∧ inSurface 0x1FFFFC = false) ∧
    (admits .readBlock (cmd 1 [0#32]) up ∧ oneRegion 0 1 ∧ inSurface 0 = false ∧
      readGood [] 0 (admitted .readBlock (cmd 1 [0#32]) up)) ∧
    (admits .readBlock (cmd 1 [0x1780000#32]) up ∧ oneRegion 0x1780000 1 ∧ inSurface 0x1780000 = false ∧
      readGood [⟨0x1780000, true⟩] 0x1780000
        (admitted .readBlock { cmd 1 [0x1780000#32] with errs := [⟨0x1780000, true⟩] } up) = false) := by decide +kernel

/-- The access kind of a register. -/
def accOf (a : Nat) : Option Access := (regInfo a).map (fun r => r.acc)

theorem test_wit_RegisterCommands :
    (admits .writeReg (cmd 0 [0xA0010#32, 5#32]) up ∧ accOf 0xA0010 = some .rw ∧ (regInfo 0xA0010).map (fun r => r.cmask) = some 0 ∧
      Obligations.plainRegister 0xA0010 ∧ blockOff (admitted .writeReg (cmd 0 [0xA0010#32, 5#32]) up) 0xA0010 = false ∧
      rangeOk 0xA0010 5#32 ∧ trimBusy 0xA0010 (admitted .writeReg (cmd 0 [0xA0010#32, 5#32]) up) = false ∧ rangeOk 0xA0010 3#32 = false) ∧
    (admits .writeReg (cmd 0 [0xA0034#32, 5#32]) up ∧ accOf 0xA0034 = some .ro ∧ Obligations.plainRegister 0xA0034) ∧
    (∀ s, s = up.wr DEV_CONFIG_SPB_SEALED 1 → admits .writeReg (cmd 0 [BitVec.ofNat 32 SMC_CFG, 5#32]) s ∧
      accOf SMC_CFG = some .rwl ∧ Obligations.plainRegister SMC_CFG ∧
      spbSealed (admitted .writeReg (cmd 0 [BitVec.ofNat 32 SMC_CFG, 5#32]) s) ∧
      s.maskWord SMC_CFG 5#32 ≠ s.reg SMC_CFG) ∧
    (isPowered up ∧ inSram 0x1000000 ∧ accOf 0xA0010 = some .rw ∧ isReg 0x1FFFFC = false) ∧
    (admits .modifyReg (cmd 0 [0xA0010#32, 7#32, 5#32]) up ∧
      rangeOk 0xA0010 ((up.reg 0xA0010 &&& ~~~7#32) ||| (5#32 &&& 7#32))) ∧
    (inSram 0x1780000 ∧ inSram 0x1FFFFC = false ∧ inSurface 0x1FFFFC = false ∧ isReg 0x1FFFFC = false) := by
  simp only [forall_eq]; decide +kernel

theorem test_wit_Thimbles :
    (admits .thimbleAcquire (cmd 0 [0#32]) (up.wr (CMD_THIMBLEn_HOLDER 0) 0) ∧ admits .thimbleAcquire (cmd 0 [10000#32]) up) ∧
    (admits .thimbleAcquire { cmd 0 [0#32] with obs := [1] } (up.wr (CMD_THIMBLEn_HOLDER 0) 0) ∧
      up.rd CMD_THIMBLE_STAT_PRIO = 0) ∧
    (∀ s, s = up.wr (CMD_THIMBLEn_HOLDER 7) 2 → admits .thimbleAcquire (cmd 7 [5#32]) s ∧ admits .thimbleAcquire (cmd 0x107 [5#32]) s ∧
      storeGet none (admitted .thimbleAcquire (cmd 7 [5#32]) s).cmd.thWait 7 = none ∧ admits .thimbleRelease (cmd 7 []) s) ∧
    (∀ s, s = { up.wr (CMD_THIMBLEn_HOLDER 7) 2 with cmd := { up.cmd with
        thWait := [(7, some ⟨held .thimbleAcquire (cmd 0x107 [5#32]), 5, 9⟩)] } } →
      admits .thimbleAcquire (cmd 0x107 [5#32]) s ∧ (storeGet none (admitted .thimbleAcquire (cmd 0x107 [5#32]) s).cmd.thWait 7).isSome ∧
      s.rd (CMD_THIMBLEn_HOLDER 7) ≠ 0 ∧
      (storeGet none (Obligations.freed 7 (raise 0x15 263 s)).cmd.thWait 7).isSome) ∧
    (admits .thimbleRelease (cmd 0 []) (up.wr (CMD_THIMBLEn_HOLDER 0) 0) ∧ admits .thimbleRelease (cmd 7 []) up ∧
      storeGet none (admitted .thimbleRelease (cmd 7 []) up).cmd.thWait 7 = none ∧ admits .thimbleQuery (cmd 0 []) up ∧
      up.rd (CMD_THIMBLEn_HOLDER 0) ≠ 0 ∧ storeGet none (Obligations.freed 0 (raise 0x15 0 up)).cmd.thWait 0 = none) ∧
    (storeGet 0 up.cmd.thRenew 0 ≠ up.now + 1 ∧
      storeGet 0 ({ up with cmd := { up.cmd with thRenew := [(0, up.now + 1)] } } : State).cmd.thRenew 0 = up.now + 1) := by
  simp only [forall_eq]; decide +kernel

theorem test_wit_ChannelTable :
    (admits .chanCfg (cmd 5 [0x7FFF0000#32, 0xE0000000#32]) up ∧
      chanCfgBad (admitted .chanCfg (cmd 5 [0x7FFF0000#32, 0xE0000000#32]) up) 5 0x7FFF0000 0xE0000000 = false) ∧
    (admits .chanCfg (cmd 5 [0#32, 0#32]) up ∧ chanCfgBad (admitted .chanCfg (cmd 5 [0#32, 0#32]) up) 5 0 0 = false) ∧
    (admits .chanCfg (cmd 255 [0#32, 0#32]) up ∧ chanCfgBad (admitted .chanCfg (cmd 255 [0#32, 0#32]) up) 255 0 0 = true) ∧
    admits .chanQuery (cmd 255 []) up := by decide +kernel

/-- `up` with trained surface memory of the smallest size. -/
def surfUp : State := ((up.wr DEV_CONFIG_SMEM_TRAINED 1).wr SMEM_STAT_TRAINED 1).setReg SMEM_USABLE 0x3800000#32

/-- An open SURF_WRITE of 8 bytes. -/
def openWrite : Xfer := ⟨held .surfWrite (cmd 0 [0x40000000#32, 8#32]), 8, 0, [], 1, false, [], 0, none, []⟩

def xferUp (x : Xfer) : State := { surfUp with cmd := { surfUp.cmd with xfers := [x] } }

/-- The memory's clock is stopped. -/
def offUp : State := surfUp.wr CKU_GATE_SMEM 1

/-- A channel whose last transfer was that of `openWrite`, with a packet of it taken. -/
def pastUp : State := { up with cmd := { up.cmd with dupXfer := [(0, some ⟨1, [(1, dataWords (data [1#32, 9#32]))]⟩)] } }

/-- A running sequence's Bobbin lies at the start of surface memory, under the write guard. -/
def bobUp : State :=
  (((surfUp.wr SMEM_CTRL_GUARD 1).wr (ADC_SQn_STAT_UNIT 7) 2).wr (ADC_SQn_BOB_CFG_LOC 7) 1).setReg (ADC_SQn_BOB_BASE 7) 0x40000000#32

theorem test_wit_SurfaceTransfers :
    (∀ c, c = cmd 0 [0x40000000#32, 4#32, 7#32] → admits .surfWrite c surfUp ∧ surfOff [0x40000000] (admitted .surfWrite c surfUp) = false ∧
      unitIn (issued .surfWrite c surfUp) (admitted .surfWrite c surfUp) = none ∧
      surfRefuse 0x40000000 4 4 surfMax (admitted .surfWrite c surfUp) = none ∧ guarded 0x40000000 4 (admitted .surfWrite c surfUp) = false ∧
      (givenBytes (issued .surfWrite c surfUp)).length = 4 ∧ (surfRefuse 0x40000000 4 4 surfMax up).isSome ∧ admits .surfWrite c up ∧
      surfOff [0x40000000] (admitted .surfWrite c up) = false ∧ admits .surfWrite c offUp ∧
      surfOff [0x40000000] (admitted .surfWrite c offUp) ∧ admits .surfWrite c bobUp ∧
      guarded 0x40000000 4 (admitted .surfWrite c bobUp)) ∧
    (∀ c, c = cmd 0 [0x40000000#32, 8#32] → admits .surfWrite c surfUp ∧ surfRefuse 0x40000000 8 4 surfMax (admitted .surfWrite c surfUp) = none ∧
      guarded 0x40000000 8 (admitted .surfWrite c surfUp) = false ∧ (givenBytes (issued .surfWrite c surfUp)).length < 8) ∧
    (∀ d, d = data [1#32, 9#32] → waitsTurn .a 0 2 (carriesData d) up = false ∧ xferFor up 0 0 = none ∧ lateData d up = none ∧
      lateData d pastUp = some (dataWords d) ∧ lateData (data [1#32, 8#32]) pastUp = some (dataWords d) ∧
      dataWords d ≠ dataWords (data [1#32, 8#32])) ∧
    (xferFor (xferUp openWrite) 0 0 = some openWrite ∧ dataHeaderOk (data [0x00010001#32]) openWrite ∧
      dataInTurn (data [0x00010001#32]) openWrite = false ∧ dataHeaderOk (data [1#32, 9#32]) openWrite ∧
      dataInTurn (data [1#32, 9#32]) openWrite ∧ dataSeqOk (data [1#32, 9#32]) openWrite ∧
      dataHeaderOk { data [1#32, 9#32] with f := true } openWrite = false ∧ dupOf openWrite.o.w1 = false) ∧
    ((xferUp openWrite).cmd.xfers.filter (fun x => xferOn x 0 0) = [openWrite]) ∧
    (∀ s, s = { up.wr (CMD_CHANn_W1_TIMEOUT 0) 3 with cmd := { up.cmd with quiet := [(0, 3)] } } →
      s.rd (CMD_CHANn_W1_TIMEOUT 0) ≠ 0 ∧ s.rd (CMD_CHANn_W1_TIMEOUT 0) ≤ storeGet 0 s.cmd.quiet 0 ∧
      storeGet false s.cmd.absent 0 = false) ∧
    storeGet false ({ up with cmd := { up.cmd with absent := [(0, true)] } } : State).cmd.absent 0 := by
  simp only [forall_eq]; decide +kernel

theorem test_wit_SurfaceCommands :
    (∀ c, c = cmd 0 [0x40000000#32, 4#32] → admits .surfRead c surfUp ∧ surfRefuse 0x40000000 4 4 2044 (admitted .surfRead c surfUp) = none ∧
      readUe [] 0x40000000 4 (admitted .surfRead c surfUp) = false ∧
      readUe [⟨0x40000000, true⟩] 0x40000000 4 (admitted .surfRead c surfUp) = true) ∧
    (∀ c, c = cmd 0 [0x40000000#32, 4#32] → admits .surfRead c offUp ∧ surfOff [0x40000000] (admitted .surfRead c offUp)) ∧
    (∀ c, c = cmd 0 [0x40000000#32, 4#32, 7#32] → admits .surfFill c surfUp ∧ admits .surfFill c offUp ∧
      surfOff [0x40000000] (admitted .surfFill c offUp) ∧
      guarded 0x40000000 4 (admitted .surfFill c surfUp) = false) ∧
    (∀ c, c = cmd 0 [0x40000000#32, 0x40000100#32, 4#32] → admits .surfCopy c surfUp ∧
      surfRefuse 0x40000100 4 4 surfMax (admitted .surfCopy c surfUp) = none ∧ overlap 0x40000000 4 0x40000100 4 = false ∧
      bytesBeforeUe [] 0x40000100 4 (admitted .surfCopy c surfUp) = 4 ∧
      surfOff [0x40000000, 0x40000100] (admitted .surfCopy c surfUp) = false ∧ admits .surfCopy c offUp ∧
      surfOff [0x40000000, 0x40000100] (admitted .surfCopy c offUp)) ∧
    (∀ c, c = cmd 0 [0x40000000#32, 4#32] → admits .retireQuery c surfUp ∧ cmpOff (admitted .retireQuery c surfUp) = false ∧
      inUsable (admitted .retireQuery c surfUp) 0x40000000 4) := by
  simp only [forall_eq]; decide +kernel

theorem test_wit_HeldCommands :
    (heldOn { up with cmd := { up.cmd with held := [(held .nop twin, 0)] } } 0 = some (held .nop twin)) ∧
    (∀ s, s = { up with cmd := { up.cmd with waiting := [held .nop (cmd 0 [])] } } → s.pmu.activate = none ∧
      releasable s = some (held .nop (cmd 0 [])) ∧
      (execute (runBody .nop) (held .nop (cmd 0 [])) (({ s with cmd := { s.cmd with waiting := [] } } : State).wr CMD_STAT_GFENCE 0)).pmu.activate
        = none) := by
  simp only [forall_eq]; decide +kernel

/-- TABLE_LOAD of a current-estimate image: 256 bytes of zero. -/
def estLoad : Cmd := cmd 10 ([0#32, 256#32] ++ List.replicate 64 0#32)

theorem test_wit_TableCommands :
    (admits .tableLoad estLoad up ∧ unitIn (issued .tableLoad estLoad up) (admitted .tableLoad estLoad up) = none ∧ selectOk 10 0 ∧
      tableBusy 10 0 (admitted .tableLoad estLoad up) = false ∧ tableLenBad 10 0 256 = false ∧
      tableHeaderBad 10 256 (givenBytes (issued .tableLoad estLoad up)) = false ∧ (givenBytes (issued .tableLoad estLoad up)).length = 256) ∧
    (admits .tableLoad (cmd 10 [0#32, 256#32]) up ∧ (givenBytes (issued .tableLoad (cmd 10 [0#32, 256#32]) up)).length < 256 ∧
      tableHeaderBad 10 256 (givenBytes (issued .tableLoad (cmd 10 [0#32, 256#32]) up)) = false) ∧
    (admits .tableLoad (cmd 10 [1#32, 4#32, 0#32]) up ∧ selectOk 10 1 = false ∧
      (givenBytes (issued .tableLoad (cmd 10 [1#32, 4#32, 0#32]) up)).length = 4) ∧
    (∀ c s, c = cmd 7 [0#32, 64#32] → s = up.wr DEV_LADDER_RUNG 1 → admits .tableLoad c s ∧ tableBusy 7 0 (admitted .tableLoad c s)) ∧
    (∀ c, c = cmd 10 [0#32, 0#32, 4#32] → admits .tableRead c up ∧ selectOk 10 0 ∧
      (tableImage 10 0 (admitted .tableRead c up)).isSome ∧ leftBad (fun _ => false) c.errs (admitted .tableRead c up) = [] ∧
      sramUe [] = false) := by
  simp only [forall_eq, forall_eq_apply_imp_iff]; decide +kernel

theorem test_wit_EstimateImages : tableBusy 10 0 up = false ∧ (List.replicate 256 0).length = 256 ∧
    (∀ i, i < 256 → (List.replicate 256 0).getD i 0 ≤ 63 ∧ (i ≠ 0 → (List.replicate 256 0).getD (i - 1) 0 ≤ (List.replicate 256 0).getD i 0)) ∧
    (64 :: List.replicate 255 0).length = 256 ∧ 63 < (64 :: List.replicate 255 0).getD 0 0 := by decide +kernel

/-- The words of LAYER_SET, at the reset values of the shadows. -/
def layerWords : List Word := (List.range 11).map (fun i => regReset (CMP_Lk_CTRL 0 + 4 * i))

theorem test_wit_LayersAndCommits :
    (admits .layerSet (cmd 0 layerWords) up ∧ cmpOff (admitted .layerSet (cmd 0 layerWords) up) = false ∧
      entryOwns (issued .layerSet (cmd 0 layerWords) up).w0 0 ∧
      (List.range 11).all (fun i => rangeOk (CMP_Lk_CTRL 0 + 4 * i) (layerWords.getD i 0#32))) ∧
    (∀ s, s = up.wr (CMD_CHANn_W0_LAYERS 0) 0 → admits .layerSet (cmd 7 layerWords) s ∧
      entryOwns (issued .layerSet (cmd 7 layerWords) s).w0 7 = false) ∧
    (admits .layerEnable (cmd 0xFF07 []) up ∧ entryOwns (issued .layerEnable (cmd 0xFF07 []) up).w0 7 ∧
      admits .layerDisable (cmd 0 []) up ∧ entryOwns (issued .layerDisable (cmd 0 []) up).w0 0) ∧
    (admits .commit (cmd 0 []) up ∧ cmpOff (admitted .commit (cmd 0 []) up) = false) ∧
    (admits .commitAt (cmd 0 [0#32]) up ∧ atLate 0 (admitted .commitAt (cmd 0 [0#32]) up)) ∧
    (admits .commitAt (cmd 0 [4096#32]) lockedUp ∧ atLate 4096 (admitted .commitAt (cmd 0 [4096#32]) lockedUp) = false ∧
      (admitted .commitAt (cmd 0 [4096#32]) lockedUp).cmp.atFn = none) ∧
    (admits .commitAt (cmd 0 [4097#32]) lockedUp ∧ atLate 4097 (admitted .commitAt (cmd 0 [4097#32]) lockedUp) = false) := by
  simp only [forall_eq]; decide +kernel

/-- `up` with a valid schedule in each sequencer's buffer 0, and one COMMIT armed. -/
def armedUp : State :=
  let t := up.forN 4 (fun q u => (u.setBit (SEQ_STAT_BUF_VALID q) 0).setReg (SEQ_BUFb_HDR q 0) (BitVec.ofNat 32 (up.rd SCN_CFG_SLOTS_LOG2)))
  { t with cmp := { t.cmp with armed := [held .commit (cmd 0 [])] } }

theorem test_wit_Latch : armedUp.cmp.armed ≠ [] ∧ armedUp.cmp.atFn ≠ some 1 ∧ (latchCheck armedUp).2 = 0 ∧
    (latchCheck ((armedUp.wr (CMP_Lk_CTRL_EN 0) 1))).2 ≠ 0 := by decide +kernel

/-- A frame without layers that is being composed. -/
def compUp : State := { up with cmp := { up.cmp with comp := some ⟨1, false, false, 0, 0, 0, 0⟩ } }

theorem test_wit_Composition :
    (pllTicks lockedUp ∧ lockedUp.frame.ticked ∧ lockedUp.cmp.csDone = false ∧ cmpOff lockedUp = false ∧
      2 ≤ lockedUp.rd DEV_LADDER_RUNG ∧ lockedUp.smc.release = none ∧
      (lockedUp.wr DEV_LADDER_RUNG 1).rd DEV_LADDER_RUNG ≤ 1) ∧
    (compErrs false [] compUp = [] ∧ ueLayers false [] compUp = [] ∧ crcLayers false compUp = [] ∧
      (frameSrcs false compUp).all (fun x => decide (tileErrs ((frameSrcs false compUp).map (fun y => y.lev)) x = [])) ∧ compUp.bit CMP_WB_CTRL_ACT_WB_EN = false) := by decide +kernel

/-- A well-formed SAFE_MSG copy with SSEQ 1 (R351). -/
def safeC (p : Nat) : Cmd :=
  { cmd (BitVec.ofNat 16 p) [BitVec.ofNat 32 (65536 + crc16 [p % 256, p / 256, 1, 0])] with ptype := 6 }

/-- The copy of BLANK of all zones that came on port B. -/
def blankB : Outst := held .safeMsg { safeC 0x10FF with port := .b }
def pendUp : State := { up with smc := { up.smc with msg := some ⟨blankB, 0⟩ } }
def decidedUp : State := { (up.wr SMC_MSG_LAST_SSEQ 5) with smc := { up.smc with decided := true } }
def quietUp : State := { up with now := 1000000000 }
def msgAt (s : State) : State := holdCmd (issued .safeMsg (safeC 0x10FF) s) (admitted .safeMsg (safeC 0x10FF) s)

theorem test_wit_SafetyMessages :
    (admits .safeMsg { safeC 0x10FF with words := [0#32] } up ∧ msgFormed (issued .safeMsg { safeC 0x10FF with words := [0#32] } up) = false) ∧
    (admits .safeMsg (safeC 0x10FF) decidedUp ∧ msgOver (admitted .safeMsg (safeC 0x10FF) decidedUp) = false ∧
      msgFormed (issued .safeMsg (safeC 0x10FF) decidedUp) ∧ (msgAt decidedUp).smc.decided ∧
      later 16 (msgSseq (issued .safeMsg (safeC 0x10FF) decidedUp)) ((msgAt decidedUp).rd SMC_MSG_LAST_SSEQ) = false) ∧
    (admits .safeMsg (safeC 0x10FF) up ∧ (msgAt up).smc.decided = false ∧ (msgAt up).smc.msg = none ∧ hbSilent 1 (msgAt up) = false) ∧
    (admits .safeMsg (safeC 0x10FF) quietUp ∧ (msgAt quietUp).smc.msg = none ∧ hbSilent 1 (msgAt quietUp) ∧ msgRestrictive 0x10FF) ∧
    (admits .safeMsg (safeC 0x10FF) pendUp ∧ msgOver (admitted .safeMsg (safeC 0x10FF) pendUp) = false ∧
      (msgAt pendUp).smc.msg = some ⟨blankB, 0⟩ ∧ msgSseq blankB = 1 ∧ blankB.cmd.w 1 = (safeC 0x10FF).w 1) ∧
    (msgKind 0x10FF = 1 ∧ msgZones 0x10FF = 0xFF ∧ (up.wr DEV_LADDER_RUNG 3).rd DEV_LADDER_RUNG < 4 ∧ msgKind 0x1001 = 1 ∧
      msgZones 0x1001 ≠ 0xFF ∧ up.smc.release = none ∧ msgKind 0x2000 = 2 ∧ msgArg 0x2000 < up.rd SMC_STAT_CEILING ∧
      (up.wr SMC_STAT_CEILING 2).rd SMC_STAT_CEILING ≤ 2 ∧ msgArg 0x2200 = 2 ∧ msgKind 0x3000 = 3 ∧ msgArg 0x3000 = 0 ∧
      msgArg 0x3100 ≠ 0 ∧ up.bit SMC_PROFILE_HB_ALLOWED = false ∧ (up.wr SMC_PROFILE_HB_ALLOWED 1).bit SMC_PROFILE_HB_ALLOWED) := by
  decide +kernel

/-- A safety parameter block within the built-in profile of straps 0 and 0, without pairs (R336). -/
def spbImage : List Nat :=
  let w := [0x53500100, 28, 0x44, 0x53F00008, 0, 0, 0, 50 * 65536 + 0x2008, 0x3002] ++ List.replicate 16 0x02800280 ++ [0, 0]
  w ++ [crc32 (spbBytes w)]
def spbC (p : BitVec 16) : Cmd := cmd p (spbImage.map (BitVec.ofNat 32))
def strapUp : State := up.wr SMC_STRAPS_VALID 1

theorem test_wit_SafetyBlock :
    (admits .spbLoad (spbC 0) strapUp ∧ (admitted .spbLoad (spbC 0) strapUp).smc.spbNext = [] ∧
      (admitted .spbLoad (spbC 0) strapUp).smc.sealFuse = none ∧
      spbCheck ((spbC 0).words.map BitVec.toNat) (admitted .spbLoad (spbC 0) strapUp) = none) ∧
    (admits .spbLoad (spbC 1) strapUp ∧ spbCheck ((spbC 1).words.map BitVec.toNat) (admitted .spbLoad (spbC 1) strapUp) = none) ∧
    (admits .spbLoad (spbC 0) up ∧ spbCheck ((spbC 0).words.map BitVec.toNat) (admitted .spbLoad (spbC 0) up) = some (3, 0)) ∧
    (isPowered up ∧ (∀ o k, o = held .spbLoad (spbC 1) → k = (⟨[], true, true, some o⟩ : SpbPend) →
      ({ up with smc := { up.smc with spbNext := [k] } } : State).smc.spbNext.find? (fun p => p.cmd.isSome) = some k)) ∧
    (admits .safeStatus (cmd 0 []) up) ∧
    (admits .safeTest (cmd 0x1000 []) up ∧ (cmd 0x1000 []).obs.getD 0 7 % 8 = 7 ∧
      admits .safeTest { cmd 0x1000 [] with obs := [3] } up) ∧
    (admits .safeTest (cmd 0x3002 []) up ∧ (admitted .safeTest (cmd 0x3002 []) up).rd DEV_LADDER_RUNG = 4 ∧
      admits .safeTest (cmd 0x3000 []) (up.wr DEV_LADDER_RUNG 0) ∧
      (admitted .safeTest (cmd 0x3000 []) (up.wr DEV_LADDER_RUNG 0)).rd DEV_LADDER_RUNG ≠ 4) := by
  simp only [forall_eq, forall_eq_apply_imp_iff]; decide +kernel

theorem test_wit_SafetyPins :
    isPowered up ∧ ({ up with smc := { up.smc with offWait := true } } : State).smc.offWait ∧
    true ≠ (up.wr SMC_STAT_SAFE_SNS 1).bit SMC_STAT_SAFE_OFF ∧ false = (up.wr SMC_STAT_SAFE_SNS 0).bit SMC_STAT_SAFE_OFF ∧
    up.smc.msg = none ∧ (pendUp.smc.msg.map (fun p => msgRestrictive p.o.cmd.p0)) = some true ∧ msgRestrictive 0x2000 = false ∧
    up.bit SMC_STRAPS_VALID = false ∧ strapUp.bit SMC_STRAPS_VALID ∧ strapUp.rd SMC_STRAPS_LEVEL0 = 0 ∧
    ({ strapUp with smc := { strapUp.smc with strapBad0 := 3 } } : State).smc.strapBad0 + 1 = 4 ∧
    aliveOk (strapUp.wr FCR_ALIVE_CONTRIB 1) ∧ ((strapUp.wr FCR_ALIVE_CONTRIB 1).wr SMC_STAT_ALIVE_RUN 1).bit SMC_STAT_ALIVE_RUN ∧
    aliveOk ((strapUp.wr FCR_ALIVE_CONTRIB 1).wr SMC_STAT_ALIVE_RUN 1) ∧ aliveOk up = false := by decide +kernel

theorem test_wit_FaultEvents : sourceAssigned 0xFF = false ∧ sourceAssigned 0x20 ∧
    (judgeEvent (up.reg (FCR_SRCn_CFG 0x20)) 0 (up.rd DEV_FN_FN) [up.rd DEV_FN_FN]).2 = 1 ∧
    (up.reg (FCR_SRCn_RCT 0x20)).toNat / 256 % 256 = 0 := by decide +kernel

theorem test_wit_CounterClears : isPowered up ∧ up.canonical ∧ cmpOff up = false ∧ smemOff up = false := by decide +kernel

/-! ### The frame, the schedules and the array -/

/-- `lockedUp` at a tick's time, with an open acceptance window around it. -/
def winUp (st : Nat) (e : Option Nat) : State :=
  { lockedUp.wr SCN_STAT_STATE st with
    frame := { lockedUp.frame with tickAt := 50000000, t1 := 60000000, perCur := 10000000, winOpen := true, winEdge := e } }
/-- The PLL acquires, and an edge came at 10 ms. -/
def acqUp : State := { up.wr SCN_STAT_STATE 1 with frame := { up.frame with lastQual := some 10000000 } }
def closedWin (s : State) : State := { s with frame := { s.frame with winOpen := false, winEdge := none } }
def missedOnce (s : State) : State :=
  ((closedWin s).bump SCN_COUNT_MISSED_TOTAL).wr SCN_STAT_MISSED (min ((closedWin s).rd SCN_STAT_MISSED + 1) 255)
def hold1 (s : State) : State := (s.wr SCN_FSYNC_CTRL_HOLD_FRAMES 1).takeAct [SCN_FSYNC_CTRL]

theorem test_wit_FrameClock :
    (isPowered up ∧ up.canonical ∧ up.rd SCN_STAT_STATE = 0 ∧ isPowered (winUp 2 none) ∧ (winUp 2 none).rd SCN_STAT_STATE ≠ 0) ∧
    (isPowered acqUp ∧ acqUp.rd SCN_STAT_STATE = 1 ∧ acqUp.frame.lastQual = some 10000000 ∧
      inTol acqUp (10000000 + tNom acqUp - 10000000) ∧ inTol acqUp (10000000 - 10000000) = false) ∧
    (inOpenWindow 50000000 (winUp 2 none) ∧ (winUp 2 none).frame.winEdge = none ∧ (winUp 3 none).rd SCN_STAT_STATE = 3 ∧
      inOpenWindow 55000000 (winUp 2 none) = false ∧ beforeTick 55000000 (winUp 2 none) = false ∧
      inOpenWindow 59000000 (winUp 2 none) = false ∧ beforeTick 59000000 (winUp 2 none) ∧ inOpenWindow 50000000 (winUp 2 (some 1)) ∧
      (winUp 2 (some 1)).frame.winEdge.isSome ∧ (winUp 4 none).rd SCN_STAT_STATE = 4 ∧ (winUp 4 none).frame.perCur ≠ 0 ∧ (winUp 2 none).frame.winOpen ∧
      up.frame.winOpen = false ∧ (winUp 5 none).rd SCN_STAT_STATE = 5) ∧
    (holdFrames (missedOnce (winUp 2 none)) ≠ 1 ∧ (missedOnce (winUp 3 none)).rd SCN_STAT_MISSED < holdFrames (missedOnce (winUp 3 none)) ∧
      holdFrames (missedOnce ((winUp 3 none).wr SCN_STAT_MISSED 254)) ≤ 255) ∧
    (up.rd SCN_STAT_STATE ≠ 5 ∧ up.rd SCN_STAT_STATE ≠ 1 ∧ (up.wr SCN_CTRL_SO_EN 1).bit SCN_CTRL_SO_EN ∧
      (up.wr SCN_CTRL_SO_EN 1).rd SCN_STAT_STATE = 0 ∧ (lockedUp.wr SCN_CTRL_SO_EN 1).bit SCN_CTRL_SO_EN ∧
      2 ≤ (lockedUp.wr SCN_CTRL_SO_EN 1).rd SCN_STAT_STATE ∧ (lockedUp.wr SCN_CTRL_SO_EN 1).frame.ticked ∧
      (up.wr DEV_LADDER_RUNG 0).rd DEV_LADDER_RUNG ≠ 4 ∧ up.rd DEV_LADDER_RUNG = 4 ∧ up.cmp.atFn = none) := by
  decide +kernel

theorem test_wit_FrameClock_hold : holdFrames (missedOnce (hold1 (winUp 2 none))) = 1 := by decide +kernel

/-- The last slot period of the frame is over. -/
def doneUp : State := { lockedUp with frame := { lockedUp.frame with slotNext := 64 } }

theorem test_wit_Ticks : isPowered up ∧ up.rd SCN_STAT_STATE ≤ 1 ∧ isPowered doneUp ∧ 2 ≤ doneUp.rd SCN_STAT_STATE ∧ frameDone doneUp ∧
    frameDone { lockedUp with frame := { lockedUp.frame with ticked := false } } ∧ frameDone lockedUp = false := by
  decide +kernel

/-- The event word `w` is next in sequencer 0 and in sequencer 1; with `cut`, SEQ0 has met a bad word. -/
def evUp (w : Nat) (cut : Bool) : State :=
  let t := (lockedUp.wr (SEQ_STAT_MODE 0) 1).wr (SEQ_STAT_MODE 1) 1
  let t := { t with seq := { t.seq with bufs := [(0, BitVec.ofNat 32 w), (8192, BitVec.ofNat 32 w)] } }
  setSeqOne 0 { seqOne t 0 with cut := cut, ended := false } t

theorem test_wit_SlotEvents_due :
    [1, 3, 7, 8, 9, 11, 12, 63, 2, 4, 5, 6, 10].all (fun c => isPowered (evUp (evWord c 5 0) false)
      && Obligations.due c 0 (evWord c 5 0) [] (evUp (evWord c 5 0) false)
      && Obligations.due c 1 (evWord c 5 0) [] (evUp (evWord c 5 0) false)) ∧
    (0 : Fin 4).val = arrayMaster (evUp (evWord 2 1010 0) false) ∧ (1 : Fin 4).val ≠ arrayMaster (evUp (evWord 2 1010 0) false) ∧
    (1 : Fin 4).val = arrayMaster (evUp (evWord 2 1010 0) true) ∧ behindSeq0 0 (evUp (evWord 2 1010 0) false) = false ∧
    behindSeq0 1 (evUp (evWord 2 1010 0) false) ∧
    (∀ s, s = setSeqOne 0 { seqOne (evUp (evWord 2 1010 0) true) 0 with ended := true } (evUp (evWord 2 1010 0) true) →
      behindSeq0 1 s = false ∧ (1 : Fin 4).val = arrayMaster s) ∧
    (∀ s, s = (evUp (evWord 2 1010 0) false).wr (SEQ_POS_WORD 0) 1 → behindSeq0 1 s = false ∧ (1 : Fin 4).val ≠ arrayMaster s ∧
      Obligations.due 2 1 (evWord 2 1010 0) [] s) := by
  simp only [forall_eq]; decide +kernel

theorem test_wit_SlotEvents_slot :
    up.rd SCN_STAT_STATE ≤ 1 ∧ 2 ≤ (lockedUp.wr SCN_TIMING_SLOTS_LOG2 2).rd SCN_STAT_STATE ∧
    (lockedUp.wr SCN_TIMING_SLOTS_LOG2 2).frame.ticked ∧
    (lockedUp.wr SCN_TIMING_SLOTS_LOG2 2).frame.slotNext < slotsOf (lockedUp.wr SCN_TIMING_SLOTS_LOG2 2) ∧
    slotsOf { lockedUp with frame := { lockedUp.frame with slotNext := 64 } } ≤ 64 ∧
    (∀ s, s = { lockedUp.wr SCN_TIMING_SLOTS_LOG2 2 with frame := { lockedUp.frame with slotNext := 1 } } → slotDone s ∧
      s.frame.slotNext < slotsOf s ∧ slotMode (s.wr DEV_LADDER_RUNG 3) = 2 ∧ s.rd (SEQ_STAT_MODE 0) ≠ 2) ∧
    up.loops.ffNext = none ∧ ({ up with loops := { up.loops with ffNext := some 5 } } : State).loops.ffNext = some 5 := by
  simp only [forall_eq]; decide +kernel

/-- The premise of TransferLatches: a set of dark pixels that is empty meets it at reset. -/
theorem test_wit_TransferLatches : (fun _ => false : Nat → Bool) 0 = false ∧ (guardZones (guardLimits 0 up) up).1 = 0 ∧
    rowVetoed up 0 = false ∧ rowVetoed up 639 = false ∧ seqOf 0 ∉ ([] : List Nat) ∧ seqOf 512 ∈ [1] := by decide +kernel

def deadUp : State := { up with pxh := { up.pxh with health := [(5, 12)] } }
def retUp (p : Nat) : State := { up with pxh := { up.pxh with retire := [⟨p, 0, 1⟩] } }
def proofUp : State :=
  let t := evUp (evWord 4 100 3) false
  { t with seq := { t.seq with lens := [(0, 2)], bufs := [(0, BitVec.ofNat 32 (evWord 4 100 3)), (1, BitVec.ofNat 32 (evWord 63 1023 0))] } }

theorem test_wit_PixelHealthUnit :
    (admits .healthRead (cmd 0 [1310719]) up ∧ admits .healthRead (cmd 0x1000 [2047]) up ∧ admits .healthRead (cmd 0x2000 [0]) up ∧
      admits .healthRead (cmd 0x800 [0]) up ∧ admits .healthRead (cmd 0 [1310720]) up) ∧
    (admits .spareForce (cmd 0x3000 [1310719]) up ∧ admits .spareForce (cmd 0x1000 [5]) deadUp ∧
      healthState (healthOf (admitted .spareForce (cmd 0x1000 [5]) deadUp) 5) = 3 ∧
      admits .spareForce (cmd 0 [5]) up ∧ healthState (healthOf (admitted .spareForce (cmd 0 [5]) up) 5) ≠ 3) ∧
    (admits .proofReq (cmd 2047 [0]) up ∧ admits .proofReq (cmd 0 [1310719]) up) ∧
    (isPowered up ∧ up.pxh.retire = [] ∧ isPowered (retUp 9) ∧ healthState (healthOf (retUp 9) 9) ≠ 3 ∧ trimSpare (trimOf (retUp 9) 9) = 0 ∧
      ((retUp 9).wr PXH_CTRL_AUTO_SPARE 1).bit PXH_CTRL_AUTO_SPARE ∧ ((retUp 9).wr PXH_CTRL_AUTO_SPARE 0).bit PXH_CTRL_AUTO_SPARE = false) ∧
    (proofWord up = none ∧ proofWord (syncHealth (healthRebuild [] (noteErrs [] proofUp))) = some (evWord 4 100 3) ∧
      (syncHealth (healthRebuild [] (noteErrs [] (proofUp.wr PXH_CTRL_PROOF_EN 1)))).bit PXH_CTRL_PROOF_EN ∧ isPowered proofUp) ∧
    up.canonical := by decide +kernel

def failN (n : Nat) (s : State) : State := (s.wr PXH_PERSIST_FAIL_N n).takeAct [PXH_PERSIST]
def suspectUp (passes : Nat) : State :=
  setCache 0 (some ⟨passes, 1, 1, 9, 0⟩) (setHealth 9 5 up)

theorem test_wit_PixelHealth :
    (cacheOf up 1310719 = none ∧ cacheFree up = some 0 ∧ 1 < (failN 3 up).rdAct PXH_PERSIST_FAIL_N ∧ cacheFree (failN 3 up) = some 0) ∧
    (healthState (healthOf up 9) ≠ 1) ∧
    (healthState (healthOf (suspectUp 0) 9) = 1 ∧ (cacheOf (suspectUp 0) 9).isSome ∧ min 31 (0 + 1) < (suspectUp 0).rdAct PXH_PERSIST_PASS_N ∧
      (cacheOf (suspectUp 31) 9).isSome ∧ (suspectUp 31).rdAct PXH_PERSIST_PASS_N ≤ 31) := by decide +kernel

def winAll : State := { up with thm := { up.thm with window := [(71, 3)] } }
def xchk : State := up.wr THM_STAT_XCHK_RESULT 1
/-- A cross-check of NTC 0 with a strictly monotonic curve; `got` says that NTC 0 has given a result. -/
def ntcUp (got : Bool) : State :=
  let t := xchk.forN 8 (fun i u => (u.wr (THM_NTC_PTn_CODE i) (100 * (i + 1))).wr (THM_NTC_PTn_TEMP i) (16 * (i + 1)))
  let t := t.wr (ADC_LASTn_MEAN 11) 150
  let t := (t.wr THM_XCHK_CFG_NTC_SEL 1).takeAct [THM_XCHK_CFG]
  { t with thm := { t.thm with ntcGot := if got then [(0, true)] else [] } }
def ntcOn : State := (ntcUp true).wr DEV_LADDER_RUNG 0

/-- The cross-check runs on DARK with its own window on every sensor, and NTC 0, or both, as reference. -/
def xchkAll (sel : Nat) : State :=
  let t := ((ntcUp true).wr THM_XCHK_CFG_NTC_SEL sel).takeAct [THM_XCHK_CFG]
  let t := t.wr (ADC_LASTn_MEAN 12) 150
  { t with thm := { t.thm with
    ntcGot := [(0, true), (1, true)], xchkDark := true, xchkWin := (List.range 72).map (fun k => (k, 1)) } }
/-- Counts of all 72 sensors, near the reference from sensor `b` on. -/
def counts72 (b : Nat) : List (Nat × Nat) := (List.finRange 72).map (fun k => (k.val, if k.val < b then 0 else 84043))

theorem test_wit_Thermal :
    (admits .tempMeasure (cmd 71 []) up ∧ admits .tempMeasure (cmd 127 []) up ∧ admits .tempMeasure (cmd 72 []) up ∧
      (∀ i ∈ sensorsOf 71, winOpenAt (admitted .tempMeasure (cmd 71 []) up) i = false) ∧
      (∀ i ∈ sensorsOf 127, winOpenAt (admitted .tempMeasure (cmd 127 []) up) i = false)) ∧
    (isPowered up ∧ up.canonical ∧ up.thm.autoDue = false ∧ ({ up with thm := { up.thm with autoDue := true } } : State).thm.autoDue) ∧
    (winOpenAt winAll 71 ∧ isPowered winAll ∧ winOpenAt up 71 = false ∧ storeGet 0 winAll.thm.xchkWin 71 ≠ 1) ∧
    (xchk.rd THM_STAT_XCHK_RESULT = 1 ∧ up.rd THM_STAT_XCHK_RESULT ≠ 1 ∧ xchk.canonical ∧
      (List.range 72).all (fun k => !winOpenAt up k)) ∧
    (strictMono ((ntcPoints xchk).map (fun x => x.1)) = false ∧ strictMono ((ntcPoints (ntcUp true)).map (fun x => x.1)) ∧
      strictMono ((ntcPoints (ntcUp true)).map (fun x => x.2)) ∧ isPowered (ntcUp true) ∧ (ntcUp true).rd THM_STAT_XCHK_RESULT = 1 ∧
      (List.range 2).filter (fun n => (ntcUp true).rdAct THM_XCHK_CFG_NTC_SEL / 2 ^ n % 2 = 1) = [0] ∧
      storeGet false (ntcUp true).thm.ntcGot 0 ∧ storeGet false (ntcUp false).thm.ntcGot 0 = false ∧
      (ntcTemp (ntcPoints (ntcUp true)) ((ntcUp true).rd (ADC_LASTn_MEAN 11))).isSome ∧
      (ntcTemp (ntcPoints (ntcUp true)) (((ntcUp true).wr (ADC_LASTn_MEAN 11) 5).rd (ADC_LASTn_MEAN 11))) = none ∧
      ntcOn.rd DEV_LADDER_RUNG ≠ 4 ∧ strictMono ((ntcPoints ntcOn).map (fun x => x.1))) := by decide +kernel

theorem test_wit_Thermal_check :
    (xchkOpen (xchkAll 1) ∧ (xchkAll 1).rdAct THM_XCHK_CFG_NTC_SEL = 1 ∧ (xchkAll 3).rdAct THM_XCHK_CFG_NTC_SEL = 3 ∧
      (xchkAll 1).rd DEV_LADDER_RUNG = 4 ∧ (xchkAll 1).thm.xchkDark ∧ (xchkAll 1).rd THM_STAT_XCHK_RESULT = 1 ∧
      (ntcTemp (ntcPoints (xchkAll 3)) ((xchkAll 3).rd (ADC_LASTn_MEAN 11))).isSome ∧
      ntcTemp (ntcPoints (xchkAll 3)) ((xchkAll 3).rd (ADC_LASTn_MEAN 11))
        = ntcTemp (ntcPoints (xchkAll 3)) ((xchkAll 3).rd (ADC_LASTn_MEAN 12)) ∧
      strictMono ((ntcPoints (xchkAll 3)).map (fun x => x.1)) ∧ strictMono ((ntcPoints (xchkAll 3)).map (fun x => x.2))) ∧
    ntcTemp (ntcPoints (xchkAll 1)) ((xchkAll 1).rd (ADC_LASTn_MEAN 11)) = some 24 ∧
    (xchkFails 24 (counts72 0) (xchkAll 1) = [] ∧ xchkFails 24 (counts72 2) (xchkAll 1) = [0, 1] ∧
      32 < (xchkFails 24 (counts72 72) (xchkAll 1)).length ∧ xchkOpen xchk = false) ∧
    (ntcTemp (ntcPoints (xchkAll 3)) (((xchkAll 3).wr (ADC_LASTn_MEAN 12) 750).rd (ADC_LASTn_MEAN 12)) = some 120 ∧
      (xchkAll 3).rdAct THM_XCHK_CFG_XCHK_TOL * 16 < 120 - 24) := by
  decide +kernel

def litUp : State := (up.wr DEV_LADDER_RUNG 0).wr SMC_STAT_SAFE_SNS 1
def railIs (n : Nat) : State := litUp.wr LE0_STAT_UNIT n
def onAdm (p : BitVec 16) (s : State) : State := admitted .loopEnable (cmd p []) s
def offAdm (p : BitVec 16) (s : State) : State := admitted .loopDisable (cmd p []) s

theorem test_wit_LoopEnables :
    (admits .loopEnable (cmd 0 []) litUp ∧ (onAdm 0 litUp).rd DEV_LADDER_RUNG ≠ 4 ∧ (onAdm 0 litUp).bit SMC_STAT_SAFE_SNS ∧
      (onAdm 0 litUp).rd LE0_STAT_UNIT = 0 ∧ (onAdm 0 (railIs 3)).rd LE0_STAT_UNIT = 3 ∧ admits .loopEnable (cmd 0 []) (railIs 3) ∧
      (onAdm 0 (railIs 2)).rd LE0_STAT_UNIT = 2 ∧ admits .loopEnable (cmd 0 []) (railIs 2) ∧
      admits .loopEnable (cmd 0 []) up ∧ (onAdm 0 up).rd DEV_LADDER_RUNG = 4) ∧
    (admits .loopEnable (cmd 1 []) (up.wr LE1_CTRL_HALL_EN 0) ∧
      (onAdm 1 (up.wr LE1_CTRL_HALL_EN 0)).bit LE1_CTRL_HALL_EN = false ∧ admits .loopEnable (cmd 1 []) (up.wr LE1_CTRL_HALL_EN 1) ∧
      (onAdm 1 (up.wr LE1_CTRL_HALL_EN 1)).bit LE1_CTRL_HALL_EN ∧ (onAdm 1 (up.wr LE1_CTRL_HALL_EN 1)).rd LE1_LVL_STAT_UNIT = 0 ∧
      admits .loopEnable (cmd 2 []) up ∧ (onAdm 2 up).rd LE1_FAN_STAT_UNIT = 0 ∧ admits .loopEnable (cmd 3 []) up) ∧
    (admits .loopDisable (cmd 0 []) (up.wr LE0_STAT_UNIT 2) ∧ (offAdm 0 (up.wr LE0_STAT_UNIT 2)).rd DEV_LADDER_RUNG = 4 ∧
      (offAdm 0 (up.wr LE0_STAT_UNIT 2)).rd LE0_STAT_UNIT = 2 ∧ admits .loopDisable (cmd 0 []) litUp ∧
      (offAdm 0 litUp).rd DEV_LADDER_RUNG ≠ 4 ∧ admits .loopDisable (cmd 1 []) (up.wr LE1_LVL_STAT_UNIT 2) ∧
      (offAdm 1 (up.wr LE1_LVL_STAT_UNIT 2)).rd LE1_LVL_STAT_UNIT = 2 ∧ admits .loopDisable (cmd 2 []) (up.wr LE1_FAN_STAT_UNIT 2) ∧
      (offAdm 2 (up.wr LE1_FAN_STAT_UNIT 2)).rd LE1_FAN_STAT_UNIT = 2) ∧
    (isPowered up ∧ up.canonical) := by decide +kernel

def fanCfg : Cmd := cmd 2 [up.reg LE1_FAN_CFG, up.reg LE1_FAN_SP, up.reg LE1_FAN_MAP]
def railCfg (v : Word) : Cmd := cmd 0 [v, up.reg LE0_SP, up.reg LE0_PROF, up.reg LE0_SUPV, up.reg LE0_LIMITS, up.reg LE0_TIMING]
def cfgZip (c : Cmd) : List (Nat × Word) := (loopRegs c.p0).zip c.words
def capUp : State := up.wr (LEx_TRACE_STATE 0) 3

theorem test_wit_LoopSettings :
    (admits .setpoint (cmd 0 [3000]) up ∧ admits .setpoint (cmd 0 [4200]) up ∧ admits .setpoint (cmd 0 [4201]) up ∧
      admits .setpoint (cmd 1 [0]) up ∧ lvlSpOk ((admitted .setpoint (cmd 1 [0]) up).reg LE1_LVL_LIM) 0 ∧
      admits .setpoint (cmd 2 [12000]) up ∧ (admitted .setpoint (cmd 2 [12000]) (up.wr LE1_FAN_SP_AUTO 0)).bit LE1_FAN_SP_AUTO = false ∧
      admits .setpoint (cmd 2 [12000]) (up.wr LE1_FAN_SP_AUTO 0) ∧ admits .setpoint (cmd 2 [12000]) (up.wr LE1_FAN_SP_AUTO 1) ∧
      (admitted .setpoint (cmd 2 [12000]) (up.wr LE1_FAN_SP_AUTO 1)).bit LE1_FAN_SP_AUTO) ∧
    (admits .loopCfg fanCfg up ∧ (cfgZip fanCfg).all (fun x => rangeOk x.1 x.2) ∧
      (cfgZip fanCfg).any (fun x => loopRegBusy x.1 x.2 (admitted .loopCfg fanCfg up)) = false) ∧
    (admits .loopHold (cmd 32768 []) (railIs 2) ∧ (admitted .loopHold (cmd 32768 []) (railIs 2)).rd LE0_STAT_UNIT = 2 ∧
      admits .loopHold (cmd 32768 []) up ∧ (admitted .loopHold (cmd 32768 []) up).rd LE0_STAT_UNIT ≠ 2 ∧
      admits .loopHold (cmd 0 []) (up.wr LE0_STAT_HOLD 1) ∧ (admitted .loopHold (cmd 0 []) (up.wr LE0_STAT_HOLD 1)).bit LE0_STAT_HOLD) ∧
    (isPowered up ∧ gsNewest up ≤ 7 ∧ 0 < gsNewest up ∧ railRuns (railIs 2) ∧ 0 < gsNewest (railIs 2) ∧ (railIs 2).bit LE0_STAT_HOLD = false ∧
      railRuns up = false) ∧
    (admits .traceArm (cmd 0 [0x88000000, 0x40000000]) up ∧ admits .traceArm (cmd 1 [0x77000000, 0x50000000]) up ∧
      admits .traceRead (cmd 0 [3585, 511]) up ∧ (admitted .traceRead (cmd 0 [0, 1]) up).rd (LEx_TRACE_STATE 0) ≠ 3 ∧
      admits .traceRead (cmd 0 [4095, 1]) capUp ∧ (admitted .traceRead (cmd 0 [4095, 1]) capUp).rd (LEx_TRACE_STATE 0) = 3) := by
  decide +kernel

/-- A LOOP_CFG that would change N_PH of a rail that is not OFF. -/
theorem test_wit_LoopSettings_busy : ∃ v, admits .loopCfg (railCfg v) (railIs 2) ∧ (cfgZip (railCfg v)).all (fun x => rangeOk x.1 x.2) ∧
    (cfgZip (railCfg v)).any (fun x => loopRegBusy x.1 x.2 (admitted .loopCfg (railCfg v) (railIs 2))) :=
  ⟨(up.wr LE0_CFG_N_PH 1).reg LE0_CFG, by decide +kernel⟩

/-! ### The loops and the converters -/

/-- A state with other values in its loops. -/
def loopUp (f : LoopSt → LoopSt) (s : State) : State := { s with loops := f s.loops }
/-- Two phases. -/
def phUp : State := up.wr LE0_CFG_N_PH 2
/-- The rail is ON, with sense A used. -/
def onUp : State := ((railIs 2).wr LE0_STAT_FB_USED 1).wr LE0_CFG_N_PH 2
def lostA (both : Bool) (s : State) : State :=
  loopUp (fun l => { l with impRun := if both then [(0, 65535), (1, 65535)] else [(0, 65535)] }) s
def frozenA (s : State) : State := loopUp (fun l => { l with frz := [(0, ⟨5, 65535, 0⟩)] }) s

theorem test_wit_RailEvents_phase : isPowered phUp ∧ phUp.rd LE0_CFG_N_PH ≤ 5 ∧ 1 < phUp.rd LE0_CFG_N_PH ∧ 1 < onUp.rd LE0_CFG_N_PH ∧
    railRuns onUp ∧ onUp.loops.ovHold = false ∧ (loopUp (fun l => { l with thHi := 5 }) onUp).loops.thHi ≠ 0 ∧
    storeGet false onUp.loops.ocThis 1 = false ∧ (phUp.wr LE0_STAT_STOPPED 1).bit LE0_STAT_STOPPED ∧
    (onUp.wr LE0_STAT_STOPPED 0).bit LE0_STAT_STOPPED = false ∧ onUp.loops.ocRaised = false ∧
    (loopUp (fun l => { l with ocRaised := true }) onUp).loops.ocRaised ∧ storeGet 0 onUp.loops.ocRun 1 < 16 ∧
    16 ≤ storeGet 0 (loopUp (fun l => { l with ocRun := [(1, 16)] }) onUp).loops.ocRun 1 := by decide +kernel

def autoUp : State := ((litUp.wr LE0_CTRL_AUTO 1).wr LE0_STAT_STOPPED 1).wr LE0_STAT_EN_PENDING 0
def railAt : State := loopUp (fun l => { l with okRun := 100, rail := { l.rail with q := up.rd LE0_SP_SP_MV * 4, ref := up.rd LE0_SP_SP_MV * 4 } })
  (railIs 1)
def holdUp (r : Nat) : State := loopUp (fun l => { l with holdReq := r }) ((railIs 2).wr LE0_STAT_HOLD 1)

theorem test_wit_RailEvents_life : isPowered autoUp ∧ autoUp.bit LE0_CTRL_AUTO ∧ autoUp.rd LE0_STAT_UNIT = 0 ∧ autoUp.bit LE0_STAT_STOPPED ∧
    autoUp.bit LE0_STAT_EN_PENDING = false ∧ autoUp.rd DEV_LADDER_RUNG ≠ 4 ∧ autoUp.bit SMC_STAT_SAFE_SNS ∧
    (up.wr LE0_CTRL_AUTO 0).bit LE0_CTRL_AUTO = false ∧ railAt.rd LE0_STAT_UNIT = 1 ∧ railAt.loops.rail.q = railAt.rd LE0_SP_SP_MV * 4 ∧
    railAt.loops.rail.ref = railAt.rd LE0_SP_SP_MV * 4 ∧ 100 ≤ railAt.loops.okRun ∧ up.rd LE0_STAT_UNIT ≠ 1 ∧ up.rd LE0_STAT_UNIT ≠ 3 ∧
    (railIs 3).rd LE0_STAT_UNIT = 3 ∧ ((railIs 3).wr LE0_STAT_STOPPED 0).bit LE0_STAT_STOPPED = false ∧ (railIs 3).smc.offWait = false ∧
    (railIs 3).bit LE0_STAT_EN_PENDING = false ∧ (holdUp 0).bit LE0_STAT_HOLD ∧ (holdUp 0).loops.holdReq ≠ 1 ∧
    up.bit LE0_STAT_HOLD = false ∧ (holdUp 1).loops.holdReq = 1 ∧
    ((railIs 3).wr LE0_STAT_EN_PENDING 1).bit LE0_STAT_EN_PENDING ∧ railMay ((railIs 3).wr LE0_STAT_EN_PENDING 1) ∧
    railMay ((up.wr LE0_STAT_UNIT 3).wr LE0_STAT_EN_PENDING 1) = false ∧
    ({ railIs 3 with smc := { up.smc with offWait := true } } : State).smc.offWait ∧ railAt.loops.okRun < 101 ∧
    (railIs 1).loops.okRun < 100 := by decide +kernel

theorem test_wit_RailEvents_sense : boolNat false = 0 ∧ isPowered (lostA false onUp) ∧ railRuns (lostA false onUp) ∧ lossNow (lostA false onUp) 0 ∧
    (lostA false onUp).bitOf ⟨LE0_FB, 31, 0⟩ 0 = false ∧ onUp.loops.fbClr = 0 ∧ senseOk (lostA false onUp) 1 ∧
    lossNow (lostA false onUp) 1 = false ∧ frozenNow (lostA false onUp) 1 = false ∧ senseOk (lostA false onUp) 0 ∧
    senseUsed (lostA false onUp) = 0 ∧ senseOk ((lostA true onUp).setBit ⟨LE0_FB, 31, 0⟩ 1) 1 = false ∧
    lossNow ((lostA true onUp).setBit ⟨LE0_FB, 31, 0⟩ 1) 0 ∧ senseOk ((lostA true onUp).setBit ⟨LE0_FB, 31, 0⟩ 1) 0 ∧
    frozenNow (frozenA onUp) 0 ∧ (frozenA onUp).bitOf ⟨LE0_FB, 31, 0⟩ 2 = false ∧ frozenNow (frozenA onUp) 1 = false ∧
    lossNow (frozenA onUp) 1 = false ∧ senseOk (frozenA onUp) 1 ∧ senseOk (frozenA onUp) 0 ∧ senseUsed (frozenA onUp) = 0 ∧
    senseOk (lostA true onUp) 0 ∧ senseOk (lostA true onUp) 1 ∧ lossNow (lostA true onUp) 0 ∧ lossNow (lostA true onUp) 1 ∧
    railRuns up = false := by decide +kernel

theorem test_wit_RailEvents_limits : onUp.rd LE0_SUPV_OVUV_N ≤ storeGet 0 (loopUp (fun l => { l with ovRun := [(0, 255)] }) onUp).loops.ovRun 0 ∧
    onUp.loops.ovHold = false ∧ onUp.rd LE0_STAT_UNIT = 2 ∧ onUp.rd LE0_SUPV_OVUV_N ≤ (loopUp (fun l => { l with uvRun := 255 }) onUp).loops.uvRun ∧
    onUp.loops.uvDone = false ∧ (loopUp (fun l => { l with uvDone := true }) onUp).loops.uvDone ∧
    10000 ≤ (loopUp (fun l => { l with clampRun := 10000 }) onUp).loops.clampRun ∧ onUp.loops.satDone = false ∧
    onUp.loops.clampRun < 10000 := by decide +kernel

theorem test_wit_RailLaw : (holdUp 0).bit LE0_STAT_HOLD ∧ onUp.bit LE0_STAT_HOLD = false ∧ gsMin onUp ≤ gsMax onUp := by decide +kernel

def lvlIs (n : Nat) : State := up.wr LE1_LVL_STAT_UNIT n
def pendLvl : State := (lvlIs 3).wr LE1_LVL_STAT_EN_PENDING 1
/-- The position stands far above the range, the bridge drives toward it (`d` = 1) or brakes. -/
def limUp (d : Nat) : State :=
  loopUp (fun l => { l with limRun := 65535 }) (((lvlIs 2).wr LE1_LVL_STAT_POS16 0x7FFF).wr LE1_LVL_STAT_DRIVE d)
def limited (d : Nat) : State := ((limUp d).wr LE1_FB_LIMIT 1).wr LE1_LVL_STAT_LIMIT 1

theorem test_wit_LevellingAndFan_lvl : isPowered (lvlIs 1) ∧ (lvlIs 1).rd LE1_LVL_STAT_UNIT = 1 ∧
    (lvlIs 1).rd LE1_LVL_SUPV_LOST_N ≤ (loopUp (fun l => { l with lvlStart := 255 }) (lvlIs 1)).loops.lvlStart ∧
    up.rd LE1_LVL_STAT_UNIT ≠ 1 ∧ (lvlIs 3).rd LE1_LVL_STAT_UNIT = 3 ∧ ((lvlIs 3).wr LE1_LVL_STAT_UNIT 0).bit LE1_LVL_STAT_EN_PENDING = false ∧
    (pendLvl.wr LE1_LVL_STAT_UNIT 0).bit LE1_LVL_STAT_EN_PENDING ∧
    (((pendLvl.wr LE1_CTRL_HALL_EN 1).wr LE1_LVL_STAT_UNIT 0).wr LE1_LVL_STAT_EN_PENDING 0).bit LE1_CTRL_HALL_EN ∧
    (lvlIs 2).rd LE1_LVL_STAT_UNIT = 2 ∧ (lvlIs 2).rd LE1_LVL_SUPV_LOST_N ≤ (loopUp (fun l => { l with lvlImp := 255 }) (lvlIs 2)).loops.lvlImp ∧
    (lvlIs 2).loops.lvlImp < (lvlIs 2).rd LE1_LVL_SUPV_LOST_N ∧
    (lvlIs 2).rd LE1_LVL_SUPV_FROZEN_N ≤ frzLen (loopUp (fun l => { l with lvlFrz := ⟨0, 65535, 0⟩ }) (lvlIs 2)).loops.lvlFrz ∧
    (limUp 1).rd LE1_LVL_SUPV_LOST_N ≤ (limUp 1).loops.limRun ∧ (limUp 1).bit LE1_LVL_STAT_LIMIT = false ∧
    limitDrive (limited 1) ((limited 1).rd LE1_LVL_STAT_DRIVE) = 0 ∧ limitDrive (limited 2) ((limited 2).rd LE1_LVL_STAT_DRIVE) ≠ 0 ∧
    up.loops.limRun < up.rd LE1_LVL_SUPV_LOST_N := by decide +kernel

def fanIs (n : Nat) : State := up.wr LE1_FAN_STAT_UNIT n

theorem test_wit_LevellingAndFan_fan : isPowered (fanIs 2) ∧ up.loops.tachSeen = false ∧
    (loopUp (fun l => { l with tachSeen := true }) up).loops.tachSeen ∧ 0 < (up.wr LE1_FAN_CFG_PPR 2).rd LE1_FAN_CFG_PPR * 1000 ∧
    60000000 / ((up.wr LE1_FAN_CFG_PPR 2).rd LE1_FAN_CFG_PPR * 1000) ≤ 65535 ∧ up.rd LE1_FAN_CFG_PPR * 0 = 0 ∧
    up.rd LE1_FAN_STAT_UNIT ≠ 2 ∧ (fanIs 2).rd LE1_FAN_STAT_UNIT = 2 ∧ dMin (fanIs 2) ≤ ((fanIs 2).wr LE1_FAN_STAT_DUTY 1023).rd LE1_FAN_STAT_DUTY ∧
    (fanIs 2).bit LE1_FAN_STAT_STALL = false ∧ (fanIs 1).rd LE1_FAN_STAT_UNIT = 1 ∧ (fanIs 3).rd LE1_FAN_STAT_UNIT = 3 ∧
    ((fanIs 3).wr LE1_FAN_STAT_UNIT 0).bit LE1_FAN_STAT_EN_PENDING = false ∧
    (((fanIs 3).wr LE1_FAN_STAT_EN_PENDING 1).wr LE1_FAN_STAT_UNIT 0).bit LE1_FAN_STAT_EN_PENDING ∧
    (up.wr LE1_CTRL_HALL_EN 1).bit LE1_CTRL_HALL_EN ∧ (up.wr LE1_CTRL_HALL_EN 0).bit LE1_CTRL_HALL_EN = false ∧
    (lvlIs 2).rd LE1_LVL_STAT_UNIT = 2 ∧ up.rd LE1_LVL_STAT_UNIT ≠ 2 ∧ railRuns (railIs 1) ∧ railRuns up = false := by decide +kernel

def sqIs (n m : Nat) : State := up.wr (ADC_SQn_STAT_UNIT n) m
/-- One entry of input 0 with the shortest start time, a Bobbin of 64 words, WM 1. -/
def seqC (cfg : Word) : Cmd := cmd 7 [cfg, 0#32, 0x01800001#32, 0x200#32]
/-- Two entries, triggered by the timer; the pass runs. -/
def passUp : State := (((sqIs 7 2).wr (ADC_SQn_STAT_RUNNING 7) 1).wr (ADC_SQn_CFG_TRIG 7) 2).wr (ADC_SQn_CFG_NE_M1 7) 1

theorem test_wit_Acquisition_cfg :
    (admits .adcSeqCfg (seqC 0#32) (sqIs 7 2) ∧ (admitted .adcSeqCfg (seqC 0#32) (sqIs 7 2)).rd (ADC_SQn_STAT_UNIT 7) ≠ 0) ∧
    (admits .adcSeqCfg (seqC 0#32) up ∧ (admitted .adcSeqCfg (seqC 0#32) up).rd (ADC_SQn_STAT_UNIT 7) = 0 ∧
      (seqC 0#32).len = 5 + ((seqC 0#32).words.map BitVec.toNat).getD 0 0 / 16 % 16 ∧
      seqCfgCheck ((seqC 0#32).words.map BitVec.toNat) = none) ∧
    (admits .adcSeqCfg (seqC 4#32) up ∧ (seqC 4#32).len = 5 + ((seqC 4#32).words.map BitVec.toNat).getD 0 0 / 16 % 16 ∧
      seqCfgCheck ((seqC 4#32).words.map BitVec.toNat) = some (2, 0)) := by decide +kernel

theorem test_wit_Acquisition :
    (admits .adcStart (cmd 8 []) up ∧ admits .adcStart (cmd 7 []) up ∧ (admitted .adcStart (cmd 7 []) up).rd (ADC_SQn_STAT_UNIT 7) = 0 ∧
      sqBusy 7 (admitted .adcStart (cmd 7 []) up) = false ∧ admits .adcStart (cmd 7 []) (up.wr (ADC_SQn_BOB_CFG_LOC 7) 1) ∧
      sqBusy 7 (admitted .adcStart (cmd 7 []) (up.wr (ADC_SQn_BOB_CFG_LOC 7) 1))) ∧
    (admits .adcStop (cmd 7 []) up ∧ (admitted .adcStop (cmd 7 []) up).rd (ADC_SQn_STAT_UNIT 7) = 0 ∧ admits .adcStop (cmd 7 []) passUp ∧
      (admitted .adcStop (cmd 7 []) passUp).rd (ADC_SQn_STAT_UNIT 7) = 2 ∧
      (((admitted .adcStop (cmd 7 []) passUp).wr (ADC_SQn_CTRL_EN 7) 0).wr (ADC_SQn_STAT_UNIT 7) 3).bit (ADC_SQn_STAT_RUNNING 7)) ∧
    (bobFill up 7 < rptrFill 7 0xFFFFFF up ∧ rptrFill 7 0 up ≤ bobFill up 7) ∧
    (isPowered passUp ∧ up.rd (ADC_SQn_STAT_UNIT 7) ≠ 2 ∧ passUp.rd (ADC_SQn_CFG_TRIG 7) = 2 ∧ passUp.rd (ADC_SQn_STAT_UNIT 7) = 2 ∧
      passUp.bit (ADC_SQn_STAT_RUNNING 7) ∧ (passUp.wr (ADC_SQn_STAT_RUNNING 7) 0).bit (ADC_SQn_STAT_RUNNING 7) = false ∧
      (sqOf passUp 7).entry = 0 ∧ passUp.rd (ADC_SQn_Ei_AVG_LOG2 7 0) = 0 ∧ passUp.rd (ADC_SQn_Ei_SHIFT 7 0) = 0 ∧
      convOwned passUp (convBound passUp 7) 7 = false ∧
      convOwned { passUp with adc := { passUp.adc with busy := [(0, 8)] } } (convBound passUp 7) 7 ∧
      (passUp.wr (ADC_SQn_CFG_NE_M1 7) 0).rd (ADC_SQn_CFG_NE_M1 7) ≤ 0 ∧ passUp.rd (ADC_SQn_Ei_INPUT 7 0) < 17 ∧ passUp.bit (ADC_SQn_CFG_INTERLEAVE 7) = false ∧ 0 < passUp.rd (ADC_SQn_CFG_NE_M1 7)) ∧
    ((sqOf up 7).blocks = [] ∧ (sqOf (setSq 7 { sqOf up 7 with blocks := [[1]] } up) 7).blocks = [[1]] ∧ (sqOf up 7).cur = []) ∧
    (up.rd (ADC_SQn_STAT_UNIT 7) ≠ 1 ∧ (sqIs 7 1).rd (ADC_SQn_STAT_UNIT 7) = 1 ∧ (sqIs 7 3).rd (ADC_SQn_STAT_UNIT 7) = 3 ∧
      (syncAdc ((sqIs 7 1).wr (ADC_SQn_STAT_UNIT 7) 2)).rd (ADC_SQn_CFG_TRIG 7) = 0 ∧
      (syncAdc (((sqIs 7 1).wr (ADC_SQn_CFG_TRIG 7) 2).wr (ADC_SQn_STAT_UNIT 7) 2)).rd (ADC_SQn_CFG_TRIG 7) ≠ 0 ∧
      (sqIs 7 3).bit (ADC_SQn_STAT_RUNNING 7) = false ∧ ((sqIs 7 3).wr (ADC_SQn_STAT_UNIT 7) 0).bit (ADC_SQn_STAT_EN_PENDING 7) = false) := by
  decide +kernel

def fullUp : State := up.wr (ADC_SQn_WPTR_PTR 7) (bobSize up 7)

theorem test_wit_BobbinWords : bobFill up 7 + 1 ≤ bobSize up 7 ∧ bobSize fullUp 7 < bobFill fullUp 7 + 1 ∧
    fullUp.bit (ADC_SQn_BOB_CFG_MODE 7) = false := by decide +kernel

/-! ### The links, the lanes and the hosts -/

/-- A state whose port A is in state `k` of its link, with other values in the port. -/
def portUp (k : Nat) (f : PortLink → PortLink) : State :=
  let t := up.wr (HLx_STAT_LINK 0) k
  setPortLink 0 (f (portLink t 0)) t
def l0 : State := portUp 5 id
/-- A reply of one word that waits on port A. -/
def rep : Reply := mkReply .a 0 none (cmd 0 []) ⟨.ok, [7], none⟩ up
def withRep (s : State) : State := { s with cmd := { s.cmd with replies := [rep] } }
def lowEn : State := ((portUp 5 id).wr (HLx_PWR_L1_EN 0) 1).wr (HLx_PWR_L2_EN 0) 1

/-- A TS2 set of the engine's PORT symbol for a lane. -/
def set0 (lane : BitVec 8) : TrainSet := ⟨true, 0x48#8, lane, 0#8, 0#8, 3#8, 0x4A#8⟩

theorem test_wit_LinkTraining :
    (isPowered up ∧ [1, 2, 3, 4, 6, 7, 8, 9].all (fun k => isPowered (portUp k id) && decide (linkOf (portUp k id) 0 = k)) ∧
      (portUp 2 id).link.a.retrain = false ∧ (portLink (portUp 2 (fun l => { l with retrain := true })) 0).retrain ∧
      linkOf up 0 ≠ 9 ∧ up.rd (HLx_STAT_UNIT 0) = 0 ∧ (up.wr (HLx_STAT_UNIT 0) 2).rd (HLx_STAT_UNIT 0) = 2 ∧ up.canonical) ∧
    (linkOf l0 0 = 5 ∧ (portLink l0 0).limit = none ∧ (portLink (portUp 5 (fun l => { l with limit := some 9 })) 0).limit = some 9 ∧
      later 16 10 9 ∧ (portLink (portUp 5 (fun l => { l with l1Req := true, l2Req := true })) 0).l1Req ∧
      (portLink (portUp 5 (fun l => { l with l1Req := true, l2Req := true })) 0).l2Req ∧
      (portLink l0 0).l1Req = false ∧ (portLink l0 0).l2Req = false ∧ holdsPacket 0 (withRep l0) ∧ lowEn.bit (HLx_PWR_L1_EN 0) ∧
      lowEn.bit (HLx_PWR_L2_EN 0) ∧ holdsPacket 0 lowEn = false ∧ (portLink l0 0).ackOwed = 0 ∧
      (portLink (portUp 8 (fun l => { l with ackOwed := 1 })) 0).ackOwed ≠ 0 ∧ l0.rd (LME_INJ_PENDx 0) = 0) ∧
    ((set0 1).port = 0x48#8 ∧ lanesResolved (set0 0) (set0 1) 6 ∧ lanesResolved (set0 1) (set0 0) 0 ∧
      lanesResolved (set0 0) (set0 1) 7 = false ∧ lanesResolved (set0 0) (set0 0) 0 = false ∧ (set0 0).ts2 ∧
      ctlQueued (portLink (portUp 5 (fun l => { l with l1Req := true, ctl := [(4, 0)] })) 0) 4 ∧
      ctlQueued (portLink l0 0) 4 = false ∧ ctlQueued (portLink l0 0) 7 = false) := by decide +kernel

def pkt : TxPkt := ⟨3, [3, 4, 5]⟩
def replayUp : State := portUp 5 (fun l => { l with replay := [pkt] })
/-- A NOP of port A with the LSEQ expected first, and its CRC word. -/
def nopWords : List Nat :=
  let w := [l0.rd (HLx_SEQ_RX_EXP 0), 0x10000001, 0x00000001, 0x0]
  w ++ [crc32c (bytesOfWords w)]
def badCtl : List Nat := let w := [0, 0x5FF00000, 1, 0]; w ++ [crc32c (bytesOfWords w)]
def w32 (l : List Nat) : List Word := l.map (BitVec.ofNat 32)
def roomy : State := portUp 5 (fun l => { l with adv := 3072 })
def sendUp : State := withRep (portUp 5 (fun l => { l with limit := some 100 }))

theorem test_wit_LinkTraffic_timers :
    isPowered l0 ∧ (portLink l0 0).replay = [] ∧ (portLink replayUp 0).replay ≠ [] ∧
    (portLink replayUp 0).rounds < (replayUp.wr (HLx_CFG_REPLAY_MAX 0) 1).rd (HLx_CFG_REPLAY_MAX 0) ∧
    replayUp.rd (HLx_CFG_REPLAY_MAX 0) ≤ (portLink (portUp 5 (fun l => { l with replay := [pkt], rounds := 255 })) 0).rounds ∧
    (portLink l0 0).adv < (portLink l0 0).freed + 3072 ∧ (portLink roomy 0).freed + 3072 ≤ (portLink roomy 0).adv ∧
    queued l0 0 = [] ∧ queued (withRep l0) 0 = [rep] ∧
    creditOk (portLink (withRep l0) 0) (creditsOf ((replyWords (withRep l0) rep).length + 2)) = false ∧
    queued sendUp 0 = [rep] ∧ creditOk (portLink sendUp 0) (creditsOf ((replyWords sendUp rep).length + 2)) := by decide +kernel

/-- The bytes at even and at odd places: the two lanes of a port (R225). -/
def evens : List Nat → List Byte
  | a :: _ :: r => BitVec.ofNat 8 a :: evens r
  | _ => []
def odds (l : List Nat) : List Byte := evens (l.drop 1 ++ [0])

theorem test_wit_LinkTraffic_rx :
    linkOf up 0 ≠ 5 ∧ linkOf up 0 ≠ 8 ∧ linkOf roomy 0 = 5 ∧ 4 ≤ (w32 nopWords).length ∧
    crc32c (bytesOfWords ((w32 nopWords).map BitVec.toNat).dropLast) = ((w32 nopWords).map BitVec.toNat).getLastD 0 ∧
    crc32c (bytesOfWords ((w32 [0, 0x10000000, 0, 1]).map BitVec.toNat).dropLast) ≠ ((w32 [0, 0x10000000, 0, 1]).map BitVec.toNat).getLastD 0 ∧
    (w32 nopWords).map BitVec.toNat = nopWords ∧ nopWords.dropLast.getD 1 0 / 2 ^ 28 ≠ 5 ∧ (portLink l0 0).dropping = false ∧
    (portLink (raise 0x01 0 (l0.bump (HLx_COUNT0_CRC_ERR 0))) 0).dropping = false ∧ roomy.rd (LME_INJ_PENDx 0) = 0 ∧
    wordsHeard false (evens (bytesOfWords nopWords)) (odds (bytesOfWords nopWords)) = nopWords ∧
    wordsHeard true (odds (bytesOfWords nopWords)) (evens (bytesOfWords nopWords)) = nopWords ∧ isCtl nopWords.dropLast = false ∧
    (hear nopWords.dropLast).pfx % 65536 = roomy.rd (HLx_SEQ_RX_EXP 0) ∧
    (portLink roomy 0).rxUsed + creditsOf (nopWords.dropLast.length + 1) ≤ (portLink roomy 0).adv ∧ badForm (hear nopWords.dropLast) = false ∧
    crc32c (bytesOfWords badCtl.dropLast) = badCtl.getLastD 0 ∧ badCtl.dropLast.getD 1 0 / 2 ^ 28 = 5 ∧ ctlOk badCtl.dropLast = false := by
  decide +kernel

theorem test_wit_LinkTraffic_tx :
    linkOf (withRep (portUp 6 id)) 0 = 6 ∧ queued (withRep (portUp 6 id)) 0 ≠ [] ∧ queued (portUp 6 id) 0 = [] ∧
    (portLink (portUp 5 (fun l => { l with ctl := [(1, 5)] })) 0).ctl = [(1, 5)] ∧ (portLink l0 0).entering = 0 ∧ (portLink l0 0).ctl = [] ∧
    (portLink (portUp 5 (fun l => { l with resend := [pkt] })) 0).resend = [pkt] ∧ (portLink sendUp 0).resend = [] ∧ (portLink sendUp 0).ctl = [] ∧
    (portLink sendUp 0).entering = 0 ∧ maySend (portLink sendUp 0) (sendUp.rd (HLx_SEQ_TX_NEXT 0) :: replyWords sendUp rep).length ∧
    linkOf up 0 ≠ 6 ∧ linkOf up 0 ≠ 7 ∧ linkOf (withRep (portUp 7 id)) 0 = 7 ∧ queued (withRep (portUp 7 id)) 0 ≠ [] ∧
    (portLink (portUp 7 id) 0).wake = 0 ∧ (portLink (portUp 7 (fun l => { l with wake := 1 })) 0).wake = 1 ∧
    (lowEn.wr (HLx_PWR_L1_IDLE 0) 1).rd (HLx_PWR_L1_IDLE 0) ≠ 0 ∧ (lowEn.wr (HLx_PWR_L1_IDLE 0) 1).bit (HLx_PWR_L1_EN 0) ∧
    holdsPacket 0 lowEn = false ∧ (portLink lowEn 0).l1Req = false ∧ (portLink lowEn 0).l2Req = false ∧
    (up.wr (HLx_PWR_L1_EN 0) 0).bit (HLx_PWR_L1_EN 0) = false := by decide +kernel

def running : State := (up.wr LME_TEST_RUNNING 1).wr LME_TEST_LANES 15
def eyeUp : State := l0.wr LME_CTRL_EYE_EN 1

theorem test_wit_LaneTests :
    (admits .linkTest (cmd 0xF300 [1]) up ∧ (admitted .linkTest (cmd 0xF300 [1]) up).bit LME_TEST_RUNNING = false ∧
      admits .linkTest (cmd 0xF300 [60000000]) running ∧ (admitted .linkTest (cmd 0xF300 [60000000]) running).bit LME_TEST_RUNNING ∧
      admits .linkTest (cmd 0xF000 [60000000]) running ∧ admits .linkTest (cmd 0xF000 [1]) up ∧
      (lanePorts 15).any (fun p => decide ((admitted .linkTest (cmd 0xF000 [1]) up).rd (HLx_STAT_UNIT p) ≠ 0)) = false) ∧
    (admits .linkInject (cmd 0x00FF []) l0 ∧ (admitted .linkInject (cmd 0x00FF []) l0).rd (LME_INJ_PENDx 0) = 0 ∧
      linkOf (admitted .linkInject (cmd 0x00FF []) l0) 0 = 5 ∧ admits .linkInject (cmd 0x3801 []) (l0.wr (LME_INJ_PENDx 0) 1) ∧
      (admitted .linkInject (cmd 0x3801 []) (l0.wr (LME_INJ_PENDx 0) 1)).rd (LME_INJ_PENDx 0) ≠ 0) ∧
    (prbsLocked (running.rd LME_TEST_PATTERN) (prbsBits 0 71) ∧ prbsLocked (running.rd LME_TEST_PATTERN) (prbsBits 1 100) = false ∧
      linkOf (portUp 6 id) 0 = 6) ∧
    (isPowered running ∧ checkerOn running 3 ∧ checkerOn up 3 = false ∧ (running.setBit LME_TEST_SYNC 3).bitOf LME_TEST_SYNC 3 ∧
      checkerOn (running.setBit LME_TEST_SYNC 3) 3 ∧ up.bitOf LME_TEST_SYNC 3 = false ∧ up.link.test = none ∧
      ({ running with link := { running.link with test := some (held .linkTest (cmd 0xF000 [1])) } } : State).link.test.isSome ∧
      eyeUp.bit LME_CTRL_EYE_EN ∧ linkOf eyeUp 0 = 5 ∧ 0 < (eyeUp.wr (eyeFld 0) 0).rd LME_EYE_CFG_EYE_MIN ∧
      (eyeUp.wr (eyeFld 0) 255).rd LME_EYE_CFG_EYE_MIN ≤ 255 ∧ (up.wr LME_CTRL_EYE_EN 0).bit LME_CTRL_EYE_EN = false) := by decide +kernel

def tackC : Cmd := { cmd 0 [0#32] with ptype := 4 }
def both : State := up.wr (CCX_HOSTx_STATE 1) 1

/-- The premises of HostBeats on a TACK of port A. -/
def tackOk (c : Cmd) (s : State) : Bool :=
  passesOpen c (heard c.ch 0 c.ptype.toNat (takePacket 0 c.ch (carries .tack c) (drained s)))
    && !waitsTurn .a c.ch c.seq.toNat (carries .tack c) (drained s) && ptypeOk .tack c && !c.d && !c.f && lenOk .tack c

/-- Both hosts are PRESENT, both links are up, and the conditions of R21 hold. -/
def guarded21 : State :=
  let t := ((both.wr DEV_CONFIG_SPB_SEALED 1).wr DEV_GUARANTEE_CKPT_COMMITTED 1).wr DEV_GUARANTEE_JOURNAL_UNBROKEN 1
  (t.wr (HLx_STAT_LINK 0) 5).wr (HLx_STAT_LINK 1) 5

theorem test_wit_HostBeats : isPowered up ∧ tackOk tackC up ∧ State.reset.rd (CCX_HOSTx_STATE 0) ≠ 1 ∧ up.rd (CCX_HOSTx_STATE 0) = 1 ∧
    both.rd (CCX_HOSTx_STATE 0) = 1 ∧ recoverable guarded21 ∧ Machine.portUp guarded21 1 ∧ guarded21.rd (CCX_HOSTx_STATE 0) = 1 ∧
    (recoverable up && Machine.portUp up 1) = false := by decide +kernel

def streamed : State :=
  { up with cmd := { up.cmd with lastRep := [(streamKey (chanW1 up 1) 1 0, some ⟨1, 0, 1⟩)], lastSeq := [(streamKey (chanW1 up 1) 1 0, some 1)] } }
def afterRead (p : BitVec 16) (s : State) : State := admitted .stateRead (cmd p []) s
def key1 (s : State) : Nat := streamKey (chanW1 s 1) 1 0
def sealedUp : State := up.wr DEV_CONFIG_SPB_SEALED 1

theorem test_wit_StateCommands :
    (admits .stateRead (cmd 1 []) streamed ∧ admits .stateRead (cmd 1 []) up ∧ admits .stateRead (cmd 255 []) up ∧
      (storeGet none (afterRead 1 streamed).cmd.lastRep (key1 (afterRead 1 streamed))).isSome ∧
      (storeGet none (afterRead 1 streamed).cmd.lastSeq (key1 (afterRead 1 streamed))).isSome ∧
      storeGet none (afterRead 1 up).cmd.lastRep (key1 (afterRead 1 up)) = none ∧
      storeGet none (afterRead 1 up).cmd.lastSeq (key1 (afterRead 1 up)) = none) ∧
    (admits .resync (cmd 1 [0#32, 0#32]) up ∧ dupOf (issued .resync (cmd 1 [0#32, 0#32]) up).w1 = false ∧
      (admitted .resync (cmd 1 [0#32, 0#32]) up).rd (CCX_HOSTx_EPOCH 0) = 0 ∧ admits .resync (cmd 1 [9#32, 0#32]) up ∧
      admits .resync (cmd 2 [0#32, 0#32]) up ∧ (admitted .resync (cmd 2 [0#32, 0#32]) up).rd CCX_DUP_SEPOCH = 0 ∧
      admits .resync (cmd 0 [0#32, 0#32]) up) ∧
    (isPowered sealedUp ∧ keysClosed sealedUp ∧ keysClosed up = false) := by decide +kernel

/-! ### The cores, check values, memory and calibration -/

def coresAre (a b : Nat) (s : State) : State := (s.wr CCX_STAT_CCA_STATE a).wr CCX_STAT_CCB_STATE b
def restarting (busy : Bool) : State := { coresAre 1 5 up with cmd := { up.cmd with busyAll := busy } }
def recovering : State := { up with ccx := { up.ccx with recCause := 0x70 } }

/-- A takeover, a loss or a handover fell on this moment. -/
def took (s : State) : State := { s with ccx := { s.ccx with tookAt := some s.now } }
def lost (s : State) : State := { s with ccx := { s.ccx with lostAt := some s.now } }
def swapped (s : State) : State := { s with ccx := { s.ccx with swapAt := some s.now } }

theorem test_wit_ControlCores : isPowered up ∧ up.canonical ∧ activeCore up = 0 ∧ coreState up 0 = 5 ∧ coreState up 1 = 4 ∧
    coreState (coresAre 0 0 up) 0 = 0 ∧ coreState (up.takeAct [CCX_CFG]) 0 ≥ 2 ∧ activeCore (up.takeAct [CCX_CFG]) = 0 ∧
    coreState (up.takeAct [CCX_CFG]) 1 = 4 ∧ coreState ((coresAre 5 2 up).takeAct [CCX_CFG]) 1 ≠ 4 ∧
    coreState ((coresAre 1 5 up).takeAct [CCX_CFG]) 0 < 2 ∧ up.rd CCX_STAT_CEPOCH = 0 ∧
    (took up).ccx.tookAt = some (took up).now ∧ (lost (coresAre 5 2 up)).ccx.lostAt = some up.now ∧ (lost (coresAre 5 2 up)).ccx.tookAt ≠ some up.now ∧
    coreState (lost (coresAre 5 2 up)) 1 = 2 ∧ (swapped up).ccx.swapAt = some up.now ∧ coreState (swapped up) 1 = 4 ∧
    coreState (raise 0x76 1 (up.bump CCX_COUNT0_STALE_REJECT)) 1 ≠ 3 ∧ coreState (restarting true) 0 = 1 ∧
    (restarting true).bit PMU_STAT_BOOT_DONE ∧ (restarting true).cmd.busyAll ∧ (restarting false).cmd.busyAll = false ∧
    up.ccx.recCause ≠ 0x70 ∧ up.ccx.recCause ≠ 0x72 ∧ recovering.ccx.recCause = 0x70 ∧ recovering.ccx.recWait = [] ∧
    pairReady up ∧ pairReady (coresAre 5 2 up) = false ∧ coreState up 1 ≠ 3 := by decide +kernel

def grp : Group := ⟨7, [], none⟩
def standinUp : State := { up with ccx := { up.ccx with standins := [grp] } }
/-- A checkpoint into slot 0 is being written. -/
def writingUp : State :=
  let t := (up.wr CCX_CKPT_WRITING 1).wr CCX_CKPT_TARGET 0
  { t with ccx := { t.ccx with ckClean := true } }
def slotUp : State :=
  let t := ((coresAre 5 2 up).wr CCX_CKPT_VALID0 1).wr CCX_CTRL_AUTO_BASTE 1
  { t with ccx := { t.ccx with slot0 := writtenSlot 0 0 [7] } }

theorem test_wit_GroupsAndCheckpoints :
    (coreState (applyGroup grp up) (1 - activeCore (applyGroup grp up)) = 4 ∧ twinIn 7 (applyGroup grp up).ccx.standins = none ∧
      twinIn 7 (applyGroup grp standinUp).ccx.standins = some grp ∧
      coreState (applyGroup grp (coresAre 5 2 up)) (1 - activeCore (applyGroup grp (coresAre 5 2 up))) ≠ 4 ∧
      coreState up 1 = 4 ∧ twinIn 7 up.ccx.applied = none ∧ coreState (coresAre 5 2 up) 1 ≠ 4 ∧ mustWait grp up = false ∧
      mustWait ⟨9, [⟨0xA0010, 1#32⟩], none⟩ { up with ccx := { up.ccx with grpWait := [⟨7, [⟨0xA0010, 0#32⟩], none⟩] } } ∧
      twinIn 7 ({ up with ccx := { up.ccx with applied := [grp] } } : State).ccx.applied = some grp ∧
      mustWait grp { standinUp with ccx := { standinUp.ccx with standins := withoutJ 7 standinUp.ccx.standins } } = false) ∧
    (up.bit CCX_CKPT_WRITING = false ∧ writingUp.bit CCX_CKPT_WRITING ∧ writingUp.rd CCX_CKPT_TARGET = 0 ∧ writingUp.ccx.ckClean ∧
      entriesAfter writingUp.ccx.writingJ writingUp.ccx.journal = [] ∧ journalWords [] < 32768 ∧ isPowered writingUp) ∧
    (newestSlot up = none ∧ newestSlot slotUp = some 0 ∧ coreState slotUp 1 = 2 ∧ slotUp.bit CCX_CTRL_AUTO_BASTE ∧ activeRuns slotUp ∧
      slotUp.ccx.basteHold = false ∧ coreState (coresAre 5 3 up) 1 = 3 ∧ ((coresAre 5 3 up).wr CCX_BASTE_RESULT 1).rd CCX_BASTE_RESULT = 1 ∧
      coreState up 1 ≠ 3) := by decide +kernel

def bound : State := (up.wr (CRC_Un_BIND_EN 2) 1).wr (CRC_Un_BIND_CHAN 2) 5
def memC : Cmd := cmd 0x2002 [0x1780000#32, 8#32]
def memRun : State := { up with integ := { up.integ with memRuns := [(2, some (held .crcRun memC))] } }

theorem test_wit_CheckUnits :
    (admits .crcRun (cmd 2 []) up ∧ (admitted .crcRun (cmd 2 []) up).bit (CRC_Un_BIND_EN 2) = false ∧
      memRunning (admitted .crcRun (cmd 2 []) up) 2 = false ∧ admits .crcRun (cmd 0x1002 [1#32, 0#32]) up ∧
      admits .crcRun memC up ∧ memRangeOk (memC.w 1) (memC.w 2) (admitted .crcRun memC up) ∧ inSurface (memC.w 1) = false ∧
      admits .crcRun (cmd 2 []) bound ∧ (admitted .crcRun (cmd 2 []) bound).bit (CRC_Un_BIND_EN 2) ∧
      admits .crcRun (cmd 0x3002 []) up ∧ admits .crcRun (cmd 0x4002 []) up) ∧
    (isPowered memRun ∧ storeGet none up.integ.memRuns 2 = none ∧ storeGet none memRun.integ.memRuns 2 = some (held .crcRun memC) ∧
      ([⟨0x1780000, true⟩] : List EccErr).filter (fun e => inSram e.addr && decide (memC.w 1 / 8 ≤ e.addr / 8 ∧ e.addr < memC.w 1 + memC.w 2))
        = [⟨0x1780000, true⟩]) ∧
    (unitBusy memRun 2 ∧ unitBusy up 2 = false ∧ (0xFFFFFFFF : Nat) < 2 ^ algWidth (unitAlg up 2) ∧
      2 ^ algWidth (unitAlg (up.wr (CRC_Un_CFG_ALG 2) 2) 2) ≤ 0x10000 ∧ chanBusy up 254 = false ∧
      (List.range 3).all (fun m => !up.bit (CRC_Un_BIND_EN m)) ∧ (up.wrWord (CRC_Un_BIND 2) 0xC00000FE#32).bit (CRC_Un_BIND_CHAIN 2) = false ∧
      ((List.range 32).any (fun i => (up.wrWord (CRC_Un_BIND 2) (0x800000FE#32 ||| (1#32 <<< i))).bit (CRC_Un_BIND_CHAIN 2)))) := by
  decide +kernel

def scanUp : State := up.wr CRC_SCAN_CTRL_SRAM_EN 1
def sramEnd : State := { scanUp with integ := { scanUp.integ with sramPos := 1572863 } }
def trainedUp : State := ((((up.wr DEV_CONFIG_SMEM_TRAINED 1).wr SMEM_STAT_TRAINED 1).wr CKU_GATE_SMEM 0).setReg SMEM_USABLE 0x3800000#32)
def surfScan (pos : Nat) : State :=
  let t := ((trainedUp.wr CRC_SCAN_CTRL_SURF_EN 1).wr CRC_SCAN_START_VALUE 0x1000000).wr CRC_SCAN_LEN_VALUE 1
  { t with integ := { t.integ with surfPos := pos } }
def outScan : State := trainedUp.wr CRC_SCAN_START_VALUE 0
def patUp : State := (scanUp.setBit PXA_STAT_PAT_VALID 0).setReg (PXA_PATn_CRC 0) 5#32

theorem test_wit_MemoryScans :
    (isPowered scanUp ∧ (up.wr CRC_SCAN_CTRL_SRAM_EN 0).bit CRC_SCAN_CTRL_SRAM_EN = false ∧ scanUp.bit CRC_SCAN_CTRL_SRAM_EN ∧
      scanUp.integ.sramPos + 1 < 1572864 ∧ 1572864 ≤ sramEnd.integ.sramPos + 1 ∧ up.bit CRC_SCAN_CTRL_SURF_EN = false) ∧
    ((surfScan 0).bit CRC_SCAN_CTRL_SURF_EN ∧ smemOff (surfScan 0) = false ∧ (surfScan 0).rd CRC_SCAN_LEN_VALUE * 8 = 8 ∧
      (surfScan 7).integ.surfPos = 7 ∧ storeGet false (surfScan 7).smem.bad 0x8000007 = false ∧
      inUsable (surfScan 0) ((surfScan 0).rd CRC_SCAN_START_VALUE * 64) ((surfScan 0).rd CRC_SCAN_LEN_VALUE * 64)) ∧
    (regionChecked scanUp 15 = false ∧ regionChecked patUp 0 ∧ regionRef patUp 0 = 5 ∧
      regionChecked (scanUp.setBit (SEQ_STAT_BUF_VALID 3) 1) 15 ∧ regionRef (scanUp.setBit (SEQ_STAT_BUF_VALID 3) 1) 15 ≠ 5 ∧
      regionChecked (scanUp.wr SMC_STAT_FB_VALID 1) 16 ∧ regionRef (scanUp.wr SMC_STAT_FB_VALID 1) 16 ≠ 5) ∧
    (storeGet false ({ scanUp with smem := { scanUp.smem with sramBad := [(0x200000, true)] } } : State).smem.sramBad 0x200000 ∧
      storeGet false scanUp.smem.sramBad 0x200000 = false ∧
      storeGet false ({ surfScan 7 with smem := { scanUp.smem with bad := [(0x8000007, true)] } } : State).smem.bad 0x8000007) ∧
    (up.bit DEV_CONFIG_SMEM_TRAINED = false ∧ trainedUp.bit DEV_CONFIG_SMEM_TRAINED ∧ isPowered trainedUp ∧
      (outScan.bit DEV_CONFIG_SMEM_TRAINED ∧
        inUsable outScan (outScan.rd CRC_SCAN_START_VALUE * 64) (outScan.rd CRC_SCAN_LEN_VALUE * 64) = false)) := by decide +kernel

def trainUp : State := up.wr SMEM_STAT_TRAINING 1

theorem test_wit_MemoryTraining : isPowered up ∧ up.canonical ∧ smemInUse up = false ∧ up.bit SMEM_STAT_TRAINING = false ∧
    (up.wr SMEM_CFG_SIZE 1).canonical ∧ (up.wr SMEM_CFG_SIZE 1).rd SMEM_CFG_SIZE ≠ 0 ∧ blockOff (up.wr SMEM_CFG_SIZE 1) SMEM_CTRL = false ∧
    (up.wr SMEM_CFG_SIZE 0).rd SMEM_CFG_SIZE = 0 ∧ trainUp.bit SMEM_STAT_TRAINING ∧ isPowered trainUp ∧ smemOff up = false ∧
    (up.wr SMEM_STAT_SR 0).bit SMEM_STAT_SR = false ∧ (up.wr SMEM_STAT_SR 1).bit SMEM_STAT_SR ∧ trainedUp.bit SMEM_STAT_TRAINED ∧
    smemOff trainedUp = false := by decide +kernel

def calIs (k n : Nat) : State := up.wr (calUnitFld k) n
def calWaitUp : State := { calIs 6 3 with integ := { up.integ with runs := [(6, { calRunIdle with wait := some (held .calRun (cmd 0x4006 [])) })] } }
def calL0 : State := (calIs 5 2).wr (HLx_STAT_LINK 1) 5
/-- Only converter 0 is powered; a run of the converters is ON. -/
def convUp (pwr : Nat) : State := (calIs 6 2).wr ADC_STAT_PWR pwr
def recC : List Nat := let w := [0x01000000 + 4 * 65536 + 2, 16, 0]; w ++ [crc32 (bytesOfWords w)]
def recA (l : List Nat) : Cmd := cmd 4 (w32 l)

theorem test_wit_Calibration_run :
    (admits .calRun (cmd 6 []) up ∧ calUnit (admitted .calRun (cmd 6 []) up) 6 = 0 ∧ admits .calRun (cmd 0x4006 []) up ∧
      admits .calRun (cmd 6 []) (calIs 6 3) ∧ calUnit (admitted .calRun (cmd 6 []) (calIs 6 3)) 6 = 3 ∧ admits .calRun (cmd 6 []) (calIs 6 2) ∧
      calUnit (admitted .calRun (cmd 6 []) (calIs 6 2)) 6 = 2 ∧ admits .calRun (cmd 0x8006 []) (calIs 6 2) ∧
      admits .calRun (cmd 0x8006 []) (calIs 6 3) ∧ admits .calRun (cmd 0x8006 []) up ∧ admits .calRun (cmd 7 []) up ∧
      admits .calRun (cmd 0xC006 []) up) ∧
    (calRuns (calIs 6 1) 6 ∧ calRuns (calIs 6 2) 6 ∧ calRuns (calIs 6 3) 6 = false ∧
      calRuns (admitted .calRun (cmd 0x8006 []) (calIs 6 2)) 6 ∧ isPowered (calIs 6 2) ∧ calUnit (calIs 6 2) 6 = 2 ∧ calUnit up 6 ≠ 2 ∧ calUnit up 6 ≠ 3 ∧ calUnit (calIs 6 3) 6 = 3 ∧
      calWaits (calIs 6 3) 6 = false ∧ (calRunOf (calIs 6 3) 6).disag + (calRunOf (calIs 6 3) 6).range = 0 ∧
      (calRunOf (calIs 6 3) 6).applied = 0 ∧ (calRunOf (calIs 6 3) 6).wait = none ∧
      (setCalRun 6 calRunIdle (((calIs 6 3).bump CAL_COUNT_RUNS).wr (calUnitFld 6) 0)).bit (calPendFld 6) = false ∧
      (setCalRun 6 calRunIdle ((((calIs 6 3).wr (calPendFld 6) 1).bump CAL_COUNT_RUNS).wr (calUnitFld 6) 0)).bit (calPendFld 6) ∧
      (calRunOf calWaitUp 6).wait.isSome ∧ (calRunOf calWaitUp 6).disag = 0 ∧ (calRunOf calWaitUp 6).range = 0 ∧ calUnit calWaitUp 6 = 3 ∧
      (finish (held .calRun (cmd 0x4006 [])) ⟨.ok, [], none⟩ (setCalRun 6 calRunIdle ((calWaitUp.bump CAL_COUNT_RUNS).wr (calUnitFld 6) 0))).bit
        (calPendFld 6) = false) := by decide +kernel

theorem test_wit_Calibration_record :
    (admits .calRead (cmd 6 []) up ∧ admits .calRead (cmd 7 []) up) ∧
    (admits .calWrite (recA recC) up ∧ calUnit (admitted .calWrite (recA recC) up) 4 = 0 ∧
      (recA recC).words.map BitVec.toNat = recC ∧ recC.length = 3 + recC.getD 0 0 % 4096 / 2 ∧ calRecordOk 4 recC ∧
      admits .calWrite (recA (recC.dropLast ++ [0])) up ∧ calRecordOk 4 (recC.dropLast ++ [0]) = false ∧
      admits .calWrite (recA recC) (calIs 4 2) ∧ calUnit (admitted .calWrite (recA recC) (calIs 4 2)) 4 ≠ 0) ∧
    (isPowered calL0 ∧ calUnit up 5 ≠ 2 ∧ calUnit (calIs 5 2) 5 = 2 ∧ (calIs 5 2).rd (HLx_STAT_LINK 1) ≠ 5 ∧
      (calRunOf (calIs 5 2) 5).pos = 0 ∧ calL0.rd (HLx_STAT_LINK 1) = 5 ∧ calUnit calL0 5 = 2 ∧
      (calRunOf (setCalRun 5 { calRunOf calL0 5 with pos := 1 } calL0) 5).pos = 1) ∧
    (calUnit (convUp 1) 6 = 2 ∧ convNext (convUp 1) (calRunOf (convUp 1) 6).pos = 0 ∧ convNext (convUp 3) (calRunOf (convUp 3) 6).pos = 0 ∧
      (∀ u, u = convStep 0 0 262144 0 262144 (setCalRun 6 { calRunOf (convUp 3) 6 with pos := 0 } (convUp 3)) → convNext u (calRunOf u 6).pos < 5) ∧
      (∀ u, u = convStep 0 0 262144 0 262144 (setCalRun 6 { calRunOf (convUp 1) 6 with pos := 0 } (convUp 1)) → 5 ≤ convNext u (calRunOf u 6).pos) ∧
      convNext (setCalRun 6 { calRunOf (convUp 12) 6 with pos := 4 } (convUp 12)) 4 = 4) := by
  simp only [forall_eq]; decide +kernel

/-- A MEM run over surface memory, in which no word is marked uncorrectable. -/
def memSurf : State := { surfUp with integ := { up.integ with memRuns := [(2, some (held .crcRun (cmd 0x2002 [0x40000000#32, 8#32])))] } }

theorem test_wit_OwnEffects :
    (admits .tempMeasure (cmd 5 []) up ∧ winOpenAt (admitted .tempMeasure (cmd 5 []) up) 5 = false ∧
      ({ up with thm := { up.thm with autoDue := true } } : State).thm.autoDue ∧ winOpenAt winAll 71 ∧ storeGet 0 winAll.thm.xchkWin 71 ≠ 1 ∧
      up.canonical ∧ up.rd THM_STAT_XCHK_RESULT ≠ 1 ∧ (List.range 72).all (fun k => !winOpenAt up k) ∧ isPowered up) ∧
    ((ntcUp false).rd THM_STAT_XCHK_RESULT = 1 ∧ strictMono ((ntcPoints (ntcUp false)).map (fun x => x.1)) ∧
      strictMono ((ntcPoints (ntcUp false)).map (fun x => x.2)) ∧ (ntcUp false).rdAct THM_XCHK_CFG_NTC_SEL = 1 ∧
      storeGet false (ntcUp false).thm.ntcGot 0 = false) ∧
    (calUnit (admitted .calRun (cmd 6 []) up) 6 = 0 ∧ calRecordOk 4 recC ∧ calUnit calL0 (4 + 1) = 2 ∧ calL0.rd (HLx_STAT_LINK 1) = 5 ∧
      (calRunOf calL0 5).pos = 0 ∧
      (∀ s, s = setCalRun 6 { calRunOf (convUp 12) 6 with pos := 4 } (convUp 12) →
        calUnit s 6 = 2 ∧ convNext s (calRunOf s 6).pos = 4) ∧
      calUnit (calIs 6 3) 6 = 3 ∧ calWaits (calIs 6 3) 6 = false) ∧
    (storeGet none memSurf.integ.memRuns 2 = some (held .crcRun (cmd 0x2002 [0x40000000#32, 8#32])) ∧ inSurface 0x40000000 ∧
      memSurf.smem.bad = [] ∧ unitBusy up 2 = false ∧ (0#32).toNat < 2 ^ algWidth (unitAlg up 2) ∧ chanBusy up 5 = false ∧
      up.bit (CRC_Un_BIND_EN 2) = false) ∧
    (up.rd CCX_STAT_CEPOCH = 0 ∧ activeCore up = 0 ∧ coreState up 1 = 4 ∧ twinIn 7 up.ccx.applied = none ∧
      coreState (coresAre 5 2 up) (1 - activeCore (coresAre 5 2 up)) ≠ 4 ∧ (coresAre 5 2 up).ccx.standins = [] ∧
      (coresAre 5 2 up).ccx.grpWait = [] ∧ writingUp.bit CCX_CKPT_WRITING ∧ writingUp.rd CCX_CKPT_TARGET = 0 ∧ writingUp.ccx.ckClean) := by
  simp only [forall_eq]; decide +kernel

/-! ### Power, resets, firmware, clocks and faults -/

def d1 : State := up.wr PMU_STAT_STATE 1
def inOp (op : Nat) : State := (up.wr PMU_OP_V_OK op).wr PMU_OP_CHANGING 0
/-- A VSCALE to OP2 waits for its raise, or for the relock. -/
def raising : State :=
  let t := ((up.wr PMU_OP_CHANGING 1).wr PMU_OP_V_OK 1).wr PMU_OP_TARGET 2
  { t with pmu := { t.pmu with vscale := some (held .vscale (cmd 2 [])) } }

theorem test_wit_PowerCommands :
    (admits .powerEnter (cmd 3 [0#32]) up ∧ admits .powerEnter (cmd 0 [0#32]) up ∧ up.rd PMU_STAT_STATE = 0 ∧ admits .powerEnter (cmd 0 [0#32]) d1 ∧
      ((admitted .powerEnter (cmd 0 [0#32]) d1).wr PMU_WAKE_EN_SRC 0x81).rd PMU_STAT_STATE = 1 ∧ admits .powerEnter (cmd 1 [0#32]) up ∧
      refuser 1 ((admitted .powerEnter (cmd 1 [0#32]) up).wr PMU_WAKE_EN_SRC 0x81) = none ∧
      (admitted .powerEnter (cmd 1 [0#32]) d1).rd PMU_STAT_STATE = 1 ∧ admits .powerEnter (cmd 1 [0#32]) d1 ∧
      (refuser 2 ((admitted .powerEnter (cmd 2 [0#32]) (railIs 2)).wr PMU_WAKE_EN_SRC 0x81)).isSome ∧ admits .powerEnter (cmd 2 [0#32]) (railIs 2)) ∧
    (admits .powerQuery (cmd 0 []) up ∧ admits .powerQuery (cmd 1 []) up) ∧
    (admits .vscale (cmd 4 []) up ∧ admits .vscale (cmd 3 []) raising ∧ (admitted .vscale (cmd 3 []) raising).bit PMU_OP_CHANGING ∧
      admits .vscale (cmd 3 []) (inOp 3) ∧ (admitted .vscale (cmd 3 []) (inOp 3)).rd PMU_OP_V_OK = 3 ∧
      (admitted .vscale (cmd 3 []) (inOp 3)).bit PMU_OP_CHANGING = false ∧ (admitted .vscale (cmd 3 []) (inOp 3)).rd PMU_STAT_STATE = 0 ∧
      admits .vscale (cmd 3 []) (inOp 0) ∧ (admitted .vscale (cmd 3 []) (inOp 0)).rd PMU_OP_V_OK < 3 ∧ admits .vscale (cmd 0 []) (inOp 3) ∧
      0 < (admitted .vscale (cmd 0 []) (inOp 3)).rd PMU_OP_V_OK) ∧
    (isPowered raising ∧ raiseWaits raising ∧ raiseWaits up = false ∧ raising.pmu.vscale = some (held .vscale (cmd 2 [])) ∧
      (up.wr PMU_OP_BYPASS 0).bit PMU_OP_BYPASS = false ∧ (raising.wr PMU_OP_BYPASS 1).bit PMU_OP_BYPASS ∧
      (raising.wr PMU_OP_BYPASS 1).bit PMU_OP_CHANGING ∧ ((inOp 0).wr PMU_OP_BYPASS 1).bit PMU_OP_BYPASS ∧
      ((inOp 0).wr PMU_OP_BYPASS 1).bit PMU_OP_CHANGING = false) := by decide +kernel

def armed (a : Nat) (down : Bool) (s : State) : State := { s.wr PMU_STAT_ARM a with pmu := { s.pmu with down := down } }
def wakes (s : State) : State := s.wr PMU_WAKE_EN_SRC 255
def waking : State := { d1 with pmu := { d1.pmu with waking := true } }
def d3 : State := { up with pmu := { up.pmu with off := true } }

/-- Its POWER_ENTER is still to be answered; a wake source has come meanwhile; or port A is asked for L2. -/
def replying (s : State) : State := { s with
  pmu := { s.pmu with reply := some (0, 1) }, cmd := { s.cmd with replies := [mkReply .a 0 none (cmd 0 []) ⟨.ok, [], none⟩ s] } }
def hitUp (s : State) : State := { s with pmu := { s.pmu with hit := some 3 } }
def askedUp (link : Nat) : State :=
  let t := (armed 2 true up).wr (HLx_STAT_LINK 0) link
  let t := setPortLink 0 { portLink t 0 with l2Req := true } t
  { t with pmu := { t.pmu with askedL2 := 1 } }

theorem test_wit_PowerDown :
    (replyDue (replying (armed 1 false up)) ∧ replyDue (armed 1 false up) = false ∧ aborts 1 (hitUp (armed 1 false up)) = some 0x13 ∧
      aborts 2 (armed 2 true (railIs 2)) ≠ none ∧ aborts 1 (armed 1 false up) = none ∧ aborts 2 (askedUp 5) = none ∧
      (askedUp 5).pmu.askedL2 / 2 ^ 0 % 2 = 1 ∧ linkOf (askedUp 5) 0 ≠ 7 ∧ aborts 2 (askedUp 7) = none ∧ linkOf (askedUp 7) 0 = 7 ∧
      d1.rd PMU_STAT_STATE ≠ 0) ∧
    (isPowered up ∧ up.rd PMU_STAT_ARM = 0 ∧ (refuser 2 (armed 2 false (railIs 2))).isSome ∧ (armed 2 false (railIs 2)).rd PMU_STAT_ARM = 2 ∧
      (armed 2 false (railIs 2)).pmu.down = false ∧ (armed 2 true (railIs 2)).pmu.down ∧ (refuser 2 (armed 2 true (railIs 2))).isSome ∧
      isPowered (armed 2 true (railIs 2)) ∧ (armed 1 false up).rd PMU_STAT_ARM = 1 ∧ refuser 1 (armed 1 false up) = none ∧
      refuser 1 (armed 1 true up) = none ∧ refuser 2 (armed 2 true up) = none ∧ (armed 2 true up).pmu.askedL2 = 0) ∧
    (isPowered waking ∧ waking.pmu.waking ∧ waking.rd PMU_STAT_STATE = 1 ∧ (d1.wr CKU_GATE_SMEM 0).bit CKU_GATE_SMEM = false ∧
      (d1.wr CKU_GATE_SMEM 1).bit CKU_GATE_SMEM ∧ up.pmu.waking = false) ∧
    (d3.pmu.off ∧ up.pmu.off = false ∧ (wakes up).bitOf PMU_WAKE_EN_SRC 7 ∧ (wakes (armed 1 true up)).rd PMU_STAT_ARM ≠ 0 ∧
      (wakes d1).rd PMU_STAT_STATE = 1 ∧ (wakes d1).rd PMU_STAT_ARM = 0 ∧ (wakes (up.wr PMU_STAT_STATE 2)).rd PMU_STAT_STATE = 2 ∧
      up.rd PMU_TIMER_MS = 0 ∧ ((wakes d1).wr PMU_TIMER_MS 1).rd PMU_TIMER_MS ≠ 0 ∧ (wakes d1).bitOf PMU_WAKE_EN_SRC 5) := by decide +kernel

def relUp : State := State.reset.wr PMU_STAT_PWR_EN 1
def unbooted : State := up.wr PMU_STAT_BOOT_DONE 0
def bootUp (s : State) : State := ((s.wr PMU_STAT_BOOT_DONE 1).wr CCX_STAT_CCA_STATE 5).wr CCX_STAT_CCB_STATE 4

/-- VSEL was driven just now, VSETTLE is 10 µs. -/
def vselUp : State := { up.wr PMU_CFG_VSETTLE 1 with now := 5000, pmu := { up.pmu with vselAt := 1 } }

theorem test_wit_ResetsAndBoot :
    (vselUp.now < vselUp.pmu.vselAt + vselUp.rd PMU_CFG_VSETTLE * 10000 ∧
      (up.wr PMU_CFG_VSETTLE 0).pmu.vselAt + (up.wr PMU_CFG_VSETTLE 0).rd PMU_CFG_VSETTLE * 10000 ≤ up.now) ∧
    (d3.pmu.off ∧ up.pmu.off = false ∧ isPowered up ∧ (up.wr PMU_STAT_VCORE_PG 1).bit PMU_STAT_VCORE_PG ∧
      (up.wr PMU_STAT_VCORE_PG 0).bit PMU_STAT_VCORE_PG = false ∧ d1.rd PMU_STAT_STATE ≠ 0 ∧ (up.wr PMU_STAT_STATE 2).rd PMU_STAT_STATE = 2) ∧
    (up.pmu.released ∧ relUp.pmu.released = false ∧ relUp.pmu.off = false ∧ relUp.bit PMU_STAT_PWR_EN ∧
      State.reset.bit PMU_STAT_PWR_EN = false) ∧
    (up.bit PMU_STAT_BOOT_DONE ∧ isPowered unbooted ∧ unbooted.bit PMU_STAT_BOOT_DONE = false ∧ unbooted.bit PMU_STAT_BOOT_ERR = false ∧
      (bootUp (unbooted.wr PMU_CFG_AUTO_RUN 1)).bit PMU_CFG_AUTO_RUN ∧ (bootUp (unbooted.wr PMU_CFG_AUTO_RUN 0)).bit PMU_CFG_AUTO_RUN = false) := by
  decide +kernel

/-- ResetKeeps holds of every state; its clauses meet at the causes 0, 4 and 5. -/
theorem test_wit_ResetKeeps : (engineReset 4 up).rd PMU_RST_CAUSE_CAUSE = 16 ∧ (engineReset 5 up).rd PMU_RST_CAUSE_CAUSE = 32 ∧
    (engineReset 0 up).rd DEV_LADDER_RUNG = 4 := by decide +kernel

def staged (b : List Nat) (v : Bool) : State := { up with pmu := { up.pmu with patch := some ⟨b, v⟩ } }
/-- A patch of 4 bytes of code: PATCH_LVL above the one in force, of this ROM. -/
def patchBytes : List Nat := bytesOfWords ([0x50460100, up.rd DEV_FW_ROM_VER * 65536 + 0xFFFF, 4, 0] ++ List.replicate 17 0)
def patchC (p : BitVec 16) (off : Word) : Cmd := cmd p (off :: w32 (List.replicate 4 0))
def activating : State :=
  { up with pmu := { up.pmu with patch := some ⟨patchBytes, true⟩, activate := some (held .fwPatchActivate (cmd 0 [])), actCkpt := true } }

theorem test_wit_FirmwarePatch :
    (admits .fwPatchLoad (patchC 0 0#32) up ∧ (admitted .fwPatchLoad (patchC 0 0#32) up).pmu.patch = none ∧
      admits .fwPatchLoad (patchC 0 4#32) up ∧ (bytesOfWords (((patchC 0 0#32).words.drop 1).map BitVec.toNat)).length ≤ 65536 ∧
      admits .fwPatchLoad (patchC 0x8000 0#32) up ∧
      patchCheck (bytesOfWords (((patchC 0x8000 0#32).words.drop 1).map BitVec.toNat)) (admitted .fwPatchLoad (patchC 0x8000 0#32) up) = some 1) ∧
    (admits .fwPatchActivate (cmd 1 []) up ∧ admits .fwPatchActivate (cmd 0 []) up ∧ (admitted .fwPatchActivate (cmd 0 []) up).pmu.patch = none ∧
      admits .fwPatchActivate (cmd 0 []) (staged [1] true) ∧ (admitted .fwPatchActivate (cmd 0 []) (staged [1] true)).pmu.patch = some ⟨[1], true⟩ ∧
      pairReady (admitted .fwPatchActivate (cmd 0 []) (staged [1] true)) ∧
      (admitted .fwPatchActivate (cmd 0 []) (staged [1] true)).bit CCX_CKPT_WRITING = false) ∧
    (isPowered activating ∧ up.pmu.activate = none ∧ activating.pmu.activate.isSome ∧ activating.pmu.actCkpt ∧
      activating.bit CCX_CKPT_WRITING = false) := by decide +kernel

/-- The signature of a patch is judged by the environment: with a good one the patch passes, else it fails check 5 (R448). -/
theorem test_wit_FirmwarePatch_check : (Config.patchSigned patchBytes = true → patchCheck patchBytes up = none) ∧
    (Config.patchSigned patchBytes = false → patchCheck patchBytes up = some 5) := by
  have h1 : (patchBytes.length ≠ 80 + le32 patchBytes 8 ∨ le32 patchBytes 8 < 4 ∨ 65456 < le32 patchBytes 8 ∨ le32 patchBytes 8 % 4 ≠ 0) = False :=
    eq_false (by decide +kernel)
  have h2 : (le32 patchBytes 0 / 65536 ≠ 0x5046 ∨ le32 patchBytes 0 / 256 % 256 ≠ 1 ∨ le32 patchBytes 0 % 256 ≠ 0 ∨ le32 patchBytes 12 ≠ 0) = False :=
    eq_false (by decide +kernel)
  have h3 : (le32 patchBytes 4 / 65536 ≠ up.rd DEV_FW_ROM_VER) = False := eq_false (by decide +kernel)
  have h4 : (le32 patchBytes 4 % 65536 ≤ up.rd DEV_FW_PATCH_LVL) = False := eq_false (by decide +kernel)
  constructor <;> intro h <;> simp only [patchCheck, h1, h2, h3, h4, h, if_false] <;> rfl

def backup : State := up.wr CKU_STAT_BACKUP 1

theorem test_wit_Clocks : isPowered backup ∧ backup.bit CKU_STAT_BACKUP ∧ up.bit CKU_STAT_BACKUP = false ∧
    (trainUp.wr CKU_GATE_SMEM 0).bit CKU_GATE_SMEM = false ∧ (trainUp.wr CKU_GATE_SMEM 0).bit SMEM_STAT_TRAINING ∧
    ((up.wr CKU_GATE_CMP 0).wr DEV_LADDER_RUNG 1).bit CKU_GATE_CMP = false ∧ ((up.wr CKU_GATE_CMP 0).wr DEV_LADDER_RUNG 1).rd DEV_LADDER_RUNG ≤ 1 ∧
    sqOnPair (((up.wr CKU_GATE_ADCP 0).wr (ADC_SQn_STAT_UNIT 7) 2).wr (ADC_SQn_CFG_CONV 7) 2) 7 ∧
    (((up.wr CKU_GATE_ADCP 0).wr (ADC_SQn_STAT_UNIT 7) 2).wr (ADC_SQn_CFG_CONV 7) 2).bit CKU_GATE_ADCP = false ∧
    1 < up.rd DEV_LADDER_RUNG ∧ commitAhead up = false ∧ surfaceUsed up = false ∧ up.bit SMEM_STAT_TRAINING = false ∧
    (List.range 8).all (fun n => !sqOnPair up n) ∧ (up.wr CKU_GATE_CMP 1).bit CKU_GATE_CMP ∧ (up.wr CKU_GATE_SMEM 1).bit CKU_GATE_SMEM ∧
    (up.wr CKU_MEAS_DOMAIN 0).rd CKU_MEAS_DOMAIN = 0 ∧ (up.wr CKU_MEAS_DOMAIN 6).rd CKU_MEAS_DOMAIN = 6 ∧
    cmpOff ((up.wr CKU_MEAS_DOMAIN 6).wr CKU_GATE_CMP 1) ∧ cmpOff (up.wr CKU_MEAS_DOMAIN 6) = false := by decide +kernel

def histUp : State := { up with fcr := { up.fcr with hist := [⟨1, 2, 3, 4⟩] } }
/-- The words of source `id` as they are. -/
def sameCfg (id : Nat) : Cmd := cmd (BitVec.ofNat 16 id) [regReset (FCR_SRCn_CFG id), regReset (FCR_SRCn_RCT id)]
def loose (id : Nat) : Cmd := cmd (BitVec.ofNat 16 id) [0x00010000#32, 0#32]
def cfgAdm (c : Cmd) (s : State) : State := admitted .faultCfg c s

theorem test_wit_FaultReadAndClear :
    (admits .faultRead (cmd 126 [0#32]) up ∧ (histFrom 0 (admitted .faultRead (cmd 126 [0#32]) up).fcr.hist).take 127 = [] ∧
      admits .faultRead (cmd 126 [4#32]) histUp ∧ (histFrom 4 (admitted .faultRead (cmd 126 [4#32]) histUp).fcr.hist).take 127 = [⟨1, 2, 3, 4⟩] ∧
      admits .faultRead (cmd 4216 [0#32]) up ∧ admits .faultRead (cmd 4096 [0x78#32]) up ∧ admits .faultRead (cmd 8192 [0#32]) up ∧
      admits .faultRead (cmd 256 [0#32]) up ∧ admits .faultRead (cmd 8192 [1#32]) up) ∧
    (admits .faultClear (cmd 0x1001 []) up ∧ sourceAssigned 1 ∧ admits .faultClear (cmd 0x10FF []) up ∧ sourceAssigned 0xFF = false ∧
      admits .faultClear (cmd 0x20FF []) up ∧ admits .faultClear (cmd 0x3000 []) up ∧ admits .faultClear (cmd 0x40FF []) up ∧
      admits .faultClear (cmd 0x5000 []) up ∧ admits .faultClear (cmd 0x6000 []) up ∧ admits .faultClear (cmd 0x1100 []) up) := by decide +kernel

theorem test_wit_FaultSettings :
    (admits .faultCfg (sameCfg 0x40) up ∧ sourceAssigned 0x40 ∧ bits ((sameCfg 0x40).words.getD 0 0#32) 29 24 = 0 ∧
      bits ((sameCfg 0x40).words.getD 0 0#32) 15 12 = 0 ∧ bits ((sameCfg 0x40).words.getD 0 0#32) 23 16 ≠ 0 ∧
      rctBad ((sameCfg 0x40).words.getD 1 0#32) = false ∧ protectedSource 0x40 ∧
      weakens (regReset (FCR_SRCn_CFG 0x40)) (regReset (FCR_SRCn_RCT 0x40)) ((sameCfg 0x40).words.getD 0 0#32) ((sameCfg 0x40).words.getD 1 0#32) = false ∧
      (cfgAdm (sameCfg 0x40) up).bit DEV_CONFIG_SPB_SEALED = false) ∧
    (admits .faultCfg (loose 0x40) up ∧ rctBad 0#32 = false ∧
      weakens (regReset (FCR_SRCn_CFG 0x40)) (regReset (FCR_SRCn_RCT 0x40)) 0x00010000#32 0#32) ∧
    (admits .faultCfg (loose 0x40) sealedUp ∧ (cfgAdm (loose 0x40) sealedUp).bit DEV_CONFIG_SPB_SEALED ∧
      weakens ((cfgAdm (loose 0x40) sealedUp).reg (FCR_SRCn_CFG 0x40)) ((cfgAdm (loose 0x40) sealedUp).reg (FCR_SRCn_RCT 0x40)) 0x00010000#32 0#32) ∧
    (admits .faultCfg (cmd 0x100 [0#32, 0#32]) up ∧ admits .faultCfg (loose 0xFF) up) := by decide +kernel

/-! ### Well-formed commands: a term that each check refuses -/

theorem test_wf_ok : (Instr.readReg (cmd 0 [0x0#32])).wf ∧ (Instr.load 0 [⟨0x1000000, false⟩]).wf := by decide +kernel
theorem test_wf_words : (Instr.ping (cmd 0 (List.replicate 512 0#32))).wf = false := by decide +kernel
theorem test_wf_err_align : (Instr.nop { cmd 0 [] with errs := [⟨0x1000004, true⟩] }).wf = false := by decide +kernel
theorem test_wf_err_place : (Instr.transfer 0 false [⟨0x2000000, true⟩]).wf = false := by decide +kernel
theorem test_wf_data_empty : (Instr.dataPacket (data [])).wf = false := by decide +kernel
theorem test_wf_data_long : (Instr.dataPacket (data (List.replicate 513 0#32))).wf = false := by decide +kernel
theorem test_wf_pixel : (Instr.meas 0 [1310720] [] []).wf = false ∧ (Instr.meas 0 [] [1310720] []).wf = false := by decide +kernel
theorem test_wf_wire : (Instr.linkPacketReceive .a [0#8, 0#8] [0#8] false []).wf = false ∧
    (Instr.linkPacketReceive .a (List.replicate 1038 0#8) (List.replicate 1038 0#8) false []).wf = false := by decide +kernel
theorem test_wf_convs : (Instr.adcEntryComplete 0 (List.replicate 257 ⟨0, none⟩)).wf = false := by decide +kernel
theorem test_wf_counts : (Instr.thmConversion [(5, 1), (5, 2)]).wf = false ∧ (Instr.xchkEnd [(5, 1), (5, 2)]).wf = false := by decide +kernel
theorem test_wf_cols : (Instr.calWin 0 (List.replicate 16 ⟨0, 0, 0, 0⟩) []).wf = false := by decide +kernel
theorem test_wf_violations : (Instr.codeViolationLimit .a 60 5).wf = false := by decide +kernel
theorem test_wf_body : (Instr.checkpointCommit (List.replicate 32761 0#32)).wf = false := by decide +kernel
theorem test_wf_group : (Instr.writeGroupApply 0 0 0 [⟨4294967296, 0#32⟩] none).wf = false := by decide +kernel

/-! ### Worked examples of the spec -/

/-- The ASCII string "123456789". -/
def digits : List Nat := [0x31, 0x32, 0x33, 0x34, 0x35, 0x36, 0x37, 0x38, 0x39]

/-- The check values of R454's table. -/
theorem test_crc_check_values : algFeed 0 (algInit 0) digits ^^^ algXor 0 = 0xCBF43926 ∧ algFeed 1 (algInit 1) digits ^^^ algXor 1 = 0xE3069283 ∧
    algFeed 2 (algInit 2) digits ^^^ algXor 2 = 0x29B1 ∧ algFeed 3 (algInit 3) digits ^^^ algXor 3 = 0x4B := by decide +kernel
/-- R233 gives the same value for the link's CRC word; the table loads and SAFE_MSG name the other two codes. -/
theorem test_crc_codes : crc32c digits = 0xE3069283 ∧ crc32 digits = 0xCBF43926 ∧ crc16 digits = 0x29B1 := by decide +kernel

/-- The first stage of the code path with GAIN 200, from the scope's example. -/
theorem test_code_stage1 : codeStage1 40000 200 1024 = 45625 ∧ codeStage1 60000 200 1024 = 65535 := by decide +kernel
/-- The pixel of Pixel drive and the code path at row 300, column 1000. -/
theorem test_code_path : codeStage1 30000 160 1126 = 35050 ∧ codeStage2 35050 223 28672 = 26835 ∧ groupOf 615400 = 15 ∧ zoneOf 615400 = 3 ∧
    thermOf 615400 = 23 ∧ seqOf 615400 = 1 ∧ trimGain 0xA0A = 160 ∧ trimSpare 0xA0A = 1 ∧ trimDead 0xA0A = 0 ∧ trimAdj 0xA0A = 2 := by
  decide +kernel

/-- M of the two examples of Frame tick, slots and stitches. -/
theorem test_stitch_m : stitchM 60000 8 = 1017 ∧ stitchM 240000 8 = 254 := by decide +kernel

/-- The zone at 100 °C of Thermal management: T16 and the derate factor. -/
def s23 : State := (up.wr (THM_CAL_LOn_COUNT 23) 81920).wr (THM_CAL_HIn_COUNT 23) 74240
theorem test_temp_example : tempOf s23 23 75138 2 = 1601 ∧ derateBin 1601 = 144 ∧ derateRef 144 = 223 := by decide +kernel

/-- The converter of Check-value units and calibration: GAIN and OFS of its two measurements, and the two codes trimmed. -/
theorem test_trim_example : convGain up 8320 130560 = 21 ∧ convOfs 8320 21 = -21 ∧ convGain up 8326 130566 = 21 ∧ convOfs 8326 21 = -22 := by
  decide +kernel
theorem test_trim_codes : convCode 2 ⟨2040#12, none⟩ ((up.wr (ADC_TRIMn_GAIN 2) 0x15).wr (ADC_TRIMn_OFS 2) 0xEB) = 2048 ∧
    convCode 2 ⟨130#12, none⟩ ((up.wr (ADC_TRIMn_GAIN 2) 0x15).wr (ADC_TRIMn_OFS 2) 0xEB) = 128 := by decide +kernel

/-- The SETPOINT of 3,800 mV of Anode rail, levelling and fan loops: u at ticks 10, 20 and 21, and the landing at tick 29. -/
def setpointRun (n : Nat) : Prof := (List.range n).foldl (fun p _ => profTick false 8 4 40 15200 p) (profStart 14400)
theorem test_profile_example : (setpointRun 10).u = 40 ∧ (setpointRun 20).u = 40 ∧ (setpointRun 21).u = 36 ∧ (setpointRun 28).q ≠ 15200 ∧
    (setpointRun 29).q = 15200 := by decide +kernel

/-- Tiles of the surface of Surface memory and the Pleat format: the FILL, PALETTE and DELTA planes. -/
def tileBytes (l : List Nat) (o : Nat) : Nat := l.getD o 0
theorem test_pleat_fill : pleatPlane (tileBytes [0x00, 0x20, 0x00, 0x00]) 4 4 16 0 = some (List.replicate 64 0x2000, 4) := by decide +kernel
theorem test_pleat_palette : (pleatPlane (tileBytes ([0x14, 0x00, 0x01, 0x20, 0x00, 0x20, 0x00, 0x00] ++ List.replicate 8 0 ++ List.replicate 8 255))
    24 64 2 0) = some (List.replicate 64 0x2000 ++ List.replicate 64 0, 24) := by decide +kernel
theorem test_pleat_delta : (pleatPlane (tileBytes [0x07, 0x00, 0x00, 0x30, 0x64, 0x00, 0x04, 0x40, 0xF6, 0x02, 0xB2]) 11 4 2 0).map
    (fun x => x.1.take 7) = some [100, 104, 110, 109, 98, 98, 97] := by decide +kernel

/-- The Hemline of Safety functions: H_used 340, POS16 +40, AIM_MARGIN 2. -/
def aimUp (valid : Nat) : State := (((up.wr SMC_AIM_VALID valid).wr SMC_AIM_POS16 40).wr SMC_AIM_AIM_MARGIN 2).wr SMC_AIM_AIM_WORST 48
theorem test_aim_rows : aimRows (aimUp 1) = 5 ∧ aimRows (aimUp 0) = 48 := by decide +kernel

/-- The last CMP_LATE of Faults: the history entry, the rung, and the cause. -/
def lateUp (fns : List Nat) (fn : Nat) : State :=
  let t := (((up.wr DEV_LADDER_RUNG 0).wr SMC_STAT_FB_VALID 1).wr PXA_STAT_PAT_VALID 8).setReg DEV_FN (BitVec.ofNat 32 fn)
  let t := t.forN 4 (fun q u => setSeqOne q { seqOne u q with active := true } (u.wr (SEQ_STAT_BUF_VALID q) 3))
  { t with fcr := { t.fcr with wins := [(0x20, fns)] } }
theorem test_fault_example : (((handleEvent 0x20 0 1 false (lateUp [5064, 5060, 5050, 5040, 5030, 5020, 5010, 5000] 5070)).fcr.hist.map
      (fun e => (e.w0, e.w1, e.w2))) = [(0x13CE, 0x20882800, 1)]) ∧
    (handleEvent 0x20 0 1 false (lateUp [5064, 5060, 5050, 5040, 5030, 5020, 5010, 5000] 5070)).rd DEV_LADDER_RUNG = 1 ∧
    (handleEvent 0x20 0 1 false (lateUp [5060, 5050, 5040, 5030, 5020, 5010, 5000] 5064)).rd DEV_LADDER_RUNG = 0 := by decide +kernel

/-! ### The published codes that the spec names (log entry 3) -/

/-- SHA-256 of "abc" (FIPS 180-4), its first word. -/
theorem test_sha256 : (sha256 [0x61, 0x62, 0x63]).take 4 = [0xBA, 0x78, 0x16, 0xBF] := by decide +kernel
/-- The AES-128 example vector of FIPS 197. -/
theorem test_aes : (aes128 (List.range 16) ((List.range 16).map (fun i => i * 17))).take 4 = [0x69, 0xC4, 0xE0, 0xD8] := by decide +kernel

/-! ### Single steps -/

/-- An empty queue idles one nanosecond (log entry 1). -/
theorem test_step_idle : (match step State.reset with
    | .next s => decide (s = { State.reset with now := 1 })
    | _ => false) = true := by decide +kernel
/-- R447, R302: the release needs PWR_EN; a good ROM check starts the cores ACTIVE and STANDBY. -/
theorem test_step_boot :
    (match step { relUp with pending := [.internalResetRelease false] } with
      | .next s => decide (s.pending = []) && s.pmu.released && decide (s.rd (HLx_STAT_UNIT 0) = 1)
      | _ => false) = true := by decide +kernel
theorem test_step_core_boot :
    (match step { unbooted with pending := [.coreBootDone true, .tick] } with
      | .next s => decide (s.pending.length = 1) && decide (s.rd CCX_STAT_CCA_STATE = 5 ∧ s.rd CCX_STAT_CCB_STATE = 4)
      | _ => false) = true := by decide +kernel
/-- The table gives no bits: no word spells a command. -/
theorem test_decode_none : decodeTableWord 32 0 = none := by decide +kernel

end Sys2Proof.Tests
end

section
/-!
PROOF. The commands of the fault collector (R431 to R434): an equation of `faultRead`, `faultClear` and `faultCfg` for each form of
the command, and the two statements as uses of them.
-/
namespace Sys2Proof.Machine

/-! ### The admitted commands -/

theorem issued_cmd (op : Opcode) (c : Cmd) (s : State) : (issued op c s).cmd = c := rfl

theorem exec_faultRead_of_admits {c : Cmd} {s : State} (h : admits .faultRead c s = true) :
    exec (.faultRead c) s
      = .next (completed .faultRead c s (faultRead (issued .faultRead c s) (admitted .faultRead c s))) :=
  host_admitted h

theorem exec_faultClear_of_admits {c : Cmd} {s : State} (h : admits .faultClear c s = true) :
    exec (.faultClear c) s
      = .next (completed .faultClear c s (faultClear (issued .faultClear c s) (admitted .faultClear c s))) :=
  host_admitted h

theorem exec_faultCfg_of_admits {c : Cmd} {s : State} (h : admits .faultCfg c s = true) :
    exec (.faultCfg c) s
      = .next (completed .faultCfg c s (faultCfg (issued .faultCfg c s) (admitted .faultCfg c s))) :=
  host_admitted h

/-- PARAM0 of FAULT_READ and FAULT_CLEAR: a code in bits 15 to 12, reserved bits 11 to 8, a number in bits 7 to 0. -/
theorem param0_fields {p code n : Nat} (h : p = 4096 * code + n) (hn : n < 256) :
    p / 256 % 16 = 0 ∧ p / 4096 = code ∧ p % 256 = n := by
  omega

section
variable {o : Outst} {s : State}

/-! ### FAULT_READ (R431) -/

theorem faultRead_history_nil (hp : o.cmd.p0 < 127)
    (hl : (histFrom (o.cmd.w 1) s.fcr.hist).take (o.cmd.p0 + 1) = []) :
    faultRead o s = okW s [s.rd FCR_HIST_STAT_NEXT_HSEQ] := by
  obtain ⟨hres, hmode, hn⟩ := param0_fields (p := o.cmd.p0) (code := 0) (n := o.cmd.p0) (by omega) (by omega)
  simp [faultRead, hres, hmode, hn, hl, show ¬ 126 < o.cmd.p0 by omega]

theorem faultRead_history_cons {e : HistEntry} {l : List HistEntry} (hp : o.cmd.p0 < 127)
    (hl : (histFrom (o.cmd.w 1) s.fcr.hist).take (o.cmd.p0 + 1) = e :: l) :
    faultRead o s = okW s (histSeq e :: (e :: l).flatMap (fun x => [x.w0, x.w1, x.w2, x.w3])) := by
  obtain ⟨hres, hmode, hn⟩ := param0_fields (p := o.cmd.p0) (code := 0) (n := o.cmd.p0) (by omega) (by omega)
  simp [faultRead, hres, hmode, hn, hl, show ¬ 126 < o.cmd.p0 by omega]

theorem faultRead_sources {n : Nat} (hp : o.cmd.p0 = 4096 + n) (hn : n ≤ 120) (hw : o.cmd.w 1 + n ≤ 0x78) :
    faultRead o s = okW s ((List.range (n + 1)).flatMap (fun i => sourceWords s (o.cmd.w 1 + i))) := by
  obtain ⟨hres, hmode, hcount⟩ := param0_fields (code := 1) hp (by omega)
  have hrun : ¬ (120 < n ∨ 0x78 < o.cmd.w 1 + n) := by omega
  simp only [faultRead, hres, hmode, hcount, hrun, ne_eq, not_true_eq_false, one_ne_zero, if_false, if_true]

theorem faultRead_summary (hp : o.cmd.p0 = 8192) (hw : o.cmd.w 1 = 0) :
    faultRead o s = okW s ([FCR_STAT, FCR_HIST_STAT, FCR_ALIVE, FCR_ALIVE_FN, FCR_FIRSTn 0, FCR_FIRSTn 1,
      FCR_FIRSTn 2, FCR_FIRSTn 3].map (fun a => (s.reg a).toNat)) := by
  simp [faultRead, hp, hw]

/-- A reserved bit, a MODE that R431 does not have, and MODE 2 with an operand that is not 0. -/
theorem faultRead_badParam (h : o.cmd.p0 / 256 % 16 ≠ 0 ∨ 3 ≤ o.cmd.p0 / 4096 ∨
      (o.cmd.p0 / 4096 = 2 ∧ (o.cmd.p0 ≠ 8192 ∨ o.cmd.w 1 ≠ 0))) :
    faultRead o s = ans s .badParam := by
  by_cases hres : o.cmd.p0 / 256 % 16 ≠ 0
  · exact if_pos hres
  · have hmode0 : o.cmd.p0 / 4096 ≠ 0 := by omega
    have hmode1 : o.cmd.p0 / 4096 ≠ 1 := by omega
    have hsum : ¬ (o.cmd.p0 / 4096 = 2 ∧ o.cmd.p0 % 256 = 0 ∧ o.cmd.w 1 = 0) := by omega
    simp only [faultRead, hres, hmode0, hmode1, hsum, if_false]

/-! ### FAULT_CLEAR (R432) -/

theorem faultClear_source {n : Nat} (hp : o.cmd.p0 = 4096 + n) (hn : n < 256) :
    faultClear o s = if sourceAssigned n then ok { s with fcr := { s.fcr with wins := storeSet [] s.fcr.wins n [] } }
      else ans s .badParam := by
  obtain ⟨hres, hwhat, hsrc⟩ := param0_fields (code := 1) hp hn
  simp [faultClear, hres, hwhat, hsrc]

theorem faultClear_allSources {n : Nat} (hp : o.cmd.p0 = 8192 + n) (hn : n < 256) :
    faultClear o s = ok { s with fcr := { s.fcr with wins := [] } } := by
  obtain ⟨hres, hwhat, -⟩ := param0_fields (code := 2) hp hn
  simp [faultClear, hres, hwhat]

theorem faultClear_firstError {n : Nat} (hp : o.cmd.p0 = 12288 + n) (hn : n < 256) :
    faultClear o s = ok (s.wr FCR_STAT_FROZEN 0) := by
  obtain ⟨hres, hwhat, -⟩ := param0_fields (code := 3) hp hn
  simp [faultClear, hres, hwhat]

theorem faultClear_history {n : Nat} (hp : o.cmd.p0 = 16384 + n) (hn : n < 256) :
    faultClear o s = ok ({ s with fcr := { s.fcr with hist := [] } }.wr FCR_STAT_FILL 0) := by
  obtain ⟨hres, hwhat, -⟩ := param0_fields (code := 4) hp hn
  simp [faultClear, hres, hwhat]

theorem faultClear_maxSev {n : Nat} (hp : o.cmd.p0 = 20480 + n) (hn : n < 256) :
    faultClear o s = ok (s.wr FCR_STAT_MAX_SEV 0) := by
  obtain ⟨hres, hwhat, -⟩ := param0_fields (code := 5) hp hn
  simp [faultClear, hres, hwhat]

/-- A WHAT that R432 does not have, and a reserved bit. -/
theorem faultClear_badParam (h : o.cmd.p0 / 4096 = 0 ∨ 6 ≤ o.cmd.p0 / 4096 ∨ o.cmd.p0 / 256 % 16 ≠ 0) :
    faultClear o s = ans s .badParam := by
  by_cases hres : o.cmd.p0 / 256 % 16 ≠ 0
  · exact if_pos hres
  · simp only [faultClear, hres, if_false]
    split
    case h_6 => rfl
    all_goals omega

/-! ### FAULT_CFG (R433, R434) -/

/-- R433's reasons to refuse a FAULT_CFG for its own words: PARAM0 above 255, an unassigned source, a reserved bit of either
word, W = 0, or an undefined RUNG. -/
def cfgMalformed (c : Cmd) : Prop :=
  256 ≤ c.p0 ∨ sourceAssigned (c.p0 % 256) = false ∨ bits (c.words.getD 0 0#32) 29 24 ≠ 0 ∨
    bits (c.words.getD 0 0#32) 15 12 ≠ 0 ∨ bits (c.words.getD 0 0#32) 23 16 = 0 ∨ rctBad (c.words.getD 1 0#32) = true

theorem cfgMalformed_iff {c : Cmd} : cfgMalformed c ↔
    256 ≤ c.p0 ∨ (!sourceAssigned (c.p0 % 256)) = true ∨ bits (c.words.getD 0 0#32) 29 24 ≠ 0 ∨
      bits (c.words.getD 0 0#32) 15 12 ≠ 0 ∨ rctBad (c.words.getD 1 0#32) = true ∨ bits (c.words.getD 0 0#32) 23 16 = 0 := by
  rw [cfgMalformed, Bool.not_eq_true', or_comm (a := bits _ 23 16 = 0)]

theorem faultCfg_malformed (h : cfgMalformed o.cmd) : faultCfg o s = ans s .badParam :=
  if_pos (cfgMalformed_iff.mp h)

section
variable {id : Nat} {cfg rct : Word} (hid : id = o.cmd.p0 % 256) (hcfg : cfg = o.cmd.words.getD 0 0#32)
  (hrct : rct = o.cmd.words.getD 1 0#32) (hform : ¬ cfgMalformed o.cmd)
include hid hcfg hrct hform

/-- R434 on a well-formed FAULT_CFG: the refusal of the sealed block goes before that of a protected source. -/
theorem faultCfg_wellFormed : faultCfg o s =
    if s.bit DEV_CONFIG_SPB_SEALED ∧ weakens (s.reg (FCR_SRCn_CFG id)) (s.reg (FCR_SRCn_RCT id)) cfg rct then
      ans s .notPrivileged
    else if protectedSource id ∧ weakens (regReset (FCR_SRCn_CFG id)) (regReset (FCR_SRCn_RCT id)) cfg rct then
      ans s .badParam
    else ok ((s.setReg (FCR_SRCn_CFG id) cfg).setReg (FCR_SRCn_RCT id) rct) := by
  subst hid hcfg hrct
  exact if_neg (mt cfgMalformed_iff.mpr hform)

theorem faultCfg_sealed (hs : s.bit DEV_CONFIG_SPB_SEALED = true)
    (hw : weakens (s.reg (FCR_SRCn_CFG id)) (s.reg (FCR_SRCn_RCT id)) cfg rct = true) :
    faultCfg o s = ans s .notPrivileged := by
  rw [faultCfg_wellFormed hid hcfg hrct hform, if_pos ⟨hs, hw⟩]

theorem faultCfg_protected (hs : s.bit DEV_CONFIG_SPB_SEALED = false) (hp : protectedSource id = true)
    (hw : weakens (regReset (FCR_SRCn_CFG id)) (regReset (FCR_SRCn_RCT id)) cfg rct = true) :
    faultCfg o s = ans s .badParam := by
  rw [faultCfg_wellFormed hid hcfg hrct hform, if_neg (fun h => Bool.false_ne_true (hs.symm.trans h.1)), if_pos ⟨hp, hw⟩]

theorem faultCfg_written
    (hs : s.bit DEV_CONFIG_SPB_SEALED = true →
      weakens (s.reg (FCR_SRCn_CFG id)) (s.reg (FCR_SRCn_RCT id)) cfg rct = false)
    (hp : protectedSource id = true → weakens (regReset (FCR_SRCn_CFG id)) (regReset (FCR_SRCn_RCT id)) cfg rct = false) :
    faultCfg o s = ok ((s.setReg (FCR_SRCn_CFG id) cfg).setReg (FCR_SRCn_RCT id) rct) := by
  rw [faultCfg_wellFormed hid hcfg hrct hform, if_neg (fun h => Bool.false_ne_true ((hs h.1).symm.trans h.2)),
    if_neg (fun h => Bool.false_ne_true ((hp h.1).symm.trans h.2))]

end
end

/-! ### The statements -/

/-- Settles O59: each clause is the equation of `faultRead` or `faultClear` for its form of PARAM0. -/
theorem faultReadAndClear : Obligations.FaultReadAndClear := by
  unfold Obligations.FaultReadAndClear
  rintro c s t
  constructor
  · rintro h rfl
    rw [exec_faultRead_of_admits h]
    refine ⟨fun hp hl => ?_, fun e l hp hl => ?_, fun n hp hn hw => ?_, fun hp hw => ?_, fun hbad => ?_⟩
    · rw [faultRead_history_nil hp hl]
    · rw [faultRead_history_cons hp hl, histSeq]
    · rw [faultRead_sources hp hn hw, issued_cmd]
    · rw [faultRead_summary hp hw]
    · rw [faultRead_badParam hbad]
  · rintro h rfl
    rw [exec_faultClear_of_admits h]
    refine ⟨fun n hp hn ha => ?_, fun n hp hn ha => ?_, fun n hn =>
      ⟨fun hp => ?_, fun hp => ?_, fun hp => ?_, fun hp => ?_⟩, fun hbad => ?_⟩
    · rw [faultClear_source hp hn, if_pos ha]
    · rw [faultClear_source hp hn, ha, if_neg Bool.false_ne_true]
    · rw [faultClear_allSources hp hn]
    · rw [faultClear_firstError hp hn]
    · rw [faultClear_history hp hn]
    · rw [faultClear_maxSev hp hn]
    · rw [faultClear_badParam hbad]

/-- Settles O60: a malformed command is refused for its words; a well-formed one goes through R434's two refusals in their order. -/
theorem faultSettings : Obligations.FaultSettings := by
  unfold Obligations.FaultSettings
  rintro c s t cfg rct id h rfl hid hcfg hrct
  rw [exec_faultCfg_of_admits h]
  constructor
  · intro hbad
    subst hid hcfg hrct
    have hform : cfgMalformed (issued .faultCfg c s).cmd := hbad
    rw [faultCfg_malformed hform]
  · intro hp ha hres hres' hw hrung
    have hform : ¬ cfgMalformed (issued .faultCfg c s).cmd := by
      subst hid hcfg hrct
      rw [issued_cmd]
      rintro (hp' | ha' | hr | hr | hw' | hrung')
      · exact hp.not_ge hp'
      · exact Bool.false_ne_true (ha'.symm.trans ha)
      · exact hr hres
      · exact hr hres'
      · exact hw hw'
      · exact Bool.false_ne_true (hrung.symm.trans hrung')
    refine ⟨fun hs hweak => ?_, fun hs hprot hweak => ?_, fun hs hprot => ?_⟩
    · rw [faultCfg_sealed hid hcfg hrct hform hs hweak]
    · rw [faultCfg_protected hid hcfg hrct hform hs hprot hweak]
    · rw [faultCfg_written hid hcfg hrct hform hs hprot]

end Sys2Proof.Machine
end

section
/-!
PROOF. The step and what every step keeps: the front of the queue, the canonical form of the stores, the array's drive, and the rows
of gated domains. Each statement is a use of `exec_keeps`, which says what any command keeps, or of the form of the rows.
-/
namespace Sys2Proof.Machine

/-! ### The step -/

theorem step_cons {c : Instr} {cs : List Instr} {s : State} (h : s.pending = c :: cs) :
    step s = exec c { s with pending := cs } := by
  unfold step
  rw [h]

theorem step_nil {s : State} (h : s.pending = []) : step s = .next { s with now := s.now + 1 } := by
  unfold step
  rw [h]

/-- Settles O1: the two branches of `step`. -/
theorem stepRunsFront : Obligations.StepRunsFront :=
  ⟨fun _ _ _ h => step_cons h, fun _ h => step_nil h⟩

/-! ### The canonical form -/

theorem canonical_iff {s : State} : s.canonical = true ↔
    storeWf regReset s.regs = true ∧ storeWf regReset s.act = true ∧ storeWf (fun _ => 0#8) s.smem.mem = true := by
  unfold State.canonical
  rw [Bool.and_eq_true, Bool.and_eq_true, and_assoc]

theorem Keeps.canonical {b : Bool} {s t : State} (h : Keeps b s t) (hs : s.canonical = true) : t.canonical = true := by
  obtain ⟨hr, ha, hm⟩ := canonical_iff.mp hs
  exact canonical_iff.mpr ⟨h.regs hr, h.act ha, h.mem hm⟩

theorem exec_keeps_any (i : Instr) (s : State) : GoesOn false s (exec i s) :=
  exec_keeps false i s (fun h => by cases h)

/-- Settles O3: an idle step touches no store, and a command keeps what `Keeps` names. -/
theorem canonicalKept : Obligations.CanonicalKept := by
  intro s t hs ht
  cases hp : s.pending with
  | nil =>
    rw [step_nil hp] at ht
    cases ht
    exact hs
  | cons c cs =>
    rw [step_cons hp] at ht
    obtain ⟨u, hu, hk⟩ := exec_keeps_any c { s with pending := cs }
    cases hu.symm.trans ht
    exact hk.canonical hs

/-- Settles O4: every row goes on, and `Keeps` has the queue, the clock, the counter and the fuses. -/
theorem everyCommandGoesOn : Obligations.EveryCommandGoesOn := by
  intro i s
  obtain ⟨t, ht, hk⟩ := exec_keeps_any i s
  exact ⟨t, ht, hk.queue, hk.clock, hk.free, hk.fuse, hk.jtag⟩

theorem mayDrive_eq_drives (i : Instr) : mayDrive i = Obligations.drives i := by
  cases i <;> rfl

/-- Settles O5: of a row that may not drive the array, `Keeps true` says what becomes of the latches and of the bank in play. -/
theorem driveFrame : Obligations.DriveFrame := by
  intro i s t hd ht
  obtain ⟨u, hu, hk⟩ := exec_keeps true i s (fun _ => (mayDrive_eq_drives i).trans hd)
  cases hu.symm.trans ht
  exact hk.drive rfl

/-! ### The state after reset -/

/-- Settles O2: the stores are empty at reset, so every register reads its reset value. -/
theorem resetState : Obligations.ResetState := by
  have hreg : ∀ a, State.reset.reg a = regReset a := fun _ => rfl
  refine ⟨rfl, rfl, hreg, ?_, ?_, ?_, ?_, rfl, rfl⟩ <;> decide +kernel

/-! ### Rows of gated domains -/

theorem powered_gated {s : State} {f : State → State} (h : isPowered s = false) : powered f s = s := by
  unfold powered
  rw [h, if_neg Bool.false_ne_true]

/-- A row that runs under `powered` changes nothing while its domain is gated. -/
theorem exec_gated {i : Instr} {s : State} {f : State → State} (h : isPowered s = false)
    (hf : exec i s = .next (powered f s)) : exec i s = .next s := by
  rw [hf, powered_gated h]

/-- Settles O6: every row outside AON runs under `powered`; the straps' row also asks for D2. -/
theorem gatedRows : Obligations.GatedRows := by
  intro i s h
  constructor
  · intro ha
    cases i
    case powerOnReset | resetNLow | wakeSourceFire | pmuTimerExpiry | pwrEnHigh | pwrEnLow | internalResetRelease | strapRead =>
      cases ha
    all_goals exact exec_gated h rfl
  · intro v0 v1 h2
    have hrun : ¬ (isPowered s || decide (s.rd PMU_STAT_STATE = 2)) = true := by simp [h, h2]
    exact congrArg Host.Outcome.next (if_neg hrun)

end Sys2Proof.Machine
end

section
/-!
PROOF. Admission (R264, R266, R295 to R299): what each of the ten steps answers, and the two copies of a duplicate stream.
-/
namespace Sys2Proof.Machine

/-! ### The rows of host commands, and rows of powered domains -/

/-- The row of a host command runs `hostRun` of its opcode. -/
theorem exec_hostRow {op : Opcode} {c : Cmd} {i : Instr} (h : Obligations.hostRow op c = some i) (s : State) :
    exec i s = .next (powered (hostRun op c) s) := by
  cases op
  case tack | unknown => cases h
  all_goals cases h; rfl

/-- A row that runs `f` while its domain is powered. -/
theorem exec_runs {i : Instr} {s t : State} {f : State → State} (hp : isPowered s = true)
    (hi : exec i s = .next (powered f s)) (ht : f s = t) : exec i s = .next t := by
  rw [hi, powered_run hp, ht]

/-- The row of an admitted host command completes with what its body answers. -/
theorem exec_admits {op : Opcode} {i : Instr} {c : Cmd} {s : State} {r : Res} (h : admits op c s = true)
    (hi : exec i s = .next (powered (hostRun op c) s)) (hr : runBody op (issued op c s) (admitted op c s) = r) :
    exec i s = .next (completed op c s r) := by
  rw [hi, host_admitted h, hr]

/-- An admitted host command that is answered later leaves the state that its body leaves. -/
theorem exec_admits_later {op : Opcode} {i : Instr} {c : Cmd} {s t : State} (h : admits op c s = true)
    (hi : exec i s = .next (powered (hostRun op c) s)) (hr : runBody op (issued op c s) (admitted op c s) = answerLater t) :
    exec i s = .next t := by
  rw [exec_admits h hi hr]
  rfl

/-! ### The steps of admission -/

section
variable {op : Opcode} {c : Cmd} {s t : State}

theorem not_waitsTurn (h : takes op c s = true) : waitsTurn c.port c.ch c.seq.toNat (carries op c) (drained s) = false := by
  unfold takes at h
  rwa [Bool.not_eq_true'] at h

/-- The steps after CMD has taken the packet. -/
def admission (op : Opcode) (c : Cmd) (u : State) : State :=
  match admitA op c u with
  | some t => t
  | none =>
    match admitRate (storeGet 0 u.cmd.rate (rateKey c)) op c (countRate c u) with
    | some t => t
    | none =>
      match admitForm op c (countRate c u) with
      | some t => t
      | none =>
        if dupOf (chanW1 u c.ch) then admitDup runBody op c (countRate c u)
        else
          match admitSeq op c (countRate c u) with
          | some t => t
          | none => admitTail op (runBody op) c false (countRate c u)

theorem hostRun_taken (h : takes op c s = true) : hostRun op c s = admission op c (taken op c s) :=
  if_neg (ne_true_of_eq_false (not_waitsTurn h))

variable {u : State}

theorem admission_of_admitA (h : admitA op c u = some t) : admission op c u = t := by
  unfold admission
  rw [h]

theorem admission_of_admitRate (ho : passesOpen c u = true)
    (h : admitRate (storeGet 0 u.cmd.rate (rateKey c)) op c (countRate c u) = some t) : admission op c u = t := by
  unfold admission
  rw [admitA_none ho, h]

theorem admission_of_admitForm (ho : passesOpen c u = true) (hr : passesRate c u = true)
    (h : admitForm op c (countRate c u) = some t) : admission op c u = t := by
  unfold admission
  rw [admitA_none ho, admitRate_none hr, h]

theorem admitForm_none (hp : ptypeOk op c = true) (hd : c.d = dupOf (chanW1 u c.ch)) : admitForm op c u = none := by
  unfold admitForm
  simp [hp, hd]

theorem admission_single (ho : passesOpen c u = true) (hr : passesRate c u = true) (hp : ptypeOk op c = true)
    (hd : c.d = false) (h1 : dupOf (chanW1 u c.ch) = false) :
    admission op c u = (match admitSeq op c (countRate c u) with
      | some t => t
      | none => admitTail op (runBody op) c false (countRate c u)) := by
  have hf : admitForm op c (countRate c u) = none := admitForm_none hp (hd.trans h1.symm)
  unfold admission
  rw [admitA_none ho, admitRate_none hr, hf, h1]
  rfl

theorem admission_dup (ho : passesOpen c u = true) (hr : passesRate c u = true) (hp : ptypeOk op c = true)
    (hd : c.d = true) (h1 : dupOf (chanW1 u c.ch) = true) :
    admission op c u = admitDup runBody op c (countRate c u) := by
  have hf : admitForm op c (countRate c u) = none := admitForm_none hp (hd.trans h1.symm)
  unfold admission
  rw [admitA_none ho, admitRate_none hr, hf, if_pos h1]

/-- Step 1: the channel is closed to the port. -/
theorem admitA_closed (h : c.ch = 255 ∨ chanW1 u c.ch / 2 ^ 31 % 2 = 0 ∨ chanW1 u c.ch / 2 ^ (29 + c.port.num) % 2 = 0) :
    admitA op c u = some (refuse .notPrivileged true true [] op c (raise 0x10 (cmdDetail op c) (u.bump CMD_COUNT0_PRIV))) :=
  if_pos h

/-- Step 2: an authenticated channel takes only a packet with the right tag, another one only a packet without. -/
theorem admitA_unauthentic (h1 : c.ch ≠ 255) (h2 : chanW1 u c.ch / 2 ^ 31 % 2 = 1)
    (h3 : chanW1 u c.ch / 2 ^ (29 + c.port.num) % 2 = 1)
    (h : ((keyOf (chanW1 u c.ch)).isSome = true ∧ ¬ (c.a = true ∧ c.tagOk = true)) ∨ (keyOf (chanW1 u c.ch) = none ∧ c.a = true)) :
    admitA op c u = some (refuse .authFail true false [] op c (raise 0x12 (cmdDetail op c) (u.bump CMD_COUNT0_AUTH))) := by
  have hopen : ¬ (c.ch = 255 ∨ chanW1 u c.ch / 2 ^ 31 % 2 = 0 ∨ chanW1 u c.ch / 2 ^ (29 + c.port.num) % 2 = 0) := by
    omega
  unfold admitA
  simp only [hopen, if_false]
  rcases h with ⟨hk, ht⟩ | ⟨hk, ha⟩
  · obtain ⟨k, hk⟩ := Option.isSome_iff_exists.mp hk
    simp only [hk]
    rw [if_neg (by simpa using ht)]
  · simp [hk, ha]

/-- Step 3: the channel and port have had RATE commands in the frame. -/
theorem admitRate_full (h : passesRate c u = false) :
    admitRate (storeGet 0 u.cmd.rate (rateKey c)) op c (countRate c u)
      = some (refuse .rateLimited true false [] op c
          (raise 0x11 (cmdDetail op c) ((countRate c u).bump CMD_COUNT1_RATE))) := by
  have hreg : (countRate c u).rd (CMD_CHANn_W0_RATE c.ch) = u.rd (CMD_CHANn_W0_RATE c.ch) := rfl
  unfold passesRate at h
  rw [decide_eq_false_iff_not, not_or, not_lt] at h
  unfold admitRate
  simp only [hreg]
  rw [if_pos h]

/-- Step 4. -/
theorem admitForm_ptype (h : ptypeOk op c = false) : admitForm op c u = some (refuse .badOpcode false false [] op c u) := by
  unfold admitForm
  rw [h]
  rfl

/-- Step 5. -/
theorem admitForm_mode (hp : ptypeOk op c = true) (hd : c.d ≠ dupOf (chanW1 u c.ch)) :
    admitForm op c u = some (refuse .badParam false false [] op c u) := by
  unfold admitForm
  rw [hp, if_neg (by decide), if_pos hd]

/-- Step 6 on a SINGLE channel: a SEQ that is not later than the last admitted one. -/
theorem admitSeq_old (h : passesSeq c u = false) : admitSeq op c u
    = some (refuseDup (streamKey (chanW1 u c.ch) c.ch c.port.num) false op c u) := by
  unfold passesSeq at h
  unfold admitSeq
  cases hq : storeGet none u.cmd.lastSeq (streamKey (chanW1 u c.ch) c.ch c.port.num) with
  | none => rw [hq] at h; cases h
  | some q =>
    rw [hq, Option.all_some] at h
    simp only [hq, h]
    rfl

theorem admitSeq_none (h : passesSeq c u = true) : admitSeq op c u = none := by
  unfold passesSeq at h
  unfold admitSeq
  cases hq : storeGet none u.cmd.lastSeq (streamKey (chanW1 u c.ch) c.ch c.port.num) with
  | none => simp only [hq]
  | some q =>
    rw [hq, Option.all_some] at h
    simp only [hq, h]
    rfl

/-- Step 7. -/
theorem admitClaim_stale (h : passesClaim op c u = false) : admitClaim op c u
    = some (refuse .stale true false [] op c (raise (claimFault c u)
        (if claimFault c u = 0x71 then c.port.num + c.ch * 256 else cmdDetail op c) u)) := by
  unfold passesClaim at h
  rw [Bool.or_eq_false_iff, decide_eq_false_iff_not, decide_eq_false_iff_not] at h
  unfold admitClaim
  rw [if_neg h.1]
  simp only [h.2, if_false]

theorem admitClaim_none (h : passesClaim op c u = true) : admitClaim op c u = none := by
  unfold passesClaim at h
  rw [Bool.or_eq_true, decide_eq_true_eq, decide_eq_true_eq] at h
  unfold admitClaim
  rcases h with h | h
  · exact if_pos h
  · split
    · rfl
    · simp only [h, if_true]

theorem admitTail_of_claim {b : Bool} {r : Outst → State → Res} (h : admitClaim op c u = some t) : admitTail op r c b u = t := by
  unfold admitTail
  rw [h]

theorem admitTail_of_rights {b : Bool} {r : Outst → State → Res} (hc : passesClaim op c u = true)
    (h : admitRights op c u = some t) : admitTail op r c b u = t := by
  unfold admitTail
  rw [admitClaim_none hc, h]

/-- Step 8. -/
theorem admitRights_class (h : (classesOf op c).all (fun b => decide (u.rd (CMD_CHANn_W0_CLASS c.ch) / 2 ^ b % 2 = 1)) = false) :
    admitRights op c u = some (refuse .notPrivileged false false [] op c
      (raise 0x10 (cmdDetail op c) (u.bump CMD_COUNT0_PRIV))) := by
  unfold admitRights
  simp only [h]
  rfl

/-- Step 9. -/
theorem admitRights_length (h : (classesOf op c).all (fun b => decide (u.rd (CMD_CHANn_W0_CLASS c.ch) / 2 ^ b % 2 = 1)) = true)
    (hl : lenOk op c = false) :
    admitRights op c u = some (absorbRefused op c (refuse .badLength false false [] op c u)) := by
  unfold admitRights
  simp only [h, hl]
  rfl

/-- Step 10. -/
theorem admitRights_thimble (h : (classesOf op c).all (fun b => decide (u.rd (CMD_CHANn_W0_CLASS c.ch) / 2 ^ b % 2 = 1)) = true)
    (hl : lenOk op c = true) (ht : (thimblesOf op c).all (holdsThimble c u) = false) :
    admitRights op c u = some (absorbRefused op c (refuse .thimbleRequired false false [] op c u)) := by
  unfold admitRights
  simp only [h, hl, ht]
  rfl

end

/-! ### The refusals -/

/-- Settles O7: a step that refuses ends the admission with its refusal, and the steps before it pass it on. -/
theorem admissionRefusals : Obligations.AdmissionRefusals := by
  rintro op c i s u v hi hp htk rfl rfl
  have run : ∀ {t}, admission op c (taken op c s) = t → exec i s = .next t := fun ht =>
    exec_runs hp (exec_hostRow hi s) ((hostRun_taken htk).trans ht)
  refine ⟨fun h => run (admission_of_admitA (admitA_closed h)), fun h1 h2 h3 => ⟨fun hk ht => ?_, fun hk ha => ?_⟩,
    fun ho => ⟨fun hr => ?_, fun hr => ?_⟩⟩
  · exact run (admission_of_admitA (admitA_unauthentic h1 h2 h3 (.inl ⟨hk, ht⟩)))
  · exact run (admission_of_admitA (admitA_unauthentic h1 h2 h3 (.inr ⟨hk, ha⟩)))
  · exact run (admission_of_admitRate ho (admitRate_full hr))
  · refine ⟨fun h => ?_, fun h hd => ?_, fun h hd h1 => ?_⟩
    · exact run (admission_of_admitForm ho hr (admitForm_ptype h))
    · exact run (admission_of_admitForm ho hr (admitForm_mode h hd))
    have single := admission_single ho hr h hd h1
    refine ⟨fun hq => run ?_, fun hq => ?_⟩
    · have hold : passesSeq c (countRate c (taken op c s)) = false := hq
      rw [single, admitSeq_old hold]
      rfl
    have hnew : passesSeq c (countRate c (taken op c s)) = true := hq
    rw [admitSeq_none hnew] at single
    refine ⟨fun hc hf => run ?_, fun hc hf => run ?_, fun hc =>
      ⟨fun hcl => run ?_, fun hcl => ⟨fun hl => run ?_, fun hl ht => run ?_⟩⟩⟩
    · have := admitClaim_stale hc
      rw [if_neg hf] at this
      exact single.trans (admitTail_of_claim this)
    · have := admitClaim_stale hc
      rw [if_pos hf, hf] at this
      exact single.trans (admitTail_of_claim this)
    · exact single.trans (admitTail_of_rights hc (admitRights_class hcl))
    · exact single.trans (admitTail_of_rights hc (admitRights_length hcl hl))
    · exact single.trans (admitTail_of_rights hc (admitRights_thimble hcl hl ht))

/-! ### The two copies of a duplicate stream -/

section
variable {run : Opcode → Outst → State → Res} {op : Opcode} {c : Cmd} {s : State}

theorem heldOn_eq_none {ch : Nat} :
    heldOn s ch = none ↔ s.cmd.held.find? (fun h => decide (h.1.cmd.ch = ch)) = none := by
  unfold heldOn
  rw [Option.map_eq_none_iff]

theorem twinDiffers_eq (k : Nat) : twinDiffers k op c s
    = refuse .duplicate false false [dupWord k c true (raise 0x71 (c.port.num + c.ch * 256) (s.bump CCX_COUNT2_DUP_DIVERGE))] op c
        ((raise 0x71 (c.port.num + c.ch * 256) (s.bump CCX_COUNT2_DUP_DIVERGE)).bump CMD_COUNT2_DUPLICATE) := rfl

theorem later_self (w a : Nat) (h : a < 2 ^ w) : later w a a = false := by
  simp [later, Nat.mod_eq_of_lt h]

/-- The twin of the held copy has come: the two are compared. -/
theorem admitDup_twin {h : Outst × Nat} (hh : s.cmd.held.find? (fun x => decide (x.1.cmd.ch = c.ch)) = some h)
    (hq : h.1.cmd.seq = c.seq) : admitDup run op c s =
      if cmdWords h.1.op h.1.cmd = cmdWords op c then
        (admitTail h.1.op (run h.1.op) h.1.cmd true (unhold h.1 s)).bump CCX_COUNT3_ABSORBED
      else if twinFirst h c s then twinDiffers (streamKey (chanW1 s c.ch) c.ch c.port.num) h.1.op h.1.cmd
        (admitTail op (run op) c false (unhold h.1 s))
      else twinDiffers (streamKey (chanW1 s c.ch) c.ch c.port.num) op c
        (admitTail h.1.op (run h.1.op) h.1.cmd false (unhold h.1 s)) := by
  have ht : (some h).filter (fun x => decide (x.1.cmd.seq = c.seq)) = some h := by simp [hq]
  unfold admitDup
  simp only [hh, ht]

/-- No twin of this SEQ is held, and the history has the SEQ: the copy is late. -/
theorem admitDup_late {e : DupEntry} (hh : ∀ h, heldOn s c.ch = some h → h.cmd.seq ≠ c.seq)
    (he : seqInHist s c.ch c.seq.toNat = some e) : admitDup run op c s = lateCopy e op c s := by
  have ht : (s.cmd.held.find? (fun h => decide (h.1.cmd.ch = c.ch))).filter (fun x => decide (x.1.cmd.seq = c.seq)) = none := by
    cases hf : s.cmd.held.find? (fun h => decide (h.1.cmd.ch = c.ch)) with
    | none => rfl
    | some h =>
      have hne := hh h.1 (by rw [heldOn, hf]; rfl)
      simp [hne]
  unfold admitDup
  simp only [ht, he]

/-- No copy is held and the history does not have the SEQ: the copy is the first of its SEQ. -/
theorem admitDup_first (hh : heldOn s c.ch = none) (he : seqInHist s c.ch c.seq.toNat = none) : admitDup run op c s =
    (let next := (storeGet none s.cmd.lastSeq (streamKey (chanW1 s c.ch) c.ch c.port.num)).map (fun l => (l + 1) % 65536)
     if next.any (fun n => later 16 c.seq.toNat n) then
       refuse .badParam false false [] op c (raise 0x71 (c.port.num + c.ch * 256) s)
     else if next.all (fun n => decide (c.seq.toNat = n)) then
       (if s.rd (CMD_CHANn_W1_DUP_HOLD c.ch) = 0 ∨ hostLost s c.port.other.num then admitTail op (run op) c false s
        else { s with cmd := { s.cmd with held :=
          s.cmd.held ++ [((⟨op, c, 0, (s.reg (CMD_CHANn_W0 c.ch)).toNat, chanW1 s c.ch⟩ : Outst), s.now)] } })
     else refuse .duplicate false false [0xFFFFFFFF] op c (s.bump CMD_COUNT2_DUPLICATE)) := by
  have hf := heldOn_eq_none.mp hh
  unfold admitDup
  cases hl : storeGet none s.cmd.lastSeq (streamKey (chanW1 s c.ch) c.ch c.port.num) <;>
    simp [hf, he, hl]

end

/-- Settles O8: the copy meets its twin, comes late, or is the first of its SEQ, and each is an equation of `admitDup`. -/
theorem duplicateCopies : Obligations.DuplicateCopies := by
  rintro op c i s u v hi hp htk rfl rfl ho hr hpt hd h1 k rfl
  have run : ∀ {t}, admitDup runBody op c (countRate c (taken op c s)) = t → exec i s = .next t := fun ht =>
    exec_runs hp (exec_hostRow hi s) ((hostRun_taken htk).trans ((admission_dup ho hr hpt hd h1).trans ht))
  have hw : chanW1 (countRate c (taken op c s)) c.ch = chanW1 (taken op c s) c.ch := rfl
  rw [← hw]
  generalize countRate c (taken op c s) = v at run
  clear hw
  refine ⟨fun hh he hn => ?_, fun h hh hq => ?_, fun e x hh he hx => ?_, fun l hh he hl => ?_⟩
  · have first : admitDup runBody op c v =
        if v.rd (CMD_CHANn_W1_DUP_HOLD c.ch) = 0 ∨ hostLost v c.port.other.num then admitTail op (runBody op) c false v
        else { v with cmd := { v.cmd with held :=
          v.cmd.held ++ [((⟨op, c, 0, (v.reg (CMD_CHANn_W0 c.ch)).toNat, chanW1 v c.ch⟩ : Outst), v.now)] } } := by
      rw [admitDup_first hh he]
      cases hl : storeGet none v.cmd.lastSeq (streamKey (chanW1 v c.ch) c.ch c.port.num) with
      | none => rfl
      | some l =>
        have hlt : (l + 1) % 65536 < 2 ^ 16 := Nat.mod_lt _ (by decide)
        simp [hn l hl, later_self 16 _ hlt]
    refine ⟨fun h0 hlost => run (first.trans (if_neg ?_)), fun h => run (first.trans (if_pos h))⟩
    simp [h0, hlost]
  · have twin := admitDup_twin (run := runBody) (op := op) hh hq
    refine ⟨fun heq => run (twin.trans (if_pos heq)), ?_, ?_⟩
    · rintro x hne hf rfl
      rw [if_neg hne, if_neg (ne_true_of_eq_false hf), twinDiffers_eq] at twin
      exact run twin
    · rintro x hne hf rfl
      rw [if_neg hne, if_pos hf, twinDiffers_eq] at twin
      exact run twin
  · have late := admitDup_late (run := runBody) (op := op) hh he
    subst hx
    exact ⟨fun heq => run (late.trans (if_pos heq)), fun hne => run (late.trans (if_neg hne))⟩
  · have first := admitDup_first (run := runBody) (op := op) hh he
    rw [hl] at first
    refine ⟨fun hlate => run (first.trans (if_pos hlate)), fun hlate hne => run (first.trans ?_)⟩
    simp [hlate, hne]

end Sys2Proof.Machine
end

section
/-!
PROOF. Surface memory (R160, R161, R176, R177, R283): the surface commands, and what a write of bytes leaves at each address.
-/
namespace Sys2Proof.Machine

/-! ### What an event leaves alone -/

/-- The parts of the state that the handling of an event leaves alone. -/
def eventKept (s : State) : List (Nat × Word) × Nat × Nat × List Instr × CmdSt × CcxSt × FrameSt × SeqSt × PxaSt × SmemSt
    × PxhSt × ThmSt × LinkSt × AdcSt × PmuSt × IntegSt :=
  (s.act, s.now, s.freeCtr, s.pending, s.cmd, s.ccx, s.frame, s.seq, s.pxa, s.smem, s.pxh, s.thm, s.link, s.adc, s.pmu, s.integ)

/-- Those parts of `s` are those of `s₀`. A predicate of its own, so that a proof follows the operations and not the projections. -/
def KeptFrom (s₀ s : State) : Prop := eventKept s = eventKept s₀

section
variable {s₀ s : State}

theorem KeptFrom.ite {c : Prop} [Decidable c] {t : State} (hs : KeptFrom s₀ s) (ht : KeptFrom s₀ t) :
    KeptFrom s₀ (if c then s else t) := by
  split <;> assumption

theorem KeptFrom.when {c : Bool} {g : State → State} (h : KeptFrom s₀ s) (hg : ∀ t, KeptFrom s₀ t → KeptFrom s₀ (g t)) :
    KeptFrom s₀ (s.when c g) := KeptFrom.ite (hg s h) h

theorem KeptFrom.forL {α : Type} {l : List α} {g : α → State → State} (h : KeptFrom s₀ s)
    (hg : ∀ x t, KeptFrom s₀ t → KeptFrom s₀ (g x t)) : KeptFrom s₀ (s.forL l g) := by
  unfold State.forL
  induction l generalizing s with
  | nil => exact h
  | cons x l ih => exact ih (hg x s h)

/-- An update of the other parts of a state. -/
theorem KeptFrom.upd {rs sa sm fc sc cp lp} (h : KeptFrom s₀ s) :
    KeptFrom s₀ ⟨rs, s.act, s.now, s.freeCtr, sa, sm, s.pending, fc, s.cmd, s.ccx, sc, s.frame, s.seq, s.pxa, cp, s.smem,
      s.pxh, s.thm, s.link, lp, s.adc, s.pmu, s.integ⟩ := h

/-- What such a state has of `s₀`. -/
theorem KeptFrom.parts (h : KeptFrom s₀ s) : s.act = s₀.act ∧ s.now = s₀.now ∧ s.freeCtr = s₀.freeCtr ∧
    s.pending = s₀.pending ∧ s.cmd = s₀.cmd ∧ s.ccx = s₀.ccx ∧ s.frame = s₀.frame ∧ s.seq = s₀.seq ∧ s.pxa = s₀.pxa ∧
    s.smem = s₀.smem ∧ s.pxh = s₀.pxh ∧ s.thm = s₀.thm ∧ s.link = s₀.link ∧ s.adc = s₀.adc ∧ s.pmu = s₀.pmu ∧
    s.integ = s₀.integ := by
  simpa only [KeptFrom, eventKept, Prod.mk.injEq] using h

theorem State.setReg_kept {a : Nat} {v : Word} (h : KeptFrom s₀ s) : KeptFrom s₀ (s.setReg a v) := .upd h
theorem State.wr_kept {f : Fld} {v : Nat} (h : KeptFrom s₀ s) : KeptFrom s₀ (s.wr f v) := State.setReg_kept h
theorem State.bump_kept {f : Fld} (h : KeptFrom s₀ s) : KeptFrom s₀ (s.bump f) := State.wr_kept h
theorem setCause_kept {f : Fld} (h : KeptFrom s₀ s) : KeptFrom s₀ (setCause f s) := .upd (State.setReg_kept h)

theorem setRung_kept {r cause : Nat} (h : KeptFrom s₀ s) : KeptFrom s₀ (setRung r cause s) :=
  State.wr_kept (.when (.when (.when (.when (State.wr_kept (State.wr_kept h))
    fun _ h => setCause_kept (setCause_kept h)) fun _ h => .upd h) fun _ h => State.wr_kept (.upd h))
    fun _ h => State.wr_kept h)

theorem railForceStop_kept (h : KeptFrom s₀ s) : KeptFrom s₀ (railForceStop s) :=
  .ite (State.wr_kept (State.wr_kept (.upd h))) (State.wr_kept (State.wr_kept (State.wr_kept (.upd h))))

theorem goDark_kept {cause : Nat} (h : KeptFrom s₀ s) : KeptFrom s₀ (goDark cause s) := by
  unfold goDark
  refine .ite (State.wr_kept (.upd ?_)) (.upd ?_)
  all_goals
    exact railForceStop_kept (State.wr_kept (.when (State.wr_kept (State.wr_kept (.upd h))) fun _ h => setRung_kept h))

theorem requireRung_kept {req cause : Nat} (h : KeptFrom s₀ s) : KeptFrom s₀ (requireRung req cause s) :=
  .ite (.ite (goDark_kept h) h) (.ite (.ite (setRung_kept h) h)
    (.ite (.ite h (.ite (setRung_kept h) (setRung_kept h))) h))

theorem traceFire_kept {e : Nat} (h : KeptFrom s₀ s) : KeptFrom s₀ (traceFire e s) :=
  .ite (.ite (.upd (State.wr_kept h)) (.upd (State.wr_kept h))) h

theorem traceEvent_kept {trig arg : Nat} (h : KeptFrom s₀ s) : KeptFrom s₀ (traceEvent trig arg s) :=
  KeptFrom.forL h fun _ _ h => .ite (traceFire_kept h) h

theorem aliveStop_kept {src fn : Nat} (h : KeptFrom s₀ s) : KeptFrom s₀ (aliveStop src fn s) :=
  .ite (State.wr_kept (.upd (State.setReg_kept (State.wr_kept (State.wr_kept h))))) h

theorem histPush_kept {e : HistEntry} (h : KeptFrom s₀ s) : KeptFrom s₀ (histPush e s) := State.wr_kept (.upd h)

theorem histRecord_kept {e : HistEntry} {drop frozen : Bool} (h : KeptFrom s₀ s) : KeptFrom s₀ (histRecord e drop frozen s) := by
  unfold histRecord
  refine State.wr_kept (.ite (State.bump_kept h) (.ite (.upd ?_) ?_))
  all_goals exact histPush_kept (.upd h)

theorem attnFault_kept {eff : Nat} (h : KeptFrom s₀ s) : KeptFrom s₀ (attnFault eff s) :=
  .when (.when h fun _ h => setCause_kept h) fun _ h => setCause_kept h

theorem handleEvent_kept {src sev detail : Nat} {drop : Bool} (h : KeptFrom s₀ s) :
    KeptFrom s₀ (handleEvent src sev detail drop s) := by
  unfold handleEvent
  refine .ite h (attnFault_kept (histRecord_kept (.when (.when (requireRung_kept (State.wr_kept (State.wr_kept
    (State.wr_kept (State.wr_kept (State.bump_kept (.upd (traceEvent_kept h)))))))) fun _ h => aliveStop_kept h)
    fun _ h => ?_)))
  exact State.setReg_kept (State.setReg_kept (State.setReg_kept (State.setReg_kept (State.wr_kept (.upd h)))))

theorem noteErrs_kept {errs : List EccErr} (h : KeptFrom s₀ s) : KeptFrom s₀ (noteErrs errs s) := by
  have one : ∀ (e : EccErr) (t : State), KeptFrom s₀ t →
      KeptFrom s₀ (if inSurface e.addr then smemErr e t else if inSram e.addr then sramErr e t else t) := fun e t h =>
    .ite (handleEvent_kept (State.wr_kept (State.wr_kept (State.bump_kept h))))
      (.ite (handleEvent_kept (State.wr_kept (State.wr_kept (State.bump_kept h)))) h)
  exact .forL (.forL h one) one

theorem noteErrs_smem (errs : List EccErr) (s : State) : (noteErrs errs s).smem = s.smem := by
  obtain ⟨_, _, _, _, _, _, _, _, _, h, _⟩ := (noteErrs_kept (errs := errs) (s₀ := s) rfl).parts
  exact h

end

/-! ### The bytes of a write -/

/-- A store of bytes puts each at its address and leaves the others. -/
theorem storeGet_putBytes (bs : List Nat) (a : Nat) (m : List (Nat × BitVec 8)) (x : Nat) :
    storeGet 0#8 (putBytes a bs m) x
      = if a ≤ x ∧ x < a + bs.length then BitVec.ofNat 8 (bs.getD (x - a) 0) else storeGet 0#8 m x := by
  induction bs generalizing a m with
  | nil => simp [putBytes]
  | cons b bs ih =>
    rw [putBytes, ih, storeGet_storeSet, List.length_cons]
    by_cases hx : x = a
    · subst hx
      simp
    · by_cases h : a + 1 ≤ x ∧ x < a + 1 + bs.length
      · rw [if_pos h, if_pos (by omega), show x - a = x - (a + 1) + 1 by omega, List.getD_cons_succ]
      · rw [if_neg h, if_neg (Ne.symm hx), if_neg (by omega)]

theorem smemByte_smemWrite (errs : List EccErr) (a : Nat) (bs : List Nat) (s : State) (x : Nat) :
    smemByte (smemWrite errs a bs s) x = if a ≤ x ∧ x < a + bs.length then bs.getD (x - a) 0 % 256 else smemByte s x := by
  unfold smemByte smemWrite
  simp only [noteErrs_smem, storeGet_putBytes]
  split
  · rw [BitVec.toNat_ofNat]
  · rfl

/-! ### The surface commands -/

section
variable {o : Outst} {s : State}

theorem surfRead_off (h : surfOff [o.cmd.w 1] s = true) : surfRead o s = ans (raise 0x27 (o.cmd.w 1) s) .blockOff :=
  if_pos h

theorem surfRead_allowed (h : surfOff [o.cmd.w 1] s = false) (hr : surfRefuse (o.cmd.w 1) (o.cmd.w 2) 4 2044 s = none) :
    surfRead o s = if readUe o.cmd.errs (o.cmd.w 1) (o.cmd.w 2) s
      then ans (noteErrs (readErrs o.cmd.errs (o.cmd.w 1) (o.cmd.w 2) s) s) .internalError
      else okW (noteErrs (readErrs o.cmd.errs (o.cmd.w 1) (o.cmd.w 2) s) s)
        (wordsOfBytes (smemBytes s (o.cmd.w 1) (o.cmd.w 2))) := by
  simp only [surfRead, h, hr, Bool.false_eq_true, if_false]

theorem surfFill_off (h : surfOff [o.cmd.w 1] s = true) : surfFill o s = ans (raise 0x27 (o.cmd.w 1) s) .blockOff :=
  if_pos h

theorem surfFill_allowed (h : surfOff [o.cmd.w 1] s = false) (hr : surfRefuse (o.cmd.w 1) (o.cmd.w 2) 4 surfMax s = none)
    (hg : guarded (o.cmd.w 1) (o.cmd.w 2) s = false) : surfFill o s
      = ok (smemWrite o.cmd.errs (o.cmd.w 1) (bytesOfWords (List.replicate (o.cmd.w 2 / 4) (o.cmd.w 3))) s) := by
  simp only [surfFill, h, hr, hg, Bool.false_eq_true, if_false]

theorem surfCopy_off (h : surfOff [o.cmd.w 1, o.cmd.w 2] s = true) :
    surfCopy o s = ans (raise 0x27 (o.cmd.w 1) s) .blockOff := if_pos h

/-- A copy whose source has no uncorrectable word is written whole. -/
theorem surfCopy_allowed (h : surfOff [o.cmd.w 1, o.cmd.w 2] s = false)
    (hd : surfRefuse (o.cmd.w 1) (o.cmd.w 3) 4 surfMax s = none) (ha : surfRefuse (o.cmd.w 2) (o.cmd.w 3) 4 surfMax s = none)
    (ho : overlap (o.cmd.w 1) (o.cmd.w 3) (o.cmd.w 2) (o.cmd.w 3) = false) (hg : guarded (o.cmd.w 1) (o.cmd.w 3) s = false)
    (hk : bytesBeforeUe o.cmd.errs (o.cmd.w 2) (o.cmd.w 3) s = o.cmd.w 3) :
    surfCopy o s = ok (smemWrite o.cmd.errs (o.cmd.w 1) (smemBytes s (o.cmd.w 2) (o.cmd.w 3))
      (noteErrs (readErrs o.cmd.errs (o.cmd.w 2) (o.cmd.w 3) s) s)) := by
  simp only [surfCopy, h, hd, ha, ho, hg, hk, Bool.false_eq_true, if_false, lt_irrefl]

theorem retireQuery_answered (hp : o.cmd.p0 = 0) (hc : cmpOff s = false) (hn : o.cmd.w 2 ≠ 0)
    (hu : inUsable s (o.cmd.w 1) (o.cmd.w 2) = true) :
    retireQuery o s = okW s [inUseBits s (o.cmd.w 1) (o.cmd.w 2), s.rd SMEM_RETIRE_FN] := by
  simp [retireQuery, hp, hc, hn, hu]

end

/-- Settles O14: an equation of each surface command, and the bytes that a write leaves. -/
theorem surfaceCommands : Obligations.SurfaceCommands := by
  refine ⟨fun c s => ⟨?_, ?_, ?_, ?_, ?_, ?_, ?_⟩, fun errs a bs s x => ⟨fun hx => ?_, fun i hi => ?_⟩⟩
  · rintro t h rfl hoff
    exact exec_admits h rfl (surfRead_off (o := issued .surfRead c s) hoff)
  · rintro t h rfl hoff hr
    refine ⟨?_, fun hue => exec_admits h rfl ((surfRead_allowed (o := issued .surfRead c s) hoff hr).trans (if_pos hue))⟩
    rintro hue u rfl
    exact exec_admits h rfl ((surfRead_allowed (o := issued .surfRead c s) hoff hr).trans (if_neg (ne_true_of_eq_false hue)))
  · rintro t h rfl hoff
    exact exec_admits h rfl (surfFill_off (o := issued .surfFill c s) hoff)
  · rintro t h rfl hoff hr hg
    exact exec_admits h rfl (surfFill_allowed (o := issued .surfFill c s) hoff hr hg)
  · rintro t h rfl hoff
    exact exec_admits h rfl (surfCopy_off (o := issued .surfCopy c s) hoff)
  · rintro t h rfl hoff hd ha ho hg hk u rfl
    exact exec_admits h rfl (surfCopy_allowed (o := issued .surfCopy c s) hoff hd ha ho hg hk)
  · rintro t h rfl hp hc hn hu
    exact exec_admits h rfl (retireQuery_answered (o := issued .retireQuery c s) hp hc hn hu)
  · rw [smemByte_smemWrite, if_neg (by omega)]
  · rw [smemByte_smemWrite, if_pos ⟨by omega, by omega⟩, Nat.add_sub_cancel_left]

end Sys2Proof.Machine
end

section
/-!
PROOF. Tables (R17, R78, R263, R284, R512): the current-estimate image, TABLE_LOAD and TABLE_READ.
-/
namespace Sys2Proof.Machine

/-! ### The estimate image -/

/-- R78's check of entry `i` of an estimate image fails: above 63, or below the entry before. -/
def estFails (img : List Nat) (i : Nat) : Bool :=
  decide (63 < img.getD i 0 ∨ (i ≠ 0 ∧ img.getD i 0 < img.getD (i - 1) 0))

theorem estFails_eq_false {img : List Nat} {i : Nat}
    (h : img.getD i 0 ≤ 63 ∧ (i ≠ 0 → img.getD (i - 1) 0 ≤ img.getD i 0)) : estFails img i = false := by
  rw [estFails, decide_eq_false_iff_not]
  omega

/-- The search of a range for the first number that satisfies `f`. -/
theorem find?_range_eq_some {f : Nat → Bool} {n i : Nat} (hi : i < n) (hf : f i = true) (hlt : ∀ j, j < i → f j = false) :
    (List.range n).find? f = some i := by
  rw [List.find?_range_eq_some]
  exact ⟨hf, List.mem_range.mpr hi, fun j hj => by rw [hlt j hj]; rfl⟩

section
variable {img : List Nat} {s : State}

theorem tableInstall_est (hb : tableBusy 10 0 s = false) : tableInstall 10 0 256 img s = estLoad img s :=
  if_neg (ne_true_of_eq_false hb)

theorem estLoad_eq (hl : img.length = 256) : estLoad img s = (match (List.range 256).find? (estFails img) with
    | some i => pxaReject 10 (if 63 < img.getD i 0 then 7 else 8) i s
    | none => ({ s with pxa := { s.pxa with estNext := some img } }.wr PXA_STAT_EST_LOADED 1, .ok)) :=
  if_neg (not_not.mpr hl)

theorem estLoad_accepted (hl : img.length = 256)
    (h : ∀ i, i < 256 → img.getD i 0 ≤ 63 ∧ (i ≠ 0 → img.getD (i - 1) 0 ≤ img.getD i 0)) :
    estLoad img s = ({ s with pxa := { s.pxa with estNext := some img } }.wr PXA_STAT_EST_LOADED 1, .ok) := by
  have hnone : (List.range 256).find? (estFails img) = none :=
    List.find?_eq_none.mpr fun i hi => by
      rw [estFails_eq_false (h i (List.mem_range.mp hi))]
      exact Bool.false_ne_true
  rw [estLoad_eq hl, hnone]

theorem estLoad_rejected (hl : img.length = 256) {i : Nat} (hi : i < 256) (hf : estFails img i = true)
    (h : ∀ j, j < i → img.getD j 0 ≤ 63 ∧ (j ≠ 0 → img.getD (j - 1) 0 ≤ img.getD j 0)) :
    estLoad img s = pxaReject 10 (if 63 < img.getD i 0 then 7 else 8) i s := by
  rw [estLoad_eq hl, find?_range_eq_some hi hf fun j hj => estFails_eq_false (h j hj)]

end

/-- Settles O17: the first failing entry decides, and an image without one waits. -/
theorem estimateImages : Obligations.EstimateImages := by
  intro img s hl hb
  refine ⟨fun h => ?_, fun i hi hlt hf => ?_⟩
  · rw [tableInstall_est hb, estLoad_accepted hl h]
  · rw [tableInstall_est hb, estLoad_rejected hl hi (decide_eq_true hf) hlt, pxaReject]

/-! ### TABLE_LOAD and TABLE_READ -/

section
variable {o : Outst} {s : State}

/-- A refused command that carries all its data opens nothing. -/
theorem refuseXfer_whole {st : Status} (h : (givenBytes o).length = o.cmd.w 2) : refuseXfer o st s = ans s st := by
  rw [refuseXfer, if_neg (by omega)]

/-- On a channel without a unit, a legal load that the table allows. -/
theorem tableLoad_legal (hu : unitIn o s = none) (hs : selectOk o.cmd.p0 (o.cmd.w 1) = true)
    (hc : ¬ (o.cmd.p0 = 6 ∧ cmpOff s = true)) (hb : tableBusy o.cmd.p0 (o.cmd.w 1) s = false)
    (hl : tableLenBad o.cmd.p0 (o.cmd.w 1) (o.cmd.w 2) = false)
    (hh : tableHeaderBad o.cmd.p0 (o.cmd.w 2) (givenBytes o) = false) (hg : (givenBytes o).length ≤ o.cmd.w 2) :
    tableLoad o s = if (givenBytes o).length = o.cmd.w 2 then
        ((tableInstall o.cmd.p0 (o.cmd.w 1) (o.cmd.w 2) (givenBytes o) s).1,
          some ⟨(tableInstall o.cmd.p0 (o.cmd.w 1) (o.cmd.w 2) (givenBytes o) s).2, [], none⟩)
      else answerLater (openXfer o (o.cmd.w 2) (givenBytes o) false s) := by
  have htake : (givenBytes o).take (o.cmd.w 2) = givenBytes o := List.take_of_length_le hg
  have hlen : dataLen none (o.cmd.w 2) = o.cmd.w 2 := rfl
  simp only [tableLoad, hu, hlen, htake, hs, hc, hb, hl, hh, endTable, checkField, feedUnit, openUnit, Bool.not_true,
    Bool.false_eq_true, Option.isSome_none, and_false, if_false]

theorem tableLoad_badSelect (hs : selectOk o.cmd.p0 (o.cmd.w 1) = false) (hg : (givenBytes o).length = o.cmd.w 2) :
    tableLoad o s = ans s .badParam := by
  rw [← refuseXfer_whole hg]
  exact if_pos (by rw [hs]; rfl)

theorem tableLoad_busy (hs : selectOk o.cmd.p0 (o.cmd.w 1) = true) (hc : ¬ (o.cmd.p0 = 6 ∧ cmpOff s = true))
    (hb : tableBusy o.cmd.p0 (o.cmd.w 1) s = true) (hg : (givenBytes o).length = o.cmd.w 2) :
    tableLoad o s = ans s .busy := by
  rw [← refuseXfer_whole hg]
  simp only [tableLoad, hs, hc, hb, Bool.not_true, Bool.false_eq_true, if_false, if_true]

/-- A read of a range of a table's image that meets no uncorrectable word. -/
theorem tableRead_range {c : Cmd} (ho : o.cmd = c) {len : Nat} {f : Nat → Nat} {es : List EccErr} (hs : selectOk c.p0 (c.w 1) = true)
    (h2 : c.p0 = 2 → c.w 1 % 16 ∈ [1, 2, 4, 8]) (hi : c.w 2 % 4 = 0) (hn : c.w 3 % 4 = 0)
    (h4 : 4 ≤ c.w 3) (hmax : c.w 3 ≤ 2044) (hc : ¬ (c.p0 = 6 ∧ cmpOff s = true))
    (ht : tableImage c.p0 (c.w 1) s = some (len, f)) (hlen : c.w 2 + c.w 3 ≤ len)
    (hes : es = c.errs ++ leftBad (fun w => decide (c.p0 = 3) && decide (0x1500000 + 3072 * c.w 1 + c.w 2 < w * 8 + 8
      ∧ w * 8 < 0x1500000 + 3072 * c.w 1 + c.w 2 + c.w 3)) c.errs s)
    (hue : sramUe es = false) :
    tableRead o s = okW (sramMeets es s) (wordsOfBytes ((List.range (c.w 3)).map (fun k => f (c.w 2 + k)))) := by
  subst ho
  have hone : decide (o.cmd.p0 ≠ 2 ∨ o.cmd.w 1 % 16 ∈ [1, 2, 4, 8]) = true := by
    rw [decide_eq_true_eq]
    exact Decidable.not_or_of_imp h2
  subst hes
  have hrange : ¬ (o.cmd.w 3 < 4 ∨ 2044 < o.cmd.w 3) := by omega
  simp only [tableRead, hs, hone, hi, hn, hrange, hc, ht, hlen.not_gt, hue, Bool.not_true, Bool.false_eq_true, ne_eq,
    not_true_eq_false, false_or, if_false]

end

/-- Settles O16: the load and the read of each form are the equations above. -/
theorem tableCommands : Obligations.TableCommands := by
  intro c s t o
  constructor
  · rintro h rfl rfl hu
    refine ⟨fun hs hc hb hl hh => ⟨fun hg u st hi => ?_, fun hg => ?_⟩, fun hs hg => ?_, fun hs hc hb hg => ?_⟩
    · have hwhole := (tableLoad_legal (o := issued .tableLoad c s) hu hs hc hb hl hh hg.le).trans (if_pos hg)
      exact exec_admits h rfl (hwhole.trans (congrArg (fun r : State × Status => ans r.1 r.2) hi))
    · have hopen := (tableLoad_legal (o := issued .tableLoad c s) hu hs hc hb hl hh hg.le).trans (if_neg hg.ne)
      exact exec_admits_later h rfl hopen
    · exact exec_admits h rfl (tableLoad_badSelect (o := issued .tableLoad c s) hs hg)
    · exact exec_admits h rfl (tableLoad_busy (o := issued .tableLoad c s) hs hc hb hg)
  · rintro len f h rfl hs h2 hi hn h4 hmax hc ht hlen at_ es rfl hes hue
    exact exec_admits h rfl (tableRead_range (o := issued .tableRead c s) rfl hs h2 hi hn h4 hmax hc ht hlen hes hue)

end Sys2Proof.Machine
end

section
/-! PROOF. The latch of a candidate set (O19), and the ladder under an event (O25). -/
namespace Sys2Proof.Machine

/-! ### The latch -/

/-- A latch with commits armed and no COMMIT_AT for its frame: one check decides all of them. -/
theorem latchCommits_armed {fn : Nat} {s : State} (ha : s.cmp.armed ≠ []) (hf : s.cmp.atFn ≠ some fn) :
    latchCommits fn s =
      (syncArmed { (if decide ((latchCheck s).2 = 0) then latchAll fn (latchCheck s).1 else (latchCheck s).1) with
        cmp := { (if decide ((latchCheck s).2 = 0) then latchAll fn (latchCheck s).1 else (latchCheck s).1).cmp with
          armed := [] } }).forL s.cmp.armed
        (fun o u => replyTo o ⟨if decide ((latchCheck s).2 = 0) then .ok else .commitRejected,
          [fn, (latchCheck s).2], some (fn % 65536)⟩ u) := by
  have hn : ¬ (s.cmp.armed.isEmpty ∧ (!false) = true) := fun h => ha (List.isEmpty_iff.mp h.1)
  simp only [latchCommits, decide_eq_false hf, if_neg hn, State.when, Bool.false_eq_true, if_false]

/-- Settles O19: the one check of the latch decides for the whole set. -/
theorem latchOfCandidateSet : Obligations.Latch := by
  intro fn s t w ha hf hc
  refine ⟨?_, fun hw => ?_⟩
  · rintro rfl u rfl
    rw [latchCommits_armed ha hf, hc]
    rfl
  · rw [latchCommits_armed ha hf, hc, decide_eq_false hw]
    rfl

/-! ### The ladder under an event -/

/-- The engine stands on rung `r` or below it. A predicate of its own, so that a proof follows the operations. -/
def RungFrom (r : Nat) (s : State) : Prop := r ≤ s.rd DEV_LADDER_RUNG

section
variable {r : Nat} {s : State}

theorem RungFrom.ite {c : Prop} [Decidable c] {t : State} (hs : RungFrom r s) (ht : RungFrom r t) :
    RungFrom r (if c then s else t) := by
  split <;> assumption

/-- The same, where the branch counts. -/
theorem RungFrom.cases {c : Prop} [Decidable c] {t : State} (hs : c → RungFrom r s) (ht : ¬ c → RungFrom r t) :
    RungFrom r (if c then s else t) := by
  split
  · exact hs ‹_›
  · exact ht ‹_›

theorem RungFrom.when {c : Bool} {g : State → State} (h : RungFrom r s) (hg : ∀ t, RungFrom r t → RungFrom r (g t)) :
    RungFrom r (s.when c g) := RungFrom.ite (hg s h) h

/-- An update of the other parts of a state. -/
theorem RungFrom.upd {a2 a3 a4 a5 a6 a7 a8 a9 a10 a11 a12 a13 a14 a15 a16 a17 a18 a19 a20 a21 a22 a23} (h : RungFrom r s) :
    RungFrom r ⟨s.regs, a2, a3, a4, a5, a6, a7, a8, a9, a10, a11, a12, a13, a14, a15, a16, a17, a18, a19, a20, a21, a22,
      a23⟩ := h

theorem State.setReg_rungFrom {a : Nat} {v : Word} (h : RungFrom r s) (ha : a ≠ DEV_LADDER := by decide) :
    RungFrom r (s.setReg a v) := by
  unfold RungFrom State.rd
  rw [State.reg_setReg]
  exact h.trans_eq (congrArg (bits · 2 0) (if_neg ha).symm)

theorem State.wr_rungFrom {f : Fld} {v : Nat} (h : RungFrom r s) (ha : f.addr ≠ DEV_LADDER := by decide) :
    RungFrom r (s.wr f v) := State.setReg_rungFrom h ha

theorem State.bump_rungFrom {f : Fld} (h : RungFrom r s) (ha : f.addr ≠ DEV_LADDER := by decide) :
    RungFrom r (s.bump f) := State.wr_rungFrom h ha

theorem zonesOff_rungFrom {v : Nat} (h : RungFrom r s) : RungFrom r (s.wr DEV_LADDER_ZONES_OFF v) := by
  unfold RungFrom
  rw [State.rd_wr_field _ _ _ _ (by decide) (by decide) (by decide)]
  exact h

theorem cause_rungFrom {v : Nat} (h : RungFrom r s) : RungFrom r (s.wr DEV_LADDER_CAUSE v) := by
  unfold RungFrom
  rw [State.rd_wr_field _ _ _ _ (by decide) (by decide) (by decide)]
  exact h

theorem setCause_rungFrom {f : Fld} (h : RungFrom r s) (ha : f.addr ≠ DEV_LADDER := by decide) :
    RungFrom r (setCause f s) := .upd (State.setReg_rungFrom h ha)

/-- The rung that is written is the one that stands. -/
theorem rung_rungFrom {k : Nat} (hr : r ≤ k) (hk : k < 8) : RungFrom r (s.wr DEV_LADDER_RUNG k) := by
  unfold RungFrom
  rw [State.rd_wr_same _ _ _ (by decide) (by decide)]
  exact hr.trans_eq (Nat.mod_eq_of_lt hk).symm

theorem setRung_rungFrom {k cause : Nat} (hr : r ≤ k) (hk : k < 8) : RungFrom r (setRung k cause s) :=
  State.wr_rungFrom (.when (.when (.when (.when (cause_rungFrom (rung_rungFrom hr hk))
    fun _ h => setCause_rungFrom (setCause_rungFrom h)) fun _ h => .upd h) fun _ h => State.wr_rungFrom (.upd h))
    fun _ h => State.wr_rungFrom h)

theorem railForceStop_rungFrom (h : RungFrom r s) : RungFrom r (railForceStop s) :=
  .ite (State.wr_rungFrom (State.wr_rungFrom (.upd h))) (State.wr_rungFrom (State.wr_rungFrom (State.wr_rungFrom (.upd h))))

theorem goDark_rungFrom {cause : Nat} (hr : r ≤ 4) (h : RungFrom r s) : RungFrom r (goDark cause s) := by
  unfold goDark
  refine .ite (State.wr_rungFrom (.upd ?_)) (.upd ?_)
  all_goals
    exact railForceStop_rungFrom (zonesOff_rungFrom (.when (State.wr_rungFrom (State.wr_rungFrom (.upd h)))
      fun _ _ => setRung_rungFrom hr (by decide)))

theorem le_plainRung (s : State) : 2 ≤ plainRung s ∧ plainRung s < 8 := by
  unfold plainRung
  split <;> decide

/-- A trigger's rung is below the present one where it moves the engine (R24). -/
theorem requireRung_rungFrom {req cause : Nat} (h : RungFrom r s) : RungFrom r (requireRung req cause s) := by
  have h0 : r ≤ s.rd DEV_LADDER_RUNG := h
  obtain ⟨hp, hp8⟩ := le_plainRung s
  exact .cases
    (fun _ => .cases (fun hn => goDark_rungFrom (by omega) h) fun _ => h) fun _ => .cases
    (fun _ => .cases (fun hn => setRung_rungFrom (by omega) hp8) fun _ => h) fun _ => .cases
    (fun _ => .cases (fun _ => h) fun hn => .cases (fun _ => setRung_rungFrom (by omega) (by decide))
      fun _ => setRung_rungFrom (by omega) hp8) fun _ => h

theorem traceFire_rungFrom {e : Nat} (h : RungFrom r s) : RungFrom r (traceFire e s) := by
  have hs : LEx_TRACE_STATE e = LE0_TRACE_STATE ∨ LEx_TRACE_STATE e = LE1_TRACE_STATE := by
    unfold LEx_TRACE_STATE
    split
    · exact .inl rfl
    · exact .inr rfl
  have ha : (LEx_TRACE_STATE e).addr ≠ DEV_LADDER := by rcases hs with hs | hs <;> rw [hs] <;> decide
  exact .ite (.ite (.upd (State.wr_rungFrom h ha)) (.upd (State.wr_rungFrom h ha))) h

theorem traceEvent_rungFrom {trig arg : Nat} (h : RungFrom r s) : RungFrom r (traceEvent trig arg s) :=
  have one : ∀ (e : Nat) (t : State), RungFrom r t → RungFrom r (if (traceOf t e).w2 / 2 ^ 28 = trig ∧
      (trig ≠ 1 ∨ (traceOf t e).w2 / 2 ^ 16 % 256 = arg) then traceFire e t else t) :=
    fun _ _ h => .ite (traceFire_rungFrom h) h
  one 1 _ (one 0 _ h)

theorem aliveStop_rungFrom {src fn : Nat} (h : RungFrom r s) : RungFrom r (aliveStop src fn s) :=
  .ite (State.wr_rungFrom (.upd (State.setReg_rungFrom (State.wr_rungFrom (State.wr_rungFrom h))))) h

theorem histPush_rungFrom {e : HistEntry} (h : RungFrom r s) : RungFrom r (histPush e s) := State.wr_rungFrom (.upd h)

theorem histRecord_rungFrom {e : HistEntry} {drop frozen : Bool} (h : RungFrom r s) :
    RungFrom r (histRecord e drop frozen s) := by
  unfold histRecord
  refine State.wr_rungFrom (.ite (State.bump_rungFrom h) (.ite (.upd ?_) ?_))
  all_goals exact histPush_rungFrom (.upd h)

theorem attnFault_rungFrom {eff : Nat} (h : RungFrom r s) : RungFrom r (attnFault eff s) :=
  .when (.when h fun _ h => setCause_rungFrom h) fun _ h => setCause_rungFrom h

theorem srcStat_ne_ladder (src : Nat) : FCR_SRCn_STAT src ≠ DEV_LADDER := by
  unfold FCR_SRCn_STAT DEV_LADDER
  omega

theorem handleEvent_rungFrom {src sev detail : Nat} {drop : Bool} (h : RungFrom r s) :
    RungFrom r (handleEvent src sev detail drop s) := by
  have ha := srcStat_ne_ladder src
  unfold handleEvent
  refine .ite h (attnFault_rungFrom (histRecord_rungFrom (.when (.when (requireRung_rungFrom (State.wr_rungFrom
    (State.wr_rungFrom (State.wr_rungFrom (State.wr_rungFrom (State.bump_rungFrom (.upd (traceEvent_rungFrom h)) ha) ha) ha))))
    fun _ h => aliveStop_rungFrom h) fun _ h => ?_)))
  exact State.setReg_rungFrom (State.setReg_rungFrom (State.setReg_rungFrom (State.setReg_rungFrom
    (State.wr_rungFrom (.upd h)))))

end

/-- Settles O25: each operation of an event's handling leaves the rung or takes it down. -/
theorem ladderDown : Obligations.LadderDown := fun _ _ _ _ _ => handleEvent_rungFrom (Nat.le_refl _)

end Sys2Proof.Machine
end

section
/-! PROOF. The tick (O28). -/
namespace Sys2Proof.Machine

/-- Frame number and predicted tick of `t` are those of `s`. -/
def SameTick (s t : State) : Prop := t.reg DEV_FN = s.reg DEV_FN ∧ t.frame.t1 = s.frame.t1

section
variable {s t : State}

theorem SameTick.ite {c : Prop} [Decidable c] {u : State} (ht : SameTick s t) (hu : SameTick s u) :
    SameTick s (if c then t else u) := by
  split <;> assumption

theorem State.setReg_sameTick {a : Nat} {v : Word} (h : SameTick s t) (ha : a ≠ DEV_FN := by decide) :
    SameTick s (t.setReg a v) :=
  ⟨by rw [State.reg_setReg, if_neg ha, h.1], h.2⟩

theorem badEdge_sameTick (h : SameTick s t) : SameTick s (badEdge t) := State.setReg_sameTick h

theorem pllLaw_sameTick (h : SameTick s t) : SameTick s (pllLaw t) := by
  unfold pllLaw
  split
  · exact h
  · exact .ite h h

theorem judgeEarly_sameTick {x : Nat × Bool} (h : SameTick s t) : SameTick s (judgeEarly x t) := by
  have hv : SameTick s (validEdge x.1 t.frame.t1 t) := State.setReg_sameTick (t := { serveEdge x.1 t with frame := _ }) h
  exact .ite (.ite (badEdge_sameTick h) (.ite (State.setReg_sameTick (t := { t with frame := _ }) h)
    (.ite (pllLaw_sameTick hv) hv))) (.ite h (badEdge_sameTick h))

theorem judgeEdges_sameTick (h : SameTick s t) : SameTick s (judgeEdges t) := by
  have all : ∀ (l : List (Nat × Bool)) (u : State), SameTick s u → SameTick s (u.forL l judgeEarly) := by
    intro l
    induction l with
    | nil => exact fun _ h => h
    | cons x l ih => exact fun u h => ih _ (judgeEarly_sameTick h)
  exact .ite (all _ _ h) h

end

/-- In `c` a frame has begun whose tick stood at `at_`; its number is still `fn`. -/
structure Begun (fn : Word) (at_ : Nat) (c : State) : Prop where
  fn     : c.reg DEV_FN = fn
  tickAt : c.frame.tickAt = at_
  t1     : c.frame.t1 = at_ + c.frame.perCur
  ticked : c.frame.ticked = true
  slot   : c.frame.slotNext = 0

theorem Begun.ite {p : Prop} [Decidable p] {fn : Word} {at_ : Nat} {c d : State} (hc : Begun fn at_ c) (hd : Begun fn at_ d) :
    Begun fn at_ (if p then c else d) := by
  split <;> assumption

theorem begun_slew {fn : Word} {at_ : Nat} {c : State} (h : Begun fn at_ c) : Begun fn at_ (slewPeriod c) :=
  ⟨h.fn, h.tickAt, h.t1, h.ticked, h.slot⟩

/-- The period of the frame that begins at a tick, once its edges are judged. -/
def tickPeriod (t : State) : Nat := clampPeriod t t.frame.perNext

/-- The settings and the slot count of the frame that begins at a tick. -/
def tickTiming (t : State) : State :=
  (t.wr SCN_TIMING_SLOTS_LOG2 (t.rd SCN_CFG_ACT_SLOTS_LOG2)).wr SCN_TIMING_M
    (stitchM (nomMhz t) (2 ^ t.rd SCN_CFG_ACT_SLOTS_LOG2))

/-- The frame record of the frame of period `p` that begins at a tick. -/
def tickFrame (p : Nat) (t : State) : State :=
  { t with frame := { t.frame with tickAt := t.frame.t1, t1 := t.frame.t1 + p, perCur := p,
                                   perNext := p, ticked := true, winOpen := t.frame.ticked, slotNext := 0,
                                   slotAt := t.now } }

/-- The last writes of a tick. -/
def tickShows (p : Nat) (c : State) : State :=
  (((c.setReg SCN_PERIOD (BitVec.ofNat 32 p)).setReg DEV_FN
    (BitVec.ofNat 32 ((c.setReg SCN_PERIOD (BitVec.ofNat 32 p)).rd DEV_FN_FN + 1))).wr SCN_POS_SLOT 0).wr SCN_POS_STITCH 0

/-- The last writes of a tick: the period, the number and the position of the frame that has begun. -/
theorem Begun.stands {fn : Word} {at_ p : Nat} {c t : State} (h : Begun fn at_ c)
    (ht : t = tickShows p c) :
    t.reg DEV_FN = BitVec.ofNat 32 (bits fn 31 0 + 1) ∧ t.frame.tickAt = at_ ∧ t.frame.t1 = at_ + t.frame.perCur ∧
      t.frame.ticked ∧ t.frame.slotNext = 0 ∧ t.rd SCN_POS_SLOT = 0 ∧ t.rd SCN_POS_STITCH = 0 := by
  have hfr : t.frame = c.frame := by rw [ht, tickShows, State.wr_frame, State.wr_frame, State.setReg_frame, State.setReg_frame]
  rw [hfr]
  refine ⟨?_, h.tickAt, h.t1, h.ticked, h.slot, ?_, ?_⟩
  all_goals rw [ht, tickShows]
  · rw [State.reg_wr_ne _ _ _ _ (by decide), State.reg_wr_ne _ _ _ _ (by decide), State.reg_setReg_same, State.rd,
      State.reg_setReg]
    exact congrArg (fun w => BitVec.ofNat 32 (bits w 31 0 + 1)) ((if_neg (by decide)).trans h.fn)
  · rw [State.rd_wr_field _ _ _ _ (by decide) (by decide) (by decide), State.rd_wr_same _ _ _ (by decide) (by decide),
      Nat.zero_mod]
  · rw [State.rd_wr_same _ _ _ (by decide) (by decide), Nat.zero_mod]

theorem scnTick_eq (s : State) : scnTick s =
    let t := tickTiming (judgeEdges (s.takeAct [SCN_FSYNC_CTRL, SCN_SYNC_OUT, SCN_NOMINAL_ACT]))
    tickShows (tickPeriod t) (if (tickFrame (tickPeriod t) t).rd SCN_STAT_STATE = 4
      then slewPeriod (tickFrame (tickPeriod t) t) else tickFrame (tickPeriod t) t) := by
  unfold scnTick
  generalize judgeEdges (s.takeAct [SCN_FSYNC_CTRL, SCN_SYNC_OUT, SCN_NOMINAL_ACT]) = j
  have e : (j.wr SCN_TIMING_SLOTS_LOG2 (j.rd SCN_CFG_ACT_SLOTS_LOG2)).wr SCN_TIMING_M
    (stitchM (nomMhz j) (2 ^ j.rd SCN_CFG_ACT_SLOTS_LOG2)) = tickTiming j := rfl
  simp only [e]
  generalize tickTiming j = u
  rfl

theorem tickFrame_begun {w : Word} {p a : Nat} {u : State} (hf : u.reg DEV_FN = w) (h1 : u.frame.t1 = a) :
    Begun w a (tickFrame p u) := ⟨hf, h1, congrArg (· + p) h1, rfl, rfl⟩

theorem tickTiming_sameTick {s t : State} (h : SameTick s t) : SameTick s (tickTiming t) :=
  State.setReg_sameTick (State.setReg_sameTick h)

/-- What stands after the PLL's part of a tick. -/
theorem scnTick_stands (s : State) :
    (scnTick s).rd DEV_FN_FN = (s.rd DEV_FN_FN + 1) % 2 ^ 32 ∧
    (scnTick s).frame.tickAt = s.frame.t1 ∧
    (scnTick s).frame.t1 = s.frame.t1 + (scnTick s).frame.perCur ∧
    (scnTick s).frame.ticked ∧ (scnTick s).frame.slotNext = 0 ∧
    (scnTick s).rd SCN_POS_SLOT = 0 ∧ (scnTick s).rd SCN_POS_STITCH = 0 := by
  have hj : SameTick s (judgeEdges (s.takeAct [SCN_FSYNC_CTRL, SCN_SYNC_OUT, SCN_NOMINAL_ACT])) :=
    judgeEdges_sameTick ⟨rfl, rfl⟩
  obtain ⟨hr, ht⟩ := tickTiming_sameTick hj
  have hb := tickFrame_begun (p := tickPeriod (tickTiming
    (judgeEdges (s.takeAct [SCN_FSYNC_CTRL, SCN_SYNC_OUT, SCN_NOMINAL_ACT])))) hr ht
  obtain ⟨hf, h⟩ := (Begun.ite (begun_slew hb) hb).stands (scnTick_eq s)
  refine ⟨?_, h⟩
  rw [State.rd, show DEV_FN_FN.addr = DEV_FN from rfl, hf]
  simp [bits, State.rd, DEV_FN_FN]

/-- Settles O28. -/
theorem ticks : Obligations.Ticks := by
  intro s
  refine ⟨fun hp h => exec_runs hp rfl ?_, fun hp h2 hd u hu => exec_runs hp rfl ?_, scnTick_stands s⟩
  · refine if_pos (h.imp (fun h => ?_) fun h => ?_)
    · simp only [pllTicks, decide_eq_false (show ¬ 2 ≤ s.rd SCN_STAT_STATE by omega), Bool.not_false]
    · rw [h]; rfl
  · subst hu
    exact if_neg (by simp [pllTicks, h2, hd])

end Sys2Proof.Machine
end

section
/-! PROOF. What a TRANSFER gives the latches (O30). -/
namespace Sys2Proof.Machine

section
variable {s₀ s : State}

theorem State.forN_kept {n : Nat} {g : Nat → State → State} (h : KeptFrom s₀ s)
    (hg : ∀ i t, KeptFrom s₀ t → KeptFrom s₀ (g i t)) : KeptFrom s₀ (s.forN n g) := KeptFrom.forL h hg

theorem raise_kept {src detail : Nat} (h : KeptFrom s₀ s) : KeptFrom s₀ (raise src detail s) := handleEvent_kept h

theorem showSums_kept (h : KeptFrom s₀ s) : KeptFrom s₀ (showSums s) :=
  State.forN_kept (State.wr_kept (State.wr_kept h)) fun _ _ h =>
    State.wr_kept (State.wr_kept (State.wr_kept (State.wr_kept h)))

theorem noteGuard_kept {zones : Nat} {rail : Bool} (h : KeptFrom s₀ s) : KeptFrom s₀ (noteGuard zones rail s) :=
  .ite h (State.wr_kept (State.wr_kept (State.bump_kept h)))

theorem noteVeto_kept {rows : List Nat} (h : KeptFrom s₀ s) : KeptFrom s₀ (noteVeto rows s) := by
  cases rows with
  | nil => exact h
  | cons r rs => exact raise_kept (State.wr_kept (State.wr_kept (State.wr_kept (State.bump_kept h))))

theorem releaseP0_kept (h : KeptFrom s₀ s) : KeptFrom s₀ (releaseP0 s) := .ite (State.wr_kept (.upd h)) h

end

/-- The pixels that a TRANSFER darkens: by the current guard, by the SMC's veto, or by the sequencer. -/
def transferDark (mode : Nat) (darkSeq : List Nat) (s : State) (p : Nat) : Bool :=
  decide ((guardZones (guardLimits mode s) s).1 / 2 ^ zoneOf p % 2 = 1)
    || decide (rowOf p ∈ (List.range 640).filter (rowVetoed s)) || decide (seqOf p ∈ darkSeq)

theorem transferDark_iff (mode : Nat) (darkSeq : List Nat) (s : State) (p : Nat) :
    transferDark mode darkSeq s p = true ↔ ((guardZones (guardLimits mode s) s).1 / 2 ^ zoneOf p % 2 = 1
      ∨ (rowOf p < 640 ∧ rowVetoed s (rowOf p)) ∨ seqOf p ∈ darkSeq) := by
  simp only [transferDark, Bool.or_eq_true, decide_eq_true_eq, List.mem_filter, List.mem_range, or_assoc]

/-- The sums and notes that follow the move of the latches leave them alone. -/
theorem transferLatches_pxa (mode : Nat) (darkSeq : List Nat) (s : State) :
    (transferLatches mode darkSeq s).pxa.back = s.pxa.back ∧
      (transferLatches mode darkSeq s).pxa.front = frontFrom (transferDark mode darkSeq s) s.pxa.back := by
  have key : ∀ (t : State) zones rail rows, (releaseP0 (noteVeto rows (noteGuard zones rail (showSums t)))).pxa = t.pxa := by
    intro t zones rail rows
    obtain ⟨_, _, _, _, _, _, _, _, h, _⟩ := (releaseP0_kept (noteVeto_kept (noteGuard_kept (showSums_kept
      (s₀ := t) (s := t) rfl) (zones := zones) (rail := rail)) (rows := rows))).parts
    exact h
  unfold transferLatches
  rw [key]
  exact ⟨rfl, rfl⟩

/-- Settles O30: the front latches are formed once, and nothing after that touches them. -/
theorem transferLatchesMove : Obligations.TransferLatches := by
  intro mode darkSeq s t dark ht hd
  obtain ⟨hb, hf⟩ := transferLatches_pxa mode darkSeq s
  have e : transferDark mode darkSeq s = dark :=
    funext fun p => Bool.eq_iff_iff.mpr ((transferDark_iff mode darkSeq s p).trans (hd p).symm)
  rw [ht, ← e]
  exact ⟨hb, hf⟩

end Sys2Proof.Machine
end

section
/-! PROOF. Verification of a pixel (O32). -/
namespace Sys2Proof.Machine

theorem setHealth_rd (p v : Nat) (s : State) (f : Fld) : (setHealth p v s).rd f = s.rd f := rfl

theorem setHealth_rdAct (p v : Nat) (s : State) (f : Fld) : (setHealth p v s).rdAct f = s.rdAct f := rfl

theorem setHealth_cacheFree (p v : Nat) (s : State) : cacheFree (setHealth p v s) = cacheFree s := rfl

/-- A write of a nibble leaves the cache and the settings of verification alone. -/
theorem newSuspect_first {p kind : Nat} {fresh : Bool} {i v : Nat} {s : State} (hi : cacheFree s = some i)
    (hn : 1 < s.rdAct PXH_PERSIST_FAIL_N) :
    newSuspect p kind fresh (setHealth p v s) = setCache i (some ⟨0, 1, kind, p, s.rd DEV_FN_FN⟩) (setHealth p v s) := by
  unfold newSuspect
  rw [setHealth_cacheFree, hi]
  simp only [setHealth_rdAct, setHealth_rd, Nat.not_le.mpr hn, if_false]

theorem pixelFail_first {p kind i : Nat} {s : State} (hc : cacheOf s p = none) (hi : cacheFree s = some i)
    (hn : 1 < s.rdAct PXH_PERSIST_FAIL_N) :
    pixelFail p kind s
      = setCache i (some ⟨0, 1, kind, p, s.rd DEV_FN_FN⟩) (setHealth p (4 + healthAge (healthOf s p)) s) := by
  simp only [pixelFail, hc]
  exact newSuspect_first hi hn

theorem pixelVerify_suspect {p i : Nat} {e : Suspect} {s : State} (h1 : healthState (healthOf s p) = 1)
    (hc : cacheOf s p = some (i, e)) :
    pixelVerify p s = if s.rdAct PXH_PERSIST_PASS_N ≤ min 31 (e.passes + 1) then clearSuspect p (setCache i none s)
      else setCache i (some { e with passes := min 31 (e.passes + 1) }) (setHealth p 4 s) := by
  simp only [pixelVerify, if_pos, hc, setAge, h1]

theorem clearSuspect_eq (p : Nat) (s : State) :
    clearSuspect p s = setHealth p (if trimSpare (trimOf s p) = 1 then 8 else 0) s := by
  unfold clearSuspect
  split <;> rfl

/-- Settles O32. -/
theorem pixelHealth : Obligations.PixelHealth := by
  intro p kind s _
  refine ⟨fun i => pixelFail_first, fun h => if_neg h, fun i e h1 hc hn => ?_, fun i e h1 hc hn => ?_⟩
  · rw [pixelVerify_suspect h1 hc, if_neg (Nat.not_le.mpr hn)]
  · rw [pixelVerify_suspect h1 hc, if_pos hn, clearSuspect_eq]
    rfl

end Sys2Proof.Machine
end

section
/-! PROOF. The law of the rail (O37), and the words of a Bobbin (O40). -/
namespace Sys2Proof.Machine

/-! ### The law of the rail -/

theorem clampI_le {lo hi x : Int} (h : lo ≤ hi) : clampI lo hi x ≤ hi := max_le h (min_le_left hi x)

theorem le_clampI (lo hi x : Int) : lo ≤ clampI lo hi x := le_max_left lo _

/-- The total current is clamped to what the phases may carry. -/
theorem railLaw_iTot (v : Int) (s : State) : ∃ raw : Int,
    (railLaw v s).loops.iTot = (clampI 0 ((s.rd LE0_CFG_N_PH : Int) * s.rd LE0_CFG_I_PH_MAX * 10) raw).toNat := ⟨_, rfl⟩

theorem railLaw_thHi (v : Int) (s : State) : ∃ c, (railLaw v s).loops.thHi = min c 1023 := ⟨_, rfl⟩

/-- A hold keeps the integrator, and else it is clamped (R373, R378). -/
theorem railLaw_iInt (v : Int) (s : State) : ∃ i : Int, (railLaw v s).loops.iInt
    = if s.bit LE0_STAT_HOLD then s.loops.iInt else clampI (gsMin s) (gsMax s) i := ⟨_, rfl⟩

theorem railLaw_base (v : Int) (s : State) : ∃ i : Int, (railLaw v s).loops.base
    = if s.bit LE0_STAT_HOLD then s.loops.base else i := ⟨_, rfl⟩

/-- Settles O37: each figure of the law is clamped as it is formed. -/
theorem railLawBounds : Obligations.RailLaw := by
  intro v s t ht
  obtain ⟨raw, htot⟩ := railLaw_iTot v s
  obtain ⟨c, hth⟩ := railLaw_thHi v s
  obtain ⟨i, hint⟩ := railLaw_iInt v s
  obtain ⟨b, hbase⟩ := railLaw_base v s
  rw [ht, htot, hth, hint, hbase]
  refine ⟨?_, min_le_right c 1023, fun hh => ⟨if_pos hh, if_pos hh⟩, fun hh hg => ?_⟩
  · have := clampI_le (lo := 0) (hi := (s.rd LE0_CFG_N_PH : Int) * s.rd LE0_CFG_I_PH_MAX * 10) (x := raw) (by positivity)
    exact Int.toNat_le.mpr (by exact_mod_cast this)
  · rw [if_neg (ne_true_of_eq_false hh)]
    exact ⟨le_clampI _ _ _, clampI_le hg⟩

/-! ### The words of a Bobbin -/

/-- The array's parts and surface memory of `t` are those of `s`. -/
def SameScene (s t : State) : Prop := t.pxa = s.pxa ∧ t.smem = s.smem

section
variable {s t : State}

theorem SameScene.ite {c : Prop} [Decidable c] {u : State} (ht : SameScene s t) (hu : SameScene s u) :
    SameScene s (if c then t else u) := by
  split <;> assumption

/-- A register, or the converters' part, takes another value. -/
theorem SameScene.upd {rs ad} (h : SameScene s t) : SameScene s ⟨rs, t.act, t.now, t.freeCtr, t.setAt, t.setMask, t.pending,
    t.fcr, t.cmd, t.ccx, t.smc, t.frame, t.seq, t.pxa, t.cmp, t.smem, t.pxh, t.thm, t.link, t.loops, ad, t.pmu, t.integ⟩ := h

theorem State.wr_sameScene {f : Fld} {v : Nat} (h : SameScene s t) : SameScene s (t.wr f v) := .upd h

theorem bobWord_sameScene {n w : Nat} (h : SameScene s t) : SameScene s (bobWord n w t) :=
  .ite (State.wr_sameScene h) (State.wr_sameScene (State.wr_sameScene (State.wr_sameScene (.upd
    (.ite (State.wr_sameScene h) h)))))

end

theorem bobWord_fits {n w : Nat} {s : State} (h : bobFill s n + 1 ≤ bobSize s n) : bobWord n w s = syncFill n
    (({ s with adc := { s.adc with pool := storeSet 0#32 s.adc.pool (s.rd (ADC_SQn_BOB_BASE_BASE n)
      + s.rd (ADC_SQn_WPTR_PTR n) % bobSize s n) (BitVec.ofNat 32 w) } } : State).wr (ADC_SQn_WPTR_PTR n)
        ((s.rd (ADC_SQn_WPTR_PTR n) + 1) % 2 ^ 24)) := by
  simp only [bobWord, decide_eq_false (Nat.not_lt.mpr h), Bool.false_eq_true, false_and, if_false]

theorem bobWord_lost {n w : Nat} {s : State} (h : bobSize s n < bobFill s n + 1)
    (hm : s.bit (ADC_SQn_BOB_CFG_MODE n) = false) : bobWord n w s = s.bump (ADC_SQn_COUNT_LOST n) := by
  simp only [bobWord, decide_eq_true h, hm, Bool.not_false, and_self, if_true]

/-- Settles O40. -/
theorem bobbinWords : Obligations.BobbinWords := by
  intro n w s _
  refine ⟨?_, bobWord_lost, bobWord_sameScene ⟨rfl, rfl⟩⟩
  rintro h p t rfl rfl
  exact bobWord_fits h

end Sys2Proof.Machine
end

section
/-! PROOF. Reads of the register map (O9). -/
namespace Sys2Proof.Machine

section
variable {o : Outst} {s t : State} {errs : List EccErr} {a : Nat}

theorem readWord_misaligned (h : a % 4 ≠ 0) : readWord errs a s = (s, .error .badAddress) := if_pos h

/-- An address that no register, SRAM region or surface window has. -/
theorem readWord_unassigned (h4 : a % 4 = 0) (hr : isReg a = false) (hm : inSram a = false) (hs : inSurface a = false) :
    readWord errs a s = (s, .error .badAddress) := by
  simp only [readWord, h4, hm, hs, hr, ne_eq, not_true_eq_false, Bool.false_eq_true, Bool.not_false, Bool.true_or, if_true,
    if_false]

/-- A register of a block that runs reads as it shows. -/
theorem readWord_shown (h4 : a % 4 = 0) (hr : (regInfo a).isSome = true) (hsrc : srcAssigned a = true)
    (hb : blockOff s a = false) (hm : inSram a = false) (hs : inSurface a = false) (hp : ¬ (0xE8000 ≤ a ∧ a < 0xF0000)) :
    readWord errs a s = (s, .ok (shown s a)) := by
  simp only [readWord, h4, hm, hs, isReg, hr, hsrc, hb, hp, ne_eq, not_true_eq_false, Bool.false_eq_true, Bool.not_true,
    Bool.true_or, Bool.or_self, if_false]

theorem readRegCmd_word {v : Nat} (h0 : o.cmd.p0 = 0) (hw : readWord o.cmd.errs (o.cmd.w 1) s = (t, .ok v)) :
    readRegCmd o s = okW t [v] := by
  simp only [readRegCmd, h0, hw, ne_eq, not_true_eq_false, if_false]

theorem readRegCmd_error {e : Status} (h0 : o.cmd.p0 = 0) (hw : readWord o.cmd.errs (o.cmd.w 1) s = (t, .error e)) :
    readRegCmd o s = ans t e := by
  simp only [readRegCmd, h0, hw, ne_eq, not_true_eq_false, if_false]

theorem readBlock_eq {c : Cmd} (ho : o.cmd = c) (h1 : 1 ≤ c.p0) (h2 : c.p0 ≤ 511) (h4 : c.w 1 % 4 = 0)
    (hr : oneRegion (c.w 1) c.p0 = true) (hs : inSurface (c.w 1) = false) :
    readBlock o s = match readWords c.errs ((List.range c.p0).map (fun i => c.w 1 + 4 * i)) s with
      | (t, .ok vs) => okW t vs
      | (t, .error e) => ans t e := by
  subst ho
  have hn : ¬ (o.cmd.p0 = 0 ∨ 511 < o.cmd.p0) := by omega
  simp only [readBlock, hn, h4, hr, hs, ne_eq, not_true_eq_false, Bool.false_eq_true, false_and, Bool.not_true, if_false]
    <;> rfl

/-- A READ_BLOCK of an allowed range ends as the words of its range do. -/
theorem readBlock_words {c : Cmd} {vs : List Nat} (ho : o.cmd = c) (h1 : 1 ≤ c.p0) (h2 : c.p0 ≤ 511) (h4 : c.w 1 % 4 = 0)
    (hr : oneRegion (c.w 1) c.p0 = true) (hs : inSurface (c.w 1) = false)
    (hw : readWords c.errs ((List.range c.p0).map (fun i => c.w 1 + 4 * i)) s = (t, .ok vs)) : readBlock o s = okW t vs := by
  rw [readBlock_eq ho h1 h2 h4 hr hs, hw]

theorem readBlock_error {c : Cmd} {e : Status} (ho : o.cmd = c) (h1 : 1 ≤ c.p0) (h2 : c.p0 ≤ 511) (h4 : c.w 1 % 4 = 0)
    (hr : oneRegion (c.w 1) c.p0 = true) (hs : inSurface (c.w 1) = false)
    (hw : readWords c.errs ((List.range c.p0).map (fun i => c.w 1 + 4 * i)) s = (t, .error e)) : readBlock o s = ans t e := by
  rw [readBlock_eq ho h1 h2 h4 hr hs, hw]

end

theorem plainCmd_zero {o : Outst} {s : State} (h : o.cmd.p0 = 0) : plainCmd o s = ok s :=
  if_neg (not_not_intro h)

theorem deviceInfo_zero {o : Outst} {s : State} (h : o.cmd.p0 = 0) : deviceInfo o s
    = okW s ([DEV_ID, DEV_STEPPING, DEV_UID_LO, DEV_UID_HI, DEV_CONFIG, DEV_FW, DEV_FN, DEV_LADDER, DEV_GUARANTEE].map
      (shown s)) := if_neg (not_not_intro h)

/-- Settles O9: each form of a read is one of the equations above. -/
theorem readCommands : Obligations.ReadCommands := by
  constructor
  · intro c s
    exact ⟨fun h h0 => exec_admits h rfl (plainCmd_zero (o := issued .nop c s) h0),
      fun h h0 => exec_admits h rfl (plainCmd_zero (o := issued .fence c s) h0),
      fun h h0 => exec_admits h rfl (plainCmd_zero (o := issued .fenceGlobal c s) h0),
      fun h => exec_admits h rfl rfl,
      fun h h0 => exec_admits h rfl (deviceInfo_zero (o := issued .deviceInfo c s) h0)⟩
  · intro c s
    refine ⟨fun h h0 h4 hr hsrc hb hm hs hp => ?_, fun h h0 h4 => ?_, fun h h0 h4 hr hm hs => ?_,
      fun vs t h h1 h2 h4 hr hs hw => ?_, fun t e h h1 h2 h4 hr hs hw => ?_⟩
    · exact exec_admits h rfl (readRegCmd_word (o := issued .readReg c s) h0 (readWord_shown h4 hr hsrc hb hm hs hp))
    · exact exec_admits h rfl (readRegCmd_error (o := issued .readReg c s) h0 (readWord_misaligned h4))
    · exact exec_admits h rfl (readRegCmd_error (o := issued .readReg c s) h0 (readWord_unassigned h4 hr hm hs))
    · exact exec_admits h rfl (readBlock_words (o := issued .readBlock c s) rfl h1 h2 h4 hr hs hw)
    · exact exec_admits h rfl (readBlock_error (o := issued .readBlock c s) rfl h1 h2 h4 hr hs hw)

end Sys2Proof.Machine
end

section
/-! PROOF. Writes of a plain register by WRITE_REG, MODIFY_REG and REGISTER_WRITE (O10). -/
namespace Sys2Proof.Machine

/-- A write that acts on all bits of a register gives it the value written. -/
theorem allBits (w v : Word) : (w &&& ~~~0xFFFFFFFF#32) ||| (v &&& 0xFFFFFFFF#32) = v := by
  rw [show (~~~0xFFFFFFFF#32) = 0#32 by decide, show 0xFFFFFFFF#32 = BitVec.allOnes 32 by decide, BitVec.and_zero,
    BitVec.zero_or, BitVec.and_allOnes]

theorem blockOff_apart (s : State) (tie : Bool) (a : Nat) : blockOff (s.apart tie) a = blockOff s a := by cases tie <;> rfl

theorem trimBusy_apart (s : State) (tie : Bool) (a : Nat) : trimBusy a (s.apart tie) = trimBusy a s := by cases tie <;> rfl

/-- What a plain register is, taken apart. -/
theorem plainRegister_parts {a : Nat} (h : Obligations.plainRegister a = true) : a % 4 = 0 ∧ srcAssigned a = true ∧
    inSram a = false ∧ inSurface a = false ∧ layerOf a = none ∧ cntClrOf a = none ∧
    a / 0x10000 ∈ [0x5, 0x6, 0x8, 0x9, 0xA, 0xF, 0x13, 0x15] := by
  simpa only [Obligations.plainRegister, Bool.and_eq_true, decide_eq_true_eq, Bool.not_eq_true', Option.isNone_iff_eq_none,
    and_assoc] using h

section
variable {chan : Option (Nat × Nat)} {errs : List EccErr} {a : Nat} {v m x : Word} {s : State} {r : RegInfo}

theorem layerDenied_none (h : layerOf a = none) : layerDenied chan a = false := by
  unfold layerDenied
  rw [h]
  cases chan <;> rfl

theorem layerNote_none (h : layerOf a = none) : layerNote chan a s = s := by
  unfold layerNote
  rw [h]
  cases chan <;> rfl

/-- The blocks of the plain registers give a write no effect of its own. -/
theorem regHook_plain (h : a / 0x10000 ∈ [0x5, 0x6, 0x8, 0x9, 0xA, 0xF, 0x13, 0x15]) :
    regHook a x m s = (s.wrWord a x, .ok) := by
  unfold regHook
  simp only [List.mem_cons, List.not_mem_nil, or_false] at h
  rcases h with h | h | h | h | h | h | h | h
  all_goals simp only [h]

/-- A write of a register that exists goes on to its access type. -/
theorem regWrite_reg (h4 : a % 4 = 0) (hsrc : srcAssigned a = true) (hm : inSram a = false) (hs : inSurface a = false)
    (hi : regInfo a = some r) (hb : blockOff s a = false) :
    regWrite chan errs a v m s = regApply chan r a ((s.reg a &&& ~~~m) ||| (v &&& m)) m s := by
  have hr : isReg a = true := by rw [isReg, hi]; rfl
  simp only [regWrite, h4, hsrc, hm, hs, hr, hb, hi, ne_eq, not_true_eq_false, Bool.false_eq_true, Bool.not_true,
    Bool.or_self, if_false]

section
variable (hp : Obligations.plainRegister a = true) (hi : regInfo a = some r)
include hp hi

theorem regWrite_plain (hb : blockOff s a = false) :
    regWrite chan errs a v m s = regApply chan r a ((s.reg a &&& ~~~m) ||| (v &&& m)) m s := by
  obtain ⟨h4, hsrc, hm, hs, -⟩ := plainRegister_parts hp
  exact regWrite_reg h4 hsrc hm hs hi hb

omit hi in
theorem regApply_rw (hw : r.acc = .rw) (hr : rangeOk a x = true) (hc : r.cmask = 0) (ht : trimBusy a s = false) :
    regApply chan r a x m s = (s.setReg a (s.maskWord a x), .ok) := by
  obtain ⟨-, -, -, -, hl, hcl, hk⟩ := plainRegister_parts hp
  simp only [regApply, layerDenied_none hl, hw, hr, ht, cntClr, hcl, regHook_plain hk, hc, layerNote_none hl, went,
    reduceCtorEq, Bool.not_true, Bool.false_eq_true, false_and, true_or, decide_true, if_true, if_false]
  rfl

omit hi in
theorem regApply_ro (hw : r.acc = .ro) : regApply chan r a x m s = (s, .ok) := by
  obtain ⟨-, -, -, -, hl, -⟩ := plainRegister_parts hp
  rw [regApply, if_neg (ne_true_of_eq_false (layerDenied_none hl)), if_pos hw]

omit hi in
theorem regApply_sealed (hw : r.acc = .rwl) (hs : spbSealed s = true) (hx : s.maskWord a x ≠ s.reg a) :
    regApply chan r a x m s = (s, .notPrivileged) := by
  obtain ⟨-, -, -, -, hl, -⟩ := plainRegister_parts hp
  simp only [regApply, layerDenied_none hl, hw, hs, hx, reduceCtorEq, Bool.false_eq_true, and_self, if_true, if_false]

omit hi in
theorem regApply_range (hw : r.acc = .rw) (hr : rangeOk a x = false) : regApply chan r a x m s = (s, .badParam) := by
  obtain ⟨-, -, -, -, hl, -⟩ := plainRegister_parts hp
  simp only [regApply, layerDenied_none hl, hw, hr, reduceCtorEq, Bool.false_eq_true, false_and, Bool.not_false, if_true,
    if_false]

end
end

/-- A WRITE_REG of a plain register ends as the write of all its bits does. -/
theorem writeReg_plain {c : Cmd} {s t : State} {r : RegInfo} {y : State × Status} (h : admits .writeReg c s = true)
    (ht : t = (admitted .writeReg c s).apart c.tie) (h0 : c.p0 = 0) (hi : regInfo (c.w 1) = some r)
    (hp : Obligations.plainRegister (c.w 1) = true) (hb : blockOff t (c.w 1) = false)
    (hy : ∀ chan, regApply chan r (c.w 1) (c.words.getD 1 0#32) 0xFFFFFFFF#32 t = y) :
    exec (.writeReg c) s = .next (completed .writeReg c s (afterWrite y)) := by
  subst ht
  refine exec_admits h rfl ((if_neg (not_not_intro h0)).trans (congrArg afterWrite ?_))
  refine (regWrite_plain hp hi hb).trans ?_
  rw [allBits]
  exact hy _

/-- A REGISTER_WRITE of a plain register ends as the write of all its bits does. -/
theorem registerWrite_plain {ch : BitVec 8} {addr value : Word} {tie : Bool} {errs : List EccErr} {s t : State} {r : RegInfo}
    {y : State × Status} (hpow : isPowered s = true) (ht : t = s.apart tie) (hi : regInfo addr.toNat = some r)
    (hp : Obligations.plainRegister addr.toNat = true) (hb : blockOff s addr.toNat = false)
    (hy : ∀ chan, regApply chan r addr.toNat value 0xFFFFFFFF#32 t = y) :
    exec (.registerWrite ch addr value tie errs) s = .next (groupsAfter (answered y)) := by
  subst ht
  refine exec_runs hpow rfl (congrArg (fun z => groupsAfter (answered z)) ?_)
  refine (regWrite_plain hp hi (by rw [blockOff_apart]; exact hb)).trans ?_
  rw [allBits]
  exact hy _

/-- A MODIFY_REG of a plain register reads it and then writes the masked bits. -/
theorem modifyRegCmd_plain {o : Outst} {s : State} {r : RegInfo} {c : Cmd} (ho : o.cmd = c) (h0 : c.p0 = 0)
    (hi : regInfo (c.w 1) = some r) (hp : Obligations.plainRegister (c.w 1) = true) (hw : r.acc = .rw) (hc : r.cmask = 0)
    (hb : blockOff s (c.w 1) = false) (ht : trimBusy (c.w 1) s = false) {x : Word}
    (hx : x = ((s.apart c.tie).reg (c.w 1) &&& ~~~(c.words.getD 1 0#32)) ||| (c.words.getD 2 0#32 &&& c.words.getD 1 0#32))
    (hr : rangeOk (c.w 1) x = true) :
    modifyRegCmd o s = okW (drainWait ((s.apart c.tie).setReg (c.w 1) ((s.apart c.tie).maskWord (c.w 1) x)))
      [shown s (c.w 1)] := by
  subst ho
  obtain ⟨h4, hsrc, hm, hs, -, -, hk⟩ := plainRegister_parts hp
  have hpool : ¬ (0xE8000 ≤ o.cmd.w 1 ∧ o.cmd.w 1 < 0xF0000) := by
    intro hpool
    have : o.cmd.w 1 / 0x10000 = 0xE := by omega
    rw [this] at hk
    revert hk
    decide
  have hread : readWord o.cmd.errs (o.cmd.w 1) s = (s, .ok (shown s (o.cmd.w 1))) :=
    readWord_shown h4 (by rw [hi]; rfl) hsrc hb hm hs hpool
  have hwrite : regWrite (some (o.cmd.ch, o.w0)) o.cmd.errs (o.cmd.w 1) (o.cmd.words.getD 2 0#32) (o.cmd.words.getD 1 0#32)
      (s.apart o.cmd.tie) = ((s.apart o.cmd.tie).setReg (o.cmd.w 1) ((s.apart o.cmd.tie).maskWord (o.cmd.w 1) x), .ok) := by
    rw [regWrite_plain hp hi (by rw [blockOff_apart]; exact hb), ← hx]
    exact regApply_rw hp hw hr hc (by rw [trimBusy_apart]; exact ht)
  simp only [modifyRegCmd, h0, hm, hs, hread, hwrite, ne_eq, not_true_eq_false, Bool.false_eq_true, and_false, if_false]

/-- Settles O10. -/
theorem registerCommands : Obligations.RegisterCommands := by
  refine ⟨fun c s t r h ht h0 hi hp hb => ⟨fun hw hr hc hk => ?_, fun hw => ?_, fun hw hs hx => ?_, fun hw hr => ?_⟩,
    fun c s r h h0 hi hp hw hc hb hk => ?_, fun ch addr value tie errs s t r hpow ht =>
      ⟨fun hi hp hb => ⟨fun hw hr hc hk => ?_, fun hw => ?_, fun hw hr => ?_⟩, fun h4 => ?_, fun h4 hm => ?_,
        fun h4 hm hs hr => ?_⟩⟩
  · exact writeReg_plain h ht h0 hi hp hb fun _ => regApply_rw hp hw hr hc hk
  · exact writeReg_plain h ht h0 hi hp hb fun _ => regApply_ro hp hw
  · exact writeReg_plain h ht h0 hi hp hb fun _ => regApply_sealed hp hw hs hx
  · exact writeReg_plain h ht h0 hi hp hb fun _ => regApply_range hp hw hr
  · intro t x hr
    exact exec_admits h rfl (modifyRegCmd_plain (o := issued .modifyReg c s) rfl h0 hi hp hw hc hb hk rfl hr)
  · exact registerWrite_plain hpow ht hi hp hb fun _ => regApply_rw hp hw hr hc (by rw [ht, trimBusy_apart]; exact hk)
  · exact registerWrite_plain hpow ht hi hp hb fun _ => regApply_ro hp hw
  · exact registerWrite_plain hpow ht hi hp hb fun _ => regApply_range hp hw hr
  · subst ht
    exact exec_runs hpow rfl (congrArg (fun z => groupsAfter (answered z)) (if_pos h4))
  · subst ht
    refine exec_runs hpow rfl (congrArg (fun z => groupsAfter (answered z)) ?_)
    simp only [regWrite, h4, hm, ne_eq, not_true_eq_false, if_false, if_true]
  · subst ht
    refine exec_runs hpow rfl (congrArg (fun z => groupsAfter (answered z)) ?_)
    simp only [regWrite, h4, hm, hs, hr, ne_eq, not_true_eq_false, Bool.false_eq_true, Bool.not_false, Bool.true_or,
      if_false, if_true]

end Sys2Proof.Machine
end

section
/-! PROOF. Thimbles (O11). -/
namespace Sys2Proof.Machine

section
variable {o : Outst} {s : State} {c : Cmd}

/-- The checks of a well-formed acquire pass. -/
theorem acquire_checked (h8 : c.p0 / 8 % 32 = 0) (hl : c.w 1 ≤ 10000) : ¬ (c.p0 / 8 % 32 ≠ 0 ∨ 10000 < c.w 1) := by omega

section
variable (ho : o.cmd = c) (h8 : c.p0 / 8 % 32 = 0) (hl : c.w 1 ≤ 10000)
include ho h8 hl

theorem acquire_free (hh : s.rd (CMD_THIMBLEn_HOLDER (c.p0 % 8)) = 0) (hobs : c.obs.getD 0 0 ≠ 1) :
    thimbleAcquire o s = okW (grantThimble (c.p0 % 8) c.port.num (leaseOf s (c.w 1)) s) [leaseOf s (c.w 1)] := by
  subst ho
  simp only [thimbleAcquire, if_neg (acquire_checked h8 hl), hh, hobs, and_false, if_false, if_true]

theorem acquire_renewed (hh : s.rd (CMD_THIMBLEn_HOLDER (c.p0 % 8)) = c.port.num + 1) :
    thimbleAcquire o s = okW (renewThimble (c.p0 % 8) c.port.num (leaseOf s (c.w 1)) s) [leaseOf s (c.w 1)] := by
  subst ho
  simp only [thimbleAcquire, if_neg (acquire_checked h8 hl), hh, Nat.add_one_ne_zero, false_and, if_false, if_true]

theorem acquire_contest (hh : s.rd (CMD_THIMBLEn_HOLDER (c.p0 % 8)) = 0) (hobs : c.obs.getD 0 0 = 1)
    (hp : s.rd CMD_THIMBLE_STAT_PRIO = c.port.num) :
    thimbleAcquire o s = okW (grantThimble (c.p0 % 8) c.port.num (leaseOf s (c.w 1))
      ((s.bump CMD_COUNT2_CONTESTED).wr CMD_THIMBLE_STAT_PRIO (1 - c.port.num))) [leaseOf s (c.w 1)] := by
  subst ho
  simp only [thimbleAcquire, if_neg (acquire_checked h8 hl), hh, hobs, hp, and_self, if_true]

theorem acquire_missed (h0 : s.rd (CMD_THIMBLEn_HOLDER (c.p0 % 8)) ≠ 0)
    (hh : s.rd (CMD_THIMBLEn_HOLDER (c.p0 % 8)) ≠ c.port.num + 1) :
    thimbleAcquire o s = waitThimble o (c.p0 % 8) (c.w 1) s := by
  subst ho
  simp only [thimbleAcquire, if_neg (acquire_checked h8 hl), h0, hh, false_and, if_false]

end

theorem waitThimble_held {k lease : Nat} (h : o.cmd.p0 / 256 = 0) : waitThimble o k lease s = ans s .thimbleHeld := if_pos h

theorem waitThimble_busy {k lease : Nat} (h : o.cmd.p0 / 256 ≠ 0) (hw : (storeGet none s.cmd.thWait k).isSome = true) :
    waitThimble o k lease s = ans s .busy := (if_neg h).trans (if_pos hw)

theorem waitThimble_waits {k lease : Nat} {w : ThWait} (h : o.cmd.p0 / 256 ≠ 0) (hn : storeGet none s.cmd.thWait k = none)
    (hw : w = ⟨o, lease, s.now + o.cmd.p0 / 256 * 1000000⟩) :
    waitThimble o k lease s
      = answerLater (({ s with cmd := { s.cmd with thWait := storeSet none s.cmd.thWait k (some w) } } : State).wr
          (CMD_THIMBLEn_WAITER k) (o.cmd.port.num + 1)) := by
  subst hw
  exact (if_neg h).trans (if_neg (by rw [hn]; exact Bool.false_ne_true))

/-! ### Release and expiry -/

theorem grantWaiter_none {k : Nat} (h : storeGet none s.cmd.thWait k = none) : grantWaiter k s = s := by
  simp only [grantWaiter, h]

theorem grantWaiter_some {k : Nat} {w : ThWait} (h : storeGet none s.cmd.thWait k = some w) :
    grantWaiter k s = replyTo w.o ⟨.ok, [leaseOf s w.lease], none⟩
      (grantThimble k w.o.cmd.port.num (leaseOf s w.lease) (dropWaiter k s)) := by
  simp only [grantWaiter, h]

/-- The state `s` with other lease ends. -/
def withLeases (l : List (Nat × Nat)) (s : State) : State := { s with cmd := { s.cmd with thLease := l } }

theorem withLeases_thWait (l : List (Nat × Nat)) (s : State) : (withLeases l s).cmd.thWait = s.cmd.thWait := rfl

theorem freed_eq (k : Nat) (s : State) : Obligations.freed k s
    = withLeases (storeSet 0 ((s.wr (CMD_THIMBLEn_HOLDER k) 0).clrBit CMD_THIMBLE_STAT_HELD k).cmd.thLease k 0)
        ((s.wr (CMD_THIMBLEn_HOLDER k) 0).clrBit CMD_THIMBLE_STAT_HELD k) := rfl

/-- The freed Thimble's waiting acquire is the one that waited before. -/
theorem freed_thWait (k : Nat) (s : State) : (Obligations.freed k s).cmd.thWait = s.cmd.thWait := by
  rw [freed_eq, withLeases_thWait, State.clrBit_cmd, State.wr_cmd]

theorem releaseThimble_eq (k : Nat) (s : State) : releaseThimble k s = grantWaiter k (Obligations.freed k s) := rfl

theorem thimbleRelease_free (ho : o.cmd = c) (h8 : c.p0 < 8) (hh : s.rd (CMD_THIMBLEn_HOLDER c.p0) = 0) :
    thimbleRelease o s = ok s := by
  subst ho
  exact (if_neg (Nat.not_le.mpr h8)).trans (if_pos hh)

theorem thimbleRelease_own (ho : o.cmd = c) (h8 : c.p0 < 8) (hh : s.rd (CMD_THIMBLEn_HOLDER c.p0) = c.port.num + 1) :
    thimbleRelease o s = ok (releaseThimble c.p0 s) := by
  subst ho
  simp only [thimbleRelease, if_neg (Nat.not_le.mpr h8), hh, Nat.add_one_ne_zero, if_false, if_true]

theorem thimbleRelease_other (ho : o.cmd = c) (h8 : c.p0 < 8) (h0 : s.rd (CMD_THIMBLEn_HOLDER c.p0) ≠ 0)
    (hh : s.rd (CMD_THIMBLEn_HOLDER c.p0) ≠ c.port.num + 1) : thimbleRelease o s = ans s .thimbleHeld := by
  subst ho
  simp only [thimbleRelease, if_neg (Nat.not_le.mpr h8), h0, hh, if_false]

theorem leaseExpiry_renewed {k : Fin 8} (h : storeGet 0 s.cmd.thRenew k.val = s.now + 1) : execThimbleLeaseExpiry k s = s :=
  if_pos (.inr h)

theorem leaseExpiry_frees {k : Fin 8} (h0 : s.rd (CMD_THIMBLEn_HOLDER k.val) ≠ 0)
    (h : storeGet 0 s.cmd.thRenew k.val ≠ s.now + 1) : execThimbleLeaseExpiry k s
      = grantWaiter k.val (Obligations.freed k.val (raise 0x15 (k.val + (s.rd (CMD_THIMBLEn_HOLDER k.val) - 1) * 256) s)) :=
  if_neg (not_or_intro h0 h)

theorem waitExpiry_answers {k : Fin 8} {w : ThWait} (h : storeGet none s.cmd.thWait k.val = some w) :
    execThimbleWaitExpiry k s = replyTo w.o ⟨.thimbleHeld, [], none⟩ (Obligations.unwaited k.val s) := by
  simp only [execThimbleWaitExpiry, endWait, h]
  rfl

end

/-- Settles O11. -/
theorem thimbles : Obligations.Thimbles := by
  refine ⟨fun c s h h8 hl => ?_, fun c s => ⟨fun h h8 => ?_, fun h h0 => ?_⟩, fun k s f hp => ?_⟩
  · refine ⟨fun hh hobs => ?_, fun hh => ?_, fun hh hobs hpr => ?_, fun h0 hh hw hz => ?_, fun h0 hh hz => ?_,
      fun h0 hh hw hz => ?_⟩
    · exact exec_admits h rfl (acquire_free (o := issued .thimbleAcquire c s) rfl h8 hl hh hobs)
    · exact exec_admits h rfl (acquire_renewed (o := issued .thimbleAcquire c s) rfl h8 hl hh)
    · exact exec_admits h rfl (acquire_contest (o := issued .thimbleAcquire c s) rfl h8 hl hh hobs hpr)
    · exact exec_admits h rfl ((acquire_missed (o := issued .thimbleAcquire c s) rfl h8 hl h0 hh).trans
        (waitThimble_busy hz hw))
    · exact exec_admits h rfl ((acquire_missed (o := issued .thimbleAcquire c s) rfl h8 hl h0 hh).trans (waitThimble_held hz))
    · exact exec_admits_later h rfl ((acquire_missed (o := issued .thimbleAcquire c s) rfl h8 hl h0 hh).trans
        (waitThimble_waits hz hw rfl))
  · refine ⟨fun hh => ?_, fun hh hw => ?_, fun h0 hh => ?_⟩
    · exact exec_admits h rfl (thimbleRelease_free (o := issued .thimbleRelease c s) rfl h8 hh)
    · refine exec_admits h rfl ((thimbleRelease_own (o := issued .thimbleRelease c s) rfl h8 hh).trans (congrArg ok ?_))
      exact (releaseThimble_eq _ _).trans (grantWaiter_none (by rw [freed_thWait]; exact hw))
    · exact exec_admits h rfl (thimbleRelease_other (o := issued .thimbleRelease c s) rfl h8 h0 hh)
  · exact exec_admits h rfl (if_neg (not_not_intro h0))
  · refine ⟨fun _ hr => exec_runs hp rfl (leaseExpiry_renewed hr), fun h0 hr hf => ⟨fun hw => ?_, fun w n hw hn => ?_⟩,
      fun w hw => exec_runs hp rfl (waitExpiry_answers hw)⟩
    · refine exec_runs hp rfl ((leaseExpiry_frees h0 hr).trans ?_)
      rw [← hf, grantWaiter_none hw]
    · refine exec_runs hp rfl ((leaseExpiry_frees h0 hr).trans ?_)
      rw [← hf, grantWaiter_some hw, hn]
      rfl

end Sys2Proof.Machine
end

section
/-! PROOF. Channels and transfers: CHAN_CFG and CHAN_QUERY (O12), the transfers of SURF_WRITE (O13), held commands (O15). -/
namespace Sys2Proof.Machine

/-! ### The channel table -/

section
variable {o : Outst} {s : State} {c : Cmd}

theorem chanCfg_stores (ho : o.cmd = c) (h : chanCfgBad s c.p0 (c.w 1) (c.w 2) = false) : chanCfg o s
    = ok (if c.w 2 < 2 ^ 31 then abandonWhere (fun x => decide (x.o.cmd.ch = c.p0))
        ((s.setReg (CMD_CHANn_W0 c.p0) (BitVec.ofNat 32 (c.w 1))).setReg (CMD_CHANn_W1 c.p0) (BitVec.ofNat 32 (c.w 2)))
      else (s.setReg (CMD_CHANn_W0 c.p0) (BitVec.ofNat 32 (c.w 1))).setReg (CMD_CHANn_W1 c.p0) (BitVec.ofNat 32 (c.w 2))) := by
  subst ho
  exact if_neg (ne_true_of_eq_false h)

end

/-- Settles O12. -/
theorem channelTable : Obligations.ChannelTable := by
  refine fun c s => ⟨fun h => ⟨fun hb hw => ?_, fun hb hw => ?_, fun hb => ?_⟩, fun h h256 => ?_⟩
  · exact exec_admits h rfl ((chanCfg_stores (o := issued .chanCfg c s) rfl hb).trans
      (congrArg ok (if_neg (Nat.not_lt.mpr hw))))
  · exact exec_admits h rfl ((chanCfg_stores (o := issued .chanCfg c s) rfl hb).trans (congrArg ok (if_pos hw)))
  · exact exec_admits h rfl (if_pos hb)
  · exact exec_admits h rfl (if_neg (Nat.not_le.mpr h256))

/-! ### SURF_WRITE -/

section
variable {o : Outst} {s : State} {c : Cmd}

theorem surfWrite_off (ho : o.cmd = c) (h : surfOff [c.w 1] s = true) (hg : (givenBytes o).length = c.w 2) :
    surfWrite o s = ans (raise 0x27 (c.w 1) s) .blockOff := by
  subst ho
  rw [← refuseXfer_whole hg]
  exact if_pos h

section
variable (ho : o.cmd = c) (hu : unitIn o s = none) (h : surfOff [c.w 1] s = false)
include ho hu h

theorem surfWrite_refused {st : Status} (hr : surfRefuse (c.w 1) (c.w 2) 4 surfMax s = some st)
    (hg : (givenBytes o).length = c.w 2) : surfWrite o s = ans s st := by
  subst ho
  have hlen : dataLen none (o.cmd.w 2) = o.cmd.w 2 := rfl
  rw [← refuseXfer_whole hg]
  simp only [surfWrite, h, hu, hlen, hr, Bool.false_eq_true, if_false]

theorem surfWrite_guarded (hr : surfRefuse (c.w 1) (c.w 2) 4 surfMax s = none) (hw : guarded (c.w 1) (c.w 2) s = true)
    (hg : (givenBytes o).length = c.w 2) : surfWrite o s = ans s .busy := by
  subst ho
  have hlen : dataLen none (o.cmd.w 2) = o.cmd.w 2 := rfl
  rw [← refuseXfer_whole hg]
  simp only [surfWrite, h, hu, hlen, hr, hw, Bool.false_eq_true, if_false, if_true]

/-- An allowed range takes the data that came with the command. -/
theorem surfWrite_allowed (hr : surfRefuse (c.w 1) (c.w 2) 4 surfMax s = none) (hw : guarded (c.w 1) (c.w 2) s = false)
    (hg : (givenBytes o).length ≤ c.w 2) :
    surfWrite o s = if (givenBytes o).length = c.w 2 then okW (smemWrite c.errs (c.w 1) (givenBytes o) s) [c.w 2]
      else answerLater (openXfer o (c.w 2) (givenBytes o) false (smemWrite c.errs (c.w 1) (givenBytes o) s)) := by
  subst ho
  have hlen : dataLen none (o.cmd.w 2) = o.cmd.w 2 := rfl
  have htake : (givenBytes o).take (o.cmd.w 2) = givenBytes o := List.take_of_length_le hg
  simp only [surfWrite, h, hu, hlen, hr, hw, htake, feedUnit, openUnit, endSurf, checkField, Bool.false_eq_true, if_false]
  rfl

end
end

/-! ### Data packets -/

section
variable {d : DataPkt} {s u : State} {x : Xfer}

/-- A data packet that CMD takes is judged on the state without it in the port's buffer. -/
theorem dataPacket_taken (hw : waitsTurn d.port d.chan.toNat d.seq.toNat (carriesData d) s = false)
    (hu : u = heard d.chan.toNat d.port.num 3 (takePacket d.port.num d.chan.toNat (carriesData d) s)) :
    execDataPacket d s = match lateData d u, xferFor u d.chan.toNat d.port.num with
      | some ws, _ => twinData d ws u
      | none, some x => dataOf d x u
      | none, none => strayData u := by
  subst hu
  unfold execDataPacket
  exact if_neg (ne_true_of_eq_false hw)

section
variable (hx : x.taken.find? (fun q => decide (q.1 = dataIndex d)) = none)
include hx

theorem dataOf_header (hh : dataHeaderOk d x = false) : dataOf d x u = u.bump CMD_COUNT1_ERR_DROPPED := by
  simp only [dataOf, hx, hh, Bool.not_false, if_true, strayData]

theorem dataOf_turn (hh : dataHeaderOk d x = true) (ht : dataInTurn d x = false) : dataOf d x u = abandonXfer x u := by
  simp only [dataOf, hx, hh, ht, Bool.not_false, Bool.not_true, Bool.false_eq_true, if_true, if_false]

theorem dataOf_taken (hh : dataHeaderOk d x = true) (ht : dataInTurn d x = true) (hq : dataSeqOk d x = true) :
    dataOf d x u = takeData d x u := by
  simp only [dataOf, hx, hh, ht, hq, Bool.not_true, Bool.false_eq_true, if_false]

end

/-- A packet in turn of a SURF_WRITE on a SINGLE channel without a unit, not the last: its bytes go on where the last ones ended. -/
theorem takeData_surf {bs : List Nat} (hop : x.o.op = .surfWrite) (ha : x.absorb = false) (hn : x.unit = none)
    (hd : dupOf x.o.w1 = false) (hbs : bs = (bytesOfWords ((d.words.drop 1).map BitVec.toNat)).take (x.need - x.got))
    (hlt : x.got + bs.length < x.need) : takeData d x u = putXfer x
      { x with got := x.got + bs.length, nextIdx := x.nextIdx + 1, field := x.field ++ bs.drop (x.need - x.got), taken := [],
               lastAt := u.now }
      (smemWrite d.errs (x.o.cmd.w 1 + x.got) (bs.take (x.need - x.got)) u) := by
  have hlen : dataLen none x.need = x.need := rfl
  simp only [takeData, ← hbs, hop, ha, hn, hd, hlen, feedUnit, decide_true, Bool.not_false, Bool.not_true,
    Bool.and_self, Bool.and_true, Bool.false_eq_true, if_false, if_true]
  exact if_neg (Nat.not_le.mpr hlt)

theorem twinData_same : twinData d (dataWords d) u = u := if_pos rfl

theorem twinData_differs {ws : List Nat} (h : ws ≠ dataWords d) :
    twinData d ws u = raise 0x71 (d.port.num + d.chan.toNat * 256) (u.bump CCX_COUNT2_DUP_DIVERGE) := if_neg h

/-- An abandoned SURF_WRITE without a unit gives the bytes already written. -/
theorem abandonXfer_surf (hop : x.o.op = .surfWrite) (ha : x.absorb = false) (hn : x.unit = none) :
    abandonXfer x s = replyTo x.o ⟨.badLength, [x.got], none⟩ (dropXfer x s) := by
  simp only [abandonXfer, hop, ha, hn, Option.isSome_none, Bool.false_eq_true, if_false, if_true]

end

/-- Settles O13. -/
theorem surfaceTransfers : Obligations.SurfaceTransfers := by
  refine ⟨fun c s t o h ht ho hu => ?_, fun d s u hp hw hu => ?_, fun p ch s hp => ?_⟩
  · subst ht ho
    refine ⟨fun hoff hg => ?_, fun hoff hr hgd hg => ?_, fun hoff hr hgd hg => ?_, fun st hoff hr hg => ?_,
      fun hoff hr hgd hg => ?_⟩
    · exact exec_admits h rfl (surfWrite_off (o := issued .surfWrite c s) rfl hoff hg)
    · exact exec_admits h rfl ((surfWrite_allowed (o := issued .surfWrite c s) rfl hu hoff hr hgd hg.le).trans (if_pos hg))
    · exact exec_admits_later h rfl
        ((surfWrite_allowed (o := issued .surfWrite c s) rfl hu hoff hr hgd hg.le).trans (if_neg hg.ne))
    · exact exec_admits h rfl (surfWrite_refused (o := issued .surfWrite c s) rfl hu hoff hr hg)
    · exact exec_admits h rfl (surfWrite_guarded (o := issued .surfWrite c s) rfl hu hoff hr hgd hg)
  · have htaken := dataPacket_taken hw hu
    refine ⟨fun hl hx => ?_, fun hl => ?_, fun ws hl hne => ?_, fun x hl hx hf => ?_⟩
    · rw [hl, hx] at htaken
      exact exec_runs hp rfl htaken
    · rw [hl] at htaken
      exact exec_runs hp rfl (htaken.trans twinData_same)
    · rw [hl] at htaken
      exact exec_runs hp rfl (htaken.trans (twinData_differs hne))
    · rw [hl, hx] at htaken
      refine ⟨fun hh => ?_, fun hh ht => ?_, fun bs hh ht hq hop ha hn hd hbs hlt => ?_⟩
      · exact exec_runs hp rfl (htaken.trans (dataOf_header hf hh))
      · exact exec_runs hp rfl (htaken.trans (dataOf_turn hf hh ht))
      · exact exec_runs hp rfl (htaken.trans ((dataOf_taken hf hh ht hq).trans (takeData_surf hop ha hn hd hbs hlt)))
  · refine ⟨fun x hf ha hop hn => exec_runs hp rfl ?_, fun h0 hq hab => exec_runs hp rfl (if_pos ⟨h0, hq, hab⟩),
      fun hab => exec_runs hp rfl (if_neg ?_)⟩
    · unfold execXferTimeout abandonWhere
      rw [hf]
      exact abandonXfer_surf hop ha hn
    · rw [hab]
      rintro ⟨-, -, h⟩
      cases h

/-! ### Held commands -/

theorem patchCkpt_none {s : State} (h : s.pmu.activate = none) : patchCkpt s = s := by
  refine if_neg fun hc => ?_
  rw [h] at hc
  cases hc.1

/-- Settles O15. -/
theorem heldCommands : Obligations.HeldCommands := by
  refine fun s hp => ⟨fun ch o ho => exec_runs hp rfl ?_, fun o t u ha hr ht hu hact => exec_runs hp rfl ?_⟩
  · simp only [execDupHoldExpiry, ho]
    rfl
  · subst ht hu
    simp only [execFenceRelease, hr]
    exact patchCkpt_none hact

end Sys2Proof.Machine
end

section
/-! PROOF. The layer commands, COMMIT and COMMIT_AT (O18). -/
namespace Sys2Proof.Machine

section
variable {o : Outst} {s : State} {c : Cmd}

/-- LAYER_SET of an owned layer, with every word in its range. -/
theorem layerSet_owned (ho : o.cmd = c) (h8 : c.p0 < 8) (hoff : cmpOff s = false) (hown : entryOwns o.w0 c.p0 = true)
    (hr : ∀ i, i < 11 → rangeOk (CMP_Lk_CTRL c.p0 + 4 * i) (c.words.getD i 0#32) = true) :
    layerSet o s = ok (ownerNote c.ch c.p0 (s.forN 11 (fun i t => t.setReg (CMP_Lk_CTRL c.p0 + 4 * i)
      (BitVec.ofNat 32 ((c.words.getD i 0#32).toNat
        &&& (match regInfo (CMP_Lk_CTRL c.p0 + 4 * i) with | some r => r.wmask | none => 0)))))) := by
  subst ho
  have hall : (List.range 11).all (fun i => rangeOk (CMP_Lk_CTRL o.cmd.p0 + 4 * i) (o.cmd.words.getD i 0#32)) = true :=
    List.all_eq_true.mpr fun i hi => hr i (List.mem_range.mp hi)
  simp only [layerSet, Nat.not_le.mpr h8, Nat.mod_eq_of_lt h8, hoff, hown, hall, Bool.not_true, Bool.false_eq_true, if_false,
    if_true]
    <;> rfl

theorem layerSet_denied (ho : o.cmd = c) (h8 : c.p0 < 8) (hoff : cmpOff s = false) (hown : entryOwns o.w0 c.p0 = false) :
    layerSet o s = ans s .notPrivileged := by
  subst ho
  simp only [layerSet, Nat.not_le.mpr h8, Nat.mod_eq_of_lt h8, hoff, hown, Bool.not_false, Bool.false_eq_true, if_false,
    if_true]

/-- LAYER_ENABLE and LAYER_DISABLE of an owned layer. -/
theorem layerSwitch_owned {en : Nat} (ho : o.cmd = c) (h0 : c.p0 / 8 % 32 = 0) (hoff : cmpOff s = false)
    (hown : entryOwns o.w0 (c.p0 % 8) = true) : layerSwitch en o s = ok (ownerNote c.ch (c.p0 % 8)
      ((s.wr (CMP_Lk_CTRL_EN (c.p0 % 8)) en).wr (CMP_Lk_CTRL_FADE (c.p0 % 8)) (c.p0 / 256))) := by
  subst ho
  simp only [layerSwitch, h0, hoff, hown, ne_eq, not_true_eq_false, Bool.not_true, Bool.false_eq_true, if_false]

theorem syncArmed_append {l : List Outst} (h : s.cmp.armed = l ++ [o]) : syncArmed s = s.wr CMP_STAT_ARMED 1 := by
  simp only [syncArmed, h, List.isEmpty_eq_false_iff.mpr (List.append_ne_nil_of_right_ne_nil l (List.cons_ne_nil o [])),
    Bool.not_false, boolNat, if_true]

theorem commit_armed (h0 : o.cmd.p0 = 0) (hoff : cmpOff s = false) : commit o s
    = answerLater (({ s with cmp := { s.cmp with armed := s.cmp.armed ++ [o] } } : State).wr CMP_STAT_ARMED 1) := by
  simp only [commit, h0, hoff, ne_eq, not_true_eq_false, Bool.false_eq_true, if_false]
  exact congrArg answerLater (syncArmed_append rfl)

/-- A COMMIT_AT while none is pending is judged by the frame that it names. -/
theorem commitAt_judged (ho : o.cmd = c) (h0 : c.p0 = 0) (hoff : cmpOff s = false) (hn : s.cmp.atFn = none) : commitAt o s =
    if atLate (c.w 1) s then
      ((s.setReg CMP_AT_FN (c.words.getD 0 0#32)).wr CMP_STAT_AT_RESULT 4, some ⟨.commitLate, [c.w 1, 0], some (c.w 1 % 65536)⟩)
    else if 4096 < (c.w 1 + 2 ^ 32 - s.rd DEV_FN_FN) % 2 ^ 32 then ans s .badParam
    else ({ s.setReg CMP_AT_FN (c.words.getD 0 0#32) with
        cmp := { (s.setReg CMP_AT_FN (c.words.getD 0 0#32)).cmp with atFn := some (c.w 1) } }.wr CMP_STAT_AT_RESULT 1,
      some ⟨.acceptedPending, [c.w 1, 0], some (c.w 1 % 65536)⟩) := by
  subst ho
  simp only [commitAt, h0, hoff, hn, ne_eq, not_true_eq_false, Bool.false_eq_true, Option.isSome_none, if_false]

end

/-- Settles O18. -/
theorem layersAndCommits : Obligations.LayersAndCommits := by
  refine ⟨fun c s t => ⟨fun h ht h8 hoff => ⟨fun hown hr u hu => ?_, fun hown => ?_⟩, fun h ht h0 hoff hown => ?_,
    fun h ht h0 hoff hown => ?_⟩, fun c s t => ⟨fun h ht h0 hoff u hu => ?_, fun h ht h0 hoff hn => ?_⟩⟩
  · subst ht hu
    exact exec_admits h rfl (layerSet_owned (o := issued .layerSet c s) rfl h8 hoff hown hr)
  · subst ht
    exact exec_admits h rfl (layerSet_denied (o := issued .layerSet c s) rfl h8 hoff hown)
  · subst ht
    exact exec_admits h rfl (layerSwitch_owned (o := issued .layerEnable c s) rfl h0 hoff hown)
  · subst ht
    exact exec_admits h rfl (layerSwitch_owned (o := issued .layerDisable c s) rfl h0 hoff hown)
  · subst ht hu
    exact exec_admits_later h rfl (commit_armed (o := issued .commit c s) h0 hoff)
  · subst ht
    have hj := commitAt_judged (o := issued .commitAt c s) rfl h0 hoff hn
    refine ⟨fun hl => ?_, fun hl hf => ?_, fun hl hf => ?_⟩
    · exact exec_admits h rfl (hj.trans (if_pos hl))
    · exact exec_admits h rfl (hj.trans ((if_neg (ne_true_of_eq_false hl)).trans (if_pos hf)))
    · exact exec_admits h rfl (hj.trans ((if_neg (ne_true_of_eq_false hl)).trans (if_neg (Nat.not_lt.mpr hf))))

end Sys2Proof.Machine
end

section
/-! PROOF. A composition starts and completes (O20). -/
namespace Sys2Proof.Machine

/-! ### The start -/

/-- The state's rung is `r`, and its safety part is `m`. A predicate of its own, so that a proof follows the operations. -/
def StandsOn (r : Nat) (m : SmcSt) (s : State) : Prop := s.rd DEV_LADDER_RUNG = r ∧ s.smc = m

/-- The composition's part and the array's part may take other values. -/
theorem StandsOn.upd {r : Nat} {m : SmcSt} {s : State} {cp px} (h : StandsOn r m s) : StandsOn r m ⟨s.regs, s.act, s.now,
    s.freeCtr, s.setAt, s.setMask, s.pending, s.fcr, s.cmd, s.ccx, s.smc, s.frame, s.seq, px, cp, s.smem, s.pxh, s.thm,
    s.link, s.loops, s.adc, s.pmu, s.integ⟩ := h

theorem setLevels_standsOn {r : Nat} {m : SmcSt} {s : State} {fb : Bool} (h : StandsOn r m s) :
    StandsOn r m (setLevels fb s) := .upd (.upd h)

/-- Without a pending release the rung decides what is composed (R140, R350). -/
theorem composeFor_noRelease {r : Nat} {m : SmcSt} {s : State} (h : StandsOn r m s) (hm : m.release = none) :
    composeFor s = if r = 0 then some false else if r = 1 then some true else none := by
  obtain ⟨hr, rfl⟩ := h
  unfold composeFor
  rw [hr, hm]
  cases r <;> rfl

/-- A safety part without a release stays what it is where the release is marked. -/
theorem smc_release_none {m : SmcSt} {f : Release → Release} (h : m.release = none) :
    { m with release := m.release.map f } = m := by
  cases m
  subst h
  rfl

/-- A RELEASE whose frame is composed is marked (R360). -/
def shownRelease (fb : Bool) (r : Release) : Release :=
  if r.moves ∧ r.target ≤ 1 ∧ (r.target = 1 ↔ fb) then { r with composed := true } else r

/-- The frame that the next composition makes, once its latch is done. -/
def composeNext (fn : Nat) (t : State) : State :=
  match composeFor t with
  | none => t
  | some fb =>
    { t with cmp := { t.cmp with comp := some ⟨fn, fb, false, 0, 0, 0, 0⟩ },
             smc := { t.smc with release := t.smc.release.map (shownRelease fb) } }.wr CMP_STAT_COMPOSING 1

theorem decide_composeFor {r : Nat} {m : SmcSt} {s : State} (h : StandsOn r m s) (hm : m.release = none) :
    decide (composeFor s = some true) = decide (r = 1) := by
  rw [composeFor_noRelease h hm]
  by_cases h0 : r = 0
  · rw [if_pos h0, h0]; rfl
  · rw [if_neg h0]
    by_cases h1 : r = 1
    · rw [if_pos h1, h1]; rfl
    · rw [if_neg h1, decide_eq_false h1]; rfl

theorem composeNext_none {fn : Nat} {t : State} (h : composeFor t = none) : composeNext fn t = t := by
  simp only [composeNext, h]

theorem composeNext_some {fn : Nat} {t : State} {fb : Bool} {k : Comp} (h : composeFor t = some fb) (hr : t.smc.release = none)
    (hk : k = ⟨fn, fb, false, 0, 0, 0, 0⟩) : composeNext fn t
      = ({ t with cmp := { t.cmp with comp := some k } } : State).wr CMP_STAT_COMPOSING 1 := by
  simp only [composeNext, h, smc_release_none hr, hk]

/-- The strobe while the PLL ticks, with CMP on: the latch, then the levels and limits of the frame, then its composition. -/
theorem compositionStart_latches {s a b t u : State} {lim : List Nat} (hp : pllTicks s = true) (ht : s.frame.ticked = true)
    (hc : s.cmp.csDone = false) (ha : a = { s with cmp := { s.cmp with csDone := true } }) (hoff : cmpOff a = false)
    (hb : b = takeEst (latchCommits ((s.rd DEV_FN_FN + 1) % 2 ^ 32) a))
    (hl : t = setLevels (decide (composeFor b = some true)) b)
    (hlim : lim = t.rd PXA_RAIL_LIMIT_ACT_LIMIT_MA :: (List.range 8).map (fun z => t.rd (PXA_ZONE_LIMITn_ACT_LIMIT_MA z)))
    (hu : u = { t with pxa := { t.pxa with limNext := lim } }) :
    execCompositionStart s = composeNext ((s.rd DEV_FN_FN + 1) % 2 ^ 32) u := by
  have h1 : ¬ ((!pllTicks s) = true ∨ (!s.frame.ticked) = true ∨ s.cmp.csDone = true) := by
    simp only [hp, ht, hc, Bool.not_true, Bool.false_eq_true, or_self, not_false_eq_true]
  subst hu hlim hl hb ha
  unfold execCompositionStart
  exact (if_neg h1).trans (if_neg (ne_true_of_eq_false hoff))

/-! ### The end -/

theorem forL_none {α : Type} {l : List α} {g : α → State → State} {s : State} (h : ∀ x ∈ l, ∀ t, g x t = t) :
    s.forL l g = s := by
  unfold State.forL
  induction l with
  | nil => rfl
  | cons x l ih =>
    rw [List.foldl_cons, h x (List.mem_cons_self ..)]
    exact ih fun y hy => h y (List.mem_cons_of_mem _ hy)

theorem noteErrs_nil (s : State) : noteErrs [] s = s := rfl

theorem fbRegionUe_nil (s : State) : fbRegionUe [] s = s := rfl

/-- The write-back setting is the one before the composition's end. -/
theorem composed_bit {s : State} {cp : CmpSt} {n v w : Nat} :
    ((({ s with cmp := cp, freeCtr := n } : State).wr CMP_STAT_COMPOSING v).wr PXA_BUDGET_NEXT_B w).bit
      CMP_WB_CTRL_ACT_WB_EN = s.bit CMP_WB_CTRL_ACT_WB_EN := by
  rw [State.bit, State.rd_wr_addr _ _ _ _ (by decide), State.rd_wr_addr _ _ _ _ (by decide)]
  rfl

/-- The end of a composition that met no error. -/
theorem compositionComplete_clean {s : State} {c k : Comp} {bank b0 b1 : List (Nat × BitVec 16)} {crc : Nat} {bud : Nat × Nat}
    (hc : s.cmp.comp = some c) (hd : c.complete = false) (he : compErrs c.fallback [] s = []) (hu : ueLayers c.fallback [] s = [])
    (hr : crcLayers c.fallback s = [])
    (ht : ∀ x ∈ frameSrcs c.fallback s, tileErrs ((frameSrcs c.fallback s).map (fun y => y.lev)) x = [])
    (hw : c.fallback = true ∨ s.bit CMP_WB_CTRL_ACT_WB_EN = false) (hbank : frameCodes c.fallback s = bank)
    (hcrc : crc32 (bankBytes bank) = crc) (hbud : budgetOf bank s = bud)
    (hk : k = { c with complete := true, bad := 0, crc := crc, budget := bud.1, est := bud.2 })
    (h0 : b0 = if s.cmp.play = 0 then s.cmp.bank0 else bank) (h1 : b1 = if s.cmp.play = 0 then bank else s.cmp.bank1) :
    execCompositionComplete [] s
      = (({ s with cmp := { s.cmp with comp := some k, bank0 := b0, bank1 := b1 }, freeCtr := s.freeCtr + 1 } : State).wr
          CMP_STAT_COMPOSING 0).wr PXA_BUDGET_NEXT_B bud.1 := by
  have hf : (s.forL (frameSrcs c.fallback s) (fun x u =>
      u.forL (tileErrs ((frameSrcs c.fallback s).map (fun y => y.lev)) x) (fun i v =>
        raise 0x21 (x.lev.1 * 2 ^ 29 + i) (v.bump CMP_COUNT_TILE_ERRS)))) = s :=
    forL_none fun x hx t => by rw [ht x hx]; rfl
  have hn : s.forL [] (fun k u => raise 0x22 k u) = s := rfl
  simp only [execCompositionComplete, hc, hd, hbank, hcrc, hbud, he, hu, hr, noteErrs_nil, State.when, hn, hf, fbRegionUe_nil,
    List.isEmpty_nil, List.any_nil, Bool.not_true, Bool.false_eq_true, if_false]
  have e0 : (if (if s.cmp.play = 0 then 1 else 0) = 0 then bank else s.cmp.bank0) = b0 := by
    rw [h0]
    by_cases hp : s.cmp.play = 0
    · rw [if_pos hp, if_pos hp, if_neg Nat.one_ne_zero]
    · rw [if_neg hp, if_neg hp, if_pos rfl]
  have e1 : (if (if s.cmp.play = 0 then 1 else 0) = 1 then bank else s.cmp.bank1) = b1 := by
    rw [h1]
    by_cases hp : s.cmp.play = 0
    · rw [if_pos hp, if_pos hp, if_pos rfl]
    · rw [if_neg hp, if_neg hp, if_neg Nat.zero_ne_one]
  rw [e0, e1, composed_bit, ← hk]
  refine if_neg fun h => ?_
  rw [Bool.and_eq_true, Bool.not_eq_true'] at h
  exact hw.elim (fun hf => Bool.false_ne_true (h.1.symm.trans hf)) fun hb => Bool.false_ne_true (hb.symm.trans h.2)

/-- Settles O20. -/
theorem composition : Obligations.Composition := by
  refine ⟨fun s a b t hp hpll htick hcs ha hoff hb hrel ht lim u hlim hu => ?_,
    fun s c hp hc hd he hue hr htl hw bank k b0 b1 hbank hk h0 h1 => exec_runs hp rfl
      (compositionComplete_clean hc hd he hue hr htl hw hbank.symm rfl rfl hk h0 h1)⟩
  have hb0 : StandsOn (b.rd DEV_LADDER_RUNG) b.smc b := ⟨rfl, rfl⟩
  rw [← decide_composeFor hb0 hrel] at ht
  have hu0 : StandsOn (b.rd DEV_LADDER_RUNG) b.smc u := by
    rw [hu, ht]
    exact .upd (setLevels_standsOn hb0)
  have hstart := compositionStart_latches hpll htick hcs ha hoff hb ht hlim hu
  refine ⟨fun h2 => exec_runs hp rfl (hstart.trans (composeNext_none ?_)),
    fun h1 k hk => exec_runs hp rfl (hstart.trans (composeNext_some ?_ (hu0.2.symm ▸ hrel) hk))⟩
  · rw [composeFor_noRelease hu0 hrel, if_neg (by omega), if_neg (by omega)]
  · rw [composeFor_noRelease hu0 hrel]
    rcases Nat.le_one_iff_eq_zero_or_eq_one.mp h1 with h | h
    · rw [h]; rfl
    · rw [h]; rfl

end Sys2Proof.Machine
end

section
/-! PROOF. Safety messages (O21). -/
namespace Sys2Proof.Machine

/-! ### A copy arrives -/

theorem notLater_false {h : State} {q : Nat}
    (hl : h.smc.decided → later 16 q (h.rd SMC_MSG_LAST_SSEQ) = true) :
    (h.smc.decided && !later 16 q (h.rd SMC_MSG_LAST_SSEQ)) = false := by
  cases hd : h.smc.decided with
  | false => rfl
  | true => rw [hl hd]; rfl

section
variable {o : Outst} {s t h : State} (ho : msgOver t = false) (hh : h = holdCmd o t)
include ho hh

/-- While no window is over, the copy is held and then judged. -/
theorem safeMsg_held : holdCmd o (if msgOver t then msgWindowEnd t else t) = h := by
  rw [hh, if_neg (ne_true_of_eq_false ho)]

theorem safeMsg_malformed (hf : msgFormed o = false) : safeMsg o t = answerLater (msgReply 8 o (h.bump SMC_COUNT1_LATE)) := by
  simp only [safeMsg, safeMsg_held ho hh, hf, Bool.not_false, if_true, msgLate]

theorem safeMsg_notLater (hf : msgFormed o = true) (hd : h.smc.decided = true)
    (hl : later 16 (msgSseq o) (h.rd SMC_MSG_LAST_SSEQ) = false) :
    safeMsg o t = answerLater (msgReply 7 o (h.bump SMC_COUNT1_LATE)) := by
  simp only [safeMsg, safeMsg_held ho hh, hf, hd, hl, Bool.not_true, Bool.not_false, Bool.and_self, Bool.false_eq_true,
    if_true, if_false, msgLate]

section
variable (hf : msgFormed o = true) (hl : h.smc.decided → later 16 (msgSseq o) (h.rd SMC_MSG_LAST_SSEQ) = true)
include hf hl

theorem safeMsg_opens (hn : h.smc.msg = none) : safeMsg o t = answerLater (msgOpen o h) := by
  simp only [safeMsg, safeMsg_held ho hh, hf, notLater_false hl, hn, Bool.not_true, Bool.false_eq_true, if_false]

theorem safeMsg_twin {p : SafePend} (hp : h.smc.msg = some p) (hq : msgSseq p.o = msgSseq o) (hport : p.o.cmd.port ≠ o.cmd.port) :
    safeMsg o t = answerLater (msgTwin p.o o h) := by
  simp only [safeMsg, safeMsg_held ho hh, hf, notLater_false hl, hp, hq, hport, Bool.not_true, Bool.false_eq_true, if_false, if_true]

end
end

section
variable {o p : Outst} {s : State}

theorem msgOpen_window (h : hbSilent o.cmd.port.other.num s = false
    ∨ (msgRestrictive o.cmd.p0 = false ∧ s.bit SMC_PROFILE_SOLO_OK = false)) : msgOpen o s
      = ((({ s with smc := { s.smc with msg := some ⟨o, s.now⟩ } } : State).wr SMC_MSG_PENDING 1).wr SMC_MSG_PEND_PORT
          o.cmd.port.num) := by
  refine if_neg ?_
  rintro ⟨hs, hr⟩
  rcases h with h | ⟨h1, h2⟩
  · exact Bool.false_ne_true (h.symm.trans hs)
  · exact hr.elim (fun e => Bool.false_ne_true (h1.symm.trans e)) fun e => Bool.false_ne_true (h2.symm.trans e)

theorem msgOpen_alone (hs : hbSilent o.cmd.port.other.num s = true)
    (hr : msgRestrictive o.cmd.p0 = true ∨ s.bit SMC_PROFILE_SOLO_OK = true) :
    msgOpen o s = msgReply (msgAct o.cmd.p0 (msgSseq o) 3 s).2 o (msgAct o.cmd.p0 (msgSseq o) 3 s).1 := if_pos ⟨hs, hr⟩

theorem msgTwin_equal {u : State} {w : Nat} (h0 : p.cmd.p0 = o.cmd.p0) (h1 : p.cmd.w 1 = o.cmd.w 1)
    (ha : msgAct o.cmd.p0 (msgSseq o) 1 s = (u, w)) : msgTwin p o s = msgReply w o (msgReply w p u) := by
  simp only [msgTwin, h0, h1, and_self, if_true, ha]

end

/-! ### An acted message -/

section
variable {p0 : Nat} {s : State}

theorem actMsg_blankAll (hk : msgKind p0 = 1) (hz : msgZones p0 = 0xFF) (hr : s.rd DEV_LADDER_RUNG < 4) :
    actMsg p0 s = (goDark 0 s, false) := by
  simp only [actMsg, hk, actBlank, hz, hr, and_self, if_true]

theorem actMsg_blankZones (hk : msgKind p0 = 1) (hz : msgZones p0 ≠ 0xFF) (hn : s.smc.release = none) :
    actMsg p0 s = (zonesOff (msgZones p0) s, false) := by
  simp only [actMsg, hk, actBlank, hz, hn, false_and, if_false]

theorem actMsg_release_refused (hk : msgKind p0 = 2) (hc : msgArg p0 < s.rd SMC_STAT_CEILING) :
    actMsg p0 s = (s, true) := by
  simp only [actMsg, hk, hc, if_true]

theorem actMsg_release_plain (hk : msgKind p0 = 2) (hc : s.rd SMC_STAT_CEILING ≤ 2) (ha : msgArg p0 = 2)
    (hn : s.smc.release = none) : actMsg p0 s = ({ s with smc := { s.smc with
      release := some ⟨2, msgZones p0, decide (2 < s.rd DEV_LADDER_RUNG), false, 0⟩ } }, false) := by
  have ht : decide ((2 : Nat) ≤ 1) = false := by decide
  have h1 : ¬ ((2 : Nat) = 1 ∧ (!degradedFReady s) = true) := fun h => absurd h.1 (by decide)
  simp only [actMsg, hk, ha, Nat.not_lt.mpr hc, actRelease, hn, ht, State.when, Bool.false_eq_true, if_false, h1,
    Option.map_none, Option.getD_none, Nat.zero_or]

theorem actMsg_cut (hk : msgKind p0 = 3) (ha : msgArg p0 = 0) :
    actMsg p0 s = ({ s with smc := { s.smc with modeCut := true, modeHigh := false } }, false) := by
  simp only [actMsg, hk, ha, if_true]

theorem actMsg_high_refused (hk : msgKind p0 = 3) (ha : msgArg p0 ≠ 0) (hb : s.bit SMC_PROFILE_HB_ALLOWED = false) :
    actMsg p0 s = (s, true) := by
  simp only [actMsg, hk, ha, hb, Bool.false_eq_true, if_false]

theorem actMsg_high (hk : msgKind p0 = 3) (ha : msgArg p0 ≠ 0) (hb : s.bit SMC_PROFILE_HB_ALLOWED = true) :
    actMsg p0 s = ({ s with smc := { s.smc with modeHigh := true, modeCut := false } }, false) := by
  simp only [actMsg, hk, ha, hb, if_true, if_false]

end

/-- Settles O21. -/
theorem safetyMessages : Obligations.SafetyMessages := by
  refine ⟨fun c s t h o ha ht ho hov hh => ?_, fun p0 s => ⟨actMsg_blankAll, actMsg_blankZones, actMsg_release_refused,
    fun hk hc hg hn r hr => by rw [hr]; exact actMsg_release_plain hk hc hg hn, actMsg_cut, actMsg_high_refused,
    actMsg_high⟩⟩
  subst ht ho
  refine ⟨fun hf => ?_, fun hf hd hl => ?_, fun hf hl => ⟨fun hn hw => ?_, fun hn hs hr => ?_,
    fun p hp hq hport h0 h1 u w hact => ?_⟩⟩
  · exact exec_admits_later ha rfl (safeMsg_malformed hov hh hf)
  · exact exec_admits_later ha rfl (safeMsg_notLater hov hh hf hd hl)
  · exact exec_admits_later ha rfl ((safeMsg_opens hov hh hf hl hn).trans (congrArg answerLater (msgOpen_window hw)))
  · exact exec_admits_later ha rfl ((safeMsg_opens hov hh hf hl hn).trans (congrArg answerLater (msgOpen_alone hs hr)))
  · exact exec_admits_later ha rfl ((safeMsg_twin hov hh hf hl hp hq hport).trans
      (congrArg answerLater (msgTwin_equal h0 h1 hact)))

end Sys2Proof.Machine
end

section
/-! PROOF. The safety parameter block, SAFE_STATUS and SAFE_TEST (O22). -/
namespace Sys2Proof.Machine

theorem selfRun_passes (code : Nat) (s : State) : selfRun code false s = s.clrBit SMC_SELF_RESULT code := if_neg Bool.false_ne_true

theorem selfRun_fails (code : Nat) (s : State) : selfRun code true s = selfFail code (s.setBit SMC_SELF_RESULT code) := if_pos rfl

section
variable {o : Outst} {s : State} {c : Cmd} {w : List Nat}

/-- A seal fuse that is not programmed, or that holds the block's digest, does not refuse it. -/
theorem sealFuse_matches (h : s.smc.sealFuse.all (fun d => decide (d = spbDigest w)) = true) :
    s.smc.sealFuse.any (fun d => decide (d ≠ spbDigest w)) = false := by
  cases hf : s.smc.sealFuse with
  | none => rfl
  | some d =>
    rw [hf] at h
    have hd : d = spbDigest w := of_decide_eq_true h
    exact decide_eq_false (not_not_intro hd)

theorem spbMode_trial {p0 : Nat} (h : p0 = 0) : ¬ (8 ≤ p0 ∨ 2 ≤ p0 % 4 ∨ (decide (p0 / 4 % 2 = 1) = true ∧ p0 % 4 = 0)
    ∨ (p0 % 4 = 1 ∧ s.smc.sealFuse.isSome = true)) := by
  simp [h]

theorem spbMode_sealing {p0 : Nat} (hn : s.smc.sealFuse.isSome = false) (h : p0 = 1 ∨ p0 = 5) :
    ¬ (8 ≤ p0 ∨ 2 ≤ p0 % 4 ∨ (decide (p0 / 4 % 2 = 1) = true ∧ p0 % 4 = 0)
      ∨ (p0 % 4 = 1 ∧ s.smc.sealFuse.isSome = true)) := by
  rcases h with h | h
  · simp [h, hn]
  · simp [h, hn]

section
variable (ho : o.cmd = c) (hw : w = c.words.map BitVec.toNat) (hb : s.smc.spbNext.any (fun p => p.cmd.isSome) = false)
  (hd : s.smc.sealFuse.all (fun d => decide (d = spbDigest w)) = true)
include ho hw hb hd

theorem spbLoad_trial (h0 : c.p0 = 0) (hc : spbCheck w s = none) :
    spbLoad o s = ok { s with smc := { s.smc with spbNext := s.smc.spbNext ++ [⟨w, false, false, none⟩] } } := by
  subst ho hw
  refine (if_neg (spbMode_trial h0)).trans ?_
  simp only [hb, sealFuse_matches hd, hc, h0, Nat.zero_mod, Bool.false_eq_true, if_false, if_true]

theorem spbLoad_rejected {code i : Nat} (h0 : c.p0 = 0) (hc : spbCheck w s = some (code, i)) :
    spbLoad o s = ans (smcLoadErr 0x41 code i s) .tableRejected := by
  subst ho hw
  refine (if_neg (spbMode_trial h0)).trans ?_
  simp only [hb, sealFuse_matches hd, hc, Bool.false_eq_true, if_false]

theorem spbLoad_sealing (h15 : c.p0 = 1 ∨ c.p0 = 5) (hn : s.smc.sealFuse = none) (hc : spbCheck w s = none) :
    spbLoad o s = answerLater (holdCmd o { s with smc := { s.smc with
      spbNext := s.smc.spbNext ++ [⟨w, true, decide (c.p0 = 5), some o⟩] } }) := by
  subst ho hw
  have hm : o.cmd.p0 % 4 ≠ 0 := by omega
  have hl : decide (o.cmd.p0 / 4 % 2 = 1) = decide (o.cmd.p0 = 5) := decide_eq_decide.mpr (by omega)
  refine (if_neg (spbMode_sealing (by rw [hn]; rfl) h15)).trans ?_
  simp only [hb, sealFuse_matches hd, hc, hm, hl, Bool.false_eq_true, if_false]

end

/-- The fuse is programmed for the sealing block. -/
theorem spbSealDone_burns {lock : Bool} (h : s.smc.spbNext.find? (fun p => p.cmd.isSome) = some ⟨w, true, lock, some o⟩) :
    execSpbSealDone s = finishSt o .ok (burnFuses w lock { s with smc := { s.smc with
      spbNext := s.smc.spbNext.map (fun p => { p with cmd := none }) } }) := by
  simp only [execSpbSealDone, h]

section
variable (ho : o.cmd = c) (h4 : c.p0 / 4 % 1024 = 0) (h3 : c.p0 % 4 ≠ 3)
include ho h4 h3

theorem safeTest_checker_passes (h1 : c.p0 / 4096 = 1) (hr : c.obs.getD 0 7 % 8 = 7) :
    safeTest o s = okW (s.clrBit SMC_SELF_RESULT 4) [7] := by
  subst ho
  simp only [safeTest, h4, h3, h1, hr, ne_eq, not_true_eq_false, if_false]
  exact congrArg (okW · [7]) (selfRun_passes 4 s)

theorem safeTest_checker_fails (h1 : c.p0 / 4096 = 1) (hr : c.obs.getD 0 7 % 8 ≠ 7) :
    safeTest o s = okW (selfFail 4 (s.setBit SMC_SELF_RESULT 4)) [c.obs.getD 0 7 % 8] := by
  subst ho
  simp only [safeTest, h4, h3, h1, hr, selfRun_fails, ne_eq, not_true_eq_false, not_false_eq_true, decide_true, if_false]

theorem safeTest_forced (h1 : c.p0 / 4096 = 3) (hr : s.rd DEV_LADDER_RUNG = 4) : safeTest o s
    = answerLater (holdCmd o { s with smc := { s.smc with forceFail := s.smc.forceFail ++ [(c.p0 % 4, o)] } }) := by
  subst ho
  simp only [safeTest, h4, h3, h1, hr, ne_eq, not_true_eq_false, if_false]

theorem safeTest_lit (h1 : c.p0 / 4096 = 3) (hr : s.rd DEV_LADDER_RUNG ≠ 4) : safeTest o s = ans s .safeState := by
  subst ho
  simp only [safeTest, h4, h3, h1, hr, ne_eq, not_true_eq_false, not_false_eq_true, if_false, if_true]

end
end

/-- Settles O22. -/
theorem safetyBlock : Obligations.SafetyBlock := by
  refine fun c s t => ⟨fun h ht hb hd => ⟨fun h0 hc k hk => ?_, fun h15 hn hc k hk => ?_, fun code i h0 hc => ?_⟩,
    fun w lock o l hp hf hl => exec_runs hp rfl ?_, fun h ht h0 => ?_,
    fun h ht h4 h3 => ⟨fun h1 hobs => ?_, fun h1 hobs => ?_, fun h1 hr l hl => ?_, fun h1 hr => ?_⟩⟩
  · subst ht hk
    exact exec_admits h rfl (spbLoad_trial (o := issued .spbLoad c s) rfl rfl hb hd h0 hc)
  · subst ht hk
    exact exec_admits_later h rfl (spbLoad_sealing (o := issued .spbLoad c s) rfl rfl hb hd h15 hn hc)
  · subst ht
    exact exec_admits h rfl (spbLoad_rejected (o := issued .spbLoad c s) rfl rfl hb hd h0 hc)
  · subst hl
    exact spbSealDone_burns hf
  · subst ht
    exact exec_admits h rfl (if_neg (not_not_intro h0))
  · subst ht
    exact exec_admits h rfl (safeTest_checker_passes (o := issued .safeTest c s) rfl h4 h3 h1 hobs)
  · subst ht
    exact exec_admits h rfl (safeTest_checker_fails (o := issued .safeTest c s) rfl h4 h3 h1 hobs)
  · subst ht hl
    exact exec_admits_later h rfl (safeTest_forced (o := issued .safeTest c s) rfl h4 h3 h1 hr)
  · subst ht
    exact exec_admits h rfl (safeTest_lit (o := issued .safeTest c s) rfl h4 h3 h1 hr)

end Sys2Proof.Machine
end

section
/-! PROOF. Safety requests, straps, self-checks and ALIVE (O23). -/
namespace Sys2Proof.Machine

section
variable {s u : State}

theorem safeSns_disagrees {sns : Bool} (hu : u = s.wr SMC_STAT_SAFE_SNS (boolNat sns)) (h : sns ≠ u.bit SMC_STAT_SAFE_OFF) :
    execSafeSnsTimeout sns s = refreshCeiling 0x43 (raise 0x43 2 (u.setBit SMC_OFFPULSE_FAILED 2)) := by
  subst hu
  exact if_neg h

theorem safeSns_agrees {sns : Bool} (hu : u = s.wr SMC_STAT_SAFE_SNS (boolNat sns)) (h : sns = u.bit SMC_STAT_SAFE_OFF) :
    execSafeSnsTimeout sns s = u := by
  subst hu
  exact if_pos h

/-- The window of a restrictive copy ends with its act alone. -/
theorem windowEnd_restrictive {p : SafePend} {w : Nat} (hm : s.smc.msg = some p) (hr : msgRestrictive p.o.cmd.p0 = true)
    (ha : msgAct p.o.cmd.p0 (msgSseq p.o) 2 s = (u, w)) :
    execSafeMsgWindowEnd s = msgReply w p.o (raise 0x41 (msgSseq p.o + 2 * 65536) u) := by
  simp only [execSafeMsgWindowEnd, msgWindowEnd, hm, hr, ha, if_true]

theorem windowEnd_discarded {p : SafePend} (hm : s.smc.msg = some p) (hr : msgRestrictive p.o.cmd.p0 = false) :
    execSafeMsgWindowEnd s
      = msgReply 4 p.o (raise 0x41 (msgSseq p.o + 4 * 65536) (msgDecide (msgSseq p.o) 4 s)) := by
  simp only [execSafeMsgWindowEnd, msgWindowEnd, hm, hr, Bool.false_eq_true, if_false]

/-- The first read of the straps latches their levels. -/
theorem strapLatch_first {v0 v1 : BitVec 16} (hv : s.bit SMC_STRAPS_VALID = false)
    (hu : u = (s.wr SMC_STRAPS_NOW0 (strapLevel v0)).wr SMC_STRAPS_NOW1 (strapLevel v1)) :
    execStrapLatch v0 v1 s = refreshCeiling 0 (chooseProfile (((u.wr SMC_STRAPS_LEVEL0 (strapLevel v0)).wr
      SMC_STRAPS_LEVEL1 (strapLevel v1)).wr SMC_STRAPS_VALID 1)) := by
  subst hu
  exact if_neg (ne_true_of_eq_false hv)

/-- A later read counts the levels that differ, and the fourth in a row is a change. -/
theorem strapRead_counts {v0 v1 : BitVec 16} {n0 n1 : Nat} {t : State} (hp : ¬ (s.pmu.off = true ∨ 2 ≤ s.rd PMU_STAT_STATE))
    (hv : s.bit SMC_STRAPS_VALID = true)
    (h0 : n0 = (if strapLevel v0 = s.rd SMC_STRAPS_LEVEL0 then 0 else s.smc.strapBad0 + 1))
    (h1 : n1 = (if strapLevel v1 = s.rd SMC_STRAPS_LEVEL1 then 0 else s.smc.strapBad1 + 1))
    (ht : t = ({ s with smc := { s.smc with strapBad0 := min n0 4, strapBad1 := min n1 4 } } : State))
    (hu : u = (t.wr SMC_STRAPS_NOW0 (strapLevel v0)).wr SMC_STRAPS_NOW1 (strapLevel v1)) :
    execStrapRead v0 v1 s = if 4 ≤ n0 ∨ 4 ≤ n1 then strapChange u else u := by
  subst hu ht
  simp only [execStrapRead, hv, ← h0, ← h1, hp, Bool.not_true, Bool.false_eq_true, if_false, decide_eq_true_eq]

end

theorem isPowered_awake {s : State} (h : isPowered s = true) : ¬ (s.pmu.off = true ∨ 2 ≤ s.rd PMU_STAT_STATE) := by
  simp only [isPowered, Bool.and_eq_true, Bool.not_eq_true', decide_eq_true_eq] at h
  obtain ⟨⟨-, hoff⟩, hst⟩ := h
  rw [hoff]
  simp only [Bool.false_eq_true, false_or]
  omega

/-- The samples of the straps run while the engine is powered. -/
theorem strapRead_runs {v0 v1 : BitVec 16} {s t : State} (hp : isPowered s = true) (ht : execStrapRead v0 v1 s = t) :
    exec (.strapRead v0 v1) s = .next t := by
  rw [← ht]
  exact congrArg Host.Outcome.next (if_pos (by rw [hp, Bool.true_or]))

/-- Settles O23. -/
theorem safetyPins : Obligations.SafetyPins := by
  refine ⟨fun s hp => ⟨exec_runs hp rfl rfl, exec_runs hp rfl rfl, fun h => exec_runs hp rfl (if_pos h),
      fun sns u hu h => exec_runs hp rfl (safeSns_disagrees hu h), fun sns u hu h => exec_runs hp rfl (safeSns_agrees hu h),
      fun hm => exec_runs hp rfl (by simp only [execSafeMsgWindowEnd, msgWindowEnd, hm]),
      fun p u w hm hr ha => exec_runs hp rfl (windowEnd_restrictive hm hr ha),
      fun p hm hr => exec_runs hp rfl (windowEnd_discarded hm hr)⟩,
    fun s hp => ⟨fun v0 v1 t ht hv => exec_runs hp rfl (strapLatch_first hv ht),
      fun v0 v1 n0 n1 t u hv h0 h1 ht hu => ?_, fun k => exec_runs hp rfl (selfRun_passes k.val s),
      fun k => exec_runs hp rfl (selfRun_fails k.val s), fun h => exec_runs hp rfl (if_pos h),
      fun hr h => exec_runs hp rfl (if_pos ⟨hr, h⟩), fun h => exec_runs hp rfl (if_neg ?_)⟩⟩
  · have hr := strapRead_counts (isPowered_awake hp) hv h0 h1 ht hu
    exact ⟨fun h0 h1 => strapRead_runs hp (hr.trans (if_neg (by omega))), fun h => strapRead_runs hp (hr.trans (if_pos h))⟩
  · rintro ⟨-, h'⟩
    exact Bool.false_ne_true (h.symm.trans h')

end Sys2Proof.Machine
end

section
/-! PROOF. An event reaches the fault collector (O24). -/
namespace Sys2Proof.Machine

theorem requireRung_zero (cause : Nat) (s : State) : requireRung 0 cause s = s := rfl

/-- An event whose effective severity has an empty reaction is counted and recorded, and nothing else. -/
theorem handleEvent_quiet {src sev detail : Nat} {drop : Bool} {s u t v : State} {fns : List Nat} {n e : Nat}
    (hs : sourceAssigned src = true) (hu : u = traceEvent 1 src s)
    (hf : fns = (u.rd DEV_FN_FN :: storeGet [] u.fcr.wins src).take 15)
    (hj : judgeEvent (u.reg (FCR_SRCn_CFG src)) sev (u.rd DEV_FN_FN) fns = (n, e))
    (hb : (u.reg (FCR_SRCn_RCT src)).toNat / 2 ^ (8 * e) % 256 = 0)
    (ht : t = ((({ u with fcr := { u.fcr with wins := storeSet [] u.fcr.wins src fns } } : State).bump
      (FCR_SRCn_STAT_TOTAL src)).wr (FCR_SRCn_STAT_COUNT src) n).wr (FCR_SRCn_STAT_SEV src) e)
    (hv : v = (t.wr FCR_STAT_LAST_SRC src).wr FCR_STAT_MAX_SEV (max e (t.rd FCR_STAT_MAX_SEV))) :
    handleEvent src sev detail drop s = attnFault e (histRecord
      ⟨u.rd DEV_FN_FN, src * 2 ^ 24 + e * 2 ^ 22 + sev % 4 * 2 ^ 20 + n * 2 ^ 16 + v.rd DEV_LADDER_RUNG * 2 ^ 13,
       detail % 2 ^ 32, v.rd SCN_POS_SLOT * 2 ^ 28 + stitchNow v * 2 ^ 16 + v.rd FCR_HIST_STAT_NEXT_HSEQ⟩ drop false v) := by
  have h0 : decide (128 ≤ 0) = false := by decide
  have h1 : decide (0 / 64 % 2 = 1) = false := by decide
  simp only [handleEvent, hs, ← hu, ← hf, hj, hb, ← ht, ← hv, requireRung_zero, State.when, boolNat, Bool.not_true,
    Bool.false_eq_true, if_false, h0, h1, Bool.false_and, Nat.zero_mod, Nat.zero_mul, Nat.add_zero]

/-- Settles O24. -/
theorem faultEvents : Obligations.FaultEvents := by
  refine fun src sev detail drop s hp => ⟨fun hs => exec_runs hp rfl (if_pos (by rw [hs]; rfl)),
    fun hs u t fns n e hu hf hj hb ht v hv => exec_runs hp rfl ?_⟩
  have h := handleEvent_quiet (detail := detail.toNat) (drop := drop) hs hu hf hj hb ht hv
  rw [Nat.mod_eq_of_lt sev.isLt, Nat.mod_eq_of_lt detail.isLt] at h
  exact h

end Sys2Proof.Machine
end

section
/-!
PROOF. A write of one field of a control register, said once: the word that it leaves, the bits that it acts on, and that a
stored register takes its own value back.
-/
namespace Sys2Proof.Machine

/-! ### The bits of a word -/

theorem getLsbD_setBits (w : Word) {msb lsb v i : Nat} (h1 : lsb ≤ msb) (h2 : msb < 32) :
    (setBits w msb lsb v).getLsbD i = if lsb ≤ i ∧ i ≤ msb then v.testBit (i - lsb) else w.getLsbD i := by
  have ha : v % 2 ^ (msb + 1 - lsb) * 2 ^ lsb + w.toNat % 2 ^ lsb < 2 ^ (msb + 1) := by
    have hp : 2 ^ (msb + 1) = 2 ^ (msb + 1 - lsb) * 2 ^ lsb := by rw [← Nat.pow_add]; congr 1; omega
    have a2 : v % 2 ^ (msb + 1 - lsb) < 2 ^ (msb + 1 - lsb) := Nat.mod_lt _ (Nat.two_pow_pos _)
    have a3 : w.toNat % 2 ^ lsb < 2 ^ lsb := Nat.mod_lt _ (Nat.two_pow_pos _)
    have b2 : (v % 2 ^ (msb + 1 - lsb) + 1) * 2 ^ lsb ≤ 2 ^ (msb + 1 - lsb) * 2 ^ lsb := Nat.mul_le_mul_right _ a2
    rw [Nat.add_mul, ← hp] at b2
    omega
  have hc : w.toNat % 2 ^ lsb < 2 ^ lsb := Nat.mod_lt _ (Nat.two_pow_pos _)
  rw [BitVec.getLsbD, toNat_setBits w msb lsb v h1 h2, Nat.add_assoc, Nat.mul_comm, Nat.testBit_two_pow_mul_add _ ha,
    Nat.mul_comm _ (2 ^ lsb), Nat.testBit_two_pow_mul_add _ hc, BitVec.getLsbD]
  by_cases hi : i < msb + 1
  · rw [if_pos hi]
    by_cases hl : i < lsb
    · rw [if_pos hl, if_neg (by omega), Nat.testBit_mod_two_pow, decide_eq_true hl, Bool.true_and]
    · rw [if_neg hl, if_pos (by omega), Nat.testBit_mod_two_pow, decide_eq_true (by omega : i - lsb < msb + 1 - lsb), Bool.true_and]
  · rw [if_neg hi, if_neg (by omega), Nat.testBit_div_two_pow]
    congr 1
    omega

theorem setBits_bits (w : Word) (msb lsb : Nat) (h1 : lsb ≤ msb) (h2 : msb < 32) : setBits w msb lsb (bits w msb lsb) = w := by
  refine BitVec.eq_of_getLsbD_eq fun i _ => ?_
  rw [getLsbD_setBits w h1 h2]
  split
  · rw [bits, Nat.testBit_mod_two_pow, Nat.testBit_div_two_pow, decide_eq_true (by omega), Bool.true_and, BitVec.getLsbD]
    congr 1
    omega
  · rfl

/-- The mask of a field. -/
def Fld.mask (f : Fld) : Word := setBits 0#32 f.msb f.lsb f.top

/-- A field lies in a word. -/
def Fld.sound (f : Fld) : Bool := decide (f.lsb ≤ f.msb ∧ f.msb < 32)

theorem getLsbD_mask {f : Fld} (h : f.sound = true) (i : Nat) : f.mask.getLsbD i = decide (f.lsb ≤ i ∧ i ≤ f.msb) := by
  obtain ⟨h1, h2⟩ := of_decide_eq_true h
  rw [Fld.mask, getLsbD_setBits _ h1 h2]
  split
  · rw [Fld.top, Nat.testBit_two_pow_sub_one, decide_eq_true (by omega), decide_eq_true (by assumption)]
  · rw [decide_eq_false (by assumption)]
    exact BitVec.getLsbD_zero

/-- A write that acts on one field leaves the word with that field replaced. -/
theorem masked_eq_setBits {f : Fld} (h : f.sound = true) (w : Word) (v : Nat) :
    (w &&& ~~~f.mask) ||| (setBits 0#32 f.msb f.lsb v &&& f.mask) = setBits w f.msb f.lsb v := by
  obtain ⟨h1, h2⟩ := of_decide_eq_true h
  refine BitVec.eq_of_getLsbD_eq fun i hi => ?_
  rw [BitVec.getLsbD_or, BitVec.getLsbD_and, BitVec.getLsbD_and, BitVec.getLsbD_not, getLsbD_mask h, getLsbD_setBits _ h1 h2,
    getLsbD_setBits _ h1 h2]
  by_cases hf : f.lsb ≤ i ∧ i ≤ f.msb
  · simp [hf]
  · simp [hf, hi]

/-- The bits of such a word that the write acts on. -/
theorem setBits_and_mask {f : Fld} (h : f.sound = true) (w : Word) (v : Nat) :
    setBits w f.msb f.lsb v &&& f.mask = setBits 0#32 f.msb f.lsb v := by
  obtain ⟨h1, h2⟩ := of_decide_eq_true h
  refine BitVec.eq_of_getLsbD_eq fun i _ => ?_
  rw [BitVec.getLsbD_and, getLsbD_mask h, getLsbD_setBits _ h1 h2, getLsbD_setBits _ h1 h2]
  by_cases hf : f.lsb ≤ i ∧ i ≤ f.msb
  · simp [hf]
  · simp [hf]

/-! ### A register takes its own value back -/

section
variable {α : Type} {m : List (Nat × α)} {k : Nat}

theorem storeGet_above (d : α) (h : ∀ q ∈ m, k < q.1) : storeGet d m k = d := by
  induction m with
  | nil => rfl
  | cons p m ih =>
    obtain ⟨a, v⟩ := p
    have ha : k < a := h _ (List.mem_cons_self ..)
    exact (if_neg ha.ne').trans (ih fun q hq => h q (List.mem_cons_of_mem _ hq))

theorem storeDel_above (h : ∀ q ∈ m, k < q.1) : storeDel k m = m := by
  induction m with
  | nil => rfl
  | cons p m ih =>
    obtain ⟨a, v⟩ := p
    have ha : k < a := h _ (List.mem_cons_self ..)
    exact (if_neg ha.ne').trans (congrArg _ (ih fun q hq => h q (List.mem_cons_of_mem _ hq)))

theorem storeIns_above (v : α) (h : ∀ q ∈ m, k < q.1) : storeIns k v m = (k, v) :: m := by
  cases m with
  | nil => rfl
  | cons p m => exact if_pos (h _ (List.mem_cons_self ..))

end

/-- A store takes back the value that it holds. -/
theorem storeSet_get {α : Type} [DecidableEq α] (d : Nat → α) (m : List (Nat × α)) (k : Nat) (h : storeWf d m = true) :
    storeSet (d k) m k (storeGet (d k) m k) = m := by
  induction m with
  | nil => exact if_pos rfl
  | cons p m ih =>
    obtain ⟨a, v⟩ := p
    obtain ⟨hv, hlt, hm⟩ := (storeWf_cons d _ _).mp h
    have ih := ih hm
    by_cases ha : a = k
    · subst ha
      rw [storeGet, if_pos rfl, storeSet, if_neg hv, storeDel, if_pos rfl, storeDel_above hlt, storeIns_above v hlt]
    · rw [storeGet, if_neg ha]
      rw [storeSet] at ih ⊢
      by_cases hd : storeGet (d k) m k = d k
      · rw [if_pos hd] at ih ⊢
        rw [storeDel, if_neg ha, ih]
      · rw [if_neg hd] at ih ⊢
        have hka : ¬ k < a := fun hka => hd (storeGet_above _ fun q hq => hka.trans (hlt q hq))
        rw [storeDel, if_neg ha, storeIns, if_neg hka, ih]

theorem State.setReg_self {s : State} (hs : s.canonical = true) (a : Nat) : s.setReg a (s.reg a) = s := by
  obtain ⟨hr, -, -⟩ := canonical_iff.mp hs
  exact congrArg (fun r => { s with regs := r }) (storeSet_get regReset s.regs a hr)

theorem State.wr_rd_self {s : State} (hs : s.canonical = true) {f : Fld} (hf : f.sound = true) : s.wr f (s.rd f) = s := by
  obtain ⟨h1, h2⟩ := of_decide_eq_true hf
  rw [State.wr, State.rd, setBits_bits _ _ _ h1 h2, State.setReg_self hs]

/-! ### Ranges -/

/-- No range of the field maps names a field of the register at `a`. -/
def freeOfRange (a : Nat) : Bool :=
  (blockRanges (a / 0x10000)).all (fun r => decide (r.1.addr ≠ a))
    && decide (a ∉ [CMP_BW_CFG, PXH_VERIFY, LE0_CFG, LE1_LVL_CFG, LE1_LVL_LIM, LE1_HALL_SUM, LE1_FAN_MAP, ADC_SKEW])
    && (List.range 8).all (fun k => decide (a ≠ CMP_Lk_DST_POS k))

theorem rangeOk_of_free {a : Nat} (h : freeOfRange a = true) (v : Word) : rangeOk a v = true := by
  simp only [freeOfRange, Bool.and_eq_true, decide_eq_true_eq, List.mem_cons, List.not_mem_nil, or_false, not_or,
    List.all_eq_true] at h
  obtain ⟨⟨hb, h1, h2, h3, h4, h5, h6, h7, h8⟩, hk⟩ := h
  rw [rangeOk, Bool.and_eq_true, List.all_eq_true]
  refine ⟨fun r hr => by rw [decide_eq_true (hb r hr), Bool.true_or], ?_⟩
  simp only [relationOk, h1, h2, h3, h4, h5, h6, h7, h8, if_false]
  split
  · exact List.all_eq_true.mpr fun k hr => by rw [decide_eq_true (hk k hr), Bool.true_or]
  · rfl

/-! ### The write of a field -/

/-- What a write of `v` to the control field `f` leads to: the counters clear where the write asks for that, and then the register
has its effect, with the word `x` that the write leaves. -/
theorem writeField_ctrl {f : Fld} {v : Nat} {s : State} {x : Word} {h : State × Status} (hf : f.sound = true)
    (hc : plainCtrl f.addr = true) (hr : freeOfRange f.addr = true) (hb : blockOff s f.addr = false)
    (hx : x = setBits (s.reg f.addr) f.msb f.lsb v)
    (hh : regHook f.addr x f.mask (cntClr f.addr x f.mask s) = h) :
    writeField f v s = answered (if went h then h else (s, h.2)) := by
  subst hh
  have hx' : x = (s.reg f.addr &&& ~~~f.mask) ||| (setBits 0#32 f.msb f.lsb v &&& f.mask) := by
    rw [hx, masked_eq_setBits hf]
  exact congrArg answered (regWrite_ctrl hc hb hx' (rangeOk_of_free hr x))

/-- Whether such a write acts on the field `g`, and puts a 1 there, is decided by the write alone. -/
theorem hits_setBits {f : Fld} (hf : f.sound = true) (w : Word) (v : Nat) (g : Fld) :
    hits g (setBits w f.msb f.lsb v) f.mask = decide (fv (setBits 0#32 f.msb f.lsb v) g ≠ 0) := by
  rw [hits, setBits_and_mask hf]

/-- A register's write through its mask changes nothing where the mask leaves the written field out. -/
theorem State.wrWord_outside {s : State} (hs : s.canonical = true) {f : Fld} (hf : f.sound = true) {v : Nat}
    (hm : ((regInfo f.addr).map (fun r => BitVec.ofNat 32 r.wmask &&& f.mask)).getD 0#32 = 0#32) :
    s.wrWord f.addr (setBits (s.reg f.addr) f.msb f.lsb v) = s := by
  have hw : s.maskWord f.addr (setBits (s.reg f.addr) f.msb f.lsb v) = s.reg f.addr := by
    unfold State.maskWord
    cases hi : regInfo f.addr with
    | none => rfl
    | some r =>
      rw [hi] at hm
      have h0 : BitVec.ofNat 32 r.wmask &&& f.mask = 0#32 := hm
      obtain ⟨h1, h2⟩ := of_decide_eq_true hf
      refine BitVec.eq_of_getLsbD_eq fun i hi => ?_
      have hb := congrArg (fun w => w.getLsbD i) h0
      simp only [BitVec.getLsbD_and, getLsbD_mask hf, BitVec.getLsbD_zero] at hb
      rw [BitVec.getLsbD_or, BitVec.getLsbD_and, BitVec.getLsbD_and, BitVec.getLsbD_not, getLsbD_setBits _ h1 h2]
      by_cases hin : f.lsb ≤ i ∧ i ≤ f.msb
      · rw [decide_eq_true hin, Bool.and_true] at hb
        rw [hb, decide_eq_true hi, Bool.not_false, Bool.and_true, Bool.and_true, Bool.and_false, Bool.or_false]
      · cases hbit : (BitVec.ofNat 32 r.wmask).getLsbD i with
        | false => simp [hi]
        | true => simp [hin]
  rw [State.wrWord, hw, State.setReg_self hs]

end Sys2Proof.Machine
end

section
/-!
PROOF. The counter clears: what each CNT_CLR bit clears, and that its write has no other effect.
-/
namespace Sys2Proof.Machine

/-! ### What a clear leaves -/

/-- The register at `a` reads as it did in `s`, and the stores are canonical. -/
structure Cleared (a : Nat) (s t : State) : Prop where
  reg : t.reg a = s.reg a
  canonical : t.canonical = true

section
variable {a : Nat} {s t : State}

theorem Cleared.refl (hs : s.canonical = true) : Cleared a s s := ⟨rfl, hs⟩

theorem Cleared.setReg (h : Cleared a s t) {b : Nat} (hb : b ≠ a) (v : Word) : Cleared a s (t.setReg b v) :=
  ⟨by rw [State.reg_setReg, if_neg hb, h.reg], (State.setReg_keeps (Keeps.refl false t)).canonical h.canonical⟩

theorem Cleared.wr (h : Cleared a s t) {f : Fld} (hf : f.addr ≠ a) (v : Nat) : Cleared a s (t.wr f v) :=
  h.setReg hf _

theorem Cleared.foldl {α : Type} {l : List α} {g : State → α → State}
    (hg : ∀ x ∈ l, ∀ u, Cleared a s u → Cleared a s (g u x)) (h : Cleared a s t) : Cleared a s (l.foldl g t) := by
  induction l generalizing t with
  | nil => exact h
  | cons x l ih =>
    exact ih (fun y hy => hg y (List.mem_cons_of_mem _ hy)) (hg x (List.mem_cons_self ..) t h)

theorem Cleared.zeroed (hs : s.canonical = true) {l : List Nat} (hl : a ∉ l) : Cleared a s (Obligations.zeroed l s) :=
  (Cleared.refl hs).foldl fun _ hb _ hu => hu.setReg (fun hba => hl (hba ▸ hb)) _

end

/-! ### The write of a CNT_CLR bit -/

/-- The field is a CNT_CLR bit of a control register without ranges, outside the register's write mask. -/
def clearBit (f : Fld) : Bool :=
  f.sound && plainCtrl f.addr && freeOfRange f.addr && decide (fv (setBits 0#32 f.msb f.lsb 1) f ≠ 0)
    && decide (((regInfo f.addr).map (fun r => BitVec.ofNat 32 r.wmask &&& f.mask)).getD 0#32 = 0#32)

/-- The write of a field has no effect beside the clear. -/
def NoEffect (f : Fld) (t : State) : Prop := regHook f.addr (setBits (t.reg f.addr) f.msb f.lsb 1) f.mask t = (t, .ok)

section
variable {f : Fld} {g : State → State} {s t : State}

theorem clearBit_parts (h : clearBit f = true) : f.sound = true ∧ plainCtrl f.addr = true ∧ freeOfRange f.addr = true ∧
    fv (setBits 0#32 f.msb f.lsb 1) f ≠ 0 ∧
    ((regInfo f.addr).map (fun r => BitVec.ofNat 32 r.wmask &&& f.mask)).getD 0#32 = 0#32 := by
  simp only [clearBit, Bool.and_eq_true, decide_eq_true_eq] at h
  obtain ⟨⟨⟨⟨h1, h2⟩, h3⟩, h4⟩, h5⟩ := h
  exact ⟨h1, h2, h3, h4, h5⟩

theorem writeField_clears (hf : clearBit f = true) (hc : cntClrOf f.addr = some (f, g)) (hb : blockOff s f.addr = false)
    (ht : g s = t) (hk : Cleared f.addr s t) (hn : NoEffect f t) : writeField f 1 s = answered (t, .ok) := by
  subst ht
  obtain ⟨hsound, hp, hr, h1, -⟩ := clearBit_parts hf
  have hclr : cntClr f.addr (setBits (s.reg f.addr) f.msb f.lsb 1) f.mask s = g s := by
    rw [cntClr, hc]
    exact if_pos ((hits_setBits hsound _ _ _).trans (decide_eq_true h1))
  have hx : setBits (s.reg f.addr) f.msb f.lsb 1 = setBits ((g s).reg f.addr) f.msb f.lsb 1 := by rw [hk.reg]
  rw [writeField_ctrl hsound hp hr hb rfl rfl, hclr, hx, hn]
  rfl

/-- Where a register has no effect of its own, the bits that the write leaves are those it held. -/
theorem noEffect_stored (hf : clearBit f = true) (ht : t.canonical = true)
    (hr : regHook f.addr (setBits (t.reg f.addr) f.msb f.lsb 1) f.mask t
      = (t.wrWord f.addr (setBits (t.reg f.addr) f.msb f.lsb 1), .ok)) : NoEffect f t := by
  obtain ⟨hsound, -, -, -, hm⟩ := clearBit_parts hf
  rw [NoEffect, hr, State.wrWord_outside ht hsound hm]

end

/-! ### The hook of a block -/

section
variable {a : Nat} {x m : Word} {t : State}

theorem regHook_hl0 (h : a / 0x10000 = 0x1) : regHook a x m t = hlWrite 0 a x m t := by
  simp only [regHook, h]

theorem regHook_hl1 (h : a / 0x10000 = 0x2) : regHook a x m t = hlWrite 1 a x m t := by
  simp only [regHook, h]

theorem regHook_cmd (h : a / 0x10000 = 0x3) : regHook a x m t = cmdWrite a x m t := by
  simp only [regHook, h]

theorem regHook_ccx (h : a / 0x10000 = 0x4) : regHook a x m t = ccxWrite a x m t := by
  simp only [regHook, h]

theorem regHook_scn (h : a / 0x10000 = 0x7) : regHook a x m t = scnWrite a x m t := by
  simp only [regHook, h]

theorem regHook_thm (h : a / 0x10000 = 0xB) : regHook a x m t = thmWrite a x m t := by
  simp only [regHook, h]

theorem regHook_le0 (h : a / 0x10000 = 0xC) : regHook a x m t = le0Write a x m t := by
  simp only [regHook, h]

theorem regHook_le1 (h : a / 0x10000 = 0xD) : regHook a x m t = le1Write a x m t := by
  simp only [regHook, h]

theorem regHook_adc (h : a / 0x10000 = 0xE) : regHook a x m t = adcWrite a x m t := by
  simp only [regHook, h]

theorem regHook_pmu (h : a / 0x10000 = 0x10) : regHook a x m t = pmuWrite a x m t := by
  simp only [regHook, h]

theorem regHook_cku (h : a / 0x10000 = 0x11) : regHook a x m t = ckuWrite a x m t := by
  simp only [regHook, h]

theorem regHook_crc (h : a / 0x10000 = 0x12) : regHook a x m t = crcWrite a x m t := by
  simp only [regHook, h]

theorem regHook_smem (h : a / 0x10000 = 0x14) : regHook a x m t = smemRegWrite a x m t := by
  simp only [regHook, h]

/-- The blocks whose registers have no effect but the value stored. -/
theorem regHook_stores (h : a / 0x10000 ∈ [0x5, 0x6, 0x8, 0x9, 0xA, 0xF, 0x13, 0x15]) : regHook a x m t = (t.wrWord a x, .ok) := by
  simp only [List.mem_cons, List.not_mem_nil, or_false] at h
  rcases h with h | h | h | h | h | h | h | h <;> simp only [regHook, h]

end

/-! ### The registers with effects of their own -/

section
variable {t : State}

/-- Neither the field nor what it starts is touched by a write of the bits `m` of `x`. -/
theorem enableBit_apart {f : Fld} {x m : Word} {en dis : State → State × Status} (h : actsOn f m = false) :
    enableBit f x m en dis t = (t, .ok) :=
  if_neg (by rw [h]; exact Bool.false_ne_true)

theorem onHit_apart {f : Fld} {x m : Word} {g : State → State × Status} (h : hits f x m = false) :
    onHit f x m g t = (t, .ok) :=
  if_neg (by rw [h]; exact Bool.false_ne_true)

theorem hits_setBits_none {f g : Fld} (hf : f.sound = true) (w : Word) {v : Nat}
    (hv : fv (setBits 0#32 f.msb f.lsb v) g = 0) : hits g (setBits w f.msb f.lsb v) f.mask = false :=
  (hits_setBits hf w v g).trans (decide_eq_false (not_not_intro hv))

theorem hlWrite_apart {p : Nat} {x m : Word} (he : actsOn (HLx_CTRL_EN p) m = false) (hr : hits (HLx_CTRL_RETRAIN p) x m = false) :
    hlWrite p (HLx_CTRL p) x m t = (t, .ok) := by
  rw [hlWrite, if_pos rfl, enableBit_apart he]
  exact if_neg fun h => Bool.false_ne_true (hr.symm.trans h.2)

theorem scnWrite_apart {x m : Word} (hr : actsOn SCN_CTRL_RUN m = false) (hso : actsOn SCN_CTRL_SO_EN m = false) :
    scnWrite SCN_CTRL x m t = (t, .ok) := by
  rw [scnWrite, if_pos rfl, hr, hso]
  rfl

theorem thmWrite_apart {x m : Word} (h : hits THM_CTRL_XCHK_RUN x m = false) :
    thmWrite THM_CTRL x m t = (t.wrWord THM_CTRL x, .ok) := by
  rw [thmWrite, if_pos rfl, h]
  rfl

theorem andThen_apart {u : State} {g : State → State × Status} (hg : g u = (u, .ok)) : andThen (u, .ok) g = (u, .ok) := by
  have hw : went (u, Status.ok) = true := rfl
  simp only [andThen, hw, hg, if_true]

theorem ccxWrite_apart {x m : Word} (h1 : hits CCX_CTRL_CKPT x m = false) (h2 : hits CCX_CTRL_RST_CCA x m = false)
    (h3 : hits CCX_CTRL_RST_CCB x m = false) (h4 : hits CCX_CTRL_SWAP x m = false) :
    ccxWrite CCX_CTRL x m t = (t.wrWord CCX_CTRL x, .ok) := by
  rw [ccxWrite, if_pos rfl, onHit_apart h1, andThen_apart (onHit_apart h2), andThen_apart (onHit_apart h3),
    andThen_apart (onHit_apart h4)]

theorem le0Write_apart {x m : Word} (he : actsOn LE0_CTRL_EN m = false) :
    le0Write LE0_CTRL x m t = (t.wr LE0_CTRL_AUTO (fv x LE0_CTRL_AUTO), .ok) := by
  rw [le0Write, if_pos rfl, enableBit_apart he]
  rfl

theorem adcWrite_stores {a : Nat} {x m : Word} (ha : ¬ (ADC_SQn_CTRL 0 ≤ a ∧ a < ADC_SQn_CTRL 8)) (hb : adcRegBusy a t = false) :
    adcWrite a x m t = (t.wrWord a x, .ok) := by
  rw [adcWrite, if_neg fun h => ha ⟨h.1, h.2.1⟩, if_neg fun h => ha ⟨h.1, h.2.1⟩, hb, if_neg Bool.false_ne_true,
    if_neg fun h => ha ⟨h.1, h.2.1⟩]

theorem pmuWrite_apart {x m : Word} (h : hits PMU_CTRL_SWRST x m = false) : pmuWrite PMU_CTRL x m t = (t, .ok) := by
  rw [pmuWrite, if_pos rfl, h]
  rfl

theorem crcWrite_stores {a : Nat} {x m : Word} (ha : ¬ (CRC_Un_CFG 0 ≤ a ∧ a < CRC_Un_CFG 4)) (hs : a ≠ CRC_SCAN_CTRL) :
    crcWrite a x m t = (t.wrWord a x, .ok) := by
  rw [crcWrite, if_neg ha, if_neg hs]

theorem cmdWrite_stores {a : Nat} {x m : Word} (ha : a ≠ CMD_KEY_CTRL) (hs : ¬ (CMD_KEY_STAGEn 0 ≤ a ∧ a < CMD_KEY_STAGEn 4)) :
    cmdWrite a x m t = (t.wrWord a x, .ok) := by
  rw [cmdWrite, if_neg ha, if_neg hs]

theorem smemWrite_apart {x m : Word} (h : hits SMEM_CTRL_TRAIN x m = false) :
    smemRegWrite SMEM_CTRL x m t = (t.wr SMEM_CTRL_GUARD (fv x SMEM_CTRL_GUARD), .ok) := by
  rw [smemRegWrite, if_pos rfl, h]
  rfl

/-! ### A CNT_CLR bit of these has no effect beside the clear -/

theorem hlCtrl_noEffect (p : Port) : NoEffect (HLx_CTRL_CNT_CLR p.num) t := by
  cases p
  · exact (regHook_hl0 (by decide)).trans (hlWrite_apart (by decide) (hits_setBits_none (by decide) _ (by decide)))
  · exact (regHook_hl1 (by decide)).trans (hlWrite_apart (by decide) (hits_setBits_none (by decide) _ (by decide)))

theorem scnCtrl_noEffect : NoEffect SCN_CTRL_CNT_CLR t :=
  (regHook_scn (by decide)).trans (scnWrite_apart (by decide) (by decide))

theorem thmCtrl_noEffect (ht : t.canonical = true) : NoEffect THM_CTRL_CNT_CLR t :=
  noEffect_stored (by decide) ht
    ((regHook_thm (by decide)).trans (thmWrite_apart (hits_setBits_none (by decide) _ (by decide))))

theorem ccxCtrl_noEffect (ht : t.canonical = true) : NoEffect CCX_CTRL_CNT_CLR t :=
  noEffect_stored (by decide) ht ((regHook_ccx (by decide)).trans
    (ccxWrite_apart (hits_setBits_none (by decide) _ (by decide)) (hits_setBits_none (by decide) _ (by decide))
      (hits_setBits_none (by decide) _ (by decide)) (hits_setBits_none (by decide) _ (by decide))))

/-- The field's neighbour below takes its own value back. -/
theorem wr_below_self (ht : t.canonical = true) {f g : Fld} (hf : f.sound = true) (hg : g.sound = true) (ha : g.addr = f.addr)
    (hfg : g.msb < f.lsb) (v : Nat) : t.wr g (fv (setBits (t.reg f.addr) f.msb f.lsb v) g) = t := by
  obtain ⟨h1, h2⟩ := of_decide_eq_true hf
  have hv : fv (setBits (t.reg f.addr) f.msb f.lsb v) g = t.rd g := by
    rw [fv, bits_setBits_below _ _ _ _ _ _ h1 h2 hfg, State.rd, ha]
  rw [hv, State.wr_rd_self ht hg]

theorem le0Ctrl_noEffect (ht : t.canonical = true) : NoEffect LE0_CTRL_CNT_CLR t :=
  ((regHook_le0 (by decide)).trans (le0Write_apart (by decide))).trans
    (congrArg (·, Status.ok) (wr_below_self ht (f := LE0_CTRL_CNT_CLR) (g := LE0_CTRL_AUTO) (by decide) (by decide) rfl (by decide) 1))

theorem smemCtrl_noEffect (ht : t.canonical = true) : NoEffect SMEM_CTRL_CNT_CLR t :=
  ((regHook_smem (by decide)).trans (smemWrite_apart (hits_setBits_none (by decide) _ (by decide)))).trans
    (congrArg (·, Status.ok) (wr_below_self ht (f := SMEM_CTRL_CNT_CLR) (g := SMEM_CTRL_GUARD) (by decide) (by decide) rfl (by decide) 1))

theorem adcCtrl_noEffect (ht : t.canonical = true) : NoEffect ADC_CTRL_CNT_CLR t := by
  have hb : adcRegBusy ADC_CTRL t = false := by
    refine List.any_eq_false.mpr fun n hn => ?_
    have hn : n < 8 := List.mem_range.mp hn
    have ha : ¬ (ADC_CTRL = ADC_SQn_CFG n ∨ ADC_CTRL = ADC_SQn_BOB_BASE n ∨ ADC_CTRL = ADC_SQn_BOB_CFG n
        ∨ (ADC_SQn_Ei n 0 ≤ ADC_CTRL ∧ ADC_CTRL < ADC_SQn_Ei n 16)) := by
      simp only [ADC_CTRL, ADC_SQn_CFG, ADC_SQn_BOB_BASE, ADC_SQn_BOB_CFG, ADC_SQn_Ei]
      omega
    rw [decide_eq_true_eq]
    exact fun h => ha h.2
  exact noEffect_stored (by decide) ht ((regHook_adc (by decide)).trans (adcWrite_stores (by decide) hb))

theorem pmuCtrl_noEffect : NoEffect PMU_CTRL_CNT_CLR t :=
  (regHook_pmu (by decide)).trans (pmuWrite_apart (hits_setBits_none (by decide) _ (by decide)))

theorem crcCtrl_noEffect (ht : t.canonical = true) : NoEffect CRC_CTRL_CNT_CLR t :=
  noEffect_stored (by decide) ht ((regHook_crc (by decide)).trans (crcWrite_stores (by decide) (by decide)))

theorem cmdCtrl_noEffect (ht : t.canonical = true) : NoEffect CMD_CTRL_CNT_CLR t :=
  noEffect_stored (by decide) ht ((regHook_cmd (by decide)).trans (cmdWrite_stores (by decide) (by decide)))

end

/-! ### The rows -/

section
variable {f : Fld} {g : State → State} {s t : State}

/-- A row that clears the registers of a list. -/
theorem writeField_zeroes {l : List Nat} (hs : s.canonical = true) (hf : clearBit f = true) (hc : cntClrOf f.addr = some (f, g))
    (hb : blockOff s f.addr = false) (hg : g s = Obligations.zeroed l s) (hl : f.addr ∉ l)
    (hn : ∀ t, t.canonical = true → NoEffect f t) : writeField f 1 s = answered (Obligations.zeroed l s, .ok) :=
  writeField_clears hf hc hb hg (Cleared.zeroed hs hl) (hn _ (Cleared.zeroed hs hl).canonical)

theorem stores_noEffect (hf : clearBit f = true) (hb : f.addr / 0x10000 ∈ [0x5, 0x6, 0x8, 0x9, 0xA, 0xF, 0x13, 0x15])
    (t : State) (ht : t.canonical = true) : NoEffect f t :=
  noEffect_stored hf ht (regHook_stores hb)

/-- Neither CMP nor SMEM: no clock of the register is ever off (R442). -/
theorem blockOff_elsewhere {a : Nat} (h6 : a / 0x10000 ≠ 6) (h14 : a / 0x10000 ≠ 0x14) : blockOff s a = false := by
  rw [blockOff, decide_eq_false h6, decide_eq_false h14]
  rfl

/-- The same where the block's clock never stops. -/
theorem writeField_zeroes_on {l : List Nat} (hs : s.canonical = true) (hf : clearBit f = true)
    (hc : cntClrOf f.addr = some (f, g)) (hb : f.addr / 0x10000 ≠ 6 ∧ f.addr / 0x10000 ≠ 0x14 ∧ f.addr ∉ l)
    (hg : g s = Obligations.zeroed l s) (hn : ∀ t, t.canonical = true → NoEffect f t) :
    writeField f 1 s = answered (Obligations.zeroed l s, .ok) := by
  obtain ⟨h6, h14, hl⟩ := hb
  exact writeField_zeroes hs hf hc (blockOff_elsewhere h6 h14) hg hl hn

theorem hlxCntClr_clears (hs : s.canonical = true) (p : Port) :
    execHlxCntClr p s = answered (Obligations.zeroed [HLx_COUNT0 p.num, HLx_COUNT1 p.num, HLx_COUNT2 p.num] s, .ok) := by
  have hc : cntClrOf (HLx_CTRL p.num) = some (HLx_CTRL_CNT_CLR p.num, hlCntClr p.num) := by
    cases p
    all_goals rfl
  refine writeField_zeroes hs ?_ hc (blockOff_elsewhere ?_ ?_) rfl ?_ fun _ _ => hlCtrl_noEffect p
  all_goals
    cases p
    all_goals decide

theorem seqCntClr_clears (hs : s.canonical = true) (q : Fin 4) :
    execSeqCntClr q s = answered (Obligations.zeroed [SEQ_COUNT q.val] s, .ok) := by
  have hc : cntClrOf (SEQ_CTRL q.val) = some (SEQ_CTRL_CNT_CLR q.val, seqCntClr q.val) := by
    match q with
    | 0 => rfl
    | 1 => rfl
    | 2 => rfl
    | 3 => rfl
  have hf : ∀ q : Fin 4, clearBit (SEQ_CTRL_CNT_CLR q.val) = true := by decide
  have hb : (SEQ_CTRL_CNT_CLR q.val).addr / 0x10000 = 8 := by
    exact (by decide : ∀ q : Fin 4, SEQ_CTRL q.val / 0x10000 = 8) q
  have hne : ∀ q : Fin 4, SEQ_CTRL q.val ∉ [SEQ_COUNT q.val] := by decide
  refine writeField_zeroes hs (hf q) hc (blockOff_elsewhere ?_ ?_) rfl (hne q) (stores_noEffect (hf q) ?_)
  all_goals
    rw [hb]
    decide

end

section
variable {s : State}

theorem fcrCntClr_cleared (hs : s.canonical = true) : Cleared FCR_CTRL s (fcrCntClr s) := by
  have hne : ∀ r ∈ faultSources, (FCR_SRCn_STAT_TOTAL r.1).addr ≠ FCR_CTRL := by
    intro r _
    simp only [FCR_SRCn_STAT_TOTAL, FCR_SRCn_STAT, FCR_CTRL]
    omega
  exact ((Cleared.refl hs).foldl (fun r hr _ hu => hu.wr (hne r hr) 0)).wr (by decide) 0

theorem crcCntClr_cleared (hs : s.canonical = true) : Cleared CRC_CTRL s (crcCntClr s) := by
  have hne : ∀ n ∈ List.range 4, (CRC_Un_STAT_MISMATCH n).addr ≠ CRC_CTRL := by decide
  exact ((Cleared.refl hs).setReg (by decide) _).foldl fun n hn _ hu => hu.wr (hne n hn) 0

theorem pmuCntClr_cleared (hs : s.canonical = true) : Cleared PMU_CTRL s (pmuCntClr s) :=
  ((Cleared.refl hs).wr (by decide) 0).wr (by decide) 0

/-- A block's clock that runs. -/
theorem blockOff_cmp (h : cmpOff s = false) : blockOff s CMP_CTRL = false := by
  rw [blockOff, h]
  rfl

theorem blockOff_smem (h : smemOff s = false) : blockOff s SMEM_CTRL = false := by
  rw [blockOff, h]
  rfl

end

/-- Settles O26: each CNT_CLR bit clears its block's counters and nothing else, as no other field is acted on. -/
theorem counterClears : Obligations.CounterClears := by
  intro s hp hs
  refine ⟨fun p => exec_runs hp rfl (hlxCntClr_clears hs p), ?lme, ?scn, ?smc, ?pxh, ?thm, ?le0, ?adc, ?fcr, ?cmd, ?ccx, ?pxa,
    fun q => exec_runs hp rfl (seqCntClr_clears hs q), fun hc => ?cmp, fun hc => ?smem, ?crc, ?cal, ?pmu⟩
  all_goals refine exec_runs hp rfl ?_
  case scn => exact writeField_zeroes_on hs (by decide) rfl (by decide) rfl fun _ _ => scnCtrl_noEffect
  case thm => exact writeField_zeroes_on hs (by decide) rfl (by decide) rfl fun _ => thmCtrl_noEffect
  case le0 => exact writeField_zeroes_on hs (by decide) rfl (by decide) rfl fun _ => le0Ctrl_noEffect
  case cmd => exact writeField_zeroes_on hs (by decide) rfl (by decide) rfl fun _ => cmdCtrl_noEffect
  case ccx => exact writeField_zeroes_on hs (by decide) rfl (by decide) rfl fun _ => ccxCtrl_noEffect
  case smc => exact writeField_zeroes_on hs (by decide) rfl (by decide) rfl (stores_noEffect (by decide) (by decide))
  case pxh => exact writeField_zeroes_on hs (by decide) rfl (by decide) rfl (stores_noEffect (by decide) (by decide))
  case pxa => exact writeField_zeroes_on hs (by decide) rfl (by decide) rfl (stores_noEffect (by decide) (by decide))
  case cal => exact writeField_zeroes_on hs (by decide) rfl (by decide) rfl (stores_noEffect (by decide) (by decide))
  case cmp => exact writeField_zeroes hs (by decide) rfl (blockOff_cmp hc) rfl (by decide) (stores_noEffect (by decide) (by decide))
  case lme => exact writeField_zeroes_on hs (by decide) rfl (by decide) rfl (stores_noEffect (by decide) (by decide))
  case adc => exact writeField_zeroes_on hs (by decide) rfl (by decide) rfl fun _ => adcCtrl_noEffect
  case smem => exact writeField_zeroes hs (by decide) rfl (blockOff_smem hc) rfl (by decide) fun _ => smemCtrl_noEffect
  case fcr =>
    exact writeField_clears (by decide) rfl (blockOff_elsewhere (by decide) (by decide)) rfl (fcrCntClr_cleared hs)
      (stores_noEffect (by decide) (by decide) _ (fcrCntClr_cleared hs).canonical)
  case crc =>
    exact writeField_clears (by decide) rfl (blockOff_elsewhere (by decide) (by decide)) rfl (crcCntClr_cleared hs)
      (crcCtrl_noEffect (crcCntClr_cleared hs).canonical)
  case pmu =>
    exact writeField_clears (by decide) rfl (blockOff_elsewhere (by decide) (by decide)) rfl (pmuCntClr_cleared hs) pmuCtrl_noEffect

end Sys2Proof.Machine
end

section
/-!
PROOF. The frame PLL: its edges, its windows, RUN and SYNC_OUT.
-/
namespace Sys2Proof.Machine

/-! ### Edges -/

section
variable {rise high : Nat} {s : State}

theorem fsyncEdge_off (h : s.rd SCN_STAT_STATE = 0) : execFsyncEdge rise high s = s := by
  simp only [execFsyncEdge, h, if_true]

theorem fsyncEdge_short (h : s.rd SCN_STAT_STATE ≠ 0) (hs : high < 1000) : execFsyncEdge rise high s = badEdge s := by
  simp only [execFsyncEdge, h, hs, if_false, if_true]

/-- No qualified edge stands a nominal period before this one. -/
theorem noPair (h : ∀ q, s.frame.lastQual = some q → inTol s (rise - q) = false) :
    s.frame.lastQual.any (fun q => inTol s (rise - q)) = false := by
  cases hq : s.frame.lastQual with
  | none => rfl
  | some q => exact h q hq

theorem fsyncEdge_first (h : s.rd SCN_STAT_STATE = 1 ∨ s.rd SCN_STAT_STATE = 4) (hh : 1000 ≤ high)
    (hp : ∀ q, s.frame.lastQual = some q → inTol s (rise - q) = false) : execFsyncEdge rise high s = noteQual rise s := by
  rcases h with h | h
  all_goals simp only [execFsyncEdge, h, Nat.not_lt.mpr hh, noPair hp, OfNat.ofNat_ne_zero, one_ne_zero, Bool.false_eq_true, if_false]

/-- A write of a field leaves the frame's own state alone, and the other way round. -/
theorem wr_setFrame (u : State) (f : Fld) (v : Nat) (x : FrameSt) :
    { u.wr f v with frame := x } = ({ u with frame := x } : State).wr f v := rfl

theorem noteQual_wr (u : State) (f : Fld) (v : Nat) : noteQual rise (u.wr f v) = (noteQual rise u).wr f v := rfl

theorem serveEdge_wr (u : State) (f : Fld) (v : Nat) : serveEdge rise (u.wr f v) = (serveEdge rise u).wr f v := rfl

theorem fsyncEdge_locks {q : Nat} {f g : FrameSt} (h : s.rd SCN_STAT_STATE = 1) (hh : 1000 ≤ high)
    (hq : s.frame.lastQual = some q) (hp : inTol s (rise - q) = true)
    (hg : g = { s.frame with lastQual := some rise, edgeE := some rise, edgeP := rise - q })
    (hf : f = { g with t1 := rise + 1000, perCur := 0, perNext := rise - q }) :
    execFsyncEdge rise high s = ((({ s with frame := f } : State).wr SCN_STAT_STATE 2).wr SCN_STAT_MISSED 0).setReg SCN_PHASE
      (BitVec.ofNat 32 (ofSigned 32 (-1000))) := by
  subst hf hg
  simp only [execFsyncEdge, h, Nat.not_lt.mpr hh, Option.any_some, hp, one_ne_zero, if_false, if_true, hq, pllLock]
  rw [noteQual_wr, noteQual_wr, serveEdge_wr, serveEdge_wr, State.wr_frame, State.wr_frame, wr_setFrame, wr_setFrame]
  rfl

theorem fsyncEdge_relock {q : Nat} {f : FrameSt} (h : s.rd SCN_STAT_STATE = 4) (hh : 1000 ≤ high)
    (hq : s.frame.lastQual = some q) (hp : inTol s (rise - q) = true) (hc : s.frame.perCur ≠ 0)
    (hf : f = { s.frame with lastQual := some rise, edgeE := some rise, edgeP := rise - q, perNext := s.frame.perCur }) :
    execFsyncEdge rise high s = ({ s with frame := f } : State).wr SCN_STAT_STATE 5 := by
  subst hf
  simp only [execFsyncEdge, h, Nat.not_lt.mpr hh, Option.any_some, hp, OfNat.ofNat_ne_zero, if_false, if_true, hq, hc]
  rfl

/-- In LOCKED and HOLDOVER no edge steers: the windows decide. -/
theorem fsyncEdge_windowed (h : s.rd SCN_STAT_STATE = 2 ∨ s.rd SCN_STAT_STATE = 3) (hh : 1000 ≤ high) :
    execFsyncEdge rise high s = noteQual rise
      (if inOpenWindow rise s then
        (if s.frame.winEdge.isSome then badEdge s else inRelock (validEdge rise s.frame.tickAt s))
      else if beforeTick rise s then { s with frame := { s.frame with early := s.frame.early ++ [(rise, false)] } }
      else badEdge s) := by
  rcases h with h | h
  all_goals
    have h5 : ∀ b, (decide ((s.rd SCN_STAT_STATE) = 5) && b) = false := fun b => by rw [h]; rfl
    simp only [execFsyncEdge, h5, Nat.not_lt.mpr hh, Bool.false_eq_true, if_false]
    simp only [h, OfNat.ofNat_ne_zero, if_false]

end

/-! ### Windows and timeouts -/

/-- An open window of a PLL that tests windows. -/
theorem testsWindow {b : Bool} {n : Nat} (hb : b = true) (hn : n = 2 ∨ n = 3 ∨ n = 5) :
    ¬ ((!b) = true ∨ (n ≠ 2 ∧ n ≠ 3 ∧ n ≠ 5)) := by
  subst hb
  rcases hn with rfl | rfl | rfl
  all_goals decide

section
variable {s t u : State} {m : Nat}

theorem fsyncWindowEnd_closed (h : s.frame.winOpen = false) : execFsyncWindowEnd s = s := by
  simp only [execFsyncWindowEnd, h, Bool.not_false, true_or, if_true]

theorem fsyncWindowEnd_edge (hw : s.frame.winOpen = true)
    (hst : s.rd SCN_STAT_STATE = 2 ∨ s.rd SCN_STAT_STATE = 3 ∨ s.rd SCN_STAT_STATE = 5)
    (ht : t = { s with frame := { s.frame with winOpen := false, winEdge := none } }) (he : s.frame.winEdge.isSome = true) :
    execFsyncWindowEnd s = pllLaw (pllLock t) := by
  subst ht
  simp only [execFsyncWindowEnd, if_neg (testsWindow hw hst), he, if_true]

theorem fsyncWindowEnd_missed (hw : s.frame.winOpen = true)
    (hst : s.rd SCN_STAT_STATE = 2 ∨ s.rd SCN_STAT_STATE = 3 ∨ s.rd SCN_STAT_STATE = 5)
    (ht : t = { s with frame := { s.frame with winOpen := false, winEdge := none } }) (he : s.frame.winEdge = none)
    (hm : m = min (t.rd SCN_STAT_MISSED + 1) 255) (hu : u = (t.bump SCN_COUNT_MISSED_TOTAL).wr SCN_STAT_MISSED m) :
    execFsyncWindowEnd s = if s.rd SCN_STAT_STATE = 5 then u
      else if s.rd SCN_STAT_STATE = 2 then (if holdFrames u = 1 then fsyncLost u else u.wr SCN_STAT_STATE 3)
      else if holdFrames u ≤ m then fsyncLost u else u := by
  subst ht
  simp only [execFsyncWindowEnd, if_neg (testsWindow hw hst), he, Option.isSome_none, Bool.false_eq_true, if_false]
  rw [← hm, ← hu]

end

/-! ### RUN and SYNC_OUT -/

section
variable {s : State}

theorem scnStart_off {f g : FrameSt} (h : s.rd SCN_STAT_STATE = 0) (hg : g = { s.frame with lastQual := none, edgeE := none, edgeP := 0 })
    (hf : f = { g with winOpen := false, winEdge := none, ticked := false, perCur := 0, early := [] }) :
    scnStart s = ({ s with frame := f } : State).wr SCN_STAT_STATE 1 := by
  subst hf hg
  exact if_pos h

theorem scnStart_on (h : s.rd SCN_STAT_STATE ≠ 0) : scnStart s = s := if_neg h

/-- A field apart from the written one reads as before. -/
theorem fv_setBits_apart {f g : Fld} (hf : f.sound = true) (ha : g.addr = f.addr) (h : g.msb < f.lsb ∨ f.msb < g.lsb) (v : Nat) :
    fv (setBits (s.reg f.addr) f.msb f.lsb v) g = s.rd g := by
  obtain ⟨h1, h2⟩ := of_decide_eq_true hf
  rw [fv, State.rd, ha]
  rcases h with h | h
  · exact bits_setBits_below _ _ _ _ _ _ h1 h2 h
  · exact bits_setBits_above _ _ _ _ _ _ h1 h2 h

theorem fv_setBits_same {f : Fld} (hf : f.sound = true) (w : Word) (v : Nat) :
    fv (setBits w f.msb f.lsb v) f = v % 2 ^ (f.msb + 1 - f.lsb) := by
  obtain ⟨h1, h2⟩ := of_decide_eq_true hf
  exact bits_setBits_same _ _ _ _ h1 h2

end

/-! ### The write of a field that clears no counter -/

/-- Two fields of a word that share no bit. -/
def Fld.apart (g f : Fld) : Bool := decide (g.msb < f.lsb ∨ f.msb < g.lsb)

/-- A field of a control register without ranges whose clock never stops, and no CNT_CLR bit. -/
def ctrlField (f : Fld) : Bool :=
  f.sound && plainCtrl f.addr && freeOfRange f.addr && decide (f.addr / 0x10000 ≠ 6 ∧ f.addr / 0x10000 ≠ 0x14)
    && (match cntClrOf f.addr with
        | some c => c.1.apart f
        | none => true)

section
variable {f g : Fld} {s : State} {v : Nat} {h : State × Status}

/-- A write of `f` puts no 1 into a field that shares no bit with it. -/
theorem hits_apart (hf : f.sound = true) (hg : g.apart f = true) (w : Word) (v : Nat) :
    hits g (setBits w f.msb f.lsb v) f.mask = false := by
  obtain ⟨h1, h2⟩ := of_decide_eq_true hf
  refine hits_setBits_none hf w ?_
  have h0 : bits (0#32 : Word) g.msb g.lsb = 0 := by
    rw [bits, BitVec.toNat_zero, Nat.zero_div, Nat.zero_mod]
  rcases of_decide_eq_true hg with hg | hg
  · exact (bits_setBits_below _ _ _ _ _ _ h1 h2 hg).trans h0
  · exact (bits_setBits_above _ _ _ _ _ _ h1 h2 hg).trans h0

theorem ctrlField_sound (hf : ctrlField f = true) : f.sound = true := by
  simp only [ctrlField, Bool.and_eq_true] at hf
  exact hf.1.1.1.1

theorem writeField_hook (hf : ctrlField f = true)
    (hh : regHook f.addr (setBits (s.reg f.addr) f.msb f.lsb v) f.mask s = h) :
    writeField f v s = answered (if went h then h else (s, h.2)) := by
  simp only [ctrlField, Bool.and_eq_true, decide_eq_true_eq] at hf
  obtain ⟨⟨⟨⟨hs, hp⟩, hr⟩, h6, h14⟩, hc⟩ := hf
  have hclr : cntClr f.addr (setBits (s.reg f.addr) f.msb f.lsb v) f.mask s = s := by
    rw [cntClr]
    cases hk : cntClrOf f.addr with
    | none => rfl
    | some c =>
      obtain ⟨c, k⟩ := c
      rw [hk] at hc
      exact if_neg (by rw [hits_apart hs hc]; exact Bool.false_ne_true)
  exact writeField_ctrl hs hp hr (blockOff_elsewhere h6 h14) rfl (by rw [hclr]; exact hh)

/-- The write is carried out. -/
theorem writeField_goes {t : State} (hf : ctrlField f = true)
    (hh : regHook f.addr (setBits (s.reg f.addr) f.msb f.lsb v) f.mask s = (t, .ok)) :
    writeField f v s = answered (t, .ok) := by
  rw [writeField_hook hf hh]
  rfl

/-- The write is refused and changes nothing. -/
theorem writeField_refused {t : State} {st : Status} (hst : st ≠ .ok ∧ st ≠ .acceptedPending) (hf : ctrlField f = true)
    (hh : regHook f.addr (setBits (s.reg f.addr) f.msb f.lsb v) f.mask s = (t, st)) :
    writeField f v s = answered (s, st) := by
  have hw : went (t, st) = false := decide_eq_false fun h => h.elim hst.1 hst.2
  rw [writeField_hook hf hh, if_neg (by rw [hw]; exact Bool.false_ne_true)]

/-- A one-bit field takes back its own value. -/
theorem wr_bit_self (hs : s.canonical = true) (hf : f.sound = true) (hb : f.msb = f.lsb) :
    s.wr f (boolNat (s.bit f)) = s := by
  have hlt : s.rd f < 2 := by
    have := Nat.mod_lt ((s.reg f.addr).toNat / 2 ^ f.lsb) (Nat.two_pow_pos (f.msb + 1 - f.lsb))
    rw [hb, Nat.add_sub_cancel_left] at this
    rw [State.rd, bits, hb, Nat.add_sub_cancel_left]
    exact this
  have hv : boolNat (s.bit f) = s.rd f := by
    rw [State.bit, boolNat]
    split
    next h => exact (of_decide_eq_true h).symm
    next h =>
      have hne : s.rd f ≠ 1 := fun hn => h (decide_eq_true hn)
      omega
  rw [hv, State.wr_rd_self hs hf]

end

/-! ### RUN and SO_EN -/

section
variable {s : State}

theorem wr_canonical (hs : s.canonical = true) (f : Fld) (v : Nat) : (s.wr f v).canonical = true :=
  (State.wr_keeps (Keeps.refl false s)).canonical hs

/-- What a write of RUN does. -/
theorem scnWrite_run {v : Nat} {b : Bool} (hv : decide (fv (setBits 0#32 0 0 v) SCN_CTRL_RUN ≠ 0) = b) :
    regHook SCN_CTRL (setBits (s.reg SCN_CTRL) 0 0 v) SCN_CTRL_RUN.mask s
      = (match scnCtrlWrite b (s.bit SCN_CTRL_SO_EN) s with
        | some t => (t, .ok)
        | none => (s, .busy)) := by
  have ha : actsOn SCN_CTRL_RUN SCN_CTRL_RUN.mask = true := by decide
  have hso : fv (setBits (s.reg SCN_CTRL) 0 0 v) SCN_CTRL_SO_EN = s.rd SCN_CTRL_SO_EN :=
    fv_setBits_apart (f := SCN_CTRL_RUN) (g := SCN_CTRL_SO_EN) (by decide) rfl (by decide) v
  have hh : hits SCN_CTRL_RUN (setBits (s.reg SCN_CTRL) 0 0 v) SCN_CTRL_RUN.mask = b :=
    (hits_setBits (f := SCN_CTRL_RUN) (by decide) _ _ _).trans hv
  rw [regHook_scn (by decide), scnWrite, if_pos rfl, ha, if_pos rfl, hso, hh]
  rfl

theorem scnCtrlWrite_busy {so : Bool} (h : s.rd DEV_LADDER_RUNG ≠ 4) : scnCtrlWrite false so s = none :=
  if_pos ⟨rfl, h⟩

/-- SO_EN keeps its value in a write of RUN. -/
theorem wr_run_so (hs : s.canonical = true) (v : Nat) :
    (s.wr SCN_CTRL_RUN v).wr SCN_CTRL_SO_EN (boolNat (s.bit SCN_CTRL_SO_EN)) = s.wr SCN_CTRL_RUN v := by
  have hb : s.bit SCN_CTRL_SO_EN = (s.wr SCN_CTRL_RUN v).bit SCN_CTRL_SO_EN := by
    rw [State.bit, State.bit, State.rd_wr_field _ _ _ _ (by decide) (by decide) (by decide)]
  rw [hb, wr_bit_self (wr_canonical hs _ _) (by decide) (by decide)]

/-- SYNC_OUT goes low where SO_EN is 0. -/
def soLow (so : Bool) (u : State) : State := if so then u else { u with frame := { u.frame with syncOut := false } }

theorem soLow_on (u : State) : soLow true u = u := rfl

theorem scnCtrlWrite_goes {run so : Bool} (h : run = true ∨ s.rd DEV_LADDER_RUNG = 4) : scnCtrlWrite run so s
    = some (if run then scnStart (soLow so ((s.wr SCN_CTRL_RUN (boolNat run)).wr SCN_CTRL_SO_EN (boolNat so)))
        else scnStop (soLow so ((s.wr SCN_CTRL_RUN (boolNat run)).wr SCN_CTRL_SO_EN (boolNat so)))) := by
  have hn : ¬ ((!run) = true ∧ s.rd DEV_LADDER_RUNG ≠ 4) := by
    rcases h with rfl | h
    · exact fun h => Bool.false_ne_true h.1
    · exact fun hn => hn.2 h
  exact if_neg hn

theorem scnCtrlWrite_start (hs : s.canonical = true) (hso : s.bit SCN_CTRL_SO_EN = true) :
    scnCtrlWrite true (s.bit SCN_CTRL_SO_EN) s = some (scnStart (s.wr SCN_CTRL_RUN 1)) := by
  have hb : boolNat true = 1 := rfl
  rw [scnCtrlWrite_goes (.inl rfl), if_pos rfl, wr_run_so hs, hso, soLow_on, hb]

theorem scnStop_soLow (so : Bool) (u : State) : scnStop (soLow so u) = scnStop u := by
  cases so
  · rfl
  · rfl

theorem scnCtrlWrite_stop (hs : s.canonical = true) (hr : s.rd DEV_LADDER_RUNG = 4) :
    scnCtrlWrite false (s.bit SCN_CTRL_SO_EN) s = some (scnStop (s.wr SCN_CTRL_RUN 0)) := by
  have hb : boolNat false = 0 := rfl
  rw [scnCtrlWrite_goes (.inr hr), if_neg Bool.false_ne_true, wr_run_so hs, scnStop_soLow, hb]

/-- SYNC_OUT goes low in a stop, whatever it was. -/
theorem scnStop_eq {f : FrameSt} (ha : s.cmp.atFn = none)
    (hf : f = { s.frame with syncOut := false, winOpen := false, winEdge := none, ticked := false, early := [] }) :
    scnStop s = ((({ s with frame := f } : State).wr SCN_STAT_STATE 0).wr SCN_STAT_MISSED 0).forN 4
      (fun q u => u.wr (SEQ_STAT_MODE q) 0) := by
  subst hf
  have hd : ∀ u : State, u.cmp.atFn = none → dropAt u = u := fun u hu => by
    rw [dropAt, hu]
    rfl
  rw [scnStop]
  exact congrArg (fun u : State => ((u.wr SCN_STAT_STATE 0).wr SCN_STAT_MISSED 0).forN 4 (fun q u => u.wr (SEQ_STAT_MODE q) 0))
    (hd _ ha)

theorem runStop_stops (hs : s.canonical = true) (hr : s.rd DEV_LADDER_RUNG = 4) (ha : s.cmp.atFn = none) {f : FrameSt}
    (hf : f = { s.frame with syncOut := false, winOpen := false, winEdge := none, ticked := false, early := [] }) :
    execScnRunStop s = answered ((List.range 4).foldl (fun u q => u.wr (SEQ_STAT_MODE q) 0)
      (((({ s with frame := f } : State).wr SCN_CTRL_RUN 0).wr SCN_STAT_STATE 0).wr SCN_STAT_MISSED 0), .ok) := by
  refine writeField_goes (by decide) ((scnWrite_run (b := false) (by decide)).trans ?_)
  have hw : scnStop (s.wr SCN_CTRL_RUN 0) = (List.range 4).foldl (fun u q => u.wr (SEQ_STAT_MODE q) 0)
      (((({ s with frame := f } : State).wr SCN_CTRL_RUN 0).wr SCN_STAT_STATE 0).wr SCN_STAT_MISSED 0) := by
    rw [scnStop_eq (f := f) (by rw [State.wr_cmp]; exact ha) (by rw [State.wr_frame]; exact hf), wr_setFrame, State.forN]
  rw [scnCtrlWrite_stop hs hr, hw]

theorem runStop_busy (h : s.rd DEV_LADDER_RUNG ≠ 4) : execScnRunStop s = answered (s, .busy) := by
  refine writeField_refused (t := s) (by decide) (by decide) ((scnWrite_run (b := false) (by decide)).trans ?_)
  rw [scnCtrlWrite_busy h]

theorem runStart_goes (hs : s.canonical = true) (hso : s.bit SCN_CTRL_SO_EN = true) {t : State}
    (ht : scnStart (s.wr SCN_CTRL_RUN 1) = t) : execScnRunStart s = answered (t, .ok) := by
  refine writeField_goes (by decide) ((scnWrite_run (b := true) (by decide)).trans ?_)
  rw [scnCtrlWrite_start hs hso, ht]

theorem scnWrite_so {v : Nat} {b : Bool} (hb : decide (v % 2 = 1) = b) :
    regHook SCN_CTRL (setBits (s.reg SCN_CTRL) 1 1 v) SCN_CTRL_SO_EN.mask s = (soWrite b s, .ok) := by
  have hso : fv (setBits (s.reg SCN_CTRL) 1 1 v) SCN_CTRL_SO_EN = v % 2 := fv_setBits_same (f := SCN_CTRL_SO_EN) (by decide) _ v
  have ha : actsOn SCN_CTRL_SO_EN SCN_CTRL_SO_EN.mask = true := by decide
  have hr : actsOn SCN_CTRL_RUN SCN_CTRL_SO_EN.mask = false := by decide
  rw [regHook_scn (by decide), scnWrite, if_pos rfl, hr, ha, hso, hb]
  rfl

theorem soEn_on : execSoEn true s = answered (s.wr SCN_CTRL_SO_EN 1, .ok) :=
  writeField_goes (by decide) (scnWrite_so (b := true) (by decide))

theorem soEn_off : execSoEn false s
    = answered (({ s with frame := { s.frame with syncOut := false } } : State).wr SCN_CTRL_SO_EN 0, .ok) := by
  refine writeField_goes (by decide) ((scnWrite_so (b := false) (by decide)).trans ?_)
  rw [← wr_setFrame]
  rfl

end

section
variable {rise : Nat} {s : State}

/-- Outside RELOCK the valid edge of a window only shows its phase. -/
theorem inRelock_apart (h : s.rd SCN_STAT_STATE ≠ 5) : inRelock s = s := if_neg h

theorem noteQual_validEdge {f : FrameSt} {t : Nat} {u : State} (hu : u = s.setReg SCN_PHASE (BitVec.ofNat 32 (ofSigned 32 ((rise : Int) - t))))
    (hf : f = { s.frame with lastQual := some rise, winEdge := some rise, edgeE := some rise }) :
    noteQual rise (validEdge rise t s)
      = { u with frame := { f with edgeP := rise - s.frame.edgeE.getD (s.frame.lastQual.getD rise) } } := by
  have comm : ∀ (x : State) (a : Nat) (w : Word), noteQual rise (x.setReg a w) = (noteQual rise x).setReg a w := fun _ _ _ => rfl
  have comm' : ∀ (x : FrameSt) (a : Nat) (w : Word), { s.setReg a w with frame := x } = ({ s with frame := x } : State).setReg a w :=
    fun _ _ _ => rfl
  rw [hu, hf, validEdge, comm, comm']
  rfl

theorem validEdge_state (t : Nat) : (validEdge rise t s).rd SCN_STAT_STATE = s.rd SCN_STAT_STATE := by
  rw [validEdge, State.rd, State.reg_setReg, if_neg (by decide)]
  rfl

end

/-- Settles O27: the PLL's events by the state it stands in, and RUN and SO_EN as the writes of one field each. -/
theorem frameClock : Obligations.FrameClock := by
  refine ⟨fun rise high st s hp hst => ?_, fun s hp => ?_, fun s hp hs => ?_⟩
  · subst hst
    refine ⟨fun h => exec_runs hp rfl (fsyncEdge_off h), fun h hh => exec_runs hp rfl (fsyncEdge_short h hh), fun hh n hn => ?_⟩
    subst hn
    refine ⟨fun h hq => exec_runs hp rfl (fsyncEdge_first (.inl h) hh hq),
      fun q f g h hq hi hg hf => exec_runs hp rfl (fsyncEdge_locks h hh hq hi hg hf), fun u f h hw he hu hf => ?_,
      fun h hw hb l hl => ?_, fun h hb he => ?_, fun h hq => exec_runs hp rfl (fsyncEdge_first (.inr h) hh hq),
      fun q f h hq hi hc hf => exec_runs hp rfl (fsyncEdge_relock h hh hq hi hc hf)⟩
    all_goals refine exec_runs hp rfl ((fsyncEdge_windowed h hh).trans ?_)
    · have h5 : (validEdge rise s.frame.tickAt s).rd SCN_STAT_STATE ≠ 5 := by
        rw [validEdge_state]
        omega
      rw [if_pos hw, he, if_neg (by simp), inRelock_apart h5, noteQual_validEdge hu hf]
    · rw [if_neg (by rw [hw]; exact Bool.false_ne_true), if_pos hb, hl]
      rfl
    · cases hw : inOpenWindow rise s
      · rw [if_neg Bool.false_ne_true, hb hw, if_neg Bool.false_ne_true]
        exact noteQual_wr s _ _
      · rw [if_pos rfl, if_pos (he hw)]
        exact noteQual_wr s _ _
  · refine ⟨fun h => exec_runs hp rfl (fsyncWindowEnd_closed h), fun hw hst t ht =>
      ⟨fun he => exec_runs hp rfl (fsyncWindowEnd_edge hw hst ht he), fun he m u hm hu => ?_⟩,
      fun at_ t h ht => exec_runs hp rfl ?_, fun at_ h => exec_runs hp rfl (if_neg h), fun h => exec_runs hp rfl (if_pos h),
      fun h => exec_runs hp rfl (if_neg h)⟩
    · have hm := fsyncWindowEnd_missed hw hst ht he hm hu
      refine ⟨fun h hf => ?_, fun h hf => ?_, fun h hf => ?_, fun h hf => ?_, fun h => ?_⟩
      all_goals
        refine exec_runs hp rfl (hm.trans ?_)
        rw [h]
      · rw [if_neg (by decide), if_pos rfl, if_neg hf]
      · rw [if_neg (by decide), if_pos rfl, if_pos hf]
      · rw [if_neg (by decide), if_neg (by decide), if_pos hf]
      · rw [if_neg (by decide), if_neg (by decide), if_neg (Nat.not_le.mpr hf)]
      · rw [if_pos rfl]
    · subst ht
      exact if_pos h
  · have hst : (s.wr SCN_CTRL_RUN 1).rd SCN_STAT_STATE = s.rd SCN_STAT_STATE := State.rd_wr_addr _ _ _ _ (by decide)
    refine ⟨fun hso h f g hg hf => exec_runs hp rfl (runStart_goes hs hso ?_),
      fun hso h => exec_runs hp rfl (runStart_goes hs hso (scnStart_on (hst.trans_ne h))), fun h => exec_runs hp rfl (runStop_busy h),
      fun hr ha f hf => exec_runs hp rfl (runStop_stops hs hr ha hf), exec_runs hp rfl soEn_on, exec_runs hp rfl soEn_off,
      fun hso hst ht => exec_runs hp rfl (if_pos ?_), exec_runs hp rfl rfl⟩
    · rw [scnStart_off (f := f) (hst.trans h) (g := g) (by rw [State.wr_frame]; exact hg) hf, wr_setFrame]
    · rw [hso, pllTicks, decide_eq_true hst, ht]
      rfl

end Sys2Proof.Machine
end

section
/-!
PROOF. The events of the slot lists, and the start of a slot period.
-/
namespace Sys2Proof.Machine

section
variable {code w : Nat} {q : Fin 4} {errs : List EccErr} {act : Nat → Nat → State → State} {s u : State}

/-- A due event passes the walk and acts. -/
theorem walk_due (h : Obligations.due code q w errs s = true) (hu : u = Obligations.passed q w errs s) :
    walk code q.val errs act s = act (evStitch w) (evArg w) u := by
  subst hu
  rw [Obligations.due] at h
  rw [walk]
  cases hn : nextEvent s q.val with
  | none => rw [hn] at h; cases h
  | some x =>
    obtain ⟨v, a⟩ := x
    simp only [hn, Bool.and_eq_true, decide_eq_true_eq, Bool.not_eq_true'] at h
    obtain ⟨⟨hv, hc⟩, ha⟩ := h
    subst hv
    simp only [ha, hc, Bool.false_eq_true, if_false, ne_eq, not_true_eq_false]
    rfl

theorem walkArray_behind (h : behindSeq0 q.val s = true) : walkArray code q.val errs act s = s := if_pos h

theorem walkArray_issued (hb : behindSeq0 q.val s = false) (hm : q.val = arrayMaster s)
    (h : Obligations.due code q w errs s = true) (hu : u = Obligations.passed q w errs s) :
    walkArray code q.val errs act s = act (evStitch w) (evArg w) u := by
  rw [walkArray, hb, if_neg Bool.false_ne_true, walk_due h hu, if_pos hm]

theorem walkArray_copy (hb : behindSeq0 q.val s = false) (hm : q.val ≠ arrayMaster s)
    (h : Obligations.due code q w errs s = true) (hu : u = Obligations.passed q w errs s) :
    walkArray code q.val errs act s = u := by
  rw [walkArray, hb, if_neg Bool.false_ne_true, walk_due h hu, if_neg hm]

end

/-! ### Slot periods -/

section
variable {errs : List EccErr} {s u v : State} {k : Nat}

theorem slotPeriod_none (h : s.rd SCN_STAT_STATE ≤ 1 ∨ s.frame.ticked = false ∨ slotsOf s ≤ s.frame.slotNext
    ∨ (s.frame.slotNext ≠ 0 ∧ slotDone s = false)) : execSlotPeriodStart errs s = s := by
  refine if_pos ?_
  rcases h with h | h | h | ⟨h, hd⟩
  · exact .inl (by rw [pllTicks, decide_eq_false (by omega)]; rfl)
  · exact .inr (.inl (by rw [h]; rfl))
  · exact .inr (.inr (.inl h))
  · exact .inr (.inr (.inr ⟨h, by rw [hd]; rfl⟩))

theorem slotPeriod_next (ht : 2 ≤ s.rd SCN_STAT_STATE) (hf : s.frame.ticked = true) (hs : s.frame.slotNext < slotsOf s)
    (hd : s.frame.slotNext ≠ 0 → slotDone s = true) (hk : k = s.frame.slotNext)
    (hv : v = slotPlain { s with frame := { s.frame with slotNext := k + 1, slotAt := s.now } })
    (hu : u = seqSlotStart k (clearSums (ffSlot (thmSlot (pxhSlot k errs (slotTables errs (modeSlot (noteErrs errs v)))))))) :
    execSlotPeriodStart errs s
      = if u.rd (SEQ_STAT_MODE 0) = 2 ∧ s.rd (SEQ_STAT_MODE 0) ≠ 2 then plainLevel u else u := by
  subst hk hv hu
  have hn : ¬ ((!pllTicks s) = true ∨ (!s.frame.ticked) = true ∨ slotsOf s ≤ s.frame.slotNext
      ∨ (s.frame.slotNext ≠ 0 ∧ (!slotDone s) = true)) := by
    rw [pllTicks, decide_eq_true ht, hf]
    rintro (h | h | h | ⟨h, h'⟩)
    · exact Bool.false_ne_true h
    · exact Bool.false_ne_true h
    · exact absurd hs (Nat.not_lt.mpr h)
    · rw [hd h] at h'
      exact Bool.false_ne_true h'
  exact if_neg hn

end

/-- Settles O29: each event passes the walk and acts, an array-wide one where it is issued. -/
theorem slotEvents : Obligations.SlotEvents := by
  refine ⟨fun q w errs s u hp hu => ?_, fun q w errs s u hp hu => ⟨fun hb => ?_, fun hb hm => ?_, fun hb hm => ?_⟩,
    fun errs s hp => ⟨fun h => exec_runs hp rfl (slotPeriod_none h), fun ht hf hs hd k v u hk hv hu => ?_, fun h => ?_, fun i h => ?_⟩⟩
  · exact ⟨fun h => exec_runs hp rfl (walk_due h hu), fun _ _ h => exec_runs hp rfl (walk_due h hu),
      fun _ h => exec_runs hp rfl (walk_due h hu), fun h => exec_runs hp rfl (walk_due h hu),
      fun _ h => exec_runs hp rfl (walk_due h hu), fun h => exec_runs hp rfl (walk_due h hu),
      fun h _ hm => exec_runs hp rfl ((walk_due h hu).trans (by rw [hm])), fun h => exec_runs hp rfl (walk_due h hu)⟩
  · exact ⟨fun _ => exec_runs hp rfl (walkArray_behind hb), exec_runs hp rfl (walkArray_behind hb),
      fun _ => exec_runs hp rfl (walkArray_behind hb), fun _ => exec_runs hp rfl (walkArray_behind hb),
      exec_runs hp rfl (walkArray_behind hb)⟩
  · exact ⟨fun _ _ _ h ht hv => exec_runs hp rfl ((walkArray_issued hb hm h hu).trans (by rw [hv, ht]; rfl)),
      fun h => exec_runs hp rfl (walkArray_issued hb hm h hu), fun _ h => exec_runs hp rfl (walkArray_issued hb hm h hu),
      fun _ h => exec_runs hp rfl (walkArray_issued hb hm h hu), fun h => exec_runs hp rfl (walkArray_issued hb hm h hu)⟩
  · exact ⟨fun _ h => exec_runs hp rfl (walkArray_copy hb hm h hu), fun h => exec_runs hp rfl (walkArray_copy hb hm h hu),
      fun _ h => exec_runs hp rfl (walkArray_copy hb hm h hu), fun _ h => exec_runs hp rfl (walkArray_copy hb hm h hu),
      fun h => exec_runs hp rfl (walkArray_copy hb hm h hu)⟩
  · have hn := slotPeriod_next ht hf hs hd hk hv hu
    exact ⟨fun h => exec_runs hp rfl (hn.trans (if_neg fun hc => h.elim (fun h => h hc.1) hc.2)),
      fun h h' => exec_runs hp rfl (hn.trans (if_pos ⟨h, h'⟩))⟩
  · exact exec_runs hp rfl (by rw [execFfApply, h])
  · exact exec_runs hp rfl (by rw [execFfApply, h])

end Sys2Proof.Machine
end

section
/-!
PROOF. A write of a write-1-to-clear register, said once, and the pixel health unit.
-/
namespace Sys2Proof.Machine

/-! ### Write-1-to-clear registers -/

/-- The checks of `regWrite` that depend on the address alone, for a write-1-to-clear register without ranges or counters, of a block
whose clock never stops. -/
def clearReg (a : Nat) : Bool :=
  decide (a % 4 = 0) && !inSram a && !inSurface a && isReg a && srcAssigned a && (layerOf a).isNone && (cntClrOf a).isNone
    && freeOfRange a && decide (a / 0x10000 ≠ 6 ∧ a / 0x10000 ≠ 0x14)
    && decide (a ≠ ADC_SKEW ∧ ¬ (ADC_TRIMn 0 ≤ a ∧ a < ADC_TRIMn 4))
    && (match regInfo a with
        | some r => decide (r.acc = .w1c)
        | none => false)

/-- The write-1-to-clear bits of the register at `a`. -/
def clearMask (a : Nat) : Nat := ((regInfo a).map RegInfo.cmask).getD 0

section
variable {a : Nat} {s t : State} {v m x : Word} {errs : List EccErr}

theorem regWrite_clearReg (h : clearReg a = true) (hx : x = (s.reg a &&& ~~~m) ||| (v &&& m)) (hh : regHook a x m s = (t, .ok)) :
    regWrite none errs a v m s = (if clearMask a = 0 then t else w1cClear (clearMask a) a x m t, .ok) := by
  simp only [clearReg, Bool.and_eq_true, decide_eq_true_eq, Bool.not_eq_true', Option.isNone_iff_eq_none] at h
  obtain ⟨⟨⟨⟨⟨⟨⟨⟨⟨⟨h4, hram⟩, hsurf⟩, hreg⟩, hsrc⟩, hl⟩, hc⟩, hr⟩, h6, h14⟩, htrim⟩, hi⟩ := h
  have hb : blockOff s a = false := blockOff_elsewhere h6 h14
  have ht : trimBusy a s = false := by
    rw [trimBusy, decide_eq_false htrim.1, decide_eq_false htrim.2]
    rfl
  have hclr : cntClr a x m s = s := by
    rw [cntClr, hc]
  rw [clearMask]
  cases hk : regInfo a with
  | none =>
    rw [hk] at hi
    cases hi
  | some r =>
    rw [hk] at hi
    have hacc : r.acc = .w1c := of_decide_eq_true hi
    have hr' := rangeOk_of_free hr x
    have hden : layerDenied none a = false := rfl
    have hnote : ∀ u, layerNote none a u = u := fun _ => rfl
    have hwent : went (t, Status.ok) = true := rfl
    simp only [regWrite, h4, hram, hsurf, hreg, hsrc, hb, hk, regApply, hden, hacc, ← hx, hr', ht, hclr, hh, hnote, hwent,
      Bool.not_true, Bool.or_self, Bool.false_eq_true, ne_eq, not_true_eq_false, reduceCtorEq, false_and, if_true, if_false,
      Option.map_some, Option.getD_some]

end

section
variable {f : Fld} {s t : State} {v : Nat}

/-- A write to the low field of a register acts on the bits that it puts there. -/
theorem lowBits_toNat (hf : f.sound = true) (hl : f.lsb = 0) (hv : v ≤ f.top) : (setBits 0#32 f.msb f.lsb v).toNat = v := by
  obtain ⟨h1, h2⟩ := of_decide_eq_true hf
  have hlt : v < 2 ^ (f.msb + 1) := by
    have hp := Nat.two_pow_pos (f.msb + 1)
    rw [Fld.top, hl, Nat.sub_zero] at hv
    omega
  rw [toNat_setBits _ _ _ _ h1 h2, hl, BitVec.toNat_zero, Nat.zero_div, Nat.zero_mul, Nat.pow_zero, Nat.mul_one, Nat.mod_one,
    Nat.sub_zero, Nat.mod_eq_of_lt hlt, Nat.zero_add, Nat.add_zero]

/-- The write-1-to-clear field of a register with no effect of its own: its bits clear, but those just set. -/
theorem writeField_w1c (hs : s.canonical = true) (hc : clearReg f.addr = true) (hf : f.sound = true) (hl : f.lsb = 0)
    (hv : v ≤ f.top) (hm : BitVec.ofNat 32 (clearMask f.addr) = f.mask ∧ clearMask f.addr ≠ 0)
    (hw : ((regInfo f.addr).map (fun r => BitVec.ofNat 32 r.wmask &&& f.mask)).getD 0#32 = 0#32)
    (hown : ¬ (f.addr = LE0_FB ∨ f.addr = LE1_FB ∨ (THM_BROKEN0 ≤ f.addr ∧ f.addr ≤ THM_BROKEN2)))
    (hh : regHook f.addr (setBits (s.reg f.addr) f.msb f.lsb v) f.mask s
      = (s.wrWord f.addr (setBits (s.reg f.addr) f.msb f.lsb v), .ok)) :
    writeField f v s
      = answered (s.setReg f.addr (s.reg f.addr &&& ~~~(BitVec.ofNat 32 (s.w1cMask f.addr v))), .ok) := by
  obtain ⟨hm, h0⟩ := hm
  have hbits : (setBits (s.reg f.addr) f.msb f.lsb v &&& f.mask &&& BitVec.ofNat 32 (clearMask f.addr)).toNat = v := by
    rw [hm, setBits_and_mask hf, setBits_and_mask hf, lowBits_toNat hf hl hv]
  rw [State.wrWord_outside hs hf hw] at hh
  have hx := (masked_eq_setBits hf (s.reg f.addr) v).symm
  refine congrArg answered ((regWrite_clearReg hc hx hh).trans ?_)
  rw [if_neg h0, w1cClear, if_neg hown, hbits]

theorem apart_canonical (hs : s.canonical = true) (tie : Bool) : (s.apart tie).canonical = true := by
  cases tie
  all_goals exact hs

theorem pxhStuckClear_clears (hs : s.canonical = true) (mask : BitVec 8) {tie : Bool} (ht : t = s.apart tie) :
    execPxhStuckClear mask tie s
      = answered (t.setReg PXH_STUCK (t.reg PXH_STUCK &&& ~~~(BitVec.ofNat 32 (t.w1cMask PXH_STUCK mask.toNat))), .ok) := by
  subst ht
  have hlt : mask.toNat ≤ 255 := Nat.le_of_lt_succ mask.isLt
  exact writeField_w1c (f := PXH_STUCK_ZONES) (apart_canonical hs tie) (by decide) (by decide) rfl hlt (by decide) (by decide)
    (by decide) (regHook_stores (by decide))

end

/-! ### The health commands -/

section
variable {o : Outst} {c : Cmd} {s t u : State} {n : Nat}

theorem healthRead_map (ho : o.cmd = c) (hn : n = c.p0 % 4096 + 1) (hk : c.p0 / 4096 = 0) (hle : n ≤ 2048)
    (hw : c.w 1 + n ≤ 1310720) (hu : u = healthMeets c.errs t) : healthRead o t = okW u (nibbleWords u (c.w 1) n) := by
  subst ho hn hu
  have hn : ¬ (2048 < o.cmd.p0 % 4096 + 1 ∨ 1310720 < o.cmd.w 1 + (o.cmd.p0 % 4096 + 1)) := by omega
  simp only [healthRead, hk, if_neg hn]

theorem healthRead_cache (ho : o.cmd = c) (hn : n = c.p0 % 4096 + 1) (hk : c.p0 / 4096 = 1) (hle : n ≤ 255)
    (hw : c.w 1 + n ≤ 2048) : healthRead o t = okW t ((List.range n).flatMap (fun i => suspectWords t (c.w 1 + i))) := by
  subst ho hn
  have hn : ¬ (255 < o.cmd.p0 % 4096 + 1 ∨ 2048 < o.cmd.w 1 + (o.cmd.p0 % 4096 + 1)) := by omega
  simp only [healthRead, hk, if_neg hn]

theorem healthRead_counts (ho : o.cmd = c) (hk : c.p0 / 4096 = 2) (hw : c.w 1 = 0) : healthRead o t
    = okW t ([PXH_N_SUSPECT, PXH_N_SPARED, PXH_N_DEAD, PXH_N_AGE3, PXH_STAT, PXH_STUCK, PXH_STUCK_LOC].map
      (fun a => (t.reg a).toNat)) := by
  subst ho
  simp only [healthRead, hk, hw, ne_eq, not_true_eq_false, if_false]

theorem healthRead_outside (ho : o.cmd = c) (hn : n = c.p0 % 4096 + 1) (hk : c.p0 / 4096 = 0)
    (hw : 2048 < n ∨ 1310720 < c.w 1 + n) : healthRead o t = ans t .badParam := by
  subst ho hn
  simp only [healthRead, hk, if_pos hw]

theorem spareForce_eq (ho : o.cmd = c) (ht : t = healthMeets c.errs s) (h0 : c.p0 % 4096 = 0) (ha : c.p0 / 4096 < 4)
    (hp : c.w 1 < 1310720) : spareForce o s
      = if c.p0 / 4096 ≤ 1 ∧ healthState (healthOf t (c.w 1)) = 3 then ans t .badParam
        else ok { t with pxh := { t.pxh with retire := t.pxh.retire ++ [⟨c.w 1, c.p0 / 4096 + 1, 0⟩] } } := by
  subst ho ht
  have hn : ¬ (o.cmd.p0 % 4096 ≠ 0 ∨ 4 ≤ o.cmd.p0 / 4096 ∨ 1310720 ≤ o.cmd.w 1) := by omega
  exact if_neg hn

theorem proofReq_eq (ho : o.cmd = c) (ht : t = healthMeets c.errs s) (h0 : c.p0 < 2048) (hp : c.w 1 + (c.p0 + 1) ≤ 1310720) :
    proofReq o s = ok (syncHealth ((List.range (c.p0 + 1)).foldl (fun u i =>
      if healthState (healthOf u (c.w 1 + i)) = 3 then u else setAge (c.w 1 + i) 3 u) t)) := by
  subst ho ht
  have hm : o.cmd.p0 % 2048 = o.cmd.p0 := Nat.mod_eq_of_lt h0
  have hn : ¬ (2048 ≤ o.cmd.p0 ∨ 1310720 < o.cmd.w 1 + (o.cmd.p0 + 1)) := by omega
  rw [proofReq, hm]
  exact if_neg hn

end

/-! ### Retirement -/

section
variable {errs : List EccErr} {s t m : State} {p v : Nat}

theorem retireAll_none (h : m.pxh.retire = []) : retireAll errs m = syncHealth m := by
  have hm : ({ m with pxh := { m.pxh with retire := [] } } : State) = m := by rw [← h]
  simp only [retireAll, h, hm]
  rfl

/-- A record that waits alone is written. -/
theorem retireAll_one {r : Retire} (h : m.pxh.retire = [r]) (ht : t = { m with pxh := { m.pxh with retire := [] } }) :
    retireAll errs m = syncHealth (retireOne errs r t) := by
  subst ht
  have hk : (decide (r.action ≠ 0) || !(([r].any fun x => decide (x.pixel = r.pixel ∧ x.action ≠ 0)))) = true := by
    by_cases hr : r.action = 0
    · simp [hr]
    · rw [decide_eq_true hr, Bool.true_or]
  have hf : [r].filter (fun r' => decide (r'.action ≠ 0) || !(([r].any fun x => decide (x.pixel = r'.pixel ∧ x.action ≠ 0)))) = [r] :=
    List.filter_cons_of_pos hk
  simp only [retireAll, h, hf]
  rfl

/-- What the record of a confirmed failure does. -/
theorem retireOne_confirmed {kind : Nat} (hd : healthState (healthOf t p) ≠ 3) : retireOne errs ⟨p, 0, kind⟩ t
    = if trimSpare (trimOf t p) = 0 ∧ t.bit PXH_CTRL_AUTO_SPARE then
        raise 0x33 p (pxhLast 3 p ((dropCache p (setHealth p 8 (mergeTrim errs p
          (trimOf t p - trimOf t p / 8 % 2 * 8 + (if rowWaits t p then max (trimOf t p / 8 % 2) 1 else 1) * 8) t))).bump PXH_COUNT_A_RETIRED))
      else raise 0x34 p (pxhLast 4 p ((dropCache p (setHealth p (12 + healthAge (healthOf t p)) (mergeTrim errs p
          (trimOf t p - trimOf t p / 4 % 2 * 4 + (if rowWaits t p then max (trimOf t p / 4 % 2) 1 else 1) * 4) t))).bump PXH_COUNT_A_DIED)) :=
  if_neg hd

/-- The bit of a confirmed failure is set, whatever the map holds. -/
theorem bit_or_one (b : Bool) (x : Nat) : (if b then max (x % 2) 1 else 1) = 1 := by
  split
  · omega
  · rfl

theorem retireOne_spared {kind : Nat} (hd : healthState (healthOf t p) ≠ 3) (hs : trimSpare (trimOf t p) = 0)
    (ha : t.bit PXH_CTRL_AUTO_SPARE = true) (hv : v = trimOf t p - trimOf t p / 8 % 2 * 8 + 8) :
    retireOne errs ⟨p, 0, kind⟩ t
      = raise 0x33 p (pxhLast 3 p ((dropCache p (setHealth p 8 (mergeTrim errs p v t))).bump PXH_COUNT_A_RETIRED)) := by
  rw [retireOne_confirmed hd, if_pos ⟨hs, ha⟩, bit_or_one, hv]

theorem retireOne_died {kind : Nat} (hd : healthState (healthOf t p) ≠ 3)
    (hs : trimSpare (trimOf t p) ≠ 0 ∨ t.bit PXH_CTRL_AUTO_SPARE = false) (hv : v = trimOf t p - trimOf t p / 4 % 2 * 4 + 4) :
    retireOne errs ⟨p, 0, kind⟩ t = raise 0x34 p (pxhLast 4 p ((dropCache p (setHealth p (12 + healthAge (healthOf t p))
      (mergeTrim errs p v t))).bump PXH_COUNT_A_DIED)) := by
  have hn : ¬ (trimSpare (trimOf t p) = 0 ∧ t.bit PXH_CTRL_AUTO_SPARE = true) := fun h => hs.elim (fun hs => hs h.1)
    fun hs => Bool.false_ne_true (hs.symm.trans h.2)
  rw [retireOne_confirmed hd, if_neg hn, bit_or_one, hv]

/-- A forced record is written as it asks, where no trim row waits. -/
theorem retireOne_forced {a : Nat} (hw : rowWaits t p = false)
    (hv : (a = 1 ∧ v = trimOf t p - trimOf t p / 8 % 2 * 8) ∨ (a = 2 ∧ v = trimOf t p - trimOf t p / 8 % 2 * 8 + 8) ∨
      (a = 3 ∧ v = trimOf t p - trimOf t p / 4 % 2 * 4 + 4) ∨ (a = 4 ∧ v = trimOf t p - trimOf t p / 4 % 2 * 4)) :
    retireOne errs ⟨p, a, 0⟩ t = pxhLast 5 p (dropCache p (setHealth p (healthFromTrim v 0) (mergeTrim errs p v t))) := by
  rcases hv with ⟨rfl, rfl⟩ | ⟨rfl, rfl⟩ | ⟨rfl, rfl⟩ | ⟨rfl, rfl⟩
  all_goals
    simp only [retireOne, hw, Bool.false_eq_true, if_false, Nat.zero_mul, Nat.one_mul, Nat.add_zero]

end

/-! ### The proof list -/

section
variable {scan reach n : Nat} {errs : List EccErr} {s t u v : State}

theorem proofListFix_none (ht : t = healthMeets errs s) (h : proofWord t = none ∨ t.bit PXH_CTRL_PROOF_EN = false)
    (hn : n = scanNext scan t) :
    execProofListFix scan reach errs s = { t with pxh := { t.pxh with scanAt := n } } := by
  have hf : proofFix scan reach t = t := by
    rw [proofFix]
    cases hw : proofWord t with
    | none => rfl
    | some w =>
      rw [hw] at h
      have hb : t.bit PXH_CTRL_PROOF_EN = false := h.resolve_left (fun h => nomatch h)
      simp only [hb, Bool.not_false, if_true]
  subst hn
  rw [execProofListFix, ← ht, hf]

theorem proofListFix_fixed {w : Nat} {l adm : List Nat} (ht : t = healthMeets errs s) (hw : proofWord t = some w)
    (he : t.bit PXH_CTRL_PROOF_EN = true) (hl : l = proofList scan t) (ha : adm = screenList (evArg w % 16) reach l t)
    (hu : u = t.bumpBy PXH_COUNT_C_REFUSED (l.length - adm.length))
    (hv : v = { u with pxh := { u.pxh with list := l, admitted := adm, stay := [] } }) (hn : n = scanNext scan v) :
    execProofListFix scan reach errs s = { v with pxh := { v.pxh with scanAt := n } } := by
  have hf : proofFix scan reach t = v := by
    simp only [proofFix, hw, he, Bool.not_true, Bool.false_eq_true, if_false, ← hl, ← ha, ← hu, ← hv]
  subst hn
  rw [execProofListFix, ← ht, hf]

end

/-- Settles O31: the answers of the commands, and the record that waits alone for the boundary. -/
theorem pixelHealthUnit : Obligations.PixelHealthUnit := by
  refine ⟨fun c s t => ⟨fun h ht n hn => ?_, fun h ht h0 ha hp => ?_, fun h ht h0 hp => ?_⟩, fun s hp => ⟨fun errs m hm => ?_,
    fun scan reach errs t ht => ⟨fun h n hn => exec_runs hp rfl (proofListFix_none ht h hn),
      fun w l adm u hw he hl ha hu v n hv hn => exec_runs hp rfl (proofListFix_fixed ht hw he hl ha hu hv hn)⟩,
    fun hs mask tie t ht => exec_runs hp rfl (pxhStuckClear_clears hs mask ht)⟩⟩
  · subst ht
    exact ⟨fun hk hle hw u hu => exec_admits h rfl (healthRead_map (o := issued .healthRead c s) rfl hn hk hle hw hu),
      fun hk hle hw => exec_admits h rfl (healthRead_cache (o := issued .healthRead c s) rfl hn hk hle hw),
      fun hk hw => exec_admits h rfl (healthRead_counts (o := issued .healthRead c s) rfl hk hw),
      fun hk hw => exec_admits h rfl (healthRead_outside (o := issued .healthRead c s) rfl hn hk hw)⟩
  · have he := spareForce_eq (o := issued .spareForce c s) rfl ht h0 ha hp
    refine ⟨fun hd l hl => exec_admits h rfl (he.trans ?_), fun hk hd => exec_admits h rfl (he.trans (if_pos ⟨hk, hd⟩))⟩
    subst hl
    exact if_neg fun hc => hd.elim (fun hd => absurd hd (Nat.not_le.mpr (Nat.lt_succ_of_le hc.1))) fun hd => hd hc.2
  · exact exec_admits h rfl (proofReq_eq (o := issued .proofReq c s) rfl ht h0 hp)
  · have hr : ∀ {u}, retireAll errs m = u → execRetireWrite errs s = u := fun hu => by rw [execRetireWrite, ← hm, hu]
    refine ⟨fun h => exec_runs hp rfl (hr (retireAll_none h)), fun p kind t v h hd ht => ⟨fun hs ha hv => ?_, fun hs hv => ?_⟩,
      fun p a t v h hw ht hv => ?_⟩
    all_goals
      refine exec_runs hp rfl (hr ((retireAll_one h ht).trans (congrArg syncHealth ?_)))
      subst ht
    · exact retireOne_spared hd hs ha hv
    · exact retireOne_died hd hs hv
    · exact retireOne_forced hw hv

end Sys2Proof.Machine
end

section
/-!
PROOF. The thermal unit: demands, windows and the cross-check.
-/
namespace Sys2Proof.Machine

/-! ### TEMP_MEASURE -/

section
variable {o : Outst} {c : Cmd} {s t : State} {k : Nat} {l : List Nat}

/-- The sensors that TEMP_MEASURE may name. -/
theorem tempMeasure_eq {w : TempWait} {busy : List Nat} (ho : o.cmd = c) (hk : k = c.p0) (h : k < 72 ∨ k = 127) (hl : l = sensorsOf k)
    (hb : busy = l.filter (fun i => winOpenAt t i && !(c.tie && sameCycleWin false t i)))
    (hw : w = ⟨o, l.map (fun i => (i, if i ∈ busy then 2 else 1))⟩) :
    tempMeasure o t = answerLater (holdCmd o (openWins true l { t with thm := { t.thm with
      waits := t.thm.waits ++ [w], again := busy.foldl (fun m i => storeSet false m i true) t.thm.again } })) := by
  subst ho hk hl hb hw
  have hm : o.cmd.p0 % 128 = o.cmd.p0 := Nat.mod_eq_of_lt (by omega)
  have hn : ¬ (128 ≤ o.cmd.p0 ∨ (72 ≤ o.cmd.p0 ∧ o.cmd.p0 ≠ 127)) := by omega
  simp only [tempMeasure, hm, if_neg hn]

/-- Where no window of its sensors is open, each is measured once. -/
theorem tempMeasure_closed {v : List TempWait} (ho : o.cmd = c) (hk : k = c.p0) (h : k < 72 ∨ k = 127)
    (hc : ∀ i ∈ sensorsOf k, winOpenAt t i = false) (hv : v = t.thm.waits ++ [⟨o, (sensorsOf k).map (fun i => (i, 1))⟩]) :
    tempMeasure o t = answerLater (holdCmd o (openWins true (sensorsOf k) { t with thm := { t.thm with waits := v } })) := by
  have hb : [] = (sensorsOf k).filter (fun i => winOpenAt t i && !(c.tie && sameCycleWin false t i)) := by
    refine (List.filter_eq_nil_iff.mpr fun i hi => ?_).symm
    rw [hc i hi, Bool.false_and]
    exact Bool.false_ne_true
  have hw : (⟨o, (sensorsOf k).map (fun i => (i, 1))⟩ : TempWait)
      = ⟨o, (sensorsOf k).map (fun i => (i, if i ∈ ([] : List Nat) then 2 else 1))⟩ := by
    simp only [List.not_mem_nil, if_false]
  rw [tempMeasure_eq ho hk h rfl hb hw, List.foldl_nil, ← hv]

theorem tempMeasure_bad (ho : o.cmd = c) (h : 72 ≤ c.p0) (h' : c.p0 ≠ 127) : tempMeasure o t = ans t .badParam := by
  subst ho
  refine if_pos ?_
  by_cases h1 : 128 ≤ o.cmd.p0
  · exact .inl h1
  · have hm : o.cmd.p0 % 128 = o.cmd.p0 := Nat.mod_eq_of_lt (by omega)
    rw [hm]
    exact .inr ⟨h, h'⟩

end

/-! ### Conversions and broken bits -/

section
variable {s t : State} {counts l : List (Fin 72 × BitVec 20)}

theorem thmConversion_none (hl : l = counts.filter (fun x => winOpenAt s x.1.val && decide (storeGet 0 s.thm.xchkWin x.1.val ≠ 1)))
    (h : l = []) : execThmConversion counts s = s := by
  subst hl
  rw [execThmConversion, h]
  rfl

theorem thmConversion_some (hl : l = counts.filter (fun x => winOpenAt s x.1.val && decide (storeGet 0 s.thm.xchkWin x.1.val ≠ 1)))
    (h : l ≠ []) : execThmConversion counts s = windowsEnd (l.map (fun x => x.1.val))
      (convert [] (l.map (fun x => (x.1.val, x.2.toNat, storeGet 0 s.thm.window x.1.val - 1))) s) := by
  subst hl
  exact if_neg fun hn => h (List.isEmpty_iff.mp hn)

theorem thmConversion_one {k : Fin 72} {n : BitVec 20} (hw : winOpenAt s k.val = true) (hx : storeGet 0 s.thm.xchkWin k.val ≠ 1) :
    execThmConversion [(k, n)] s
      = windowsEnd [k.val] (convert [] [(k.val, n.toNat, storeGet 0 s.thm.window k.val - 1)] s) := by
  have hl : [(k, n)].filter (fun x => winOpenAt s x.1.val && decide (storeGet 0 s.thm.xchkWin x.1.val ≠ 1)) = [(k, n)] := by
    simp only [List.filter_cons, List.filter_nil, hw, decide_eq_true hx, Bool.and_self, if_true]
  rw [thmConversion_some (l := [(k, n)]) hl.symm (List.cons_ne_nil _ _), List.map_singleton, List.map_singleton]

theorem thmBrokenClear_row (n : Fin 3) (mask : Word) (tie : Bool) :
    execThmBrokenClear n mask tie s = answered (thmBrokenClear n.val mask.toNat (s.apart tie), .ok) := by
  have hc : ∀ n : Fin 3, clearReg (THM_BROKEN0 + 4 * n.val) = true ∧ clearMask (THM_BROKEN0 + 4 * n.val) = 0
      ∧ (THM_BROKEN0 + 4 * n.val) / 0x10000 = 0xB ∧ THM_BROKEN0 + 4 * n.val ≠ THM_CTRL
      ∧ (THM_BROKEN0 ≤ THM_BROKEN0 + 4 * n.val ∧ THM_BROKEN0 + 4 * n.val ≤ THM_BROKEN2) := by decide
  obtain ⟨h1, h2, h3, h4, h5⟩ := hc n
  have hn : (THM_BROKEN0 + 4 * n.val - THM_BROKEN0) / 4 = n.val := by omega
  have hm : mask &&& 0xFFFFFFFF#32 = mask := BitVec.and_allOnes
  have hh : regHook (THM_BROKEN0 + 4 * n.val) mask 0xFFFFFFFF#32 (s.apart tie)
      = (thmBrokenClear n.val mask.toNat (s.apart tie), .ok) := by
    rw [regHook_thm h3, thmWrite, if_neg h4, if_pos h5, hn, hm]
  refine congrArg answered ((regWrite_clearReg h1 ?_ hh).trans ?_)
  · exact (allBits _ _).symm
  · rw [h2]
    rfl

end

/-! ### The cross-check -/

section
variable {s t : State}

theorem thmWrite_xchk {x m : Word} (h : hits THM_CTRL_XCHK_RUN x m = true) :
    thmWrite THM_CTRL x m s = (xchkRun (s.wrWord THM_CTRL x), .ok) := by
  simp only [thmWrite, h, if_true]

theorem xchkRun_row (hs : s.canonical = true) (ht : xchkRun s = t) : execXchkRun s = answered (t, .ok) := by
  have hh : hits THM_CTRL_XCHK_RUN (setBits (s.reg THM_CTRL) 1 1 1) THM_CTRL_XCHK_RUN.mask = true :=
    (hits_setBits (f := THM_CTRL_XCHK_RUN) (by decide) _ _ _).trans (by decide)
  have hw : s.wrWord THM_CTRL (setBits (s.reg THM_CTRL) 1 1 1) = s := State.wrWord_outside (f := THM_CTRL_XCHK_RUN) hs (by decide) (by decide)
  refine writeField_goes (by decide) (((regHook_thm (by decide)).trans (thmWrite_xchk hh)).trans ?_)
  exact congrArg (·, Status.ok) ((congrArg xchkRun hw).trans ht)

theorem xchkRun_runs (h : s.rd THM_STAT_XCHK_RESULT = 1) : xchkRun s = s := if_pos h

theorem xchkRun_starts {l b : List Nat} {w : List (Nat × Nat)} (h : s.rd THM_STAT_XCHK_RESULT ≠ 1)
    (hl : l = (List.range 72).filter (fun k => !winOpenAt s k)) (hb : b = (List.range 72).filter (winOpenAt s))
    (hw : w = b.foldl (fun m k => storeSet 0 m k 2) [])
    (ht : t = { s with thm := { s.thm with ntcGot := [], xchkDark := decide (s.rd DEV_LADDER_RUNG = 4), xchkWin := w } }) :
    xchkRun s = (openXchk l t).wr THM_STAT_XCHK_RESULT 1 := by
  subst hl hb hw ht
  exact if_neg h

/-- Without an open window the cross-check opens its own on every sensor. -/
theorem xchkRun_closed (h : s.rd THM_STAT_XCHK_RESULT ≠ 1) (hc : ∀ k < 72, winOpenAt s k = false)
    (ht : t = { s with thm := { s.thm with ntcGot := [], xchkDark := decide (s.rd DEV_LADDER_RUNG = 4), xchkWin := [] } }) :
    xchkRun s = (openXchk (List.range 72) t).wr THM_STAT_XCHK_RESULT 1 := by
  refine xchkRun_starts (b := []) (w := []) h ?_ ?_ rfl ht
  · refine (List.filter_eq_self.mpr fun k hk => ?_).symm
    rw [hc k (List.mem_range.mp hk)]
    rfl
  · refine (List.filter_eq_nil_iff.mpr fun k hk => ?_).symm
    rw [hc k (List.mem_range.mp hk)]
    exact Bool.false_ne_true

/-- The sensors of the reference that the settings select, and those whose result has come. -/
def xchkSel (s : State) : List Nat := (List.range 2).filter (fun n => s.rdAct THM_XCHK_CFG_NTC_SEL / 2 ^ n % 2 = 1)
def xchkGot (s : State) : List Nat := (xchkSel s).filter (fun n => storeGet false s.thm.ntcGot n)

/-- The temperatures of the results, by the curve. -/
def xchkTemps (s : State) : List (Option Int) :=
  (xchkGot s).map (fun n => ntcTemp (ntcPoints s) (s.rd (ADC_LASTn_MEAN (11 + n))))

/-- Both columns of the curve are strictly monotonic. -/
def xchkCurve (s : State) : Bool :=
  strictMono ((ntcPoints s).map (fun x => x.1)) && strictMono ((ntcPoints s).map (fun x => x.2))

/-- The end of a cross-check that has measured: with the reference `ref`, or with two references that are too far apart. -/
def xchkVerdict (apart : Bool) (ref : Int) (l : List (Nat × Nat)) (s : State) : State :=
  let fails := xchkFails ref l s
  let brk := if apart ∨ 32 < fails.length then [] else fails
  let t := convert brk (l.map (fun x => (x.1, x.2, 2))) s
  let t := t.wr THM_XCHK_NTC_TEMP (ofSigned 16 ref)
  let t := if apart then t else showFails fails t
  windowsEnd (List.range 72) (xchkResult (if apart ∨ 32 < fails.length then 4 else if fails.isEmpty then 2 else 3) t)

variable {counts : List (Fin 72 × BitVec 20)}

theorem xchkEnd_idle (h : s.rd THM_STAT_XCHK_RESULT ≠ 1) : execXchkEnd counts s = s := if_pos h

theorem xchkEnd_curve (h : s.rd THM_STAT_XCHK_RESULT = 1) (hc : (!xchkCurve s || (xchkTemps s).any Option.isNone) = true) :
    execXchkEnd counts s = xchkResult 7 s :=
  (if_neg (not_not_intro h)).trans (if_pos hc)

theorem xchkEnd_missing (h : s.rd THM_STAT_XCHK_RESULT = 1) (hc : ¬ (!xchkCurve s || (xchkTemps s).any Option.isNone) = true)
    (hl : (xchkGot s).length < (xchkSel s).length) : execXchkEnd counts s = xchkResult 6 s :=
  (if_neg (not_not_intro h)).trans ((if_neg hc).trans (if_pos hl))

theorem xchkEnd_lit (h : s.rd THM_STAT_XCHK_RESULT = 1) (hc : ¬ (!xchkCurve s || (xchkTemps s).any Option.isNone) = true)
    (hl : ¬ (xchkGot s).length < (xchkSel s).length) (hd : (!s.thm.xchkDark || decide (s.rd DEV_LADDER_RUNG ≠ 4)) = true) :
    execXchkEnd counts s = xchkResult 5 s :=
  (if_neg (not_not_intro h)).trans ((if_neg hc).trans ((if_neg hl).trans (if_pos hd)))

theorem xchkEnd_early (h : s.rd THM_STAT_XCHK_RESULT = 1) (hc : ¬ (!xchkCurve s || (xchkTemps s).any Option.isNone) = true)
    (hl : ¬ (xchkGot s).length < (xchkSel s).length) (hd : ¬ (!s.thm.xchkDark || decide (s.rd DEV_LADDER_RUNG ≠ 4)) = true)
    (ho : counts.length < 72 ∨ (!xchkOpen s) = true) : execXchkEnd counts s = s :=
  (if_neg (not_not_intro h)).trans ((if_neg hc).trans ((if_neg hl).trans ((if_neg hd).trans (if_pos ho))))

theorem xchkEnd_verdict {ts : List Int} {a b ref tol : Int} {l : List (Nat × Nat)} (h : s.rd THM_STAT_XCHK_RESULT = 1)
    (hc : ¬ (!xchkCurve s || (xchkTemps s).any Option.isNone) = true) (hl : ¬ (xchkGot s).length < (xchkSel s).length)
    (hd : ¬ (!s.thm.xchkDark || decide (s.rd DEV_LADDER_RUNG ≠ 4)) = true)
    (ho : ¬ (counts.length < 72 ∨ (!xchkOpen s) = true)) (hts : (xchkTemps s).filterMap id = ts) (ha : a = ts.getD 0 0)
    (hb : b = ts.getD 1 a) (hr : ref = if ts.length = 2 then (a + b + 1) / 2 else a)
    (hcl : l = counts.map (fun x => (x.1.val, x.2.toNat))) (htol : tol = ((s.rdAct THM_XCHK_CFG_XCHK_TOL * 16 : Nat) : Int)) :
    execXchkEnd counts s = xchkVerdict (decide (tol < a - b ∨ tol < b - a)) ref l s := by
  subst hts ha hb hr hcl htol
  exact (if_neg (not_not_intro h)).trans ((if_neg hc).trans ((if_neg hl).trans ((if_neg hd).trans (if_neg ho))))

section
variable {ref : Int} {l : List (Nat × Nat)} {f : List Nat}

theorem xchkVerdict_apart
    (ht : t = (convert [] (l.map (fun x => (x.1, x.2, 2))) s).wr THM_XCHK_NTC_TEMP (ofSigned 16 ref)) :
    xchkVerdict true ref l s = windowsEnd (List.range 72) (xchkResult 4 t) := by
  subst ht
  simp only [xchkVerdict, true_or, if_true]

theorem xchkVerdict_passes (hf : xchkFails ref l s = [])
    (ht : t = (convert [] (l.map (fun x => (x.1, x.2, 2))) s).wr THM_XCHK_NTC_TEMP (ofSigned 16 ref)) :
    xchkVerdict false ref l s = windowsEnd (List.range 72) (xchkResult 2 (showFails [] t)) := by
  subst ht
  simp only [xchkVerdict, hf, List.length_nil, Nat.not_lt_zero, or_false, Bool.false_eq_true, if_false, List.isEmpty_nil, if_true]

theorem xchkVerdict_breaks (hf : f = xchkFails ref l s) (h0 : f ≠ []) (h32 : f.length ≤ 32)
    (ht : t = (convert f (l.map (fun x => (x.1, x.2, 2))) s).wr THM_XCHK_NTC_TEMP (ofSigned 16 ref)) :
    xchkVerdict false ref l s = windowsEnd (List.range 72) (xchkResult 3 (showFails f t)) := by
  subst ht
  have he : f.isEmpty = false := by rw [List.isEmpty_eq_false_iff]; exact h0
  simp only [xchkVerdict, ← hf, Nat.not_lt.mpr h32, Bool.false_eq_true, or_false, if_false, he]

theorem xchkVerdict_many (hf : f = xchkFails ref l s) (h32 : 32 < f.length)
    (ht : t = (convert [] (l.map (fun x => (x.1, x.2, 2))) s).wr THM_XCHK_NTC_TEMP (ofSigned 16 ref)) :
    xchkVerdict false ref l s = windowsEnd (List.range 72) (xchkResult 4 (showFails f t)) := by
  subst ht
  simp only [xchkVerdict, ← hf, h32, or_true, if_true, Bool.false_eq_true, if_false]

end

/-! ### The reference of one result, and of two -/

theorem xchkCurve_of (h1 : strictMono ((ntcPoints s).map (fun x => x.1)) = true)
    (h2 : strictMono ((ntcPoints s).map (fun x => x.2)) = true) : xchkCurve s = true := by
  rw [xchkCurve, h1, h2]
  rfl

/-- A curve that holds and results that it gives. -/
theorem xchkJudges (h1 : strictMono ((ntcPoints s).map (fun x => x.1)) = true)
    (h2 : strictMono ((ntcPoints s).map (fun x => x.2)) = true) {ts : List Int} (ht : xchkTemps s = ts.map some) :
    ¬ (!xchkCurve s || (xchkTemps s).any Option.isNone) = true := by
  rw [xchkCurve_of h1 h2, ht, List.any_map]
  simp

theorem xchkGot_sel {l : List Nat} (hs : xchkSel s = l) (hg : ∀ n ∈ l, storeGet false s.thm.ntcGot n = true) : xchkGot s = l := by
  rw [xchkGot, hs]
  exact List.filter_eq_self.mpr hg

theorem xchkTemps_one {k : Nat} {ref : Int} (hn : s.rdAct THM_XCHK_CFG_NTC_SEL = 2 ^ k) (hk : k < 2)
    (hg : storeGet false s.thm.ntcGot k = true) (ht : ntcTemp (ntcPoints s) (s.rd (ADC_LASTn_MEAN (11 + k))) = some ref) :
    xchkSel s = [k] ∧ xchkGot s = [k] ∧ xchkTemps s = [ref].map some := by
  have hs : xchkSel s = [k] := by
    rw [xchkSel, hn]
    rcases Nat.lt_or_ge k 1 with h | h
    · obtain rfl : k = 0 := by omega
      decide
    · obtain rfl : k = 1 := by omega
      decide
  have hgot : xchkGot s = [k] := xchkGot_sel hs fun n h => by
    rw [List.mem_singleton.mp h]
    exact hg
  exact ⟨hs, hgot, by rw [xchkTemps, hgot, List.map_singleton, List.map_singleton, ht]⟩

theorem xchkTemps_two {a b : Int} (hn : s.rdAct THM_XCHK_CFG_NTC_SEL = 3) (h0 : storeGet false s.thm.ntcGot 0 = true)
    (h1 : storeGet false s.thm.ntcGot 1 = true) (ha : ntcTemp (ntcPoints s) (s.rd (ADC_LASTn_MEAN 11)) = some a)
    (hb : ntcTemp (ntcPoints s) (s.rd (ADC_LASTn_MEAN 12)) = some b) :
    xchkSel s = [0, 1] ∧ xchkGot s = [0, 1] ∧ xchkTemps s = [a, b].map some := by
  have hs : xchkSel s = [0, 1] := by
    rw [xchkSel, hn]
    decide
  have hgot : xchkGot s = [0, 1] := xchkGot_sel hs fun n h => by
    simp only [List.mem_cons, List.not_mem_nil, or_false] at h
    rcases h with rfl | rfl
    · exact h0
    · exact h1
  exact ⟨hs, hgot, by simp only [xchkTemps, hgot, List.map_cons, List.map_nil, ha, hb]⟩

/-- A cross-check that has been dark throughout and has measured. -/
theorem xchkReady {l : List Nat} {ts : List Int} {a b ref tol : Int} {cl : List (Nat × Nat)} (h : s.rd THM_STAT_XCHK_RESULT = 1)
    (h1 : strictMono ((ntcPoints s).map (fun x => x.1)) = true) (h2 : strictMono ((ntcPoints s).map (fun x => x.2)) = true)
    (hs : xchkSel s = l ∧ xchkGot s = l ∧ xchkTemps s = ts.map some) (hd : s.thm.xchkDark = true)
    (hr : s.rd DEV_LADDER_RUNG = 4) (hn : 72 ≤ counts.length) (ho : xchkOpen s = true) (ha : a = ts.getD 0 0)
    (hb : b = ts.getD 1 a) (href : ref = if ts.length = 2 then (a + b + 1) / 2 else a)
    (hcl : cl = counts.map (fun x => (x.1.val, x.2.toNat))) (htol : tol = ((s.rdAct THM_XCHK_CFG_XCHK_TOL * 16 : Nat) : Int)) :
    execXchkEnd counts s = xchkVerdict (decide (tol < a - b ∨ tol < b - a)) ref cl s := by
  obtain ⟨hsel, hgot, htemps⟩ := hs
  refine xchkEnd_verdict (ts := ts) h (xchkJudges h1 h2 htemps) ?_ ?_ ?_ ?_ ha hb href hcl htol
  · rw [hsel, hgot]
    exact lt_irrefl _
  · rw [hd, hr]
    decide
  · rw [ho]
    exact fun hc => hc.elim (fun hc => absurd hc (Nat.not_lt.mpr hn)) Bool.false_ne_true
  · rw [htemps, List.filterMap_map]
    exact List.filterMap_some

end

/-- Settles O33: the demands, and the end of the cross-check by what its references and its counts say. -/
theorem thermal : Obligations.Thermal := by
  refine ⟨fun s => ⟨fun c t k h ht hk hkr hc l hl => ?_, fun c t k l busy w h ht hk hkr hl hb hw => ?_, fun c h h72 h127 => ?_,
    fun hp => ⟨fun h => exec_runs hp rfl (if_pos h), fun h => exec_runs hp rfl (if_neg ?_), fun counts l hl =>
      ⟨fun h => exec_runs hp rfl (thmConversion_none hl h), fun h => exec_runs hp rfl (thmConversion_some hl h)⟩,
      fun k n t hw hx ht => exec_runs hp rfl ?_, fun n mask tie => exec_runs hp rfl (thmBrokenClear_row n mask tie)⟩⟩,
    fun s hp => ⟨fun hs h => exec_runs hp rfl (xchkRun_row hs (xchkRun_runs h)),
      fun hs h hc t ht => exec_runs hp rfl (xchkRun_row hs (xchkRun_closed h hc ht)),
      fun hs h l b w t hl hb hw ht => exec_runs hp rfl (xchkRun_row hs (xchkRun_starts h hl hb hw ht)),
      fun counts h => exec_runs hp rfl (xchkEnd_idle h), fun counts h hc => exec_runs hp rfl (xchkEnd_curve h ?_),
      fun counts n h hn hsel hgot ht => exec_runs hp rfl (xchkEnd_curve h ?_),
      fun counts sel got h h1 h2 hsel hgot ht => ?_,
      fun counts k ref l t h h1 h2 hn hk hg ht hd hr hlen ho hl => ?_,
      fun counts a b l t tol h h1 h2 hn hg0 hg1 ha hb hd hr hlen ho hl htol => ?_⟩⟩
  · exact exec_admits_later h rfl (ht ▸ tempMeasure_closed (o := issued .tempMeasure c s) rfl hk hkr hc hl)
  · exact exec_admits_later h rfl (ht ▸ tempMeasure_eq (o := issued .tempMeasure c s) rfl hk hkr hl hb hw)
  · exact exec_admits h rfl (tempMeasure_bad (o := issued .tempMeasure c s) rfl h72 h127)
  · rw [h]
    exact Bool.false_ne_true
  · subst ht
    exact thmConversion_one hw hx
  · rw [xchkCurve]
    rcases hc with hc | hc
    · rw [hc]
      rfl
    · rw [hc, Bool.and_false]
      rfl
  · have hm : n ∈ xchkGot s := by
      rw [xchkGot, List.mem_filter, xchkSel, List.mem_filter]
      exact ⟨⟨List.mem_range.mpr hn, decide_eq_true hsel⟩, hgot⟩
    have ha : (xchkTemps s).any Option.isNone = true :=
      List.any_eq_true.mpr ⟨none, List.mem_map.mpr ⟨n, hm, ht⟩, rfl⟩
    rw [ha, Bool.or_true]
  · have hsel' : xchkSel s = sel := hsel.symm
    have hgot' : xchkGot s = got := by rw [xchkGot, hsel', hgot]
    have hc : ¬ (!xchkCurve s || (xchkTemps s).any Option.isNone) = true := by
      have ha : (xchkTemps s).any Option.isNone = false := List.any_eq_false.mpr fun x hx => by
        obtain ⟨n, hn, rfl⟩ := List.mem_map.mp hx
        rw [hgot'] at hn
        have := ht n hn
        rw [Option.isNone_iff_eq_none]
        exact fun h => Bool.false_ne_true (by rw [h] at this; exact this)
      rw [ha, xchkCurve_of h1 h2]
      exact Bool.false_ne_true
    rw [← hsel', ← hgot']
    have hdark : ∀ {d : Bool} {n : Nat}, n = 4 → d = true → ¬ (!d || decide (n ≠ 4)) = true := fun hn hd => by
      rw [hn, hd]
      decide
    refine ⟨fun hl => exec_runs hp rfl (xchkEnd_missing h hc hl), fun hl hd => exec_runs hp rfl (xchkEnd_lit h hc ?_ ?_),
      fun hl hr hd ho => exec_runs hp rfl (xchkEnd_early h hc ?_ (hdark hr hd) ?_)⟩
    · rw [hl]
      exact lt_irrefl _
    · rcases hd with hd | hd
      · rw [decide_eq_true hd, Bool.or_true]
      · rw [hd]
        rfl
    · rw [hl]
      exact lt_irrefl _
    · exact ho.imp_right fun ho => by rw [ho]; rfl
  · have hv := xchkReady (counts := counts) (ts := [ref]) (a := ref) (b := ref) (ref := ref) h h1 h2 (xchkTemps_one hn hk hg ht)
      hd hr hlen ho rfl rfl rfl hl rfl
    have hnear : decide (((s.rdAct THM_XCHK_CFG_XCHK_TOL * 16 : Nat) : Int) < ref - ref
        ∨ ((s.rdAct THM_XCHK_CFG_XCHK_TOL * 16 : Nat) : Int) < ref - ref) = false := decide_eq_false (by omega)
    rw [hnear] at hv
    exact ⟨fun hf ht => exec_runs hp rfl (hv.trans (xchkVerdict_passes hf ht)),
      fun f hf h0 h32 ht => exec_runs hp rfl (hv.trans (xchkVerdict_breaks hf h0 h32 ht)),
      fun f hf h32 ht => exec_runs hp rfl (hv.trans (xchkVerdict_many hf h32 ht))⟩
  · have hv := xchkReady (counts := counts) (ts := [a, b]) (a := a) (b := b) h h1 h2 (xchkTemps_two hn hg0 hg1 ha hb)
      hd hr hlen ho rfl rfl rfl hl htol
    have hnear : a - b ≤ tol → b - a ≤ tol → decide (tol < a - b ∨ tol < b - a) = false :=
      fun h h' => decide_eq_false fun hc => hc.elim (fun hc => absurd hc (Int.not_lt.mpr h)) fun hc => absurd hc (Int.not_lt.mpr h')
    refine ⟨fun hf ht => ?_, fun hab hba hf ht => ?_, fun f hab hba hf h0 h32 ht => ?_⟩
    · rw [decide_eq_true hf] at hv
      exact exec_runs hp rfl (hv.trans (xchkVerdict_apart ht))
    · rw [hnear hab hba] at hv
      exact exec_runs hp rfl (hv.trans (xchkVerdict_passes hf ht))
    · rw [hnear hab hba] at hv
      exact exec_runs hp rfl (hv.trans (xchkVerdict_breaks hf h0 h32 ht))

end Sys2Proof.Machine
end

section
/-!
PROOF. The enable bits and the settings of the loop engines.
-/
namespace Sys2Proof.Machine

/-! ### AUTO under a start of the rail -/

/-- LE0_CTRL.AUTO reads `n`. A predicate of its own, so that a proof follows the operations. -/
def AutoReads (n : Nat) (s : State) : Prop := s.rd LE0_CTRL_AUTO = n

section
variable {n : Nat} {s : State}

theorem AutoReads.ite {c : Prop} [Decidable c] {t : State} (hs : AutoReads n s) (ht : AutoReads n t) :
    AutoReads n (if c then s else t) := by
  split
  · exact hs
  · exact ht

theorem AutoReads.when {c : Bool} {g : State → State} (h : AutoReads n s) (hg : ∀ t, AutoReads n t → AutoReads n (g t)) :
    AutoReads n (s.when c g) := AutoReads.ite (hg s h) h

/-- An update of the other parts of a state. -/
theorem AutoReads.upd {a2 a3 a4 a5 a6 a7 a8 a9 a10 a11 a12 a13 a14 a15 a16 a17 a18 a19 a20 a21 a22 a23} (h : AutoReads n s) :
    AutoReads n ⟨s.regs, a2, a3, a4, a5, a6, a7, a8, a9, a10, a11, a12, a13, a14, a15, a16, a17, a18, a19, a20, a21, a22,
      a23⟩ := h

theorem State.wr_autoReads {f : Fld} {v : Nat} (h : AutoReads n s) (ha : f.addr ≠ LE0_CTRL := by decide) : AutoReads n (s.wr f v) :=
  (State.rd_wr_addr _ _ _ _ ha).trans h

theorem State.wr_en_autoReads {v : Nat} (h : AutoReads n s) : AutoReads n (s.wr LE0_CTRL_EN v) :=
  (State.rd_wr_field _ _ _ _ (by decide) (by decide) (by decide)).trans h

theorem setCause_autoReads {f : Fld} (h : AutoReads n s) (ha : f.addr ≠ LE0_CTRL := by decide) : AutoReads n (setCause f s) := by
  have hr : (setCause f s).rd LE0_CTRL_AUTO = s.rd LE0_CTRL_AUTO := by
    rw [State.rd, setCause, State.reg_setW1c, if_neg (show f.addr ≠ LE0_CTRL_AUTO.addr from ha)]
    rfl
  exact hr.trans h

theorem setRung_autoReads {k cause : Nat} (h : AutoReads n s) : AutoReads n (setRung k cause s) :=
  State.wr_autoReads (.when (.when (.when (.when (State.wr_autoReads (State.wr_autoReads h))
    fun _ h => setCause_autoReads (setCause_autoReads h)) fun _ h => .upd h) fun _ h => State.wr_autoReads (.upd h))
    fun _ h => State.wr_autoReads h)

theorem railForceStop_autoReads (h : AutoReads n s) : AutoReads n (railForceStop s) :=
  .ite (State.wr_autoReads (State.wr_en_autoReads (.upd h)))
    (State.wr_autoReads (State.wr_autoReads (State.wr_en_autoReads (.upd h))))

theorem goDark_autoReads {cause : Nat} (h : AutoReads n s) : AutoReads n (goDark cause s) := by
  unfold goDark
  refine .ite (State.wr_autoReads (.upd ?_)) (.upd ?_)
  all_goals
    exact railForceStop_autoReads (State.wr_autoReads (.when (State.wr_autoReads (State.wr_autoReads (.upd h)))
      fun _ h => setRung_autoReads h))

theorem requireRung_autoReads {req cause : Nat} (h : AutoReads n s) : AutoReads n (requireRung req cause s) :=
  .ite (.ite (goDark_autoReads h) h) (.ite (.ite (setRung_autoReads h) h)
    (.ite (.ite h (.ite (setRung_autoReads h) (setRung_autoReads h))) h))

theorem railBlind_autoReads (h : AutoReads n s) : AutoReads n (railBlind s) :=
  .ite (requireRung_autoReads (railForceStop_autoReads h)) h

theorem chooseSense_autoReads (h : AutoReads n s) : AutoReads n (chooseSense s) := State.wr_autoReads h

/-- What a start of the rail clears, with the profile at the measured rail (R380). -/
def railFresh (t : State) : State :=
  { t with loops := { t.loops with
      iInt := 0, satHi := false, satLo := false, okRun := 0, impRun := [], frz := [], ovRun := [], uvRun := 0
      uvDone := false, ovHold := false, ocRun := [], ocThis := [], tripped := [], holdReq := 0
      rail := profStart (vUsed t) } }

theorem railUnit_start (s : State) : railUnit.start s = railBlind (railFresh (chooseSense (s.wr LE0_STAT_STOPPED 0))) := rfl

theorem railFresh_autoReads (h : AutoReads n s) : AutoReads n (railFresh s) := h

theorem railStart_autoReads (h : AutoReads n s) : AutoReads n (railUnit.start s) := by
  rw [railUnit_start]
  exact railBlind_autoReads (railFresh_autoReads (chooseSense_autoReads (State.wr_autoReads h)))

theorem setPhase_autoReads {k : Nat} {hi : Bool} (h : AutoReads n s) : AutoReads n (setPhase k hi s) := .ite h (.upd h)

theorem AutoReads.forN {k : Nat} {g : Nat → State → State} (h : AutoReads n s) (hg : ∀ i t, AutoReads n t → AutoReads n (g i t)) :
    AutoReads n (s.forN k g) :=
  List.foldlRecOn (List.range k) _ h fun t ht i _ => hg i t ht

theorem allLow_autoReads (h : AutoReads n s) : AutoReads n (allLow s) := h.forN fun _ _ h => setPhase_autoReads h

end

/-! ### A unit's request -/

section
variable {u : UnitF} {stop : State → State} {s : State}

theorem unitEnable_cases : unitEnable u s = (unitStart u (s.wr u.en 1), .ok) ∨
    unitEnable u s = ((s.wr u.en 1).wr u.pending 1, .acceptedPending) ∨ unitEnable u s = (s.wr u.en 1, .ok) := by
  rw [unitEnable]
  split
  · exact .inl rfl
  · exact .inr (.inl rfl)
  · exact .inr (.inr rfl)

theorem unitDisable_cases : unitDisable u stop s = (s.wr u.en 0, .ok) ∨
    unitDisable u stop s = ((s.wr u.en 0).wr u.pending 0, .ok) ∨ unitDisable u stop s = (stop ((s.wr u.en 0).wr u.unit 3), .ok) := by
  rw [unitDisable]
  split
  · exact .inl rfl
  · exact .inr (.inl rfl)
  · exact .inr (.inr rfl)

theorem unitEnable_off (h : s.rd u.unit = 0) : unitEnable u s = (u.start ((s.wr u.en 1).wr u.unit 1), .ok) := by
  rw [unitEnable, h]
  rfl

theorem unitEnable_stopping (h : s.rd u.unit = 3) : unitEnable u s = ((s.wr u.en 1).wr u.pending 1, .acceptedPending) := by
  simp only [unitEnable, h]

theorem unitEnable_on (h : s.rd u.unit = 2) : unitEnable u s = (s.wr u.en 1, .ok) := by
  simp only [unitEnable, h]

theorem unitDisable_on (h : s.rd u.unit = 2) : unitDisable u stop s = (stop ((s.wr u.en 0).wr u.unit 3), .ok) := by
  simp only [unitDisable, h]

theorem unitEnable_went : went (unitEnable u s) = true := by
  rcases unitEnable_cases (u := u) (s := s) with h | h | h
  all_goals
    rw [h]
    rfl

theorem unitDisable_went : went (unitDisable u stop s) = true := by
  rcases unitDisable_cases (u := u) (stop := stop) (s := s) with h | h | h
  all_goals
    rw [h]
    rfl

end

/-! ### The enable bits -/

section
variable {s : State}

theorem unitEnable_autoReads {n : Nat} {u : UnitF} (hen : ∀ v t, AutoReads n t → AutoReads n (t.wr u.en v))
    (hu : ∀ v t, AutoReads n t → AutoReads n (t.wr u.unit v)) (hp : ∀ v t, AutoReads n t → AutoReads n (t.wr u.pending v))
    (hs : ∀ t, AutoReads n t → AutoReads n (u.start t)) (h : AutoReads n s) : AutoReads n (unitEnable u s).1 := by
  rcases unitEnable_cases (u := u) (s := s) with e | e | e
  · rw [e]
    exact hs _ (hu _ _ (hen _ _ h))
  · rw [e]
    exact hp _ _ (hen _ _ h)
  · rw [e]
    exact hen _ _ h

theorem unitDisable_autoReads {n : Nat} {u : UnitF} {stop : State → State} (hen : ∀ v t, AutoReads n t → AutoReads n (t.wr u.en v))
    (hu : ∀ v t, AutoReads n t → AutoReads n (t.wr u.unit v)) (hp : ∀ v t, AutoReads n t → AutoReads n (t.wr u.pending v))
    (hs : ∀ t, AutoReads n t → AutoReads n (stop t)) (h : AutoReads n s) : AutoReads n (unitDisable u stop s).1 := by
  rcases unitDisable_cases (u := u) (stop := stop) (s := s) with e | e | e
  · rw [e]
    exact hen _ _ h
  · rw [e]
    exact hp _ _ (hen _ _ h)
  · rw [e]
    exact hs _ (hu _ _ (hen _ _ h))

/-- A request that a loop refuses changes nothing. -/
theorem railEnable_cases : (went (railEnable s) = true ∧ (railEnable s).1.rd LE0_CTRL_AUTO = s.rd LE0_CTRL_AUTO)
    ∨ railEnable s = (s, .safeState) := by
  rw [railEnable]
  split
  · exact .inl ⟨unitEnable_went, unitEnable_autoReads (n := s.rd LE0_CTRL_AUTO) (fun _ _ h => State.wr_en_autoReads h)
      (fun _ _ h => State.wr_autoReads h) (fun _ _ h => State.wr_autoReads h) (fun _ h => railStart_autoReads h) rfl⟩
  · exact .inr rfl

theorem railDisable_cases : (went (railDisable s) = true ∧ (railDisable s).1.rd LE0_CTRL_AUTO = s.rd LE0_CTRL_AUTO)
    ∨ railDisable s = (s, .safeState) := by
  rw [railDisable]
  split
  · exact .inl ⟨unitDisable_went, unitDisable_autoReads (n := s.rd LE0_CTRL_AUTO) (fun _ _ h => State.wr_en_autoReads h)
      (fun _ _ h => State.wr_autoReads h) (fun _ _ h => State.wr_autoReads h) (fun _ h => allLow_autoReads h) rfl⟩
  · exact .inr rfl

/-- An effect that is carried out or changes nothing is what the write answers. -/
theorem answer_whole {r : State × Status} (h : went r = true ∨ r.1 = s) : (if went r then r else (s, r.2)) = r := by
  cases hw : went r
  · obtain hs : r.1 = s := h.resolve_left (by rw [hw]; exact Bool.false_ne_true)
    rw [if_neg Bool.false_ne_true, ← hs]
  · rfl

theorem andThen_same {r : State × Status} {g : State → State × Status} (h : went r = true → g r.1 = (r.1, .ok)) : andThen r g = r := by
  cases hw : went r
  · simp only [andThen, hw, Bool.false_eq_true, if_false]
  · simp only [andThen, hw, h hw, if_true]

theorem enableBit_on {f : Fld} {x m : Word} {en dis : State → State × Status} (ha : actsOn f m = true) (hh : hits f x m = true) :
    enableBit f x m en dis s = en s := by
  simp only [enableBit, ha, hh, if_true]

theorem enableBit_off {f : Fld} {x m : Word} {en dis : State → State × Status} (ha : actsOn f m = true) (hh : hits f x m = false) :
    enableBit f x m en dis s = dis s := by
  simp only [enableBit, ha, hh, if_true, Bool.false_eq_true, if_false]

/-- The request of the rail's enable bit, with AUTO as it was. -/
theorem le0En_row {v : Nat} {r : State × Status}
    (he : enableBit LE0_CTRL_EN (setBits (s.reg LE0_CTRL) 0 0 v) LE0_CTRL_EN.mask railEnable railDisable s = r)
    (hr : (went r = true ∧ r.1.rd LE0_CTRL_AUTO = s.rd LE0_CTRL_AUTO) ∨ r = (s, .safeState)) (hc : r.1.canonical = true) :
    writeField LE0_CTRL_EN v s = answered r := by
  have hauto : fv (setBits (s.reg LE0_CTRL) 0 0 v) LE0_CTRL_AUTO = s.rd LE0_CTRL_AUTO :=
    fv_setBits_apart (f := LE0_CTRL_EN) (g := LE0_CTRL_AUTO) (by decide) rfl (by decide) v
  have hw : le0Write LE0_CTRL (setBits (s.reg LE0_CTRL) 0 0 v) LE0_CTRL_EN.mask s = r := by
    rw [le0Write, if_pos rfl, he, hauto]
    refine andThen_same fun hw => ?_
    rcases hr with ⟨-, hr⟩ | hr
    · rw [← hr, State.wr_rd_self hc (by decide)]
    · have hf : went (s, Status.safeState) = false := rfl
      rw [hr, hf] at hw
      exact absurd hw Bool.false_ne_true
  rw [writeField_hook (by decide) ((regHook_le0 (by decide)).trans hw), answer_whole]
  exact hr.imp (fun hr => hr.1) fun hr => by rw [hr]

theorem le0En_on (hs : s.canonical = true) : execLe0En true s = answered (railEnable s) :=
  le0En_row (enableBit_on (by decide) ((hits_setBits (f := LE0_CTRL_EN) (by decide) _ _ _).trans (by decide))) railEnable_cases
    ((railEnable_keeps (Keeps.refl false s)).canonical hs)

theorem le0En_off (hs : s.canonical = true) : execLe0En false s = answered (railDisable s) :=
  le0En_row (enableBit_off (by decide) ((hits_setBits (f := LE0_CTRL_EN) (by decide) _ _ _).trans (by decide))) railDisable_cases
    ((railDisable_keeps (Keeps.refl false s)).canonical hs)

/-- HALL_EN keeps its value in a write of another enable bit. -/
theorem le1Write_ctrl {f : Fld} {v : Nat} (hs : s.canonical = true) (hf : f.sound = true) (ha : f.addr = LE1_CTRL)
    (hb : LE1_CTRL_HALL_EN.msb < f.lsb ∨ f.msb < LE1_CTRL_HALL_EN.lsb) :
    le1Write LE1_CTRL (setBits (s.reg LE1_CTRL) f.msb f.lsb v) f.mask s
      = andThen (enableBit LE1_CTRL_LVL_EN (setBits (s.reg LE1_CTRL) f.msb f.lsb v) f.mask lvlEnable lvlDisable (syncAim s))
          (enableBit LE1_CTRL_FAN_EN (setBits (s.reg LE1_CTRL) f.msb f.lsb v) f.mask fanEnable fanDisable) := by
  have hh : fv (setBits (s.reg LE1_CTRL) f.msb f.lsb v) LE1_CTRL_HALL_EN = s.rd LE1_CTRL_HALL_EN := by
    rw [← ha]
    exact fv_setBits_apart hf ha.symm hb v
  rw [le1Write, if_pos rfl, hh, State.wr_rd_self hs (by decide)]

theorem lvlEn_row {v : Nat} {r : State × Status} (hs : s.canonical = true)
    (he : enableBit LE1_CTRL_LVL_EN (setBits (s.reg LE1_CTRL) 0 0 v) LE1_CTRL_LVL_EN.mask lvlEnable lvlDisable (syncAim s) = r) :
    writeField LE1_CTRL_LVL_EN v s = answered (if went r then r else (s, r.2)) := by
  refine writeField_hook (by decide) ((regHook_le1 (by decide)).trans ((le1Write_ctrl (f := LE1_CTRL_LVL_EN) hs (by decide) rfl
    (by decide)).trans ?_))
  rw [andThen_same fun _ => enableBit_apart (by decide)]
  exact he

theorem fanEn_row {v : Nat} {r : State × Status} (hs : s.canonical = true)
    (he : enableBit LE1_CTRL_FAN_EN (setBits (s.reg LE1_CTRL) 1 1 v) LE1_CTRL_FAN_EN.mask fanEnable fanDisable (syncAim s) = r) :
    writeField LE1_CTRL_FAN_EN v s = answered (if went r then r else (s, r.2)) := by
  have ha : ∀ {u : State} {g : State → State × Status}, andThen (u, .ok) g = ((g u).1, (g u).2) := by
    intro u g
    have hw : went (u, Status.ok) = true := rfl
    simp only [andThen, hw, if_true]
    split
    next h => rw [h]
    · rfl
  refine writeField_hook (by decide) ((regHook_le1 (by decide)).trans ((le1Write_ctrl (f := LE1_CTRL_FAN_EN) hs (by decide) rfl
    (by decide)).trans ?_))
  rw [enableBit_apart (f := LE1_CTRL_LVL_EN) (by decide), ha]
  exact he

theorem syncAim_hall : (syncAim s).bit LE1_CTRL_HALL_EN = s.bit LE1_CTRL_HALL_EN := by
  rw [State.bit, State.bit, syncAim, State.rd_wr_addr _ _ _ _ (by decide)]

theorem lvlEn_on (hs : s.canonical = true) (h : s.bit LE1_CTRL_HALL_EN = true) :
    execLvlEn true s = answered (lvlEnable (syncAim s)) := by
  have hw : went (lvlEnable (syncAim s)) = true := by
    rw [lvlEnable, syncAim_hall, if_pos h]
    exact unitEnable_went
  refine (lvlEn_row hs (enableBit_on (by decide)
    ((hits_setBits (f := LE1_CTRL_LVL_EN) (by decide) _ _ _).trans (by decide)))).trans ?_
  rw [if_pos hw]

theorem lvlEn_busy (hs : s.canonical = true) (h : s.bit LE1_CTRL_HALL_EN = false) : execLvlEn true s = answered (s, .busy) := by
  have he : lvlEnable (syncAim s) = (syncAim s, .busy) := by
    rw [lvlEnable, syncAim_hall, h]
    rfl
  have hw : went (syncAim s, Status.busy) = false := rfl
  refine (lvlEn_row hs ((enableBit_on (by decide)
    ((hits_setBits (f := LE1_CTRL_LVL_EN) (by decide) _ _ _).trans (by decide))).trans he)).trans ?_
  rw [hw, if_neg Bool.false_ne_true]

theorem lvlEn_off (hs : s.canonical = true) : execLvlEn false s = answered (lvlDisable (syncAim s)) := by
  refine (lvlEn_row hs (enableBit_off (by decide)
    ((hits_setBits (f := LE1_CTRL_LVL_EN) (by decide) _ _ _).trans (by decide)))).trans ?_
  rw [lvlDisable, if_pos unitDisable_went]

theorem fanEn_on (hs : s.canonical = true) : execFanEn true s = answered (fanEnable (syncAim s)) := by
  refine (fanEn_row hs (enableBit_on (by decide)
    ((hits_setBits (f := LE1_CTRL_FAN_EN) (by decide) _ _ _).trans (by decide)))).trans ?_
  rw [fanEnable, if_pos unitEnable_went]

theorem fanEn_off (hs : s.canonical = true) : execFanEn false s = answered (fanDisable (syncAim s)) := by
  refine (fanEn_row hs (enableBit_off (by decide)
    ((hits_setBits (f := LE1_CTRL_FAN_EN) (by decide) _ _ _).trans (by decide)))).trans ?_
  rw [fanDisable, if_pos unitDisable_went]

end

/-! ### LOOP_ENABLE and LOOP_DISABLE -/

section
variable {t : State}

theorem rail_starts (h : t.rd LE0_STAT_UNIT = 0) :
    unitEnable railUnit t = (railUnit.start ((t.wr LE0_CTRL_EN 1).wr LE0_STAT_UNIT 1), .ok) := unitEnable_off (u := railUnit) h

theorem rail_pends (h : t.rd LE0_STAT_UNIT = 3) :
    unitEnable railUnit t = ((t.wr LE0_CTRL_EN 1).wr LE0_STAT_EN_PENDING 1, .acceptedPending) := unitEnable_stopping (u := railUnit) h

theorem rail_runs (h : t.rd LE0_STAT_UNIT = 2) : unitEnable railUnit t = (t.wr LE0_CTRL_EN 1, .ok) := unitEnable_on (u := railUnit) h

theorem rail_stops (h : t.rd LE0_STAT_UNIT = 2) :
    unitDisable railUnit railStop t = (allLow ((t.wr LE0_CTRL_EN 0).wr LE0_STAT_UNIT 3), .ok) := unitDisable_on (u := railUnit) h

theorem lvl_starts (h : t.rd LE1_LVL_STAT_UNIT = 0) :
    unitEnable lvlUnit t = (lvlUnit.start ((t.wr LE1_CTRL_LVL_EN 1).wr LE1_LVL_STAT_UNIT 1), .ok) := unitEnable_off (u := lvlUnit) h

theorem lvl_stops (h : t.rd LE1_LVL_STAT_UNIT = 2) :
    unitDisable lvlUnit lvlBrake t = (lvlBrake ((t.wr LE1_CTRL_LVL_EN 0).wr LE1_LVL_STAT_UNIT 3), .ok) := unitDisable_on (u := lvlUnit) h

theorem fan_starts (h : t.rd LE1_FAN_STAT_UNIT = 0) : unitEnable fanUnit t
    = ((((t.wr LE1_CTRL_FAN_EN 1).wr LE1_FAN_STAT_UNIT 1).wr LE1_FAN_STAT_DUTY 1023).wr LE1_FAN_STAT_STALL 0, .ok) := by
  have hs : ∀ s, fanUnit.start s = (s.wr LE1_FAN_STAT_DUTY 1023).wr LE1_FAN_STAT_STALL 0 := fun _ => rfl
  rw [← hs]
  exact unitEnable_off (u := fanUnit) h

theorem fan_stops (h : t.rd LE1_FAN_STAT_UNIT = 2) : unitDisable fanUnit (fun t => t.wr LE1_FAN_STAT_DUTY 0) t
    = (((t.wr LE1_CTRL_FAN_EN 0).wr LE1_FAN_STAT_UNIT 3).wr LE1_FAN_STAT_DUTY 0, .ok) := unitDisable_on (u := fanUnit) h

theorem resOf_ok (t : State) : resOf (t, .ok) = ok t := rfl

end

section
variable {o : Outst} {c : Cmd} {t : State} {r : State × Status}

theorem loopEnable_rail (ho : o.cmd = c) (h : c.p0 = 0) (hr : t.rd DEV_LADDER_RUNG ≠ 4) (hs : t.bit SMC_STAT_SAFE_SNS = true)
    (he : unitEnable railUnit t = r) : loopEnable o t = resOf r := by
  subst ho he
  have hm : railMay t = true := by
    rw [railMay, decide_eq_true hr, hs]
    rfl
  simp only [loopEnable, h, railEnable, hm, if_true]

theorem loopEnable_dark (ho : o.cmd = c) (h : c.p0 = 0) (hr : t.rd DEV_LADDER_RUNG = 4) : loopEnable o t = ans t .safeState := by
  subst ho
  have hm : railMay t = false := by
    rw [railMay, hr]
    rfl
  simp only [loopEnable, h, railEnable, hm, Bool.false_eq_true, if_false]
  rfl

theorem loopEnable_lvl (ho : o.cmd = c) (h : c.p0 = 1) (hh : t.bit LE1_CTRL_HALL_EN = true) (he : unitEnable lvlUnit t = r) :
    loopEnable o t = resOf r := by
  subst ho he
  simp only [loopEnable, h, lvlEnable, hh, if_true]

theorem loopEnable_still (ho : o.cmd = c) (h : c.p0 = 1) (hh : t.bit LE1_CTRL_HALL_EN = false) : loopEnable o t = ans t .busy := by
  subst ho
  simp only [loopEnable, h, lvlEnable, hh, Bool.false_eq_true, if_false]
  rfl

theorem loopEnable_fan (ho : o.cmd = c) (h : c.p0 = 2) (he : unitEnable fanUnit t = r) : loopEnable o t = resOf r := by
  subst ho he
  simp only [loopEnable, h, fanEnable]

theorem loopEnable_none (ho : o.cmd = c) (h : 3 ≤ c.p0) : loopEnable o t = ans t .badParam := by
  subst ho
  have hn : ∀ n, 3 ≤ n → (match n with
      | 0 => resOf (railEnable t)
      | 1 => resOf (lvlEnable t)
      | 2 => resOf (fanEnable t)
      | _ => ans t .badParam) = ans t .badParam := by
    intro n hn
    obtain ⟨k, rfl⟩ : ∃ k, n = k + 3 := ⟨n - 3, by omega⟩
    rfl
  exact hn _ h

theorem loopDisable_rail (ho : o.cmd = c) (h : c.p0 = 0) (hr : t.rd DEV_LADDER_RUNG = 4) (he : unitDisable railUnit railStop t = r) :
    loopDisable o t = resOf r := by
  subst ho he
  simp only [loopDisable, h, railDisable, hr, if_true]

theorem loopDisable_lit (ho : o.cmd = c) (h : c.p0 = 0) (hr : t.rd DEV_LADDER_RUNG ≠ 4) : loopDisable o t = ans t .safeState := by
  subst ho
  simp only [loopDisable, h, railDisable, hr, if_false]
  rfl

theorem loopDisable_lvl (ho : o.cmd = c) (h : c.p0 = 1) (he : unitDisable lvlUnit lvlBrake t = r) : loopDisable o t = resOf r := by
  subst ho he
  simp only [loopDisable, h, lvlDisable]

theorem loopDisable_fan (ho : o.cmd = c) (h : c.p0 = 2)
    (he : unitDisable fanUnit (fun t => t.wr LE1_FAN_STAT_DUTY 0) t = r) : loopDisable o t = resOf r := by
  subst ho he
  simp only [loopDisable, h, fanDisable]

end

/-- Settles O34: a loop's number names its unit, whose request is answered by its state. -/
theorem loopEnables : Obligations.LoopEnables := by
  intro c s t
  refine ⟨fun h ht => ?_, fun h ht => ?_, fun hp hs => ⟨exec_runs hp rfl (le0En_on hs), exec_runs hp rfl (le0En_off hs),
    fun hh => exec_runs hp rfl (lvlEn_on hs hh), fun hh => exec_runs hp rfl (lvlEn_busy hs hh), exec_runs hp rfl (lvlEn_off hs),
    exec_runs hp rfl (fanEn_on hs), exec_runs hp rfl (fanEn_off hs)⟩⟩
  · subst ht
    exact ⟨fun h0 hr hs =>
        ⟨fun hu => exec_admits h rfl ((loopEnable_rail (o := issued .loopEnable c s) rfl h0 hr hs (rail_starts hu)).trans (resOf_ok _)),
         fun hu => exec_admits h rfl (loopEnable_rail (o := issued .loopEnable c s) rfl h0 hr hs (rail_pends hu)),
         fun hu => exec_admits h rfl ((loopEnable_rail (o := issued .loopEnable c s) rfl h0 hr hs (rail_runs hu)).trans (resOf_ok _))⟩,
      fun h0 hr => exec_admits h rfl (loopEnable_dark (o := issued .loopEnable c s) rfl h0 hr),
      fun h1 hh => exec_admits h rfl (loopEnable_still (o := issued .loopEnable c s) rfl h1 hh),
      fun h1 hh hu => exec_admits h rfl ((loopEnable_lvl (o := issued .loopEnable c s) rfl h1 hh (lvl_starts hu)).trans (resOf_ok _)),
      fun h2 hu => exec_admits h rfl ((loopEnable_fan (o := issued .loopEnable c s) rfl h2 (fan_starts hu)).trans (resOf_ok _)),
      fun h3 => exec_admits h rfl (loopEnable_none (o := issued .loopEnable c s) rfl h3)⟩
  · subst ht
    exact ⟨fun h0 hr hu => exec_admits h rfl ((loopDisable_rail (o := issued .loopDisable c s) rfl h0 hr (rail_stops hu)).trans (resOf_ok _)),
      fun h0 hr => exec_admits h rfl (loopDisable_lit (o := issued .loopDisable c s) rfl h0 hr),
      fun h1 hu => exec_admits h rfl ((loopDisable_lvl (o := issued .loopDisable c s) rfl h1 (lvl_stops hu)).trans (resOf_ok _)),
      fun h2 hu => exec_admits h rfl ((loopDisable_fan (o := issued .loopDisable c s) rfl h2 (fan_stops hu)).trans (resOf_ok _))⟩

end Sys2Proof.Machine
end

section
/-!
PROOF. Settings and traces of the loop engines.
-/
namespace Sys2Proof.Machine

/-! ### SETPOINT, LOOP_CFG and LOOP_HOLD -/

section
variable {o : Outst} {c : Cmd} {t : State}

theorem setpoint_rail (ho : o.cmd = c) (h : c.p0 = 0) (h1 : 3000 ≤ c.w 1) (h2 : c.w 1 ≤ 4200) :
    setpoint o t = ok (t.wr LE0_SP_SP_MV (c.w 1)) := by
  subst ho
  simp only [setpoint, h, if_pos (⟨h1, h2⟩ : 3000 ≤ o.cmd.w 1 ∧ o.cmd.w 1 ≤ 4200)]

theorem setpoint_outside (ho : o.cmd = c) (h : c.p0 = 0) (hw : c.w 1 < 3000 ∨ 4200 < c.w 1) : setpoint o t = ans t .badParam := by
  subst ho
  have hn : ¬ (3000 ≤ o.cmd.w 1 ∧ o.cmd.w 1 ≤ 4200) := by omega
  simp only [setpoint, h, if_neg hn]

theorem setpoint_lvl (ho : o.cmd = c) (h : c.p0 = 1) (hs : lvlSpOk (t.reg LE1_LVL_LIM) (toSigned 32 (c.w 1)) = true) :
    setpoint o t = ok (t.wr LE1_LVL_SP_SP (ofSigned 16 (toSigned 32 (c.w 1)))) := by
  subst ho
  simp only [setpoint, h, hs, if_true]

theorem setpoint_fan (ho : o.cmd = c) (h : c.p0 = 2) (hw : c.w 1 ≤ 12000) :
    setpoint o t = if t.bit LE1_FAN_SP_AUTO then ans t .busy else ok (t.wr LE1_FAN_SP_RPM (c.w 1)) := by
  subst ho
  simp only [setpoint, h, Nat.not_lt.mpr hw, if_false]

theorem loopCfg_eq {l : List (Nat × Word)} (ho : o.cmd = c) (h : c.p0 < 3) (hl : l = (loopRegs c.p0).zip c.words)
    (hr : l.all (fun x => rangeOk x.1 x.2) = true)
    (hs : c.p0 = 1 → lvlSpOk (c.words.getD 1 0#32) (toSigned 16 (fv (c.words.getD 2 0#32) LE1_LVL_SP_SP)) = true) :
    loopCfg o t = if l.any (fun x => loopRegBusy x.1 x.2 t) then ans t .busy
      else ok (l.foldl (fun u x => u.wrWord x.1 x.2) t) := by
  subst ho hl
  have hn : ¬ (3 ≤ o.cmd.p0 ∨ (!((loopRegs o.cmd.p0).zip o.cmd.words).all (fun x => rangeOk x.1 x.2)) = true ∨
      (o.cmd.p0 = 1 ∧ (!lvlSpOk (o.cmd.words.getD 1 0#32) (toSigned 16 (fv (o.cmd.words.getD 2 0#32) LE1_LVL_SP_SP))) = true)) := by
    rintro (hp | hp | ⟨hp, hq⟩)
    · exact absurd h (Nat.not_lt.mpr hp)
    · rw [hr] at hp
      exact Bool.false_ne_true hp
    · rw [hs hp] at hq
      exact Bool.false_ne_true hq
  exact if_neg hn

theorem loopHold_ask (ho : o.cmd = c) (h : c.p0 = 32768) : loopHold o t
    = if t.rd LE0_STAT_UNIT = 2 then ok { t with loops := { t.loops with holdReq := 1 } } else ans t .busy := by
  subst ho
  rw [loopHold, h]
  rfl

theorem loopHold_end (ho : o.cmd = c) (h : c.p0 = 0) (hb : t.bit LE0_STAT_HOLD = true) :
    loopHold o t = ok { t with loops := { t.loops with holdReq := 2 } } := by
  subst ho
  simp only [loopHold, h, hb, true_or, if_true, Nat.zero_mod, Nat.zero_div, ne_eq, not_true_eq_false, if_false, zero_ne_one]

end

/-! ### The rows of LE0_SET_SEL, LE0_FB and LE1_FB -/

section
variable {s : State}

/-- The set that the write names. -/
theorem setSelWrite_row (v : BitVec 3) {r : State × Status} (hr : setSelWrite v.toNat s = r) (hk : went r = true ∨ r.1 = s) :
    execLe0SetSelWrite v s = answered r := by
  have hv : fv (setBits (s.reg LE0_SET_SEL) 2 0 v.toNat) LE0_SET_SEL_SET = v.toNat :=
    (fv_setBits_same (f := LE0_SET_SEL_SET) (by decide) _ _).trans (Nat.mod_eq_of_lt v.isLt)
  have hw : le0Write LE0_SET_SEL (setBits (s.reg LE0_SET_SEL) 2 0 v.toNat) LE0_SET_SEL_SET.mask s = r := by
    rw [le0Write, if_neg (by decide), if_pos rfl, hv, hr]
  rw [execLe0SetSelWrite, writeField_hook (by decide) ((regHook_le0 (by decide)).trans hw), answer_whole hk]

theorem setSelWrite_none {v : Nat} (hv : v < 8) (h : gsNewest s ≤ v) : setSelWrite v s = (s, .badParam) :=
  if_pos (by rw [Nat.mod_eq_of_lt hv]; exact h)

theorem setSelWrite_some {v : Nat} (hv : v < 8) (h : v < gsNewest s) : setSelWrite v s
    = if railRuns s = true ∧ (!s.bit LE0_STAT_HOLD) = true then (s, .busy) else (s.wr LE0_SET_SEL_SET v, .ok) :=
  if_neg (by rw [Nat.mod_eq_of_lt hv]; exact Nat.not_le.mpr h)

/-- The bits of a feedback register that the write names. -/
theorem fbClear_row {f : Fld} {v : Nat} {t : State} (hf : f.sound = true) (hl : f.lsb = 0) (hv : v ≤ f.top)
    (hc : clearReg f.addr = true) (ha : f.addr = LE0_FB ∨ f.addr = LE1_FB) (hz : clearMask f.addr ≠ 0)
    (hh : ∀ x m : Word, (x &&& m).toNat = v → regHook f.addr x m s = (t, .ok)) : writeField f v s = answered (t, .ok) := by
  have hb : (setBits (s.reg f.addr) f.msb f.lsb v &&& f.mask).toNat = v := by
    rw [setBits_and_mask hf, lowBits_toNat hf hl hv]
  refine congrArg answered ((regWrite_clearReg hc (masked_eq_setBits hf (s.reg f.addr) v).symm (hh _ _ hb)).trans ?_)
  rw [if_neg hz, w1cClear, if_pos (ha.imp_right .inl)]

theorem le0FbClear_row (v : BitVec 4) (tie : Bool) : execLe0FbClear v tie s = answered (le0FbClear v.toNat (s.apart tie), .ok) := by
  refine fbClear_row (f := ⟨LE0_FB, 3, 0⟩) (by decide) rfl (Nat.le_of_lt_succ v.isLt) (by decide) (.inl rfl) (by decide)
    fun x m hx => (regHook_le0 (by decide)).trans ?_
  rw [le0Write, if_neg (by decide), if_neg (by decide), if_pos rfl, hx]

theorem le1FbClear_row (v : BitVec 3) (tie : Bool) : execLe1FbClear v tie s = answered (le1FbClear v.toNat (s.apart tie), .ok) := by
  refine fbClear_row (f := ⟨LE1_FB, 2, 0⟩) (by decide) rfl (Nat.le_of_lt_succ v.isLt) (by decide) (.inr rfl) (by decide)
    fun x m hx => (regHook_le1 (by decide)).trans ?_
  rw [le1Write, if_neg (by decide), if_neg (by decide), if_pos rfl, hx]

end

/-! ### Traces -/

section
variable {o : Outst} {c : Cmd} {t : State}

theorem traceArm_arms {x y : TraceSt} (ho : o.cmd = c) (h : c.p0 < 2) (hr1 : c.w 1 / 2 ^ 12 % 16 = 0) (hr2 : c.w 2 / 2 ^ 24 % 16 = 0)
    (ha : c.w 1 / 2 ^ 28 ≤ (if c.p0 = 0 then 8 else 7)) (hb : c.w 1 / 2 ^ 24 % 16 ≤ (if c.p0 = 0 then 8 else 7))
    (hk : c.w 2 / 2 ^ 28 < 6) (hff : c.p0 = 0 ∨ c.w 2 / 2 ^ 28 ≠ 4)
    (hx : x = { traceOf t c.p0 with w1 := c.w 1, w2 := c.w 2, n := 0 }) (hy : y = { x with skip := 0, left := 0, last := none }) :
    traceArm o t = ok (setTrace c.p0 y (t.wr (LEx_TRACE_STATE c.p0) 1)) := by
  subst ho hx hy
  have hn : ¬ (2 ≤ o.cmd.p0 ∨ o.cmd.w 1 / 2 ^ 12 % 16 ≠ 0 ∨ o.cmd.w 2 / 2 ^ 24 % 16 ≠ 0
      ∨ (if o.cmd.p0 = 0 then 8 else 7) < o.cmd.w 1 / 2 ^ 28 ∨ (if o.cmd.p0 = 0 then 8 else 7) < o.cmd.w 1 / 2 ^ 24 % 16
      ∨ 6 ≤ o.cmd.w 2 / 2 ^ 28 ∨ (o.cmd.w 2 / 2 ^ 28 = 4 ∧ o.cmd.p0 = 1)) := by
    rintro (h' | h' | h' | h' | h' | h' | ⟨h4, h1⟩)
    · exact absurd h (Nat.not_lt.mpr h')
    · exact h' hr1
    · exact h' hr2
    · exact absurd ha (Nat.not_le.mpr h')
    · exact absurd hb (Nat.not_le.mpr h')
    · exact absurd hk (Nat.not_lt.mpr h')
    · exact hff.elim (fun h0 => absurd (h0.symm.trans h1) (by decide)) fun hff => hff h4
  exact if_neg hn

theorem traceRead_eq (ho : o.cmd = c) (h : c.p0 < 2) (h1 : 1 ≤ c.w 2) (h2 : c.w 2 ≤ 511) (h3 : c.w 1 + c.w 2 ≤ 4096) :
    traceRead o t = if t.rd (LEx_TRACE_STATE c.p0) ≠ 3 then ans t .busy
      else okW t ((List.range (c.w 2)).map (fun k => traceWord t c.p0 (c.w 1 + k))) := by
  subst ho
  have hn : ¬ (2 ≤ o.cmd.p0 ∨ o.cmd.w 2 = 0 ∨ 511 < o.cmd.w 2 ∨ 4096 < o.cmd.w 1 + o.cmd.w 2) := by omega
  exact if_neg hn

end

/-- Settles O35: each setting by the loop that it names, and the bits of the feedback registers. -/
theorem loopSettings : Obligations.LoopSettings := by
  intro c s t
  refine ⟨fun h ht => ?_, fun h ht h3 l hl hr hs => ?_, fun h ht => ?_, fun hp => ⟨fun v hv => ?_, fun v hv hr hb => ?_,
    fun v hv hr => ?_, fun v tie => exec_runs hp rfl (le0FbClear_row v tie), fun v tie => exec_runs hp rfl (le1FbClear_row v tie)⟩,
    fun h ht h2 hr1 hr2 ha hb hk hff x y hx hy => ?_, fun h ht h2 h1 h511 hle => ?_⟩
  · subst ht
    refine ⟨fun h0 h1 h2 => exec_admits h rfl (setpoint_rail (o := issued .setpoint c s) rfl h0 h1 h2),
      fun h0 hw => exec_admits h rfl (setpoint_outside (o := issued .setpoint c s) rfl h0 hw),
      fun h1 hs => exec_admits h rfl (setpoint_lvl (o := issued .setpoint c s) rfl h1 hs),
      fun h2 hw ha => exec_admits h rfl ((setpoint_fan (o := issued .setpoint c s) rfl h2 hw).trans (if_neg ?_)),
      fun h2 hw ha => exec_admits h rfl ((setpoint_fan (o := issued .setpoint c s) rfl h2 hw).trans (if_pos ha))⟩
    rw [ha]
    exact Bool.false_ne_true
  · subst ht
    have he := loopCfg_eq (o := issued .loopCfg c s) (t := admitted .loopCfg c s) rfl h3 hl hr hs
    exact ⟨fun hb => exec_admits h rfl (he.trans (if_neg (by rw [hb]; exact Bool.false_ne_true))),
      fun hb => exec_admits h rfl (he.trans (if_pos hb))⟩
  · subst ht
    exact ⟨fun h0 hu => exec_admits h rfl ((loopHold_ask (o := issued .loopHold c s) rfl h0).trans (if_pos hu)),
      fun h0 hu => exec_admits h rfl ((loopHold_ask (o := issued .loopHold c s) rfl h0).trans (if_neg hu)),
      fun h0 hb => exec_admits h rfl (loopHold_end (o := issued .loopHold c s) rfl h0 hb)⟩
  · exact exec_runs hp rfl (setSelWrite_row v (setSelWrite_none v.isLt hv) (.inr rfl))
  · refine exec_runs hp rfl (setSelWrite_row v ((setSelWrite_some v.isLt hv).trans (if_pos ⟨hr, ?_⟩)) (.inr rfl))
    rw [hb]
    rfl
  · refine exec_runs hp rfl (setSelWrite_row v ((setSelWrite_some v.isLt hv).trans (if_neg fun hn => ?_)) (.inl rfl))
    rcases hr with hr | hr
    · exact Bool.false_ne_true (hr.symm.trans hn.1)
    · rw [hr] at hn
      exact Bool.false_ne_true hn.2
  · subst ht
    exact exec_admits h rfl (traceArm_arms (o := issued .traceArm c s) rfl h2 hr1 hr2 ha hb hk hff hx hy)
  · subst ht
    have he := traceRead_eq (o := issued .traceRead c s) (t := admitted .traceRead c s) rfl h2 h1 h511 hle
    exact ⟨fun hs => exec_admits h rfl (he.trans (if_neg (not_not_intro hs))), fun hs => exec_admits h rfl (he.trans (if_pos hs))⟩

end Sys2Proof.Machine
end

section
/-!
PROOF. The events of the rail: its phases, its life, and the supervision of its senses.
-/
namespace Sys2Proof.Machine

/-! ### Phases -/

section
variable {k : Fin 6} {since : Nat} {s t : State}

theorem crossing_none {rise : Bool} (h : s.rd LE0_CFG_N_PH ≤ k.val ∨ since < 50) : execPhaseThresholdCrossing k rise since s = s :=
  if_pos h

theorem crossing_rise (h1 : k.val < s.rd LE0_CFG_N_PH) (h2 : 50 ≤ since) :
    execPhaseThresholdCrossing k true since s = setPhase k.val false s :=
  if_neg (by omega : ¬ (s.rd LE0_CFG_N_PH ≤ k.val ∨ since < 50))

/-- A fall below the low threshold, without the trip's mark. -/
theorem crossing_fall (h1 : k.val < s.rd LE0_CFG_N_PH) (h2 : 50 ≤ since)
    (ht : t = { s with loops := { s.loops with tripped := storeSet false s.loops.tripped k.val false } }) :
    execPhaseThresholdCrossing k false since s
      = if (!railRuns t) = true ∨ t.loops.ovHold = true ∨ (t.loops.thHi = 0 ∧ t.loops.thLo = 0) then t
        else setPhase k.val true { (if storeGet false t.loops.ocThis k.val then t
            else { t with loops := { t.loops with ocRun := storeSet 0 t.loops.ocRun k.val 0 } }) with
          loops := { (if storeGet false t.loops.ocThis k.val then t
            else { t with loops := { t.loops with ocRun := storeSet 0 t.loops.ocRun k.val 0 } }).loops with
            ocThis := storeSet false (if storeGet false t.loops.ocThis k.val then t
              else { t with loops := { t.loops with ocRun := storeSet 0 t.loops.ocRun k.val 0 } }).loops.ocThis k.val false } } := by
  subst ht
  exact (if_neg (by omega : ¬ (s.rd LE0_CFG_N_PH ≤ k.val ∨ since < 50))).trans (if_neg Bool.false_ne_true)

theorem crossing_held (h1 : k.val < s.rd LE0_CFG_N_PH) (h2 : 50 ≤ since)
    (h : railRuns s = false ∨ s.loops.ovHold = true ∨ (s.loops.thHi = 0 ∧ s.loops.thLo = 0)) :
    execPhaseThresholdCrossing k false since s
      = { s with loops := { s.loops with tripped := storeSet false s.loops.tripped k.val false } } :=
  (crossing_fall h1 h2 rfl).trans (if_pos (h.imp_left fun h => congrArg (!·) h))

theorem crossing_on {l m : List (Nat × Bool)} {n : List (Nat × Nat)} {f : LoopSt} (h1 : k.val < s.rd LE0_CFG_N_PH) (h2 : 50 ≤ since)
    (hr : railRuns s = true) (ho : s.loops.ovHold = false) (ht : s.loops.thHi ≠ 0 ∨ s.loops.thLo ≠ 0)
    (hl : l = storeSet false s.loops.tripped k.val false) (hm : m = storeSet false s.loops.ocThis k.val false)
    (hn : storeGet false s.loops.ocThis k.val = false → n = storeSet 0 s.loops.ocRun k.val 0)
    (hn' : storeGet false s.loops.ocThis k.val = true → n = s.loops.ocRun)
    (hf : f = { s.loops with tripped := l, ocRun := n, ocThis := m }) :
    execPhaseThresholdCrossing k false since s = setPhase k.val true { s with loops := f } := by
  subst hl hm hf
  refine (crossing_fall h1 h2 rfl).trans ((if_neg ?_).trans ?_)
  · rintro (h | h | ⟨h, h'⟩)
    · exact Bool.false_ne_true ((congrArg (!·) hr).symm.trans h)
    · exact Bool.false_ne_true (ho.symm.trans h)
    · exact ht.elim (fun ht => ht h) fun ht => ht h'
  · cases hc : storeGet false s.loops.ocThis k.val
    · rw [if_neg Bool.false_ne_true, hn hc]
    · rw [if_pos rfl, hn' hc]

theorem trip_none (h : s.rd LE0_CFG_N_PH ≤ k.val ∨ s.bit LE0_STAT_STOPPED = true) : execPhaseOcTrip k s = s := if_pos h

/-- The frame's marks of a trip, with the run that the phase then has. -/
theorem trip_eq {run : List (Nat × Nat)} {g : LoopSt} (h1 : k.val < s.rd LE0_CFG_N_PH) (h2 : s.bit LE0_STAT_STOPPED = false)
    (ht : t = setPhase k.val false (s.bump LE0_COUNT_OC_EVENTS))
    (hr : run = if storeGet false t.loops.ocThis k.val then t.loops.ocRun
      else storeSet 0 t.loops.ocRun k.val (min 16 (storeGet 0 t.loops.ocRun k.val + 1)))
    (hg : g = { t.loops with tripped := storeSet false t.loops.tripped k.val true, ocThis := storeSet false t.loops.ocThis k.val true,
                             ocRun := run, ocRaised := true }) :
    execPhaseOcTrip k s = if s.loops.ocRaised then { t with loops := g } else raise 0x55 k.val { t with loops := g } := by
  subst hr hg ht
  refine if_neg ?_
  rw [h2]
  exact fun h => h.elim (fun h => absurd h1 (Nat.not_lt.mpr h)) Bool.false_ne_true

/-- A phase's output leaves the marks of its trips alone. -/
theorem setPhase_ocThis (k : Nat) (hi : Bool) (u : State) : (setPhase k hi u).loops.ocThis = u.loops.ocThis := by
  rw [setPhase]
  split
  · rfl
  · rfl

theorem persist_none (h : storeGet 0 s.loops.ocRun k.val < 16 ∨ railRuns s = false) : execPhaseOcPersist k s = s :=
  if_pos (h.imp_right fun h => congrArg (!·) h)

theorem persist_stops {f : LoopSt} (h1 : 16 ≤ storeGet 0 s.loops.ocRun k.val) (h2 : railRuns s = true)
    (hf : f = { s.loops with ocRun := storeSet 0 s.loops.ocRun k.val 0 }) :
    execPhaseOcPersist k s = raiseSev 0x55 3 k.val (railForceStop { s with loops := f }) := by
  subst hf
  exact if_neg fun h => h.elim (fun h => absurd h (Nat.not_lt.mpr h1)) fun h => Bool.false_ne_true ((congrArg (!·) h2).symm.trans h)

end

/-! ### The life of the rail -/

section
variable {s t : State}

/-- What AUTO asks for, beside the level of SAFE_SNS. -/
theorem autoStart_eq {sns : Bool} (ht : t = s.wr SMC_STAT_SAFE_SNS (boolNat sns)) : execRailAutoStart sns s
    = if s.bit LE0_CTRL_AUTO = true ∧ s.rd LE0_STAT_UNIT = 0 ∧ s.bit LE0_STAT_STOPPED = true
        ∧ (!s.bit LE0_STAT_EN_PENDING) = true ∧ (decide (s.rd DEV_LADDER_RUNG ≠ 4) && sns) = true
      then railUnit.start ((t.wr LE0_CTRL_EN 1).wr LE0_STAT_UNIT 1) else t := by
  have hr : ∀ f : Fld, f.addr ≠ SMC_STAT → t.rd f = s.rd f := fun f hf => by
    rw [ht, State.rd_wr_addr _ _ _ _ (Ne.symm hf)]
  have hs : t.bit SMC_STAT_SAFE_SNS = sns := by
    rw [State.bit, ht, State.rd_wr_same _ _ _ (by decide) (by decide)]
    cases sns
    · rfl
    · rfl
  have hm : railMay t = (decide (s.rd DEV_LADDER_RUNG ≠ 4) && sns) := by
    rw [railMay, hs, hr _ (by decide)]
  have hb : ∀ f : Fld, f.addr ≠ SMC_STAT → t.bit f = s.bit f := fun f hf => by
    rw [State.bit, State.bit, hr f hf]
  rw [← hb LE0_CTRL_AUTO (by decide), ← hr LE0_STAT_UNIT (by decide), ← hb LE0_STAT_STOPPED (by decide),
    ← hb LE0_STAT_EN_PENDING (by decide), ← hm, ht]
  rfl

theorem railOn_goes {x : Int} (hx : x = s.rd LE0_SP_SP_MV * 4) (hu : s.rd LE0_STAT_UNIT = 1) (hq : s.loops.rail.q = x)
    (hr : s.loops.rail.ref = x) (hn : 100 ≤ s.loops.okRun) : execRailOn s = s.wr LE0_STAT_UNIT 2 := by
  subst hx
  exact if_pos ⟨hu, hq, hr, hn⟩

theorem railOn_early {x : Int} (hx : x = s.rd LE0_SP_SP_MV * 4)
    (h : s.loops.rail.q ≠ x ∨ s.loops.rail.ref ≠ x ∨ s.loops.okRun < 100) : execRailOn s = s := by
  subst hx
  refine if_neg fun ⟨_, hq, hr, hn⟩ => ?_
  exact h.elim (fun h => h hq) fun h => h.elim (fun h => h hr) fun h => absurd hn (Nat.not_le.mpr h)

theorem railOn_apart (h : s.rd LE0_STAT_UNIT ≠ 1) : execRailOn s = s := if_neg fun hc => h hc.1

/-- The unit reaches OFF, and a pending enable runs where it may. -/
theorem unitOff_eq {u : UnitF} {may : State → Bool} {w x : State} (hw : w = s.wr u.unit 0) (hx : x = w.wr u.pending 0) :
    unitOff u may s = if w.bit u.pending then (if may x then u.start (x.wr u.unit 1) else x) else w := by
  subst hx hw
  rfl

theorem stopComplete_apart (h : s.rd LE0_STAT_UNIT ≠ 3 ∨ s.bit LE0_STAT_STOPPED = true) : execRailStopComplete s = s :=
  if_neg fun hc => h.elim (fun h => h hc.1) fun h => Bool.false_ne_true ((congrArg (!·) h).symm.trans hc.2)

/-- The stop completes: `v` is the rail without its currents, and SAFE_OFF follows where a DARK decision waits. -/
theorem stopComplete_eq {f : LoopSt} {u v : State} (hu : s.rd LE0_STAT_UNIT = 3) (hs : s.bit LE0_STAT_STOPPED = false)
    (hf : f = { s.loops with iFf := 0, ffNext := none, thHi := 0, thLo := 0 })
    (hu' : u = (({ s with loops := f } : State).wr LE0_STAT_STOPPED 1).wr LE0_CURRENT_I_FF 0)
    (hv : s.smc.offWait = true → v = safeOffLow u) (hv' : s.smc.offWait = false → v = u) :
    execRailStopComplete s = unitOff railUnit railMay v := by
  have hc : s.rd LE0_STAT_UNIT = 3 ∧ (!s.bit LE0_STAT_STOPPED) = true := ⟨hu, congrArg (!·) hs⟩
  have hsmc : u.smc = s.smc := by
    rw [hu', State.wr_smc, State.wr_smc]
  have hw : u.when u.smc.offWait safeOffLow = v := by
    rw [hsmc]
    cases h : s.smc.offWait
    · exact (hv' h).symm
    · exact (hv h).symm
  rw [execRailStopComplete, if_pos hc, ← hw, hu', hf]

/-- What the end of a stop leaves of the pending enable, and of what a start asks for. -/
theorem stopComplete_kept {u v w x : State} {l : LoopSt}
    (hu : u = (({ s with loops := l } : State).wr LE0_STAT_STOPPED 1).wr LE0_CURRENT_I_FF 0)
    (hv : s.smc.offWait = true → v = safeOffLow u) (hv' : s.smc.offWait = false → v = u) (hw : w = v.wr LE0_STAT_UNIT 0)
    (hx : x = w.wr LE0_STAT_EN_PENDING 0) : w.bit LE0_STAT_EN_PENDING = s.bit LE0_STAT_EN_PENDING ∧ railMay x = railMay s := by
  have hrd : ∀ f : Fld, f = LE0_STAT_EN_PENDING ∨ f = SMC_STAT_SAFE_SNS ∨ f = DEV_LADDER_RUNG → v.rd f = s.rd f := by
    intro f hf
    have h1 : u.rd f = s.rd f := by
      rw [hu]
      rcases hf with rfl | rfl | rfl
      all_goals
        rw [State.rd_wr_addr _ _ _ _ (by decide), State.rd_wr_field _ _ _ _ (by decide) (by decide) (by decide)]
        rfl
    have h2 : (safeOffLow u).rd f = u.rd f := by
      rw [safeOffLow]
      rcases hf with rfl | rfl | rfl
      all_goals
        rw [State.rd_wr_field _ _ _ _ (by decide) (by decide) (by decide)]
        rfl
    cases h : s.smc.offWait
    · rw [hv' h, h1]
    · rw [hv h, h2, h1]
  constructor
  · rw [hw, State.bit, State.bit, State.rd_wr_field _ _ _ _ (by decide) (by decide) (by decide), hrd _ (.inl rfl)]
  · rw [railMay, railMay, State.bit, State.bit, hx, hw, State.rd_wr_addr _ _ _ _ (by decide),
      State.rd_wr_addr _ _ _ _ (by decide), State.rd_wr_addr _ _ _ _ (by decide), State.rd_wr_addr _ _ _ _ (by decide),
      hrd _ (.inr (.inl rfl)), hrd _ (.inr (.inr rfl))]

theorem holdExpiry_ends (h : s.bit LE0_STAT_HOLD = true) (hr : s.loops.holdReq ≠ 1) :
    execLoopHoldExpiry s = clampInt (s.wr LE0_STAT_HOLD 0) := if_pos ⟨h, hr⟩

theorem holdExpiry_none (h : s.bit LE0_STAT_HOLD = false ∨ s.loops.holdReq = 1) : execLoopHoldExpiry s = s :=
  if_neg fun hc => h.elim (fun h => Bool.false_ne_true (h.symm.trans hc.1)) fun h => hc.2 h

end

/-! ### The senses -/

section
variable {s t : State} {k j b : Nat}

theorem bitOf_iff (u : State) (f : Fld) (i : Nat) (hl : f.lsb = 0) (hm : f.msb = 31) :
    u.bitOf f i = (u.reg f.addr).getLsbD i := by
  rw [State.bitOf, State.rd, bits, hl, hm, BitVec.getLsbD, Nat.testBit_eq_decide_div_mod_eq, Nat.pow_zero, Nat.div_one,
    Nat.mod_eq_of_lt (show (u.reg f.addr).toNat < 2 ^ (31 + 1 - 0) from (u.reg f.addr).isLt)]

/-- A bit of a feedback register after another is set. -/
theorem bitOf_setW1c (u : State) (hb : b < 32) :
    (u.setW1c LE0_FB (2 ^ j)).bitOf ⟨LE0_FB, 31, 0⟩ b = (u.bitOf ⟨LE0_FB, 31, 0⟩ b || decide (b = j)) := by
  rw [bitOf_iff _ _ _ rfl rfl, bitOf_iff _ _ _ rfl rfl, State.reg_setW1c, if_pos rfl, BitVec.getLsbD_or,
    BitVec.getLsbD_ofNat, decide_eq_true hb, Bool.true_and, Nat.testBit_two_pow]
  congr 1
  exact decide_eq_decide.mpr eq_comm

theorem fbSet_bit (u : State) (hb : b < 32) :
    (fbSet j u).bitOf ⟨LE0_FB, 31, 0⟩ b = (u.bitOf ⟨LE0_FB, 31, 0⟩ b || decide (b = j)) := by
  rw [fbSet]
  refine (bitOf_setW1c _ hb).trans ?_
  congr 1
  split
  · rfl
  · rfl

/-- With no clear waiting, the bit is all that is set. -/
theorem fbSet_plain (h : s.loops.fbClr = 0) : fbSet j s = s.setW1c LE0_FB (2 ^ j) := by
  rw [fbSet, h, Nat.zero_div, if_neg (by decide)]

theorem senseOk_eq (u : State) (k : Nat) : senseOk u k = !(u.bitOf ⟨LE0_FB, 31, 0⟩ k || u.bitOf ⟨LE0_FB, 31, 0⟩ (k + 2)) := rfl

/-- Only the bits of a sense take it from use. -/
theorem senseOk_fbSet (u : State) (hk : k < 30) :
    senseOk (fbSet j u) k = (senseOk u k && decide (j ≠ k ∧ j ≠ k + 2)) := by
  rw [senseOk_eq, senseOk_eq, fbSet_bit u (by omega), fbSet_bit u (by omega), Bool.eq_iff_iff]
  simp only [Bool.not_eq_true', Bool.or_eq_false_iff, Bool.and_eq_true, decide_eq_true_eq, decide_eq_false_iff_not]
  grind

theorem senseOk_fbSet_apart (u : State) (hk : k < 30) (h : j ≠ k ∧ j ≠ k + 2) : senseOk (fbSet j u) k = senseOk u k := by
  rw [senseOk_fbSet u hk, decide_eq_true h, Bool.and_true]

theorem senseOk_fbSet_own (u : State) (hk : k < 30) (h : j = k ∨ j = k + 2) : senseOk (fbSet j u) k = false := by
  rw [senseOk_fbSet u hk, decide_eq_false (by omega), Bool.and_false]

/-- The bit of LE0_FB by which sense `k` fails, and the source that reports it. -/
def failBit (k : Nat) (frozen : Bool) : Nat := if frozen then k + 2 else k
def failSrc (frozen : Bool) : Nat := if frozen then 0x51 else 0x50

/-- The marks of the other sense, which fails in the same sample. -/
def otherFails (k : Nat) (s t : State) : State :=
  (t.when (lossNow s (1 - k)) (fbSet (1 - k))).when (frozenNow s (1 - k)) (fbSet (1 - k + 2))

theorem senseFails_eq {fr both : Bool} {j : Nat} (hb : both = (senseOk s (1 - k) && (lossNow s (1 - k) || frozenNow s (1 - k))))
    (hj : j = failBit k fr) (ht : t = (fbSet j s).when both (otherFails k s)) :
    senseFails k fr s = if senseOk t (1 - k) then
        (if decide (senseUsed s = k) = true ∧ senseOk s k = true then raiseSev (failSrc fr) 1 k (t.bump LE0_COUNT_FB_SWITCHES) else t)
      else if senseOk s k then
        requireRung 4 (if fr = true ∧ (!both) = true then 0x51 else 0x50)
          (raiseSev (if fr = true ∧ (!both) = true then 0x51 else 0x50) 3 k (railForceStop t))
      else t := by
  subst hb hj ht
  rfl

theorem failBit_apart {fr : Bool} (hk : k ≤ 1) : failBit k fr ≠ 1 - k ∧ failBit k fr ≠ 1 - k + 2 := by
  rw [failBit]
  cases fr
  · simp only [Bool.false_eq_true, if_false]
    omega
  · simp only [if_true]
    omega

section
variable {fr : Bool} (hk : k ≤ 1) (hj : j = failBit k fr) (hc : s.loops.fbClr = 0)
include hk hj hc

/-- Another sense, usable, takes over from the one in use. -/
theorem senseFails_switches (ho : senseOk s (1 - k) = true) (hl : lossNow s (1 - k) = false) (hf : frozenNow s (1 - k) = false)
    (hu : senseUsed s = k) (hs : senseOk s k = true) :
    senseFails k fr s = raiseSev (failSrc fr) 1 k ((s.setW1c LE0_FB (2 ^ j)).bump LE0_COUNT_FB_SWITCHES) := by
  have ht : senseOk (fbSet j s) (1 - k) = true := by
    rw [senseOk_fbSet_apart s (by omega) (hj ▸ failBit_apart hk), ho]
  rw [senseFails_eq (both := false) (by rw [hl, hf, Bool.or_false, Bool.and_false]) hj rfl]
  exact (if_pos ht).trans ((if_pos ⟨decide_eq_true hu, hs⟩).trans (by rw [State.when, if_neg Bool.false_ne_true, fbSet_plain hc]))

/-- A sense that was not in use, or not usable, only takes its mark. -/
theorem senseFails_marks (ho : senseOk s (1 - k) = true) (hl : lossNow s (1 - k) = false) (hf : frozenNow s (1 - k) = false)
    (h : senseOk s k = false ∨ senseUsed s ≠ k) : senseFails k fr s = s.setW1c LE0_FB (2 ^ j) := by
  have ht : senseOk (fbSet j s) (1 - k) = true := by
    rw [senseOk_fbSet_apart s (by omega) (hj ▸ failBit_apart hk), ho]
  rw [senseFails_eq (both := false) (by rw [hl, hf, Bool.or_false, Bool.and_false]) hj rfl]
  refine (if_pos ht).trans ((if_neg ?_).trans (by rw [State.when, if_neg Bool.false_ne_true, fbSet_plain hc]))
  rintro ⟨h1, h2⟩
  exact h.elim (fun h => Bool.false_ne_true (h.symm.trans h2)) fun h => h (of_decide_eq_true h1)

/-- The last usable sense fails: the rail stops, and the engine goes to DARK. -/
theorem senseFails_last (ho : senseOk s (1 - k) = false) (hs : senseOk s k = true) :
    senseFails k fr s = requireRung 4 (failSrc fr) (raiseSev (failSrc fr) 3 k (railForceStop (s.setW1c LE0_FB (2 ^ j)))) := by
  have ht : senseOk (fbSet j s) (1 - k) = false := by
    rw [senseOk_fbSet_apart s (by omega) (hj ▸ failBit_apart hk), ho]
  have hsrc : (if fr = true ∧ (!false) = true then 0x51 else 0x50) = failSrc fr := by
    cases fr
    · rfl
    · rfl
  rw [senseFails_eq (both := false) (by rw [ho, Bool.false_and]) hj rfl, hsrc]
  refine (if_neg ?_).trans ((if_pos hs).trans (by rw [State.when, if_neg Bool.false_ne_true, fbSet_plain hc]))
  rw [State.when, if_neg Bool.false_ne_true, ht]
  exact Bool.false_ne_true

end

/-- Both senses fail in one sample: one loss. -/
theorem senseFails_both {fr : Bool} (hk : k ≤ 1) (hs : senseOk s k = true) (ho : senseOk s (1 - k) = true)
    (h : lossNow s (1 - k) = true ∨ frozenNow s (1 - k) = true) (ht : t = otherFails k s (fbSet (failBit k fr) s)) :
    senseFails k fr s = requireRung 4 0x50 (raiseSev 0x50 3 k (railForceStop t)) := by
  have hb : true = (senseOk s (1 - k) && (lossNow s (1 - k) || frozenNow s (1 - k))) := by
    rw [ho, Bool.true_and, Bool.or_eq_true_iff.mpr h]
  have hn : senseOk t (1 - k) = false := by
    rw [ht, otherFails]
    cases hf : frozenNow s (1 - k)
    · rw [hf] at h
      rw [h.resolve_right Bool.false_ne_true]
      exact senseOk_fbSet_own _ (by omega) (.inl rfl)
    · exact senseOk_fbSet_own _ (by omega) (.inr rfl)
  have ht' : t = (fbSet (failBit k fr) s).when true (otherFails k s) := by
    rw [ht, State.when, if_pos rfl]
  have hne : ¬ (fr = true ∧ (!true) = true) := fun h => Bool.false_ne_true h.2
  rw [senseFails_eq hb rfl ht', if_neg hne]
  exact (if_neg (hn ▸ Bool.false_ne_true)).trans (if_pos hs)

end

section
variable {s : State} {b : Bool} {k : Nat} (hb : k = boolNat b)
include hb

theorem senseLost_goes (hr : railRuns s = true) (hl : lossNow s k = true)
    (h : s.bitOf ⟨LE0_FB, 31, 0⟩ k = false ∨ s.loops.fbClr / 2 ^ k % 2 = 1) : execRailSenseLost b s = senseFails k false s := by
  subst hb
  exact if_pos ⟨hr, hl, h.imp_left fun h => congrArg (!·) h⟩

theorem senseLost_none (h : railRuns s = false ∨ lossNow s k = false) : execRailSenseLost b s = s := by
  subst hb
  refine if_neg fun ⟨hr, hl, _⟩ => ?_
  exact h.elim (fun h => Bool.false_ne_true (h.symm.trans hr)) fun h => Bool.false_ne_true (h.symm.trans hl)

theorem senseFrozen_goes (hr : railRuns s = true) (hl : frozenNow s k = true)
    (h : s.bitOf ⟨LE0_FB, 31, 0⟩ (k + 2) = false ∨ s.loops.fbClr / 2 ^ (k + 2) % 2 = 1) :
    execRailSenseFrozen b s = senseFails k true s := by
  subst hb
  exact if_pos ⟨hr, hl, h.imp_left fun h => congrArg (!·) h⟩

theorem senseFrozen_none (h : railRuns s = false ∨ frozenNow s k = false) : execRailSenseFrozen b s = s := by
  subst hb
  refine if_neg fun ⟨hr, hl, _⟩ => ?_
  exact h.elim (fun h => Bool.false_ne_true (h.symm.trans hr)) fun h => Bool.false_ne_true (h.symm.trans hl)

theorem railOv_trips {t : State} (hr : railRuns s = true) (hs : senseOk s k = true)
    (hn : s.rd LE0_SUPV_OVUV_N ≤ storeGet 0 s.loops.ovRun k) (ho : s.loops.ovHold = false) (ht : t = allLow s) :
    execRailOv b s = raise 0x53 (storeGet 0 s.loops.vSense k / 4) { t with loops := { t.loops with ovHold := true } } := by
  subst hb ht
  exact if_pos ⟨hr, hs, hn, congrArg (!·) ho⟩

theorem railOv_none (h : railRuns s = false ∨ senseOk s k = false ∨ storeGet 0 s.loops.ovRun k < s.rd LE0_SUPV_OVUV_N ∨ s.loops.ovHold = true) :
    execRailOv b s = s := by
  subst hb
  refine if_neg fun ⟨hr, hs, hn, ho⟩ => ?_
  rcases h with h | h | h | h
  · exact Bool.false_ne_true (h.symm.trans hr)
  · exact Bool.false_ne_true (h.symm.trans hs)
  · omega
  · exact Bool.false_ne_true ((congrArg (!·) h).symm.trans ho)

end

section
variable {s : State}

theorem railUv_reports (hu : s.rd LE0_STAT_UNIT = 2) (hn : s.rd LE0_SUPV_OVUV_N ≤ s.loops.uvRun) (hd : s.loops.uvDone = false) :
    execRailUv s = raise 0x54 (vUsed s / 4) { s with loops := { s.loops with uvDone := true } } :=
  if_pos ⟨hu, hn, congrArg (!·) hd⟩

theorem railUv_none (h : s.rd LE0_STAT_UNIT ≠ 2 ∨ s.loops.uvRun < s.rd LE0_SUPV_OVUV_N ∨ s.loops.uvDone = true) : execRailUv s = s := by
  refine if_neg fun ⟨hu, hn, hd⟩ => ?_
  rcases h with h | h | h
  · exact h hu
  · omega
  · exact Bool.false_ne_true ((congrArg (!·) h).symm.trans hd)

theorem loopIntSat_reports (hn : 10000 ≤ s.loops.clampRun) (hd : s.loops.satDone = false) :
    execLoopIntSat s = raise 0x52 (s.rd LE0_STAT_SET_ACT) { s with loops := { s.loops with satDone := true } } :=
  if_pos ⟨hn, congrArg (!·) hd⟩

theorem loopIntSat_none (h : s.loops.clampRun < 10000 ∨ s.loops.satDone = true) : execLoopIntSat s = s := by
  refine if_neg fun ⟨hn, hd⟩ => ?_
  rcases h with h | h
  · omega
  · exact Bool.false_ne_true ((congrArg (!·) h).symm.trans hd)

end

/-- The bits of a usable sense are clear. -/
theorem senseOk_bits {s : State} {k : Nat} (h : senseOk s k = true) :
    s.bitOf ⟨LE0_FB, 31, 0⟩ k = false ∧ s.bitOf ⟨LE0_FB, 31, 0⟩ (k + 2) = false := by
  rwa [senseOk_eq, Bool.not_eq_true', Bool.or_eq_false_iff] at h

theorem boolNat_le (b : Bool) : boolNat b ≤ 1 := by
  cases b
  · decide
  · decide

theorem phaseEvents (k : Fin 6) (since : Nat) (s : State) (hp : isPowered s = true) :
    (∀ rise, s.rd LE0_CFG_N_PH ≤ k.val ∨ since < 50 → exec (.phaseThresholdCrossing k rise since) s = .next s) ∧
    (k.val < s.rd LE0_CFG_N_PH → 50 ≤ since →
      exec (.phaseThresholdCrossing k true since) s = .next (setPhase k.val false s)) ∧
    (s.rd LE0_CFG_N_PH ≤ k.val ∨ s.bit LE0_STAT_STOPPED = true → exec (.phaseOcTrip k) s = .next s) ∧
    (storeGet 0 s.loops.ocRun k.val < 16 ∨ railRuns s = false → exec (.phaseOcPersist k) s = .next s) :=
  ⟨fun _ h => exec_runs hp rfl (crossing_none h), fun h1 h2 => exec_runs hp rfl (crossing_rise h1 h2),
    fun h => exec_runs hp rfl (trip_none h), fun h => exec_runs hp rfl (persist_none h)⟩

/-- A trip of a phase, the first of the frame of its phase or a further one. -/
theorem phaseTrip {k : Fin 6} {s t : State} {f : LoopSt} {run : List (Nat × Nat)} {first : Bool} (hp : isPowered s = true)
    (h1 : k.val < s.rd LE0_CFG_N_PH) (h2 : s.bit LE0_STAT_STOPPED = false) (hf : storeGet false s.loops.ocThis k.val = first)
    (ht : t = setPhase k.val false (s.bump LE0_COUNT_OC_EVENTS))
    (hr : run = if first then t.loops.ocRun else storeSet 0 t.loops.ocRun k.val (min 16 (storeGet 0 t.loops.ocRun k.val + 1)))
    (hg : f = { t.loops with tripped := storeSet false t.loops.tripped k.val true, ocThis := storeSet false t.loops.ocThis k.val true,
                             ocRun := run, ocRaised := true }) :
    (s.loops.ocRaised = true → exec (.phaseOcTrip k) s = .next { t with loops := f }) ∧
    (s.loops.ocRaised = false → exec (.phaseOcTrip k) s = .next (raise 0x55 k.val { t with loops := f })) := by
  have hthis : storeGet false t.loops.ocThis k.val = first := by
    rw [ht, setPhase_ocThis, State.bump_loops, hf]
  rw [← hthis] at hr
  have he := trip_eq h1 h2 ht hr hg
  exact ⟨fun h => exec_runs hp rfl (he.trans (if_pos h)),
    fun h => exec_runs hp rfl (he.trans (if_neg (h ▸ Bool.false_ne_true)))⟩

/-- Settles O36: each event is its own branch; the phases by the marks of their trips, the senses by which of the two fail. -/
theorem railEvents : Obligations.RailEvents := by
  unfold Obligations.RailEvents
  refine ⟨fun k since s hp => ?_, fun s hp => ?_, fun b k s hp hb => ?_⟩
  · obtain ⟨hnone, hrise, htrip, hpersist⟩ := phaseEvents k since s hp
    refine ⟨hnone, hrise, ?_, ?_, htrip, ?_, ?_, hpersist, ?_⟩
    · intro h1 h2 hr ho ht l m n f hl hm hn hn' hf
      exact exec_runs hp rfl (crossing_on h1 h2 hr ho ht hl hm hn hn' hf)
    · exact fun h1 h2 h => exec_runs hp rfl (crossing_held h1 h2 h)
    · intro h1 h2 hf t f ht hff g h hg hh
      subst hff hg hh
      exact phaseTrip hp h1 h2 hf ht rfl rfl
    · intro h1 h2 hf t f ht hff
      exact phaseTrip hp h1 h2 hf ht rfl hff
    · exact fun h1 h2 f hf => exec_runs hp rfl (persist_stops h1 h2 hf)
  · refine ⟨?_, ?_, ?_, ?_, ?_, ?_, ?_, ?_, ?_, ?_, ?_⟩
    · intro ha hu hs hn hr
      refine exec_runs hp rfl ((autoStart_eq rfl).trans (if_pos ⟨ha, hu, hs, congrArg (!·) hn, ?_⟩))
      rw [decide_eq_true hr, Bool.true_and]
    · intro sns h
      refine exec_runs hp rfl ((autoStart_eq rfl).trans (if_neg ?_))
      rintro ⟨ha, hu, hs, hn, hm⟩
      obtain ⟨hr, hsns⟩ := Bool.and_eq_true_iff.mp hm
      rcases h with h | h | h | h | h | h
      · exact Bool.false_ne_true (h.symm.trans ha)
      · exact h hu
      · exact Bool.false_ne_true (h.symm.trans hs)
      · exact Bool.false_ne_true ((congrArg (!·) h).symm.trans hn)
      · exact of_decide_eq_true hr h
      · exact Bool.false_ne_true (h.symm.trans hsns)
    · exact fun x hx hu hq hr hn => exec_runs hp rfl (railOn_goes hx hu hq hr hn)
    · exact fun x hx h => exec_runs hp rfl (railOn_early hx h)
    · exact fun h => ⟨exec_runs hp rfl (railOn_apart h), exec_runs hp rfl (if_neg h)⟩
    · exact fun h => exec_runs hp rfl (if_pos h)
    · intro hu hs ho hn f hf
      obtain ⟨hpend, _⟩ := stopComplete_kept (v := _) rfl (fun h => absurd (ho.symm.trans h) Bool.false_ne_true) (fun _ => rfl) rfl rfl
      refine exec_runs hp rfl ((stopComplete_eq hu hs hf rfl (fun h => absurd (ho.symm.trans h) Bool.false_ne_true)
        fun _ => rfl).trans ((unitOff_eq rfl rfl).trans (if_neg ?_)))
      exact fun h => Bool.false_ne_true (hn.symm.trans (hpend.symm.trans h))
    · intro hu hs f u v w x hf hu' hv hv' hw hx
      obtain ⟨hpend, hmay⟩ := stopComplete_kept hu' hv hv' hw hx
      have he : execRailStopComplete s
          = if w.bit LE0_STAT_EN_PENDING then (if railMay x then railUnit.start (x.wr LE0_STAT_UNIT 1) else x) else w :=
        (stopComplete_eq hu hs hf hu' hv hv').trans (unitOff_eq hw hx)
      rw [hpend, hmay] at he
      exact ⟨fun h => exec_runs hp rfl (he.trans (if_neg (h ▸ Bool.false_ne_true))),
        fun h hm => exec_runs hp rfl (he.trans ((if_pos h).trans (if_pos hm))),
        fun h hm => exec_runs hp rfl (he.trans ((if_pos h).trans (if_neg (hm ▸ Bool.false_ne_true))))⟩
    · exact fun h => exec_runs hp rfl (stopComplete_apart h)
    · exact fun h hr => exec_runs hp rfl (holdExpiry_ends h hr)
    · exact fun h => exec_runs hp rfl (holdExpiry_none h)
  · have hk : k ≤ 1 := hb ▸ boolNat_le b
    refine ⟨fun hr hl hbit hc => ?_, fun hr hl hbit hc => ?_, fun t hr hs ho h => ?_, fun hr => ?_, ?_, ?_, ?_, ?_, ?_, ?_, ?_, ?_⟩
    · have he := senseLost_goes hb hr hl (.inl hbit)
      exact ⟨fun ho hl hf hs hu => exec_runs hp rfl (he.trans (senseFails_switches (fr := false) hk rfl hc ho hl hf hu hs)),
        fun ho hl hf h => exec_runs hp rfl (he.trans (senseFails_marks (fr := false) hk rfl hc ho hl hf h)),
        fun ho hs => exec_runs hp rfl (he.trans (senseFails_last (fr := false) hk rfl hc ho hs))⟩
    · have he := senseFrozen_goes hb hr hl (.inl hbit)
      exact ⟨fun ho hl hf hs hu => exec_runs hp rfl (he.trans (senseFails_switches (fr := true) hk rfl hc ho hl hf hu hs)),
        fun ho hl hf h => exec_runs hp rfl (he.trans (senseFails_marks (fr := true) hk rfl hc ho hl hf h)),
        fun ho hs => exec_runs hp rfl (he.trans (senseFails_last (fr := true) hk rfl hc ho hs))⟩
    · obtain ⟨hlost, hfrozen⟩ := senseOk_bits hs
      exact ⟨fun hl ht => exec_runs hp rfl ((senseLost_goes hb hr hl (.inl hlost)).trans (senseFails_both hk hs ho h ht)),
        fun hf ht => exec_runs hp rfl ((senseFrozen_goes hb hr hf (.inl hfrozen)).trans (senseFails_both hk hs ho h ht))⟩
    · exact ⟨exec_runs hp rfl (senseLost_none hb (.inl hr)), exec_runs hp rfl (senseFrozen_none hb (.inl hr)),
        exec_runs hp rfl (railOv_none hb (.inl hr))⟩
    · exact fun h => exec_runs hp rfl (senseLost_none hb (.inr h))
    · exact fun h => exec_runs hp rfl (senseFrozen_none hb (.inr h))
    · exact fun hr hs hn ho t ht => exec_runs hp rfl (railOv_trips hb hr hs hn ho ht)
    · exact fun h => exec_runs hp rfl (railOv_none hb (.inr h))
    · exact fun hu hn hd => exec_runs hp rfl (railUv_reports hu hn hd)
    · exact fun h => exec_runs hp rfl (railUv_none h)
    · exact fun hn hd => exec_runs hp rfl (loopIntSat_reports hn hd)
    · exact fun h => exec_runs hp rfl (loopIntSat_none h)

end Sys2Proof.Machine
end

section
/-!
PROOF. Levelling and the fan: the events of their units, the samples of the loop slots, and the profile ticks.
-/
namespace Sys2Proof.Machine

section
variable {s t : State}

/-! ### A stop completes -/

section
variable {u : UnitF} {may : State → Bool}

theorem unitOff_idle (ht : t = s.wr u.unit 0) (hp : t.bit u.pending = false) : unitOff u may s = t :=
  (unitOff_eq ht rfl).trans (if_neg (by rw [hp]; exact Bool.false_ne_true))

theorem unitOff_restarts {x : State} (ht : t = s.wr u.unit 0) (hp : t.bit u.pending = true) (hx : x = t.wr u.pending 0)
    (hm : may x = true) : unitOff u may s = u.start (x.wr u.unit 1) :=
  (unitOff_eq ht hx).trans ((if_pos hp).trans (if_pos hm))

end

theorem lvlStop_ends (hu : s.rd LE1_LVL_STAT_UNIT = 3) (ht : t = s.wr LE1_LVL_STAT_UNIT 0)
    (hp : t.bit LE1_LVL_STAT_EN_PENDING = false) : execLvlStopComplete s = t :=
  (if_pos hu).trans (unitOff_idle (u := lvlUnit) ht hp)

theorem lvlStop_restarts {u : State} (hu : s.rd LE1_LVL_STAT_UNIT = 3) (ht : t = s.wr LE1_LVL_STAT_UNIT 0)
    (hp : t.bit LE1_LVL_STAT_EN_PENDING = true) (hx : u = t.wr LE1_LVL_STAT_EN_PENDING 0) (hm : u.bit LE1_CTRL_HALL_EN = true) :
    execLvlStopComplete s = lvlUnit.start (u.wr LE1_LVL_STAT_UNIT 1) :=
  (if_pos hu).trans (unitOff_restarts (u := lvlUnit) ht hp hx hm)

theorem fanStop_ends (hu : s.rd LE1_FAN_STAT_UNIT = 3) (ht : t = s.wr LE1_FAN_STAT_UNIT 0)
    (hp : t.bit LE1_FAN_STAT_EN_PENDING = false) : execFanStopComplete s = t :=
  (if_pos hu).trans (unitOff_idle (u := fanUnit) ht hp)

theorem fanStop_restarts (hu : s.rd LE1_FAN_STAT_UNIT = 3) (ht : t = s.wr LE1_FAN_STAT_UNIT 0)
    (hp : t.bit LE1_FAN_STAT_EN_PENDING = true) : execFanStopComplete s
      = (((t.wr LE1_FAN_STAT_EN_PENDING 0).wr LE1_FAN_STAT_UNIT 1).wr LE1_FAN_STAT_DUTY 1023).wr LE1_FAN_STAT_STALL 0 :=
  (if_pos hu).trans (unitOff_restarts (u := fanUnit) ht hp rfl rfl)

/-! ### Levelling -/

theorem lvlOn_goes (hu : s.rd LE1_LVL_STAT_UNIT = 1) (hn : s.rd LE1_LVL_SUPV_LOST_N ≤ s.loops.lvlStart) :
    execLvlOn s = ({ s with loops := { s.loops with lvl := profStart (pos16 s) } } : State).wr LE1_LVL_STAT_UNIT 2 :=
  if_pos ⟨hu, hn⟩

theorem lvlFbLost_fails (hu : s.rd LE1_LVL_STAT_UNIT = 2) (hn : s.rd LE1_LVL_SUPV_LOST_N ≤ s.loops.lvlImp) :
    execLvlFbLost s = raise 0x56 1 ((syncAim ((lvlBrake s).setW1c LE1_FB 1)).wr LE1_LVL_STAT_UNIT 3) := if_pos ⟨hu, hn⟩

theorem lvlFbLost_none (h : s.rd LE1_LVL_STAT_UNIT ≠ 2 ∨ s.loops.lvlImp < s.rd LE1_LVL_SUPV_LOST_N) : execLvlFbLost s = s :=
  if_neg fun ⟨hu, hn⟩ => h.elim (fun h => h hu) fun h => absurd hn (Nat.not_le.mpr h)

theorem lvlFbFrozen_fails (hu : s.rd LE1_LVL_STAT_UNIT = 2) (hn : s.rd LE1_LVL_SUPV_FROZEN_N ≤ frzLen s.loops.lvlFrz) :
    execLvlFbFrozen s = raise 0x56 2 ((syncAim ((lvlBrake s).setW1c LE1_FB 2)).wr LE1_LVL_STAT_UNIT 3) := if_pos ⟨hu, hn⟩

theorem lvlFbFrozen_none (h : s.rd LE1_LVL_STAT_UNIT ≠ 2) : execLvlFbFrozen s = s := if_neg fun hc => h hc.1

/-- The limit is met: the drive becomes BRAKE where it leads away from the range. -/
theorem lvlLimit_meets (hn : s.rd LE1_LVL_SUPV_LOST_N ≤ s.loops.limRun) (hl : s.bit LE1_LVL_STAT_LIMIT = false)
    (ht : t = (s.setW1c LE1_FB 4).wr LE1_LVL_STAT_LIMIT 1) :
    execLvlLimit s = raise 0x57 (s.rd LE1_LVL_STAT_POS16) (if limitDrive t (t.rd LE1_LVL_STAT_DRIVE) = 0 then
      ({ t with loops := { t.loops with duty := 0 } } : State).wr LE1_LVL_STAT_DRIVE 0 else t) := by
  subst ht
  exact if_pos ⟨hn, congrArg (!·) hl⟩

theorem lvlLimit_none (h : s.loops.limRun < s.rd LE1_LVL_SUPV_LOST_N) : execLvlLimit s = s :=
  if_neg fun hc => absurd hc.1 (Nat.not_le.mpr h)

/-! ### Fan -/

theorem tach_first (ht : t = s.wr LE1_FAN_STAT_STALL 0) (h : s.loops.tachSeen = false) (p : Nat) :
    execFanTachEdge p s = { t with loops := { t.loops with tachSeen := true } } := by
  subst ht
  exact if_pos (congrArg (!·) h)

theorem tach_later {p d : Nat} (ht : t = s.wr LE1_FAN_STAT_STALL 0) (h : s.loops.tachSeen = true)
    (hd : d = s.rd LE1_FAN_CFG_PPR * p) :
    execFanTachEdge p s = if d = 0 ∨ 65535 < 60000000 / d then t.fresh.2.wr LE1_FAN_STAT_RPM (Config.freeRpm t.fresh.1).toNat
      else t.wr LE1_FAN_STAT_RPM (60000000 / d) := by
  subst ht hd
  refine if_neg ?_
  rw [h]
  exact Bool.false_ne_true

theorem tachTimeout_stalls (hu : s.rd LE1_FAN_STAT_UNIT = 2) (hd : dMin s ≤ s.rd LE1_FAN_STAT_DUTY)
    (hs : s.bit LE1_FAN_STAT_STALL = false) : execFanTachTimeout s
      = (raise 0x58 (s.rd LE1_FAN_STAT_DUTY) ((s.wr LE1_FAN_STAT_RPM 0).wr LE1_FAN_STAT_STALL 1)).wr LE1_FAN_STAT_DUTY 1023 :=
  if_pos ⟨hu, hd, congrArg (!·) hs⟩

theorem dutyUpdate_moves {step d : Int} (hu : s.rd LE1_FAN_STAT_UNIT = 2) (hs : s.bit LE1_FAN_STAT_STALL = false)
    (hstep : step = (2 * ((rpmSet s : Int) - s.rd LE1_FAN_STAT_RPM) * s.rd LE1_FAN_CFG_KF + 256) / 512)
    (hd : d = min (max ((s.rd LE1_FAN_STAT_DUTY : Int) + step) (dMin s)) 1023) :
    execFanDutyUpdate s = s.wr LE1_FAN_STAT_DUTY d.toNat := by
  subst hd hstep
  exact if_pos ⟨hu, congrArg (!·) hs⟩

/-! ### Samples and ticks -/

theorem hallSlot_on (a b : Conv) (h : s.bit LE1_CTRL_HALL_EN = true) :
    execLoopSlotConversion (.hall a b) s = hallSample (convCode 0 a s) (convCode 1 b s) (a.ovr.isSome || b.ovr.isSome)
      (loopSample 1 10 b (loopSample 0 9 a s)) := if_pos h

theorem hallSlot_off (a b : Conv) (h : s.bit LE1_CTRL_HALL_EN = false) :
    execLoopSlotConversion (.hall a b) s = loopSample 1 10 b (loopSample 0 9 a s) := if_neg (h ▸ Bool.false_ne_true)

theorem profTick_lvl {p : Prof} (hu : s.rd LE1_LVL_STAT_UNIT = 2) (hp : p = profTick false (s.rd LE1_LVL_PROF_NJ)
      (s.rd LE1_LVL_PROF_AMAX) (s.rd LE1_LVL_PROF_VMAX) (toSigned 16 (s.rd LE1_LVL_SP_SP)) s.loops.lvl) :
    execProfileTick true s = { s with loops := { s.loops with lvl := p } } := by
  subst hp
  rw [execProfileTick, if_pos rfl, if_pos hu]

theorem profTick_rail {p : Prof} (hr : railRuns s = true) (hp : p = profTick (s.bit LE0_PROF_STEP) (s.rd LE0_PROF_NJ)
      (s.rd LE0_PROF_AMAX) (s.rd LE0_PROF_VMAX) ((s.rd LE0_SP_SP_MV * 4 : Nat) : Int) s.loops.rail) :
    execProfileTick false s = { s with loops := { s.loops with rail := p } } := by
  subst hp
  rw [execProfileTick, if_neg Bool.false_ne_true, if_pos hr]

theorem profTick_none {lvl : Bool} (hl : lvl = true → s.rd LE1_LVL_STAT_UNIT ≠ 2) (hr : lvl = false → railRuns s = false) :
    execProfileTick lvl s = s := by
  rw [execProfileTick]
  cases lvl
  · rw [if_neg Bool.false_ne_true, if_neg (hr rfl ▸ Bool.false_ne_true)]
  · rw [if_pos rfl, if_neg (hl rfl)]

end

/-- Settles O38: each event is its own branch; a stop that completes goes by what every unit does. -/
theorem levellingAndFan : Obligations.LevellingAndFan := by
  unfold Obligations.LevellingAndFan
  refine ⟨fun s hp => ?_, fun s hp => ?_, fun s hp => ?_⟩
  · refine ⟨?_, ?_, ?_, fun hu t ht => ?_, ?_, ?_, ?_, fun t hn hl ht => ?_, ?_⟩
    · exact fun hu hn => exec_runs hp rfl (lvlOn_goes hu hn)
    · exact fun h => ⟨exec_runs hp rfl (if_neg fun hc => h hc.1), exec_runs hp rfl (if_neg h)⟩
    · exact fun h => exec_runs hp rfl (if_pos h)
    · exact ⟨fun h => exec_runs hp rfl (lvlStop_ends hu ht h), fun u h hu' hen => exec_runs hp rfl (lvlStop_restarts hu ht h hu' hen)⟩
    · exact fun h => exec_runs hp rfl (if_neg h)
    · exact fun hu => ⟨fun hn => exec_runs hp rfl (lvlFbLost_fails hu hn), fun hn => exec_runs hp rfl (lvlFbLost_none (.inr hn)),
        fun hn => exec_runs hp rfl (lvlFbFrozen_fails hu hn)⟩
    · exact fun h => ⟨exec_runs hp rfl (lvlFbLost_none (.inl h)), exec_runs hp rfl (lvlFbFrozen_none h)⟩
    · have he := lvlLimit_meets hn hl ht
      exact ⟨fun h => exec_runs hp rfl (he.trans (by rw [if_pos h])), fun h => exec_runs hp rfl (he.trans (by rw [if_neg h]))⟩
    · exact fun h => exec_runs hp rfl (lvlLimit_none h)
  · refine ⟨fun p t ht => ⟨?_, ?_, ?_⟩, ?_, ?_, ?_, ?_, ?_, fun hu t ht => ?_⟩
    · exact fun h => exec_runs hp rfl (tach_first ht h p)
    · exact fun h h1 h2 => exec_runs hp rfl ((tach_later ht h rfl).trans (if_neg (by omega)))
    · exact fun h h0 => exec_runs hp rfl ((tach_later ht h rfl).trans (if_pos (.inl h0)))
    · exact fun h => ⟨exec_runs hp rfl (if_neg fun hc => h hc.1), exec_runs hp rfl (if_neg fun hc => h hc.1)⟩
    · exact fun hu hd hs => exec_runs hp rfl (tachTimeout_stalls hu hd hs)
    · exact fun step d hu hs h1 h2 => exec_runs hp rfl (dutyUpdate_moves hu hs h1 h2)
    · exact fun h => exec_runs hp rfl (if_pos h)
    · exact fun h => exec_runs hp rfl (if_neg h)
    · exact ⟨fun h => exec_runs hp rfl (fanStop_ends hu ht h), fun h => exec_runs hp rfl (fanStop_restarts hu ht h)⟩
  · refine ⟨?_, ?_, ?_, ?_, ?_, ?_, ?_, ?_⟩
    · exact fun a b => exec_runs hp rfl rfl
    · exact fun a b h => exec_runs hp rfl (hallSlot_on a b h)
    · exact fun a b h => exec_runs hp rfl (hallSlot_off a b h)
    · exact fun x => exec_runs hp rfl rfl
    · exact fun p hu h => exec_runs hp rfl (profTick_lvl hu h)
    · exact fun h => exec_runs hp rfl (profTick_none (fun _ => h) (absurd · (by decide)))
    · exact fun p hr h => exec_runs hp rfl (profTick_rail hr h)
    · exact fun h => exec_runs hp rfl (profTick_none (absurd · (by decide)) fun _ => h)

end Sys2Proof.Machine
end

section
/-!
PROOF. Analogue acquisition: the ADC commands, the sequences' triggers, entries and ends, and their register rows.
-/
namespace Sys2Proof.Machine

/-! ### The commands -/

section
variable {o : Outst} {c : Cmd} {t : State}

theorem adcSeqCfg_busy (ho : o.cmd = c) (hn : c.p0 < 8) (h : t.rd (ADC_SQn_STAT_UNIT c.p0) ≠ 0) : adcSeqCfg o t = ans t .busy := by
  subst ho
  rw [adcSeqCfg, if_neg (Nat.not_le.mpr hn), if_pos h]

section
variable {w : List Nat} (ho : o.cmd = c) (hn : c.p0 < 8) (hw : w = c.words.map BitVec.toNat) (h : t.rd (ADC_SQn_STAT_UNIT c.p0) = 0)
  (hl : c.len = 5 + w.getD 0 0 / 16 % 16) (hb : w.getD 2 0 < 2 ^ 31 ∨ inUsable t (w.getD 1 0) (4 * 2 ^ (w.getD 2 0 / 2 ^ 22 % 32)) = true)
include ho hn hw h hl hb

omit hn h hl in
/-- The Bobbin lies on chip or in usable memory. -/
theorem seqBobbin_placed : ¬ (2 ^ 31 ≤ (o.cmd.words.map BitVec.toNat).getD 2 0
    ∧ (!inUsable t ((o.cmd.words.map BitVec.toNat).getD 1 0) (4 * 2 ^ ((o.cmd.words.map BitVec.toNat).getD 2 0 / 2 ^ 22 % 32))) = true) := by
  subst ho hw
  rintro ⟨h1, h2⟩
  exact hb.elim (fun hb => absurd h1 (Nat.not_le.mpr hb)) fun hb => Bool.false_ne_true ((congrArg (!·) hb).symm.trans h2)

theorem adcSeqCfg_fails {code i : Nat} (hc : seqCfgCheck w = some (code, i)) :
    adcSeqCfg o t = ans (((t.wr ADC_CFG_ERR_CODE code).wr ADC_CFG_ERR_ENTRY i).wr ADC_CFG_ERR_SEQ c.p0) .badParam := by
  have hs := seqBobbin_placed ho hw hb
  subst ho hw
  rw [adcSeqCfg, if_neg (Nat.not_le.mpr hn), if_neg (not_not.mpr h), if_neg (not_not.mpr hl), if_neg hs]
  simp only [hc]

theorem adcSeqCfg_stores {v : Nat → Word} {u : State} (hc : seqCfgCheck w = none) (hv : v = fun i => c.words.getD i 0#32)
    (hu : u = ((t.setReg (ADC_SQn_CFG c.p0) (v 0)).setReg (ADC_SQn_BOB_BASE c.p0) (v 1)).setReg (ADC_SQn_BOB_CFG c.p0) (v 2)) :
    adcSeqCfg o t
      = ok (syncFill c.p0 ((List.range (w.length - 3)).foldl (fun x i => x.setReg (ADC_SQn_Ei c.p0 i) (v (3 + i))) u)) := by
  have hs := seqBobbin_placed ho hw hb
  subst ho hw hv hu
  rw [adcSeqCfg, if_neg (Nat.not_le.mpr hn), if_neg (not_not.mpr h), if_neg (not_not.mpr hl), if_neg hs]
  simp only [hc, State.forN]

end

theorem adcStart_none (ho : o.cmd = c) (h : 8 ≤ c.p0) : adcStart o t = ans t .badParam := by
  subst ho
  exact if_pos h

theorem sqEnable_busy {n : Nat} (h : t.rd (ADC_SQn_STAT_UNIT n) = 0) (hb : sqBusy n t = true) : sqEnable n t = (t, .busy) :=
  if_pos ⟨h, hb⟩

theorem sqEnable_starts {n : Nat} (h : t.rd (ADC_SQn_STAT_UNIT n) = 0) (hb : sqBusy n t = false) :
    sqEnable n t = (syncAdc ((sqUnit n).start ((t.wr (ADC_SQn_CTRL_EN n) 1).wr (ADC_SQn_STAT_UNIT n) 1)), .ok) := by
  rw [sqEnable, if_neg (by rw [hb]; exact fun h => Bool.false_ne_true h.2), unitEnable_off (u := sqUnit n) h]
  rfl

theorem sqDisable_off {n : Nat} (h : t.rd (ADC_SQn_STAT_UNIT n) = 0) : sqDisable n t = (syncAdc (t.wr (ADC_SQn_CTRL_EN n) 0), .ok) := by
  have he : unitDisable (sqUnit n) (fun t => if t.bit (ADC_SQn_STAT_RUNNING n) then t else passEnd n t) t
      = (t.wr (ADC_SQn_CTRL_EN n) 0, .ok) := by
    have h : t.rd (sqUnit n).unit = 0 := h
    simp only [unitDisable, h]
    rfl
  rw [sqDisable, he]

/-- A sequence with a pass in course is stopped. -/
theorem sqDisable_running {n : Nat} {u : State} (h : t.rd (ADC_SQn_STAT_UNIT n) = 2)
    (hu : u = (t.wr (ADC_SQn_CTRL_EN n) 0).wr (ADC_SQn_STAT_UNIT n) 3) (hr : u.bit (ADC_SQn_STAT_RUNNING n) = true) :
    sqDisable n t = (syncAdc u, .ok) := by
  have he : unitDisable (sqUnit n) (fun t => if t.bit (ADC_SQn_STAT_RUNNING n) then t else passEnd n t) t = (u, .ok) := by
    rw [unitDisable_on (u := sqUnit n) h]
    refine Prod.ext ?_ rfl
    subst hu
    exact if_pos hr
  rw [sqDisable, he]

theorem adcStart_eq (ho : o.cmd = c) (h : c.p0 < 8) : adcStart o t = resOf (sqEnable c.p0 t) := by
  subst ho
  exact if_neg (Nat.not_le.mpr h)

theorem adcStop_eq (ho : o.cmd = c) (h : c.p0 < 8) : adcStop o t = resOf (sqDisable c.p0 t) := by
  subst ho
  exact if_neg (Nat.not_le.mpr h)

end

/-! ### The register rows -/

section
variable {n : Fin 8} {s : State}

theorem sqEn_ctrlField : ∀ n : Fin 8, ctrlField (ADC_SQn_CTRL_EN n.val) = true := by decide

theorem rptr_ctrlField : ∀ n : Fin 8, ctrlField (ADC_SQn_RPTR_PTR n.val) = true := by decide

theorem adcWrite_ctrl (x m : Word) : adcWrite (ADC_SQn_CTRL n.val) x m s
    = enableBit (ADC_SQn_CTRL_EN n.val) x m (sqEnable n.val) (sqDisable n.val) s := by
  have hn := n.isLt
  have ha : sqOfAddr (ADC_SQn_CTRL n.val) = n.val := by
    simp only [sqOfAddr, ADC_SQn_CTRL]
    omega
  rw [adcWrite, if_pos (by simp only [ADC_SQn_CTRL]; omega), ha]

theorem adcWrite_rptr (x m : Word) : adcWrite (ADC_SQn_RPTR n.val) x m s = rptrWrite n.val x.toNat s := by
  have hn := n.isLt
  have ha : sqOfAddr (ADC_SQn_RPTR n.val) = n.val := by
    simp only [sqOfAddr, ADC_SQn_CTRL, ADC_SQn_RPTR]
    omega
  rw [adcWrite, if_neg (by simp only [ADC_SQn_CTRL, ADC_SQn_RPTR]; omega), if_pos (by simp only [ADC_SQn_CTRL, ADC_SQn_RPTR]; omega), ha]

/-- Whether a request went goes by its status alone. -/
theorem went_snd (u : State) (r : State × Status) : went (u, r.2) = went r := rfl

theorem sqDisable_went (n : Nat) (s : State) : went (sqDisable n s) = true := (went_snd _ _).trans (unitDisable_went (u := sqUnit n))

theorem sqEnable_cases (n : Nat) (s : State) : went (sqEnable n s) = true ∨ (sqEnable n s).1 = s := by
  rw [sqEnable]
  split
  · exact .inr rfl
  · exact .inl ((went_snd _ _).trans (unitEnable_went (u := sqUnit n)))

theorem sqEn_row {v : Nat} {r : State × Status} (h : went r = true ∨ r.1 = s)
    (he : enableBit (ADC_SQn_CTRL_EN n.val) (setBits (s.reg (ADC_SQn_CTRL n.val)) 0 0 v) (ADC_SQn_CTRL_EN n.val).mask (sqEnable n.val)
      (sqDisable n.val) s = r) : writeField (ADC_SQn_CTRL_EN n.val) v s = answered r := by
  have hn := n.isLt
  rw [writeField_hook (sqEn_ctrlField n) ((regHook_adc (by simp only [ADC_SQn_CTRL_EN, ADC_SQn_CTRL]; omega)).trans
    ((adcWrite_ctrl _ _).trans he)), answer_whole h]

theorem sqEn_sound (n : Fin 8) : (ADC_SQn_CTRL_EN n.val).sound = true := ctrlField_sound (sqEn_ctrlField n)

theorem sqEn_actsOn : ∀ n : Fin 8, actsOn (ADC_SQn_CTRL_EN n.val) (ADC_SQn_CTRL_EN n.val).mask = true := by decide

theorem sqEn_on : execAdcSqEn n true s = answered (sqEnable n.val s) := by
  have hh : ∀ n : Fin 8, decide (fv (setBits 0#32 0 0 1) (ADC_SQn_CTRL_EN n.val) ≠ 0) = true := by decide
  exact sqEn_row (sqEnable_cases n.val s)
    (enableBit_on (sqEn_actsOn n) ((hits_setBits (f := ADC_SQn_CTRL_EN n.val) (sqEn_sound n) _ _ _).trans (hh n)))

theorem sqEn_off : execAdcSqEn n false s = answered (sqDisable n.val s) := by
  have hh : ∀ n : Fin 8, decide (fv (setBits 0#32 0 0 0) (ADC_SQn_CTRL_EN n.val) ≠ 0) = false := by decide
  exact sqEn_row (.inl (sqDisable_went n.val s))
    (enableBit_off (sqEn_actsOn n) ((hits_setBits (f := ADC_SQn_CTRL_EN n.val) (sqEn_sound n) _ _ _).trans (hh n)))

/-- A write of a field goes by the field's bits of its value. -/
theorem setBits_bits_value (w x : Word) {msb lsb v : Nat} (h : x.toNat % 2 ^ (msb + 1 - lsb) = v % 2 ^ (msb + 1 - lsb)) :
    setBits w msb lsb x.toNat = setBits w msb lsb v := by
  rw [setBits, h, setBits]

/-- The value that a write of PTR gives the whole register is, in the field, the written one. -/
theorem rptr_value (v : Nat) : (setBits (s.reg (ADC_SQn_RPTR n.val)) 23 0 v).toNat % 2 ^ 24 = v % 2 ^ 24 := by
  have h := fv_setBits_same (f := ADC_SQn_RPTR_PTR n.val) (ctrlField_sound (rptr_ctrlField n)) (s.reg (ADC_SQn_RPTR n.val)) v
  have hf : fv (setBits (s.reg (ADC_SQn_RPTR n.val)) 23 0 v) (ADC_SQn_RPTR_PTR n.val)
      = (setBits (s.reg (ADC_SQn_RPTR n.val)) 23 0 v).toNat / 2 ^ 0 % 2 ^ 24 := rfl
  rw [← Nat.div_one (BitVec.toNat _)]
  exact hf.symm.trans h

theorem rptrWrite_value (v : Nat) : rptrWrite n.val (setBits (s.reg (ADC_SQn_RPTR n.val)) 23 0 v).toNat s = rptrWrite n.val v s := by
  have hf : rptrFill n.val (setBits (s.reg (ADC_SQn_RPTR n.val)) 23 0 v).toNat s = rptrFill n.val v s := by
    rw [rptrFill, rptr_value, rptrFill]
  have hw : s.wr (ADC_SQn_RPTR_PTR n.val) (setBits (s.reg (ADC_SQn_RPTR n.val)) 23 0 v).toNat = s.wr (ADC_SQn_RPTR_PTR n.val) v :=
    congrArg (s.setReg (ADC_SQn_RPTR n.val)) (setBits_bits_value (msb := 23) (lsb := 0) _ _ (rptr_value v))
  rw [rptrWrite, hf, hw, rptrWrite]

theorem rptr_hook (v : Nat) : regHook (ADC_SQn_RPTR_PTR n.val).addr (setBits (s.reg (ADC_SQn_RPTR_PTR n.val).addr)
    (ADC_SQn_RPTR_PTR n.val).msb (ADC_SQn_RPTR_PTR n.val).lsb v) (ADC_SQn_RPTR_PTR n.val).mask s = rptrWrite n.val v s := by
  have hn := n.isLt
  refine (regHook_adc ?_).trans ((adcWrite_rptr _ _).trans (rptrWrite_value v))
  simp only [ADC_SQn_RPTR_PTR, ADC_SQn_RPTR]
  omega

theorem rptr_refused (v : BitVec 24) (h : bobFill s n.val < rptrFill n.val v.toNat s) :
    execAdcRptrWrite n v s = answered (s, .badParam) :=
  writeField_refused (t := s) (by decide) (rptr_ctrlField n) ((rptr_hook v.toNat).trans (if_pos h))

theorem rptr_goes (v : BitVec 24) (h : rptrFill n.val v.toNat s ≤ bobFill s n.val) :
    execAdcRptrWrite n v s = answered (syncFill n.val (s.wr (ADC_SQn_RPTR_PTR n.val) v.toNat), .ok) :=
  writeField_goes (rptr_ctrlField n) ((rptr_hook v.toNat).trans (if_neg (Nat.not_lt.mpr h)))

end

/-! ### Triggers, entries and ends -/

section
variable {n : Fin 8} {s t u : State}

theorem timer_apart (h : s.rd (ADC_SQn_CFG_TRIG n.val) ≠ 2) : execAdcTimerTrigger n s = s := if_neg h

theorem trigger_missed {n : Nat} (h : s.bit (ADC_SQn_STAT_RUNNING n) = true) : trigger n s = s.bump (ADC_SQn_COUNT_MISSED n) := if_pos h

theorem trigger_off {n : Nat} (h : s.bit (ADC_SQn_STAT_RUNNING n) = false) (hu : s.rd (ADC_SQn_STAT_UNIT n) ≠ 2) : trigger n s = s := by
  rw [trigger, if_neg (by rw [h]; exact Bool.false_ne_true), if_pos hu]

theorem trigger_starts {n : Nat} (h : s.bit (ADC_SQn_STAT_RUNNING n) = false) (hu : s.rd (ADC_SQn_STAT_UNIT n) = 2) :
    trigger n s = passStart n (s.wr (ADC_SQn_STAT_TCOUNT n) ((s.rd (ADC_SQn_STAT_TCOUNT n) + 1) % 128)) := by
  rw [trigger, if_neg (by rw [h]; exact Bool.false_ne_true), if_neg (not_not.mpr hu)]

theorem entry_none (convs : List Conv) (h : s.bit (ADC_SQn_STAT_RUNNING n.val) = false ∨ convOwned s (convBound s n.val) n.val = false) :
    execAdcEntryComplete n convs s = s := by
  rw [execAdcEntryComplete]
  refine if_pos ?_
  rcases h with h | h
  · exact .inl (congrArg (!·) h)
  · exact .inr (.inl (congrArg (!·) h))

theorem convCode_le (m : Nat) (cv : Conv) (s : State) : convCode m cv s ≤ 4095 := by
  rw [convCode]
  cases cv.ovr with
  | some hi =>
    cases hi
    · exact Nat.zero_le _
    · exact Nat.le_refl _
  | none =>
    simp only [clampI]
    omega

/-- An entry of one conversion that is in range, neither shifted nor interleaved. -/
theorem entry_one {cv : Conv} {i k m w d : Nat} (hr : s.bit (ADC_SQn_STAT_RUNNING n.val) = true) (hi : i = (sqOf s n.val).entry)
    (hm : m = convBound s n.val) (ho : convOwned s m n.val = true) (ha : s.rd (ADC_SQn_Ei_AVG_LOG2 n.val i) = 0)
    (hsh : s.rd (ADC_SQn_Ei_SHIFT n.val i) = 0) (hk : k = s.rd (ADC_SQn_Ei_INPUT n.val i)) (hcv : cv.ovr = none)
    (hil : s.bit (ADC_SQn_CFG_INTERLEAVE n.val) = false) (ht : t = setLast k (convCode m cv s) false s)
    (hw : w = 2 ^ 31 + n.val * 2 ^ 27 + i * 2 ^ 23 + passCount t n.val * 2 ^ 16 + convCode m cv s) (hu : u = bobResult n.val w t)
    (hd : d = (sqOf u n.val).made + 1) :
    execAdcEntryComplete n [cv] s = nextOwner m (if s.rd (ADC_SQn_CFG_NE_M1 n.val) ≤ i then passEnd n.val u
      else setSq n.val { sqOf u n.val with entry := i + 1, made := d } u) := by
  subst hi hm hk hd
  have hconv : convOf s n.val 0 = convBound s n.val := by
    rw [convOf, hil]
    rfl
  have hle := convCode_le (convBound s n.val) cv s
  have hvalue : min (convCode (convBound s n.val) cv s / 2 ^ 0) 65535 = convCode (convBound s n.val) cv s := by
    rw [Nat.pow_zero, Nat.div_one]
    omega
  have hmean : (convCode (convBound s n.val) cv s * 2 + 1) / (2 * 1) = convCode (convBound s n.val) cv s := by omega
  have hq : noteOvr (s.rd (ADC_SQn_Ei_INPUT n.val (sqOf s n.val).entry)) cv s = s := by
    rw [noteOvr, hcv]
    rfl
  have hlen : ¬ ((!s.bit (ADC_SQn_STAT_RUNNING n.val)) = true ∨ (!convOwned s (convBound s n.val) n.val) = true
      ∨ [cv].length ≠ 2 ^ s.rd (ADC_SQn_Ei_AVG_LOG2 n.val (sqOf s n.val).entry)) := by
    rw [hr, ho, ha]
    rintro (h | h | h)
    · exact Bool.false_ne_true h
    · exact Bool.false_ne_true h
    · exact h rfl
  rw [execAdcEntryComplete, if_neg hlen]
  simp only [List.length_singleton, List.range_one, List.zip_cons_cons, List.zip_nil_left, List.map_cons, List.map_nil, List.foldl_cons,
    List.foldl_nil, Nat.zero_add, hconv, hsh, if_true, hvalue, hmean, List.any_cons, List.any_nil, hcv, Option.isSome_none,
    Bool.or_false, State.forL, hq, ite_self, boolNat, Bool.false_eq_true, if_false, Nat.zero_mul, Nat.add_zero, ← ht, ← hw, ← hu]

theorem block_none (h : (sqOf s n.val).blocks = []) : execBobbinBlockAccept n s = s := by
  simp only [execBobbinBlockAccept, h]

theorem block_goes {b : List Nat} {bs : List (List Nat)} (h : (sqOf s n.val).blocks = b :: bs) :
    execBobbinBlockAccept n s = bobBlock n.val b (setSq n.val { sqOf s n.val with blocks := bs } s) := by
  simp only [execBobbinBlockAccept, h]

theorem seqOn_apart (h : s.rd (ADC_SQn_STAT_UNIT n.val) ≠ 1) : execAdcSeqOn n s = s := if_neg h

theorem seqOn_goes (h : s.rd (ADC_SQn_STAT_UNIT n.val) = 1) (ht : t = syncAdc (s.wr (ADC_SQn_STAT_UNIT n.val) 2)) :
    execAdcSeqOn n s = if t.rd (ADC_SQn_CFG_TRIG n.val) = 0 then trigger n.val t else t := by
  subst ht
  exact if_pos h

theorem seqOff_apart (h : s.rd (ADC_SQn_STAT_UNIT n.val) ≠ 3) : execAdcSeqOff n s = s := if_neg fun hc => h hc.1

theorem seqOff_ends (h : s.rd (ADC_SQn_STAT_UNIT n.val) = 3) (hr : s.bit (ADC_SQn_STAT_RUNNING n.val) = false)
    (hb : (sqOf s n.val).blocks = []) (hc : (sqOf s n.val).cur = []) (ht : t = s.wr (ADC_SQn_STAT_UNIT n.val) 0)
    (hp : t.bit (ADC_SQn_STAT_EN_PENDING n.val) = false) : execAdcSeqOff n s = syncAdc t := by
  rw [← unitOff_idle (u := sqUnit n.val) (may := fun t => !sqBusy n.val t) ht hp]
  exact if_pos ⟨h, congrArg (!·) hr, congrArg List.isEmpty hb, congrArg List.isEmpty hc⟩

end

/-- Settles O39: the commands by the state of their sequence, the entries by what one conversion gives. -/
theorem acquisition : Obligations.Acquisition := by
  unfold Obligations.Acquisition
  refine ⟨fun c s t => ⟨fun h ht hn w hw => ?_, fun h ht => ?_, fun h ht hn => ?_, fun hp n => ?_⟩, fun n s hp => ?_⟩
  · subst ht
    refine ⟨fun hu => exec_admits h rfl (adcSeqCfg_busy (o := issued .adcSeqCfg c s) rfl hn hu), fun hu hl hb => ⟨?_, ?_⟩⟩
    · exact fun code i hc => exec_admits h rfl (adcSeqCfg_fails (o := issued .adcSeqCfg c s) rfl hn hw hu hl hb hc)
    · exact fun hc v u hv hu' => exec_admits h rfl (adcSeqCfg_stores (o := issued .adcSeqCfg c s) rfl hn hw hu hl hb hc hv hu')
  · subst ht
    refine ⟨fun hn => exec_admits h rfl (adcStart_none (o := issued .adcStart c s) rfl hn), fun hn hu hb => ?_, fun hn hu hb => ?_⟩
    · exact exec_admits h rfl ((adcStart_eq (o := issued .adcStart c s) rfl hn).trans (congrArg resOf (sqEnable_busy hu hb)))
    · exact exec_admits h rfl ((adcStart_eq (o := issued .adcStart c s) rfl hn).trans ((congrArg resOf (sqEnable_starts hu hb)).trans
        (resOf_ok _)))
  · subst ht
    refine ⟨fun hu => ?_, fun u hu hu' hr => ?_⟩
    · exact exec_admits h rfl ((adcStop_eq (o := issued .adcStop c s) rfl hn).trans ((congrArg resOf (sqDisable_off hu)).trans
        (resOf_ok _)))
    · exact exec_admits h rfl ((adcStop_eq (o := issued .adcStop c s) rfl hn).trans ((congrArg resOf (sqDisable_running hu hu' hr)).trans
        (resOf_ok _)))
  · exact ⟨exec_runs hp rfl sqEn_on, exec_runs hp rfl sqEn_off, fun v h => exec_runs hp rfl (rptr_refused v h),
      fun v h => exec_runs hp rfl (rptr_goes v h)⟩
  · refine ⟨?_, fun h2 => ⟨?_, ?_, ?_⟩, ?_, ?_, ?_, ?_, ?_, ?_, ?_, ?_⟩
    · exact fun h => exec_runs hp rfl (timer_apart h)
    · exact fun h => exec_runs hp rfl ((if_pos h2).trans (trigger_missed h))
    · exact fun h hu => exec_runs hp rfl ((if_pos h2).trans (trigger_off h hu))
    · exact fun h hu => exec_runs hp rfl ((if_pos h2).trans (trigger_starts h hu))
    · exact fun convs h => exec_runs hp rfl (entry_none convs h)
    · intro cv i k m t w hr hi hm ho ha hsh hk _ hcv hil ht hw u d hu hd
      have he := entry_one hr hi hm ho ha hsh hk hcv hil ht hw hu hd
      exact ⟨fun h => exec_runs hp rfl (he.trans (by rw [if_neg (Nat.not_le.mpr h)])),
        fun h => exec_runs hp rfl (he.trans (by rw [if_pos h]))⟩
    · exact fun h => exec_runs hp rfl (block_none h)
    · exact fun b bs h => exec_runs hp rfl (block_goes h)
    · exact fun h => exec_runs hp rfl (seqOn_apart h)
    · intro t h ht
      exact ⟨fun hu => exec_runs hp rfl ((seqOn_goes h ht).trans (if_neg hu)), fun hu => exec_runs hp rfl ((seqOn_goes h ht).trans (if_pos hu))⟩
    · exact fun t h hr hb hc ht hpend => exec_runs hp rfl (seqOff_ends h hr hb hc ht hpend)
    · exact fun h => exec_runs hp rfl (seqOff_apart h)

end Sys2Proof.Machine
end

section
/-!
PROOF. Training and the port's life; the link control packets.
-/
namespace Sys2Proof.Machine

/-! ### A port's state apart from the registers -/

section
variable {p : Nat} {l : PortLink} {s : State}

theorem setPortLink_rd (f : Fld) : (setPortLink p l s).rd f = s.rd f := by
  rw [setPortLink]
  split
  · rfl
  · rfl

theorem setPortLink_bit (f : Fld) : (setPortLink p l s).bit f = s.bit f := by
  rw [State.bit, State.bit, setPortLink_rd]

theorem setPortLink_linkOf (q : Nat) : linkOf (setPortLink p l s) q = linkOf s q := setPortLink_rd _

theorem portLink_setPortLink : portLink (setPortLink p l s) p = l := by
  rw [setPortLink]
  split
  next h => exact if_pos h
  next h => exact if_neg h

end

/-! ### Training -/

section
variable {p : Port} {s u : State}

theorem laneSignal_detects (h : linkOf s p.num = 1) : execLaneSignalDetect p s = s.wr (HLx_STAT_LINK p.num) 2 := if_pos h

theorem laneSignal_none (h : linkOf s p.num ≠ 1) : execLaneSignalDetect p s = s := if_neg h

section
variable {t0 t1 : TrainSet} {run sent skew : Nat}

theorem trainingSet_ignored (h : t0.port ≠ 0x48#8 ∨ t1.port ≠ 0x48#8 ∨ linkOf s p.num < 2 ∨ 4 < linkOf s p.num) :
    execTrainingSetReceive p t0 t1 run sent skew s = s := if_pos h

/-- Sets that the port takes in ALIGN, POLL or CONFIG; `k` is the link state. -/
theorem trainingSet_taken {k : Nat} (h0 : t0.port = 0x48#8) (h1 : t1.port = 0x48#8) (hk : linkOf s p.num = k) (h2 : 2 ≤ k ∧ k ≤ 4)
    (hu : u = setPortLink p.num (takePreset t1 (takePreset t0 (portLink s p.num))) s) :
    execTrainingSetReceive p t0 t1 run sent skew s
      = if k = 2 then
          (if run < 8 then u
           else ((u.wr (HLx_STAT_LINK p.num) 3).wr (HLx_STAT_POL_INV0 p.num) (boolNat (decide (t0.rest = 0xB5#8)))).wr
             (HLx_STAT_POL_INV1 p.num) (boolNat (decide (t1.rest = 0xB5#8))))
        else if k = 3 then
          (if lanesResolved t0 t1 skew = true ∧ 16 ≤ sent then
             (u.wr (HLx_STAT_LINK p.num) 4).wr (HLx_STAT_LANE_REV p.num) (boolNat (decide (t0.lane = 1#8)))
           else u)
        else if t0.ts2 = true ∧ t1.ts2 = true ∧ 8 ≤ run ∧ 16 ≤ sent then enterL0 p.num u
        else u := by
  subst hu
  have hc : ¬ (t0.port ≠ 0x48#8 ∨ t1.port ≠ 0x48#8 ∨ linkOf s p.num < 2 ∨ 4 < linkOf s p.num) := by
    rintro (h | h | h | h)
    · exact h h0
    · exact h h1
    · omega
    · omega
  rw [execTrainingSetReceive, if_neg hc, hk]

end

theorem trainingTimeout_detects (h1 : 1 ≤ linkOf s p.num) (h4 : linkOf s p.num ≤ 4) (hr : (portLink s p.num).retrain = false) :
    execTrainingTimeout p s = (s.wr (HLx_STAT_LINK p.num) 1).wr (HLx_STAT_LAST_DOWN p.num) 1 :=
  if_pos ⟨h1, h4, congrArg (!·) hr⟩

theorem codeViolation_eq {bad mis k : Nat} (hk : k = bad + mis) : execCodeViolationLimit p bad mis s
    = if 8 < k then retrain p.num (s.bumpBy (HLx_COUNT2_SYM_ERR p.num) k) else s.bumpBy (HLx_COUNT2_SYM_ERR p.num) k := by
  subst hk
  rfl

theorem retrainTimeout_down (h : (portLink s p.num).retrain = true) : execRetrainTimeout p s = linkDown p.num 2 s := if_pos h

theorem retrainTimeout_none (h : (portLink s p.num).retrain = false) : execRetrainTimeout p s = s :=
  if_neg (by rw [h]; exact Bool.false_ne_true)

/-! ### The port's control register -/

theorem portEnable_busy (h : linkOf s p.num = 9) : portEnable p.num s = (s, .busy) := if_pos h

theorem portEnable_starts (h : linkOf s p.num ≠ 9) (hu : s.rd (HLx_STAT_UNIT p.num) = 0) : portEnable p.num s
    = (((s.wr (HLx_CTRL_EN p.num) 1).wr (HLx_STAT_LINK p.num) 1).wr (HLx_STAT_UNIT p.num) 1, .ok) := by
  rw [portEnable, if_neg h, hu, if_neg (by decide), if_pos rfl]

theorem portDisable_stops {t : State} (hu : s.rd (HLx_STAT_UNIT p.num) = 1 ∨ s.rd (HLx_STAT_UNIT p.num) = 2)
    (ht : t = (((s.wr (HLx_CTRL_EN p.num) 0).wr (HLx_STAT_LINK p.num) 8).wr (HLx_STAT_UNIT p.num) 3).wr (HLx_STAT_LAST_DOWN p.num) 4) :
    portDisable p.num s
      = (setPortLink p.num { endHandshake (portLink t p.num) with retrain := false, fast := false, wake := 0 } t, .ok) := by
  subst ht
  rw [portDisable, if_neg (by omega), if_neg (by omega)]

theorem regHook_hl {a : Nat} {x m : Word} {t : State} (h : a / 0x10000 = p.num + 1) : regHook a x m t = hlWrite p.num a x m t := by
  cases p
  · exact regHook_hl0 h
  · exact regHook_hl1 h

theorem portEn_ctrlField : ∀ p : Port, ctrlField (HLx_CTRL_EN p.num) = true ∧ (HLx_CTRL_RETRAIN p.num).apart (HLx_CTRL_EN p.num) = true
    ∧ (HLx_CTRL_EN p.num).addr / 0x10000 = p.num + 1 := by
  intro p
  cases p
  · decide
  · decide

theorem portEn_acts : ∀ p : Port, actsOn (HLx_CTRL_EN p.num) (HLx_CTRL_EN p.num).mask = true
    ∧ decide (fv (setBits 0#32 0 0 1) (HLx_CTRL_EN p.num) ≠ 0) = true ∧ decide (fv (setBits 0#32 0 0 0) (HLx_CTRL_EN p.num) ≠ 0) = false := by
  intro p
  cases p
  · decide
  · decide

/-- A write of EN asks the port. -/
theorem portEn_row {v : Nat} {r : State × Status} (h : went r = true ∨ r.1 = s)
    (he : enableBit (HLx_CTRL_EN p.num) (setBits (s.reg (HLx_CTRL p.num)) 0 0 v) (HLx_CTRL_EN p.num).mask (portEnable p.num)
      (portDisable p.num) s = r) : writeField (HLx_CTRL_EN p.num) v s = answered r := by
  obtain ⟨hf, hr, ha⟩ := portEn_ctrlField p
  have hno : hits (HLx_CTRL_RETRAIN p.num) (setBits (s.reg (HLx_CTRL p.num)) 0 0 v) (HLx_CTRL_EN p.num).mask = false :=
    hits_apart (f := HLx_CTRL_EN p.num) (ctrlField_sound hf) hr _ _
  have hw : hlWrite p.num (HLx_CTRL p.num) (setBits (s.reg (HLx_CTRL p.num)) 0 0 v) (HLx_CTRL_EN p.num).mask s = r := by
    rw [hlWrite, if_pos rfl, he, hno]
    exact if_neg fun h => Bool.false_ne_true h.2
  rw [writeField_hook hf ((regHook_hl ha).trans hw), answer_whole h]

theorem portEn_on {r : State × Status} (hr : portEnable p.num s = r) (h : went r = true ∨ r.1 = s) : execPortEnable p s = answered r := by
  obtain ⟨hacts, hone, _⟩ := portEn_acts p
  exact portEn_row h ((enableBit_on hacts ((hits_setBits (f := HLx_CTRL_EN p.num) (ctrlField_sound (portEn_ctrlField p).1) _ _ _).trans
    hone)).trans hr)

theorem portEn_off {r : State × Status} (hr : portDisable p.num s = r) (h : went r = true) : execPortDisable p s = answered r := by
  obtain ⟨hacts, _, hzero⟩ := portEn_acts p
  exact portEn_row (.inl h) ((enableBit_off hacts ((hits_setBits (f := HLx_CTRL_EN p.num) (ctrlField_sound (portEn_ctrlField p).1)
    _ _ _).trans hzero)).trans hr)

theorem portRetrain_field : ∀ p : Port, ctrlField (HLx_CTRL_RETRAIN p.num) = true
    ∧ actsOn (HLx_CTRL_EN p.num) (HLx_CTRL_RETRAIN p.num).mask = false ∧ (HLx_CTRL_RETRAIN p.num).addr / 0x10000 = p.num + 1
    ∧ decide (fv (setBits 0#32 1 1 1) (HLx_CTRL_RETRAIN p.num) ≠ 0) = true := by
  intro p
  cases p
  · decide
  · decide

theorem portRetrain_row : execPortRetrain p s = answered (retrain p.num s, .ok) := by
  obtain ⟨hf, hen, ha, hone⟩ := portRetrain_field p
  have hh : hits (HLx_CTRL_RETRAIN p.num) (setBits (s.reg (HLx_CTRL p.num)) 1 1 1) (HLx_CTRL_RETRAIN p.num).mask = true :=
    (hits_setBits (f := HLx_CTRL_RETRAIN p.num) (ctrlField_sound hf) _ _ _).trans hone
  refine writeField_goes hf ((regHook_hl ha).trans ?_)
  have hw : hlWrite p.num (HLx_CTRL p.num) (setBits (s.reg (HLx_CTRL p.num)) 1 1 1) (HLx_CTRL_RETRAIN p.num).mask s
      = (retrain p.num s, .ok) := by
    rw [hlWrite, if_pos rfl, enableBit_apart hen, hh]
    exact if_pos ⟨rfl, rfl⟩
  exact hw

/-- The low field of a port's attention bits. -/
theorem attn_field : ∀ p : Port, clearReg (HLx_ATTN_STAT p.num) = true ∧ (⟨HLx_ATTN_STAT p.num, 3, 0⟩ : Fld).sound = true
    ∧ BitVec.ofNat 32 (clearMask (HLx_ATTN_STAT p.num)) = (⟨HLx_ATTN_STAT p.num, 3, 0⟩ : Fld).mask ∧ clearMask (HLx_ATTN_STAT p.num) ≠ 0
    ∧ ((regInfo (HLx_ATTN_STAT p.num)).map
        (fun r => BitVec.ofNat 32 r.wmask &&& (⟨HLx_ATTN_STAT p.num, 3, 0⟩ : Fld).mask)).getD 0#32 = 0#32
    ∧ ¬ (HLx_ATTN_STAT p.num = LE0_FB ∨ HLx_ATTN_STAT p.num = LE1_FB
        ∨ (THM_BROKEN0 ≤ HLx_ATTN_STAT p.num ∧ HLx_ATTN_STAT p.num ≤ THM_BROKEN2))
    ∧ HLx_ATTN_STAT p.num / 0x10000 = p.num + 1 ∧ HLx_ATTN_STAT p.num ≠ HLx_CTRL p.num := by
  intro p
  cases p
  · decide
  · decide

theorem attnClear_clears {t : State} (hs : s.canonical = true) (mask : BitVec 4) {tie : Bool} (ht : t = s.apart tie) :
    execAttnClear p mask tie s = answered (t.setReg (HLx_ATTN_STAT p.num)
      (t.reg (HLx_ATTN_STAT p.num) &&& ~~~(BitVec.ofNat 32 (t.w1cMask (HLx_ATTN_STAT p.num) mask.toNat))), .ok) := by
  subst ht
  obtain ⟨hc, hf, hm, h0, hw, hown, ha, hne⟩ := attn_field p
  refine writeField_w1c (f := ⟨HLx_ATTN_STAT p.num, 3, 0⟩) (apart_canonical hs tie) hc hf rfl (Nat.le_of_lt_succ mask.isLt) ⟨hm, h0⟩ hw
    hown ((regHook_hl ha).trans ?_)
  exact if_neg hne

end

/-! ### Link control packets -/

/-- A port receives packets (R237). -/
def receives (s : State) (n : Nat) : Prop := linkOf s n = 5 ∨ linkOf s n = 8

section
variable {n v k : Nat} {s : State} {l : PortLink}

section
variable (h : receives s n)
include h

theorem receives_not : ¬ (linkOf s n ≠ 5 ∧ linkOf s n ≠ 8) := fun hc => h.elim hc.1 hc.2

theorem takeCtl_ack : takeCtl n 1 v s = ackTo n v s := if_neg (receives_not h)

theorem takeCtl_nak : takeCtl n 2 v s = startResend n (ackTo n (v + 65535) s) := if_neg (receives_not h)

theorem takeCtl_credit : takeCtl n 3 v s = takeCredit n v s := if_neg (receives_not h)

theorem takeCtl_l1Req : takeCtl n 4 v s = takeL1Req n s := if_neg (receives_not h)

theorem takeCtl_l1Ack : takeCtl n 5 v s
    = if ((portLink s n).l1Req && !ctlQueued (portLink s n) 4) = true then enterLow n 6 s else s := if_neg (receives_not h)

theorem takeCtl_l1Nak : takeCtl n 6 v s = setPortLink n { unqueue 4 (portLink s n) with l1Req := false } s := if_neg (receives_not h)

theorem takeCtl_l2Req : takeCtl n 7 v s = takeL2Req n s := if_neg (receives_not h)

theorem takeCtl_l2Ack : takeCtl n 8 v s
    = if ((portLink s n).l2Req && !ctlQueued (portLink s n) 7) = true then enterAsked n s else s := if_neg (receives_not h)

theorem takeCtl_l2Nak : takeCtl n 9 v s = setPortLink n { unqueue 7 (portLink s n) with l2Req := false } s := if_neg (receives_not h)

end

theorem takeCredit_first (hl : (portLink s n).limit = none) :
    takeCredit n v s = putPort n { portLink s n with limit := some v } s := by
  simp only [takeCredit, hl]

theorem takeCredit_later {o : Nat} (hl : (portLink s n).limit = some o) (ho : later 16 v o = true) :
    takeCredit n v s = putPort n { portLink s n with limit := some v } s := by
  simp only [takeCredit, hl, ho, if_true]

theorem takeCredit_same (hl : (portLink s n).limit = some v) : takeCredit n v s = s := by
  have ho : later 16 v v = false := by
    simp only [later]
    exact decide_eq_false (by omega)
  simp only [takeCredit, hl, ho, Bool.false_eq_true, if_false, if_true]

section
variable (hr : (portLink s n).l1Req = false ∨ ctlQueued (portLink s n) 4 = true)
include hr

theorem l1_unsent : ¬ ((portLink s n).l1Req && !ctlQueued (portLink s n) 4) = true := by
  rcases hr with h | h
  · rw [h, Bool.false_and]
    exact Bool.false_ne_true
  · rw [h, Bool.not_true, Bool.and_false]
    exact Bool.false_ne_true

theorem takeL1Req_refused (h : s.bit (HLx_PWR_L1_EN n) = false ∨ holdsPacket n s = true ∨ linkOf s n ≠ 5) :
    takeL1Req n s = sendCtl n 6 0 s := by
  rw [takeL1Req, if_neg (l1_unsent hr), if_pos]
  rcases h with h | h | h
  · rw [h, Bool.not_false, Bool.true_or, Bool.true_or]
  · rw [h, Bool.or_true, Bool.true_or]
  · rw [decide_eq_true h, Bool.or_true]

theorem takeL1Req_granted (he : s.bit (HLx_PWR_L1_EN n) = true) (hh : holdsPacket n s = false) (h5 : linkOf s n = 5) :
    takeL1Req n s = sendCtl n 5 0 (setPortLink n { unqueue 4 (portLink s n) with l1Req := false, entering := 1 } s) := by
  rw [takeL1Req, if_neg (l1_unsent hr), if_neg]
  rw [he, hh, decide_eq_false (not_not.mpr h5)]
  exact Bool.false_ne_true

end

section
variable (hr : (portLink s n).l2Req = false ∨ ctlQueued (portLink s n) 7 = true)
include hr

theorem l2_unsent : ¬ ((portLink s n).l2Req && !ctlQueued (portLink s n) 7) = true := by
  rcases hr with h | h
  · rw [h, Bool.false_and]
    exact Bool.false_ne_true
  · rw [h, Bool.not_true, Bool.and_false]
    exact Bool.false_ne_true

theorem takeL2Req_refused (h : s.bit (HLx_PWR_L2_EN n) = false ∨ holdsPacket n s = true ∨ linkOf s n ≠ 5) :
    takeL2Req n s = sendCtl n 9 0 s := by
  rw [takeL2Req, if_neg (l2_unsent hr), if_pos]
  rcases h with h | h | h
  · rw [h, Bool.not_false, Bool.true_or, Bool.true_or]
  · rw [h, Bool.or_true, Bool.true_or]
  · rw [decide_eq_true h, Bool.or_true]

theorem takeL2Req_granted (he : s.bit (HLx_PWR_L2_EN n) = true) (hh : holdsPacket n s = false) (h5 : linkOf s n = 5) :
    takeL2Req n s = sendCtl n 8 0 (setPortLink n { unqueue 7 (portLink s n) with entering := 2 } s) := by
  rw [takeL2Req, if_neg (l2_unsent hr), if_neg]
  rw [he, hh, decide_eq_false (not_not.mpr h5)]
  exact Bool.false_ne_true

end

theorem sent_iff {a b : Bool} (ha : a = true) (hb : b = false) : (a && !b) = true := by
  rw [ha, hb]
  rfl

theorem skipSet_due (h : receives s n) : (if linkOf s n = 5 ∨ linkOf s n = 8 then setLanes n skipSet skipSet (setPortLink n
    { portLink s n with skips := (portLink s n).skips + 1 } s) else s)
      = setLanes n skipSet skipSet (setPortLink n { portLink s n with skips := (portLink s n).skips + 1 } s) := if_pos h

theorem sendAck_plain (h : s.rd (LME_INJ_PENDx n) = 0) :
    sendAck n s = sendCtl n 1 (s.rd (HLx_SEQ_RX_EXP n) + 65535) (setPortLink n { portLink s n with ackOwed := 0 } s) := by
  have hi : injected (setPortLink n { portLink s n with ackOwed := 0 } s) n 3 = false := by
    rw [injected, setPortLink_rd]
    exact decide_eq_false fun hc => hc.1 h
  rw [sendAck, hi, if_neg Bool.false_ne_true, setPortLink_rd]

end

/-- Settles O41: training by the link state, the port's control bits by their row, the control packets by kind. -/
theorem linkTraining : Obligations.LinkTraining := by
  unfold Obligations.LinkTraining
  refine ⟨fun p n s hp hn => ?_, fun p n s l hp hn h hl => ?_⟩
  · subst hn
    refine ⟨?_, ?_, ?_, ?_, ?_, ?_, ?_, ?_, ?_, ?_, ?_, ?_, ?_, ?_⟩
    · exact fun h => exec_runs hp rfl (laneSignal_detects h)
    · exact fun h => exec_runs hp rfl (laneSignal_none h)
    · refine fun t0 t1 run sent skew => ⟨fun h => exec_runs hp rfl (trainingSet_ignored h), fun u h0 h1 hu => ⟨?_, ?_, ?_, ?_, ?_⟩⟩
      · exact fun hk hr => exec_runs hp rfl ((trainingSet_taken h0 h1 hk (by decide) hu).trans
          ((if_pos rfl).trans (if_neg (Nat.not_lt.mpr hr))))
      · exact fun hk hr => exec_runs hp rfl ((trainingSet_taken h0 h1 hk (by decide) hu).trans ((if_pos rfl).trans (if_pos hr)))
      · exact fun hk hr hs => exec_runs hp rfl ((trainingSet_taken h0 h1 hk (by decide) hu).trans
          ((if_neg (by decide)).trans ((if_pos rfl).trans (if_pos ⟨hr, hs⟩))))
      · refine fun hk hr => exec_runs hp rfl ((trainingSet_taken h0 h1 hk (by decide) hu).trans
          ((if_neg (by decide)).trans ((if_pos rfl).trans (if_neg ?_))))
        exact fun hc => hr.elim (fun h => Bool.false_ne_true (h.symm.trans hc.1)) fun h => absurd hc.2 (Nat.not_le.mpr h)
      · exact fun hk h0' h1' hr hs => exec_runs hp rfl ((trainingSet_taken h0 h1 hk (by decide) hu).trans
          ((if_neg (by decide)).trans ((if_neg (by decide)).trans (if_pos ⟨h0', h1', hr, hs⟩))))
    · exact fun h1 h4 hr => exec_runs hp rfl (trainingTimeout_detects h1 h4 hr)
    · exact fun bad mis k hk => ⟨fun h => exec_runs hp rfl ((codeViolation_eq hk).trans (if_neg (Nat.not_lt.mpr h))),
        fun h => exec_runs hp rfl ((codeViolation_eq hk).trans (if_pos h))⟩
    · exact fun h => exec_runs hp rfl (retrainTimeout_down h)
    · exact fun h => exec_runs hp rfl (retrainTimeout_none h)
    · exact fun h => exec_runs hp rfl (if_pos h)
    · exact fun h => exec_runs hp rfl (if_neg h)
    · exact fun h hu => exec_runs hp rfl (portEn_on (portEnable_starts h hu) (.inl rfl))
    · exact fun h => exec_runs hp rfl (portEn_on (portEnable_busy h) (.inr rfl))
    · exact fun t hu ht => exec_runs hp rfl (portEn_off (portDisable_stops hu ht) rfl)
    · exact exec_runs hp rfl portRetrain_row
    · exact fun hs mask tie t ht => exec_runs hp rfl (attnClear_clears hs mask ht)
  · subst hn hl
    refine ⟨?_, ?_, ?_, ?_, ?_, ?_, ?_, ?_, ?_, ?_, ?_, ?_, ?_, ?_⟩
    · exact fun v => exec_runs hp rfl (takeCtl_ack h)
    · exact fun v => exec_runs hp rfl (takeCtl_nak h)
    · exact fun v hv => exec_runs hp rfl ((takeCtl_credit h).trans (takeCredit_first hv))
    · exact fun v o hv ho => exec_runs hp rfl ((takeCtl_credit h).trans (takeCredit_later hv ho))
    · exact fun v hv => exec_runs hp rfl ((takeCtl_credit h).trans (takeCredit_same hv))
    · exact fun hr hq => ⟨exec_runs hp rfl ((takeCtl_l1Req h).trans (if_pos (sent_iff hr hq))),
        exec_runs hp rfl ((takeCtl_l1Ack h).trans (if_pos (sent_iff hr hq)))⟩
    · exact fun hr => ⟨exec_runs hp rfl ((takeCtl_l1Ack h).trans (if_neg (l1_unsent hr))),
        fun hx => exec_runs hp rfl ((takeCtl_l1Req h).trans (takeL1Req_refused hr hx)),
        fun he hh h5 => exec_runs hp rfl ((takeCtl_l1Req h).trans (takeL1Req_granted hr he hh h5))⟩
    · exact exec_runs hp rfl (takeCtl_l1Nak h)
    · exact fun hr hq => ⟨exec_runs hp rfl ((takeCtl_l2Req h).trans (if_pos (sent_iff hr hq))),
        exec_runs hp rfl ((takeCtl_l2Ack h).trans (if_pos (sent_iff hr hq)))⟩
    · exact fun hr => ⟨exec_runs hp rfl ((takeCtl_l2Ack h).trans (if_neg (l2_unsent hr))),
        fun hx => exec_runs hp rfl ((takeCtl_l2Req h).trans (takeL2Req_refused hr hx)),
        fun he hh h5 => exec_runs hp rfl ((takeCtl_l2Req h).trans (takeL2Req_granted hr he hh h5))⟩
    · exact exec_runs hp rfl (takeCtl_l2Nak h)
    · exact exec_runs hp rfl (skipSet_due h)
    · exact fun h0 => exec_runs hp rfl (if_neg (not_not.mpr h0))
    · exact fun h0 hi => exec_runs hp rfl ((if_pos h0).trans (sendAck_plain hi))

end Sys2Proof.Machine
end

section
/-!
PROOF. Packets that arrive and leave, the timers of a port in L0, and its lane power states.
-/
namespace Sys2Proof.Machine

section
variable {n : Nat} {s t u : State} {l : PortLink}

/-! ### Timers -/

theorem startResend_none (h : (portLink s n).replay = []) : startResend n s = s := by
  rw [startResend, h]
  rfl

theorem startResend_round (h : (portLink s n).replay ≠ []) (hr : (portLink s n).rounds < s.rd (HLx_CFG_REPLAY_MAX n)) :
    startResend n s = setPortLink n { portLink s n with resend := (portLink s n).replay, rounds := (portLink s n).rounds + 1 }
      (s.bump (HLx_COUNT0_REPLAYS n)) := by
  rw [startResend, if_neg (fun hc => h (List.isEmpty_iff.mp hc)), if_neg (Nat.not_le.mpr hr)]

theorem startResend_retrains (h : (portLink s n).replay ≠ []) (hr : s.rd (HLx_CFG_REPLAY_MAX n) ≤ (portLink s n).rounds)
    (h5 : linkOf s n = 5) : startResend n s = retrain n (raise 0x02 (n % 2) s) := by
  rw [startResend, if_neg (fun hc => h (List.isEmpty_iff.mp hc)), if_pos hr, if_pos h5]

section
variable {p : Port}

theorem creditAdvertise_goes (h5 : linkOf s p.num = 5) (h : (portLink s p.num).adv < (portLink s p.num).freed + 3072) :
    execCreditAdvertise p s = sendCtl p.num 3 ((portLink s p.num).freed + 3072)
      (setPortLink p.num { portLink s p.num with adv := (portLink s p.num).freed + 3072 } s) := if_pos ⟨h5, h⟩

theorem creditAdvertise_none (h : (portLink s p.num).freed + 3072 ≤ (portLink s p.num).adv) : execCreditAdvertise p s = s :=
  if_neg fun hc => absurd hc.2 (Nat.not_lt.mpr h)

theorem creditStall_none (h : queued s p.num = []) : execCreditStallTimeout p s = s := by
  simp only [execCreditStallTimeout, h]

theorem creditStall_eq {r : Reply} {rs : List Reply} (h : queued s p.num = r :: rs) (h5 : linkOf s p.num = 5) :
    execCreditStallTimeout p s
      = if creditOk (portLink s p.num) (creditsOf ((replyWords s r).length + 2)) then s else linkDown p.num 3 s := by
  simp only [execCreditStallTimeout, h, h5, true_and]
  cases creditOk (portLink s p.num) (creditsOf ((replyWords s r).length + 2))
  · rw [if_pos Bool.not_false, if_neg Bool.false_ne_true]
  · rw [if_pos rfl, if_neg (by decide)]

/-! ### Lane power states -/

theorem l1Exit_leaves (h : linkOf s p.num = 6) : execL1Exit p s = leaveL1 p.num s := if_pos h

theorem engineL2Exit_none (h : queued s p.num = []) : execEngineL2Exit p s = s := if_pos (congrArg List.isEmpty h)

theorem engineL2Exit_wakes (h : queued s p.num ≠ []) (h7 : linkOf s p.num = 7) (hw : (portLink s p.num).wake = 0) :
    execEngineL2Exit p s
      = setPortLink p.num { portLink s p.num with wake := 1 } (setCause (HLx_ATTN_STAT_WAKE p.num) s) := by
  rw [execEngineL2Exit, if_neg (fun hc => h (List.isEmpty_iff.mp hc))]
  exact if_pos ⟨h7, hw⟩

theorem wakePattern_ends (h7 : linkOf s p.num = 7) (hw : (portLink s p.num).wake = 1) (ht : t = leaveL2 p.num s) :
    execWakePatternEnd p s = setPortLink p.num { portLink t p.num with wake := 2 } t := by
  subst ht
  exact if_pos ⟨h7, hw⟩

theorem l1Idle_asks (h5 : linkOf s p.num = 5) (he : s.bit (HLx_PWR_L1_EN p.num) = true) (hi : s.rd (HLx_PWR_L1_IDLE p.num) ≠ 0)
    (hh : holdsPacket p.num s = false) (h1 : (portLink s p.num).l1Req = false) (h2 : (portLink s p.num).l2Req = false) :
    execL1IdleExpiry p s = sendCtl p.num 4 0 (setPortLink p.num { portLink s p.num with l1Req := true } s) :=
  if_pos ⟨h5, he, hi, congrArg (!·) hh, congrArg (!·) h1, congrArg (!·) h2⟩

theorem l1Idle_off (he : s.bit (HLx_PWR_L1_EN p.num) = false) : execL1IdleExpiry p s = s :=
  if_neg fun hc => Bool.false_ne_true (he.symm.trans hc.2.1)

/-! ### Packets that arrive -/

theorem receive_none {l0 l1 : List Byte} {edb : Bool} {errs : List EccErr} (h5 : linkOf s p.num ≠ 5) (h8 : linkOf s p.num ≠ 8) :
    execLinkPacketReceive p l0 l1 edb errs s = s := if_pos ⟨h5, h8⟩

theorem receive_takes {l0 l1 : List Byte} {edb : Bool} {errs : List EccErr} {all : List Nat} (h : receives s p.num)
    (ha : all = wordsHeard (s.bit (HLx_STAT_LANE_REV p.num)) l0 l1) :
    execLinkPacketReceive p l0 l1 edb errs s = takeWords p.num all edb errs s := by
  subst ha
  exact if_neg (receives_not h)

end

section
variable {all w : List Nat} (hw : w = all.dropLast) (ht : t = if isCtl w then s else withdrawL1 n s)
include hw ht

theorem takeWords_nullified {errs : List EccErr} : takeWords n all true errs s = t.bump (HLx_COUNT2_NULLIFIED n) := by
  subst hw ht
  rfl

/-- A packet that ends in EOP and reads without an error. -/
theorem takeWords_eq : takeWords n all false [] s
    = if (!decide (crc32c (bytesOfWords w) = all.getLastD 0 ∧ 4 ≤ all.length)) = true then badPacket n w t
      else if injected t n 1 then badPacket n w (injUse n t)
      else if isCtl w then
        (if ctlOk w then takeCtl n (w.getD 3 0 / 2 ^ 28) (w.getD 3 0 % 65536) t else malformed n 5 t)
      else if linkOf t n = 8 then t
      else goodPacket n w t := by
  subst hw ht
  rw [takeWords]
  simp only [List.filter_nil, noteErrs_nil, List.any_nil, Bool.or_false, Bool.false_eq_true, if_false]
  rfl

/-- The CRC word does not fit. -/
theorem takeWords_crc (hc : crc32c (bytesOfWords w) ≠ all.getLastD 0) : takeWords n all false [] s = badPacket n w t := by
  rw [takeWords_eq hw ht, decide_eq_false (fun h => hc h.1), if_pos (Bool.not_false)]

theorem takeWords_good (hc : crc32c (bytesOfWords w) = all.getLastD 0) (h4 : 4 ≤ all.length) (hi : t.rd (LME_INJ_PENDx n) = 0) :
    takeWords n all false [] s = if isCtl w then
        (if ctlOk w then takeCtl n (w.getD 3 0 / 2 ^ 28) (w.getD 3 0 % 65536) t else malformed n 5 t)
      else if linkOf t n = 8 then t
      else goodPacket n w t := by
  have hinj : injected t n 1 = false := decide_eq_false fun h => h.1 hi
  rw [takeWords_eq hw ht, decide_eq_true ⟨hc, h4⟩, hinj, if_neg Bool.false_ne_true, if_neg (by decide)]

end

theorem badPacket_naks {w : List Nat} (hw : isCtl w = false) (hu : u = raise 0x01 (n % 2) (t.bump (HLx_COUNT0_CRC_ERR n)))
    (h5 : linkOf u n = 5) (hd : (portLink u n).dropping = false) : badPacket n w t = sendNak n u := by
  subst hu
  rw [badPacket, if_neg (by rw [hw]; exact Bool.false_ne_true), if_neg (by rw [h5]; decide),
    if_neg (by rw [hd]; exact fun h => Bool.false_ne_true h.1)]

theorem goodPacket_accepted {w : List Nat} (hq : (hear w).pfx % 65536 = t.rd (HLx_SEQ_RX_EXP n))
    (hc : (portLink t n).rxUsed + creditsOf (w.length + 1) ≤ (portLink t n).adv) (hb : badForm (hear w) = false) :
    goodPacket n w t = acceptPacket n (hear w) (creditsOf (w.length + 1)) t := by
  rw [goodPacket, if_neg (not_not.mpr hq), if_neg (Nat.not_lt.mpr hc), if_neg (by rw [hb]; exact Bool.false_ne_true)]

/-! ### Packets that leave -/

section
variable {p : Port} {errs : List EccErr}

theorem transmit_leavesL1 (h6 : linkOf s p.num = 6) (h : queued s p.num ≠ [] ∨ (portLink s p.num).ctl ≠ []) :
    execPacketTransmit p errs s = leaveL1 p.num s := by
  refine (if_pos h6).trans (if_neg ?_)
  rw [Bool.and_eq_true, List.isEmpty_iff, List.isEmpty_iff]
  exact fun hc => h.elim (fun h => h hc.1) fun h => h hc.2

theorem transmit_quiet (h6 : linkOf s p.num = 6) (hq : queued s p.num = []) (hc : (portLink s p.num).ctl = []) :
    execPacketTransmit p errs s = s := by
  refine (if_pos h6).trans (if_pos ?_)
  rw [hq, hc]
  rfl

/-- The port has no request for L1 to take back. -/
theorem dropL1Req_none (h : holdsPacket n s = false ∨ (portLink s n).ctl = []) : dropL1Req n s = s := by
  refine if_neg ?_
  rcases h with h | h
  · rw [h, Bool.false_and]
    exact Bool.false_ne_true
  · rw [ctlQueued, h, List.any_nil, Bool.and_false]
    exact Bool.false_ne_true

theorem ctlReady_free (h : holdsPacket n s = false) : ctlReady n s = (portLink s n).ctl := by
  rw [ctlReady, h]
  simp only [Bool.false_and, Bool.not_false, List.filter_true]

theorem ctlReady_none (h : (portLink s n).ctl = []) : ctlReady n s = [] := by
  rw [ctlReady, h, List.filter_nil]

theorem transmit_ctl {x : Nat × Nat} {r : List (Nat × Nat)} (h5 : linkOf s p.num = 5) (hc : (portLink s p.num).ctl = x :: r)
    (he : (portLink s p.num).entering = 0) (hh : holdsPacket p.num s = false) :
    execPacketTransmit p [] s = onWire p.num (ctlWords x) true false (setPortLink p.num { portLink s p.num with ctl := r } s) := by
  have hrest : ctlRest p.num x s = r := by
    rw [ctlRest, hc, List.erase_cons_head]
  have hl1 : ¬ (x.1 = 5 ∧ (portLink s p.num).entering = 1) := by omega
  have hl2 : ¬ (x.1 = 8 ∧ (portLink s p.num).entering = 2) := by omega
  simp only [execPacketTransmit, h5, dropL1Req_none (.inl hh), ctlReady_free hh, hc, hrest, if_neg hl1, if_neg hl2]
  exact (if_neg (by decide)).trans (if_neg (by decide))

/-- What goes out while no control packet waits. -/
theorem transmit_data (h5 : linkOf s p.num = 5) (hc : (portLink s p.num).ctl = []) :
    execPacketTransmit p [] s = match (portLink s p.num).resend with
      | x :: r => onWire p.num x.words false false (setPortLink p.num { portLink s p.num with resend := r } s)
      | [] => if (portLink s p.num).entering ≠ 0 then s else sendNew p.num false s := by
  simp only [execPacketTransmit, h5, dropL1Req_none (.inr hc), ctlReady_none hc, List.filter_nil, noteErrs_nil, List.any_nil,
    Bool.false_eq_true, if_false]
  exact (if_neg (by decide)).trans (if_neg (by decide))

theorem sendNew_idle (h : queued s n = []) : sendNew n false s = sendIdle n s := by
  simp only [sendNew, h]

theorem sendNew_goes {r : Reply} {rs : List Reply} {q c : Nat} {w : List Nat} {m : PortLink} (h : queued s n = r :: rs)
    (hq : q = s.rd (HLx_SEQ_TX_NEXT n)) (hw : w = q :: replyWords s r) (hm : maySend (portLink s n) w.length = true)
    (ht : t = onWire n w true false (syncStat { s with cmd := { s.cmd with replies := popReply n s.cmd.replies } }))
    (hp : m = portLink t n) (hc : c = (m.consumed + creditsOf (w.length + 1)) % 65536) :
    sendNew n false s = putPort n { m with replay := m.replay ++ [⟨q, w⟩], consumed := c } (t.wr (HLx_SEQ_TX_NEXT n) (q + 1)) := by
  subst hq hw hc hp ht
  simp only [sendNew, h, hm, Bool.not_true, Bool.false_eq_true, if_false]

end

end

/-- Settles O42: timers by the port's replay buffer and credits, packets by what their words are. -/
theorem linkTraffic : Obligations.LinkTraffic := by
  unfold Obligations.LinkTraffic
  refine ⟨fun p n s l hp hn h5 hl => ?_, fun p n l0 l1 errs s t all w hp hn ha hw ht => ?_, fun p n s l hp hn hl => ?_⟩
  · subst hn hl
    refine ⟨?_, ?_, ?_, ?_, ?_, ?_, ?_, ?_⟩
    · exact fun h => exec_runs hp rfl ((if_pos (.inl h5)).trans (startResend_none h))
    · exact fun h hr => exec_runs hp rfl ((if_pos (.inl h5)).trans (startResend_round h hr))
    · exact fun h hr => exec_runs hp rfl ((if_pos (.inl h5)).trans (startResend_retrains h hr h5))
    · exact fun h => exec_runs hp rfl (creditAdvertise_goes h5 h)
    · exact fun h => exec_runs hp rfl (creditAdvertise_none h)
    · exact fun h => exec_runs hp rfl (creditStall_none h)
    · exact fun r rs h hc => exec_runs hp rfl ((creditStall_eq h h5).trans (if_neg (by rw [hc]; exact Bool.false_ne_true)))
    · exact fun r rs h hc => exec_runs hp rfl ((creditStall_eq h h5).trans (if_pos hc))
  · subst hn
    refine ⟨?_, ?_, ?_, ?_, ?_⟩
    · exact fun edb h5 h8 => exec_runs hp rfl (receive_none h5 h8)
    · exact fun h => exec_runs hp rfl ((receive_takes h ha).trans (takeWords_nullified hw ht))
    · intro u h5 he h4 hc hctl hu hu5 hd
      subst he
      exact exec_runs hp rfl ((receive_takes (.inl h5) ha).trans ((takeWords_crc hw ht hc).trans (badPacket_naks hctl hu hu5 hd)))
    · intro ht5 h5 he h4 hc hi hctl hq hcr hb
      subst he
      refine exec_runs hp rfl ((receive_takes (.inl h5) ha).trans ((takeWords_good hw ht hc h4 hi).trans ?_))
      rw [if_neg (by rw [hctl]; exact Bool.false_ne_true), if_neg (by rw [ht5]; decide), goodPacket_accepted hq hcr hb]
    · intro h5 he h4 hc hi hctl hok
      subst he
      rw [if_pos hctl] at ht
      subst ht
      refine exec_runs hp rfl ((receive_takes (.inl h5) ha).trans ((takeWords_good hw (if_pos hctl).symm hc h4 hi).trans ?_))
      rw [if_pos hctl, if_neg (by rw [hok]; exact Bool.false_ne_true)]
  · subst hn hl
    refine ⟨?_, ?_, ?_, ?_, ?_, ?_, ?_, ?_, ?_, ?_, ?_, ?_, ?_, ?_, ?_, ?_⟩
    · exact fun errs h6 h => exec_runs hp rfl (transmit_leavesL1 h6 h)
    · exact fun errs h6 hq hc => exec_runs hp rfl (transmit_quiet h6 hq hc)
    · exact fun x r h5 hc he hh => exec_runs hp rfl (transmit_ctl h5 hc he hh)
    · exact fun x r h5 hc hr => exec_runs hp rfl ((transmit_data h5 hc).trans (by rw [hr]))
    · intro r rs q w t m c h5 hc hr he hq hq' hw hm ht hmp hcc
      refine exec_runs hp rfl ((transmit_data h5 hc).trans ?_)
      rw [hr, he]
      exact (if_neg (not_not.mpr rfl)).trans (sendNew_goes hq hq' hw hm ht hmp hcc)
    · intro h5 hc hr he hq
      refine exec_runs hp rfl ((transmit_data h5 hc).trans ?_)
      rw [hr, he]
      exact (if_neg (not_not.mpr rfl)).trans (sendNew_idle hq)
    · exact fun h => exec_runs hp rfl (l1Exit_leaves h)
    · exact fun h => exec_runs hp rfl (if_neg h)
    · exact fun h => exec_runs hp rfl (if_pos h)
    · exact fun h => exec_runs hp rfl (if_neg h)
    · exact fun h => exec_runs hp rfl (engineL2Exit_none h)
    · exact fun h h7 hw => exec_runs hp rfl (engineL2Exit_wakes h h7 hw)
    · exact fun t h7 hw ht => exec_runs hp rfl (wakePattern_ends h7 hw ht)
    · exact fun h => exec_runs hp rfl (if_neg fun hc => h hc.1)
    · exact fun h5 he hi hh h1 h2 => exec_runs hp rfl (l1Idle_asks h5 he hi hh h1 h2)
    · exact fun he => exec_runs hp rfl (l1Idle_off he)

end Sys2Proof.Machine
end

section
/-!
PROOF. Lane tests, injections, checkers and the eye.
-/
namespace Sys2Proof.Machine

section
variable {o : Outst} {c : Cmd} {s t u : State}

section
variable (ho : o.cmd = c) (h0 : c.p0 % 256 = 0) (hl : c.p0 / 4096 ≠ 0) (hd : c.w 1 ≠ 0) (hm : c.w 1 ≤ 60000000)
include ho h0 hl hd hm

theorem linkTest_stop (h3 : c.p0 / 256 % 4 = 3) :
    linkTest o t = if t.bit LME_TEST_RUNNING then answerLater (holdCmd o t) else ok t := by
  subst ho
  have hbad : ¬ (o.cmd.p0 % 256 ≠ 0 ∨ o.cmd.p0 / 4096 = 0 ∨ o.cmd.w 1 = 0 ∨ 60000000 < o.cmd.w 1) := by omega
  rw [linkTest, if_neg hbad, if_pos h3]

theorem linkTest_busy (h3 : c.p0 / 256 % 4 ≠ 3) (hr : t.bit LME_TEST_RUNNING = true) : linkTest o t = ans t .busy := by
  subst ho
  have hbad : ¬ (o.cmd.p0 % 256 ≠ 0 ∨ o.cmd.p0 / 4096 = 0 ∨ o.cmd.w 1 = 0 ∨ 60000000 < o.cmd.w 1) := by omega
  rw [linkTest, if_neg hbad, if_neg h3, if_pos (.inl hr)]

theorem linkTest_starts {v w : State} (h3 : c.p0 / 256 % 4 ≠ 3) (hr : t.bit LME_TEST_RUNNING = false)
    (hp : (lanePorts (c.p0 / 4096)).any (fun p => decide (t.rd (HLx_STAT_UNIT p) ≠ 0)) = false)
    (hu : u = ((((t.wr LME_TEST_RUNNING 1).wr LME_TEST_LANES (c.p0 / 4096)).wr LME_TEST_SYNC 0).wr LME_TEST_MODE (c.p0 / 256 % 4)).wr
        LME_TEST_PATTERN (c.p0 / 1024 % 4))
    (hv : v = (List.range 4).foldl (fun x i => if c.p0 / 4096 / 2 ^ i % 2 = 1 then x.setReg (LME_ERRn i) 0#32 else x) u)
    (hw : w = (lanePorts (c.p0 / 4096)).foldl (fun x p => x.wr (HLx_STAT_LINK p) 9) v) :
    linkTest o t = answerLater (holdCmd o { w with link := { w.link with test := some o, testAt := w.now } }) := by
  subst ho
  have hbad : ¬ (o.cmd.p0 % 256 ≠ 0 ∨ o.cmd.p0 / 4096 = 0 ∨ o.cmd.w 1 = 0 ∨ 60000000 < o.cmd.w 1) := by omega
  have hbusy : ¬ (t.bit LME_TEST_RUNNING = true
      ∨ (lanePorts (o.cmd.p0 / 4096)).any (fun p => decide (t.rd (HLx_STAT_UNIT p) ≠ 0)) = true) := by
    rw [hr, hp]
    exact fun h => h.elim Bool.false_ne_true Bool.false_ne_true
  rw [linkTest, if_neg hbad, if_neg h3, if_neg hbusy, hw, hv, hu]
  rfl

end

section
variable {p kind lane : Nat} (ho : o.cmd = c) (h0 : c.p0 / 256 % 8 = 0) (hn : c.p0 % 256 ≠ 0) (hp : p = c.p0 / 2 ^ 15)
  (hk : kind = c.p0 / 2 ^ 12 % 8) (h4 : kind < 4)
include ho h0 hn hp hk h4

theorem linkInject_busy (h : t.rd (LME_INJ_PENDx p) ≠ 0) : linkInject o t = ans t .busy := by
  subst ho hp hk
  have hbad : ¬ (o.cmd.p0 / 256 % 8 ≠ 0 ∨ o.cmd.p0 % 256 = 0 ∨ 5 ≤ o.cmd.p0 / 2 ^ 12 % 8) := by omega
  rw [linkInject, if_neg hbad, if_pos (.inl h)]

theorem linkInject_goes (hlane : lane = c.p0 / 2 ^ 11 % 2) (h : t.rd (LME_INJ_PENDx p) = 0) (hl : linkOf t p = 5 ∨ linkOf t p = 6)
    (hu : u = (t.wr (LME_INJ_PENDx p) (c.p0 % 256)).wr (LME_INJ_KINDx p) kind) : linkInject o t
      = ok { u with link := if p = 0 then { u.link with injA := lane } else { u.link with injB := lane } } := by
  subst ho hp hk hlane hu
  have hbad : ¬ (o.cmd.p0 / 256 % 8 ≠ 0 ∨ o.cmd.p0 % 256 = 0 ∨ 5 ≤ o.cmd.p0 / 2 ^ 12 % 8) := by omega
  have h4' : ¬ o.cmd.p0 / 2 ^ 12 % 8 = 4 := by omega
  have hlink : decide (linkOf t (o.cmd.p0 / 2 ^ 15) ≠ 5 ∧ linkOf t (o.cmd.p0 / 2 ^ 15) ≠ 6) = false :=
    decide_eq_false fun hc => hl.elim hc.1 hc.2
  rw [linkInject, if_neg hbad, if_neg]
  rw [if_neg h4', hlink]
  exact fun hc => hc.elim (fun hc => hc h) Bool.false_ne_true

end

section
variable {lane : Fin 4}

theorem checker_syncs {l : List Bool} (ho : checkerOn s lane.val = true) (hl : prbsLocked (s.rd LME_TEST_PATTERN) l = true) :
    execCheckerInSync lane l s = s.setBit LME_TEST_SYNC lane.val := if_pos ⟨ho, hl⟩

theorem checker_unsynced {l : List Bool} (h : checkerOn s lane.val = false ∨ prbsLocked (s.rd LME_TEST_PATTERN) l = false) :
    execCheckerInSync lane l s = s :=
  if_neg fun hc => h.elim (fun h => Bool.false_ne_true (h.symm.trans hc.1)) fun h => Bool.false_ne_true (h.symm.trans hc.2)

theorem checker_losesSync {k : Nat} (ho : checkerOn s lane.val = true) (hs : s.bitOf LME_TEST_SYNC lane.val = true) (hk : 256 < k) :
    execCheckerSyncLoss lane k s
      = ((s.bumpBy (LME_ERRn_ERRORS lane.val) k).bump (syncLossFld lane.val)).clrBit LME_TEST_SYNC lane.val := by
  refine (if_pos ⟨ho, hs, hk⟩).trans ?_
  rw [laneErrs, if_pos hs]

theorem checker_outOfSync {k : Nat} (hs : s.bitOf LME_TEST_SYNC lane.val = false) : execCheckerSyncLoss lane k s = s :=
  if_neg fun hc => Bool.false_ne_true (hs.symm.trans hc.2.1)

theorem linkTestEnd_none {a b d e : Nat} (h : s.link.test = none) : execLinkTestEnd a b d e s = s := by
  rw [execLinkTestEnd, h]
  exact if_neg Bool.false_ne_true

theorem linkTestEnd_ends {a b d e : Nat} (h : s.link.test.isSome = true) :
    execLinkTestEnd a b d e s = endTest (laneErrs 3 e (laneErrs 2 d (laneErrs 1 b (laneErrs 0 a s)))) := if_pos h

theorem eyeMeasure_eq {w : BitVec 8} (he : s.bit LME_CTRL_EYE_EN = true) (hl : linkOf s (lane.val / 2) = 5)
    (hu : u = s.wr (eyeFld lane.val) w.toNat) : execEyeMeasure lane w s
      = if w.toNat < u.rd LME_EYE_CFG_EYE_MIN then raise 0x05 (lane.val * 256 + w.toNat) u else u := by
  subst hu
  exact if_pos ⟨he, hl⟩

theorem eyeMeasure_off {w : BitVec 8} (he : s.bit LME_CTRL_EYE_EN = false) : execEyeMeasure lane w s = s :=
  if_neg fun hc => Bool.false_ne_true (he.symm.trans hc.1)

end

end

/-- Settles O43: LINK_TEST by its mode and the running test, LINK_INJECT by what is pending, the checkers by their sync bits. -/
theorem laneTests : Obligations.LaneTests := by
  unfold Obligations.LaneTests
  refine fun c s t => ⟨fun h ht h0 hl hd hm => ?_, fun p kind lane h ht h0 hn hp hk hlane h4 => ?_, fun hp lane => ?_⟩
  · subst ht
    refine ⟨fun h3 hr => ?_, fun h3 hr => ?_, fun h3 hr => ?_, fun u v w h3 hr hp hu hv hw => ?_⟩
    · exact exec_admits h rfl ((linkTest_stop (o := issued .linkTest c s) rfl h0 hl hd hm h3).trans
        (if_neg (by rw [hr]; exact Bool.false_ne_true)))
    · exact exec_admits_later h rfl ((linkTest_stop (o := issued .linkTest c s) rfl h0 hl hd hm h3).trans (if_pos hr))
    · exact exec_admits h rfl (linkTest_busy (o := issued .linkTest c s) rfl h0 hl hd hm h3 hr)
    · exact exec_admits_later h rfl (linkTest_starts (o := issued .linkTest c s) rfl h0 hl hd hm h3 hr hp hu hv hw)
  · subst ht
    refine ⟨fun hb => ?_, fun u hz hlink hu => ?_⟩
    · exact exec_admits h rfl (linkInject_busy (o := issued .linkInject c s) rfl h0 hn hp hk h4 hb)
    · exact exec_admits h rfl (linkInject_goes (o := issued .linkInject c s) rfl h0 hn hp hk h4 hlane hz hlink hu)
  · refine ⟨?_, ?_, ?_, ?_, ?_, ?_, ?_, ?_⟩
    · exact fun l ho hl => exec_runs hp rfl (checker_syncs ho hl)
    · exact fun l hx => exec_runs hp rfl (checker_unsynced hx)
    · exact fun k ho hs hk => exec_runs hp rfl (checker_losesSync ho hs hk)
    · exact fun k hs => exec_runs hp rfl (checker_outOfSync hs)
    · exact fun a b d e hx => exec_runs hp rfl (linkTestEnd_none hx)
    · exact fun a b d e hx => exec_runs hp rfl (linkTestEnd_ends hx)
    · exact fun wd u he hl hu => ⟨fun hw => exec_runs hp rfl ((eyeMeasure_eq he hl hu).trans (if_pos hw)),
        fun hw => exec_runs hp rfl ((eyeMeasure_eq he hl hu).trans (if_neg (Nat.not_lt.mpr hw)))⟩
    · exact fun wd he => exec_runs hp rfl (eyeMeasure_off he)

end Sys2Proof.Machine
end

section
/-!
PROOF. The hosts' beats and their loss; STATE_READ, RESYNC and the keys.
-/
namespace Sys2Proof.Machine

/-! ### Beats of a host -/

section
variable {p : Port} {s t u v : State}

theorem hostTack_answers {c : Cmd} {u0 : State} (h0 : u0 = drained s)
    (hw : waitsTurn c.port c.ch c.seq.toNat (carries .tack c) u0 = false)
    (ht : t = heard c.ch c.port.num c.ptype.toNat (takePacket c.port.num c.ch (carries .tack c) u0)) (ho : passesOpen c t = true)
    (hp : ptypeOk .tack c = true) (hd : c.d = false) (hf : c.f = false) (hl : lenOk .tack c = true) :
    hostTack tack c s = tack c t := by
  subst h0 ht
  rw [hostTack, if_neg (by rw [hw]; exact Bool.false_ne_true), hp, if_neg (by decide)]
  simp only [admitA_none ho, hd, hf, hl, Bool.false_eq_true, or_self, Bool.not_true, if_false]

theorem heartbeat_a (ht : t = (s.wr (HLx_HB_LEVEL 0) (1 - s.rd (HLx_HB_LEVEL 0))).wr (HLx_HB_BEATS 0)
      ((s.wr (HLx_HB_LEVEL 0) (1 - s.rd (HLx_HB_LEVEL 0))).rd (HLx_HB_BEATS 0) + 1)) :
    execHeartbeatBeat .a s
      = hostBeat 0 { t with ccx := { t.ccx with pinBeatA := some t.now }, smc := { t.smc with hbSeenA := some t.now } } := by
  subst ht
  rfl

theorem heartbeat_b (ht : t = (s.wr (HLx_HB_LEVEL 1) (1 - s.rd (HLx_HB_LEVEL 1))).wr (HLx_HB_BEATS 1)
      ((s.wr (HLx_HB_LEVEL 1) (1 - s.rd (HLx_HB_LEVEL 1))).rd (HLx_HB_BEATS 1) + 1)) :
    execHeartbeatBeat .b s
      = hostBeat 1 { t with ccx := { t.ccx with pinBeatB := some t.now }, smc := { t.smc with hbSeenB := some t.now } } := by
  subst ht
  rfl

theorem hostHb_apart (h : s.rd (CCX_HOSTx_STATE p.num) ≠ 1) : execHostHbTimeout p s = s := if_pos h

/-- A PRESENT host is lost, and recovery goes on where it can. -/
theorem hostHb_lost (h : s.rd (CCX_HOSTx_STATE p.num) = 1)
    (ht : t = (s.wr (CCX_HOSTx_STATE p.num) 2).wr (CCX_HOSTx_EPOCH p.num) (s.rd (CCX_HOSTx_EPOCH p.num) + 1))
    (hu : u = abandonWhere (fun x => !dupOf x.o.w1 && decide (x.o.cmd.port.num = p.num)) (dropThimbles p.num (raise 0x70 p.num t)))
    (hv : v = journalEvent (if hostPresent u p.other.num then u else noHost u)) :
    execHostHbTimeout p s = if (recoverable s && portUp s p.other.num) = true then recoveryBegin 0x70 (awaited v) v
      else recoveryRefuse 0x70 v := by
  subst ht hu hv
  exact if_neg (not_not.mpr h)

end

/-- Settles O44: the Tack by the steps of its admission, the timeout by the state of the host. -/
theorem hostBeats : Obligations.HostBeats := by
  unfold Obligations.HostBeats
  intro p n s hp hn
  subst hn
  refine ⟨?_, fun t ht => ⟨?_, ?_⟩, ?_, ?_⟩
  · intro c u0 t u hc h0 hw ht ho hpt hd hf hl hu
    subst hc hu
    exact exec_runs hp rfl (hostTack_answers h0 hw ht ho hpt hd hf hl)
  · intro h
    subst h
    exact exec_runs hp rfl (heartbeat_a ht)
  · intro h
    subst h
    exact exec_runs hp rfl (heartbeat_b ht)
  · exact fun h => exec_runs hp rfl (hostHb_apart h)
  · intro t u v h ht hu hv
    have he := hostHb_lost h ht hu hv
    exact ⟨fun hr hup => exec_runs hp rfl (he.trans (if_pos (Bool.and_eq_true_iff.mpr ⟨hr, hup⟩))),
      fun hx => exec_runs hp rfl (he.trans (if_neg (by rw [hx]; exact Bool.false_ne_true)))⟩

/-! ### STATE_READ and RESYNC -/

section
variable {o : Outst} {c : Cmd} {s t u : State} {k n : Nat}

theorem stateRead_known {r : LastReply} {nx : Nat} (ho : o.cmd = c) (hc : c.p0 < 256) (hk : k = streamKey (chanW1 t c.p0) c.p0 c.port.num)
    (hr : storeGet none t.cmd.lastRep k = some r) (hn : storeGet none t.cmd.lastSeq k = some nx) :
    stateRead o t = okW t [hostWord t c.port.num, (t.reg CCX_DUP).toNat, r.status * 65536 + (nx + 1) % 65536, (t.reg CCX_JHEAD).toNat,
      (t.reg CCX_JBASE).toNat, (t.reg DEV_FN).toNat, (t.reg SMEM_RETIRE).toNat, guarantee t, (t.reg DEV_LADDER).toNat] := by
  subst ho hk
  rw [stateRead, if_neg (Nat.not_le.mpr hc)]
  simp only [hr, hn]

theorem stateRead_free {f : Nat × State} (ho : o.cmd = c) (hc : c.p0 < 256) (hk : k = streamKey (chanW1 t c.p0) c.p0 c.port.num)
    (hr : storeGet none t.cmd.lastRep k = none) (hn : storeGet none t.cmd.lastSeq k = none) (hf : f = t.fresh) :
    stateRead o t = okW f.2 [hostWord t c.port.num, (t.reg CCX_DUP).toNat, 255 * 65536 + (Config.freeNextSeq f.1).toNat,
      (t.reg CCX_JHEAD).toNat, (t.reg CCX_JBASE).toNat, (t.reg DEV_FN).toNat, (t.reg SMEM_RETIRE).toNat, guarantee t,
      (t.reg DEV_LADDER).toNat] := by
  subst ho hk hf
  rw [stateRead, if_neg (Nat.not_le.mpr hc)]
  simp only [hr, hn]

theorem resync_bad (ho : o.cmd = c) (h : c.p0 = 0) : resync o t = ans t .badParam := by
  subst ho
  exact if_pos (.inl h)

section
variable (ho : o.cmd = c) (hop : o.op = .resync) (hn : n = c.port.num) (hd : dupOf o.w1 = false)
include ho hop hn hd

/-- A request that names a port's epoch, a stream's, or both. -/
theorem resync_eq {port stream : Bool} (h : c.p0 ≠ 0 ∧ c.p0 < 4) (hp : decide (c.p0 % 2 = 1) = port) (hs : decide (2 ≤ c.p0) = stream)
    (hu : u = (t.when port (fun u => (u.wr (CCX_HOSTx_EPOCH n) (u.rd (CCX_HOSTx_EPOCH n) + 1)).wr (CCX_HOSTx_STATE n) 1)).when stream
      (fun u => u.wr CCX_DUP_LIVE 1)) :
    resync o t = if (port = true ∧ c.w 1 ≠ t.rd (CCX_HOSTx_EPOCH n)) ∨ (stream = true ∧ c.w 2 ≠ t.rd CCX_DUP_SEPOCH) then ans t .stale
      else okW (journal 2 n c.ch (cmdWords .resync c) u) [(journal 2 n c.ch (cmdWords .resync c) u).rd (CCX_HOSTx_EPOCH n),
        (journal 2 n c.ch (cmdWords .resync c) u).rd CCX_DUP_SEPOCH] := by
  subst ho hn hp hs hu
  have hbad : ¬ (o.cmd.p0 = 0 ∨ 4 ≤ o.cmd.p0 ∨ dupOf o.w1 = true) := by
    rw [hd]
    exact fun hc => hc.elim h.1 fun hc => hc.elim (Nat.not_le.mpr h.2) Bool.false_ne_true
  rw [resync, if_neg hbad, hop]

theorem resync_port (h : c.p0 = 1) (he : c.w 1 = t.rd (CCX_HOSTx_EPOCH n)) (hu : u = journal 2 n c.ch (cmdWords .resync c)
    ((t.wr (CCX_HOSTx_EPOCH n) (t.rd (CCX_HOSTx_EPOCH n) + 1)).wr (CCX_HOSTx_STATE n) 1)) :
    resync o t = okW u [u.rd (CCX_HOSTx_EPOCH n), u.rd CCX_DUP_SEPOCH] := by
  subst hu
  refine (resync_eq (port := true) (stream := false) ho hop hn hd (by omega) (by rw [h]; rfl) (by rw [h]; rfl) rfl).trans ((if_neg ?_).trans ?_)
  · exact fun hc => hc.elim (fun hc => hc.2 he) fun hc => Bool.false_ne_true hc.1
  · simp only [State.when, if_true, Bool.false_eq_true, if_false]

theorem resync_stale (h : c.p0 = 1) (he : c.w 1 ≠ t.rd (CCX_HOSTx_EPOCH n)) : resync o t = ans t .stale :=
  (resync_eq (port := true) (stream := false) ho hop hn hd (by omega) (by rw [h]; rfl) (by rw [h]; rfl) rfl).trans
    (if_pos (.inl ⟨rfl, he⟩))

theorem resync_stream (h : c.p0 = 2) (he : c.w 2 = t.rd CCX_DUP_SEPOCH)
    (hu : u = journal 2 n c.ch (cmdWords .resync c) (t.wr CCX_DUP_LIVE 1)) :
    resync o t = okW u [u.rd (CCX_HOSTx_EPOCH n), u.rd CCX_DUP_SEPOCH] := by
  subst hu
  refine (resync_eq (port := false) (stream := true) ho hop hn hd (by omega) (by rw [h]; rfl) (by rw [h]; rfl) rfl).trans ((if_neg ?_).trans ?_)
  · exact fun hc => hc.elim (fun hc => Bool.false_ne_true hc.1) fun hc => hc.2 he
  · simp only [State.when, if_true, Bool.false_eq_true, if_false]

end

end

/-! ### A register that every write reaches -/

/-- The checks of `regWrite` that depend on the address alone, for a register that is not read-only, that no seal locks, without
ranges, counters or W1C bits, of a block whose clock never stops. -/
def openReg (a : Nat) : Bool :=
  decide (a % 4 = 0) && !inSram a && !inSurface a && isReg a && srcAssigned a && (layerOf a).isNone && (cntClrOf a).isNone
    && freeOfRange a && decide (a / 0x10000 ≠ 6 ∧ a / 0x10000 ≠ 0x14)
    && decide (a ≠ ADC_SKEW ∧ ¬ (ADC_TRIMn 0 ≤ a ∧ a < ADC_TRIMn 4))
    && (match regInfo a with
        | some r => decide (r.acc ≠ .ro ∧ r.acc ≠ .rwl ∧ r.cmask = 0)
        | none => false)

section
variable {a : Nat} {s : State} {v m x : Word} {errs : List EccErr} {h : State × Status}

theorem regWrite_open (ho : openReg a = true) (hx : x = (s.reg a &&& ~~~m) ||| (v &&& m)) (hh : regHook a x m s = h) :
    regWrite none errs a v m s = if went h then h else (s, h.2) := by
  simp only [openReg, Bool.and_eq_true, decide_eq_true_eq, Bool.not_eq_true', Option.isNone_iff_eq_none] at ho
  obtain ⟨⟨⟨⟨⟨⟨⟨⟨⟨⟨h4, hram⟩, hsurf⟩, hreg⟩, hsrc⟩, hl⟩, hc⟩, hr⟩, h6, h14⟩, htrim⟩, hi⟩ := ho
  have hb : blockOff s a = false := blockOff_elsewhere h6 h14
  have ht : trimBusy a s = false := by
    rw [trimBusy, decide_eq_false htrim.1, decide_eq_false htrim.2]
    rfl
  have hclr : cntClr a x m s = s := by
    rw [cntClr, hc]
  cases hk : regInfo a with
  | none =>
    rw [hk] at hi
    cases hi
  | some r =>
    rw [hk] at hi
    obtain ⟨hro, hrwl, hmask⟩ : r.acc ≠ .ro ∧ r.acc ≠ .rwl ∧ r.cmask = 0 := of_decide_eq_true hi
    have hr' := rangeOk_of_free hr x
    have hden : layerDenied none a = false := rfl
    have hnote : ∀ u, layerNote none a u = u := fun _ => rfl
    simp only [regWrite, h4, hram, hsurf, hreg, hsrc, hb, hk, regApply, hden, hro, hrwl, hmask, ← hx, hr', ht, hclr, hh, hnote,
      Bool.not_true, Bool.or_self, Bool.false_eq_true, ne_eq, not_true_eq_false, false_and, if_true, if_false]

/-- A field of such a register is written. -/
theorem writeField_open {f : Fld} {v : Nat} (hf : f.sound = true) (ho : openReg f.addr = true)
    (hh : regHook f.addr (setBits (s.reg f.addr) f.msb f.lsb v) f.mask s = h) :
    writeField f v s = answered (if went h then h else (s, h.2)) :=
  congrArg answered (regWrite_open ho (masked_eq_setBits hf (s.reg f.addr) v).symm hh)

end

/-! ### Keys -/

section
variable {s : State} {load clr : Nat}

theorem keyCtrl_closed (h : keysClosed s = true) : keyCtrl load clr s = (s, .notPrivileged) := if_pos h

/-- A refused request changes nothing. -/
theorem keyCtrl_cases : went (keyCtrl load clr s) = true ∨ (keyCtrl load clr s).1 = s := by
  rw [keyCtrl]
  split
  · exact .inr rfl
  · split
    · exact .inr rfl
    · exact .inl rfl

theorem keyCtrl_loads (h : keysClosed s = false) : (keyCtrl load 0 s).2 = .ok := by
  have hb : ¬ (load &&& 0 ≠ 0 ∨ (List.range 8).any (fun k => decide (0 / 2 ^ k % 2 = 1) && keyNamed s k) = true) := by
    rintro (h | h)
    · exact h (Nat.and_zero _)
    · obtain ⟨k, _, hk⟩ := List.any_eq_true.mp h
      rw [Nat.zero_div, Bool.and_eq_true] at hk
      exact absurd (of_decide_eq_true hk.1) (by decide)
  rw [keyCtrl, if_neg (by rw [h]; exact Bool.false_ne_true), if_neg hb]

theorem keyWrite_row {f : Fld} {v : Nat} (hf : f.sound = true) (ha : f.addr = CMD_KEY_CTRL)
    (hl : fv (setBits 0#32 f.msb f.lsb v) CMD_KEY_CTRL_LOAD = load) (hc : fv (setBits 0#32 f.msb f.lsb v) CMD_KEY_CTRL_CLR = clr) :
    writeField f v s = answered (keyCtrl load clr s) := by
  have hh : regHook f.addr (setBits (s.reg f.addr) f.msb f.lsb v) f.mask s = keyCtrl load clr s := by
    rw [regHook_cmd (by rw [ha]; decide), ha, cmdWrite, if_pos rfl, setBits_and_mask hf, hl, hc]
  rw [writeField_open hf (by rw [ha]; decide) hh, answer_whole keyCtrl_cases]

theorem keyLoad_row (mask : BitVec 8) : execKeyLoad mask s = answered (keyCtrl mask.toNat 0 s) :=
  keyWrite_row (by decide) rfl
    ((bits_setBits_same _ _ _ _ (by decide) (by decide)).trans (Nat.mod_eq_of_lt mask.isLt))
    ((bits_setBits_above _ _ _ _ _ _ (by decide) (by decide) (by decide)).trans (by decide))

theorem keyClr_row (mask : BitVec 8) : execKeyClr mask s = answered (keyCtrl 0 mask.toNat s) :=
  keyWrite_row (by decide) rfl
    ((bits_setBits_below _ _ _ _ _ _ (by decide) (by decide) (by decide)).trans (by decide))
    ((bits_setBits_same _ _ _ _ (by decide) (by decide)).trans (Nat.mod_eq_of_lt mask.isLt))

end

/-- Settles O45: STATE_READ by what the stream remembers, RESYNC by its request, the keys by the seal. -/
theorem stateCommands : Obligations.StateCommands := by
  unfold Obligations.StateCommands
  refine fun c s t => ⟨?_, ?_, ?_, ?_⟩
  · intro k r nx h ht hc hk hr hn
    subst ht
    exact exec_admits h rfl (stateRead_known (o := issued .stateRead c s) rfl hc hk hr hn)
  · intro k h ht hc hk hr hn f hf
    subst ht
    exact exec_admits h rfl (stateRead_free (o := issued .stateRead c s) rfl hc hk hr hn hf)
  · intro n h ht hn hd
    subst ht
    refine ⟨fun u h1 he hu => ?_, fun h1 he => ?_, fun u h2 he hu => ?_, fun h0 => ?_⟩
    · exact exec_admits h rfl (resync_port (o := issued .resync c s) rfl rfl hn hd h1 he hu)
    · exact exec_admits h rfl (resync_stale (o := issued .resync c s) rfl rfl hn hd h1 he)
    · exact exec_admits h rfl (resync_stream (o := issued .resync c s) rfl rfl hn hd h2 he hu)
    · exact exec_admits h rfl (resync_bad (o := issued .resync c s) rfl h0)
  · refine fun hp mask => ⟨fun hk => ⟨?_, ?_⟩, fun hk => ⟨?_, ?_, ?_⟩⟩
    · exact exec_runs hp rfl ((keyLoad_row mask).trans (congrArg answered (keyCtrl_closed hk)))
    · exact exec_runs hp rfl ((keyClr_row mask).trans (congrArg answered (keyCtrl_closed hk)))
    · exact exec_runs hp rfl (keyLoad_row mask)
    · exact keyCtrl_loads hk
    · exact exec_runs hp rfl (keyClr_row mask)

end Sys2Proof.Machine
end

section
/-!
PROOF. The registers that an event's handling leaves alone.
-/
namespace Sys2Proof.Machine

/-- The registers that the handling of an event may write: the ladder and the guarantee, the ports' attention bits, SMC, CMP, the loop
engines, and FCR's own. -/
def eventTouched (a : Nat) : Bool :=
  decide (a / 0x10000 ∈ [1, 2, 5, 6, 0xC, 0xD, 0xF]) || decide (a = DEV_LADDER) || decide (a = DEV_GUARANTEE)

/-- The register at `a` holds `w`. A predicate of its own, so that a proof follows the operations. -/
def RegHolds (a : Nat) (w : Word) (s : State) : Prop := s.reg a = w

section
variable {a : Nat} {w : Word} {s : State}

theorem RegHolds.ite {c : Prop} [Decidable c] {t : State} (hs : RegHolds a w s) (ht : RegHolds a w t) :
    RegHolds a w (if c then s else t) := by
  split
  · exact hs
  · exact ht

theorem RegHolds.when {c : Bool} {g : State → State} (h : RegHolds a w s) (hg : ∀ t, RegHolds a w t → RegHolds a w (g t)) :
    RegHolds a w (s.when c g) := RegHolds.ite (hg s h) h

/-- An update of the other parts of a state. -/
theorem RegHolds.upd {a2 a3 a4 a5 a6 a7 a8 a9 a10 a11 a12 a13 a14 a15 a16 a17 a18 a19 a20 a21 a22 a23} (h : RegHolds a w s) :
    RegHolds a w ⟨s.regs, a2, a3, a4, a5, a6, a7, a8, a9, a10, a11, a12, a13, a14, a15, a16, a17, a18, a19, a20, a21, a22,
      a23⟩ := h

theorem State.setReg_regHolds {b : Nat} {v : Word} (h : RegHolds a w s) (hb : b ≠ a) : RegHolds a w (s.setReg b v) := by
  rw [RegHolds, State.reg_setReg, if_neg hb]
  exact h

section
variable (ha : eventTouched a = false)
include ha

theorem ne_of_touched {b : Nat} (hb : eventTouched b = true) : b ≠ a := by
  rintro rfl
  exact Bool.false_ne_true (ha.symm.trans hb)

theorem setReg_regHolds {b : Nat} {v : Word} (h : RegHolds a w s) (hb : eventTouched b = true := by decide) :
    RegHolds a w (s.setReg b v) := State.setReg_regHolds h (ne_of_touched ha hb)

theorem wr_regHolds {f : Fld} {v : Nat} (h : RegHolds a w s) (hb : eventTouched f.addr = true := by decide) :
    RegHolds a w (s.wr f v) := setReg_regHolds ha h hb

theorem setCause_regHolds {f : Fld} (h : RegHolds a w s) (hb : eventTouched f.addr = true := by decide) :
    RegHolds a w (setCause f s) := .upd (setReg_regHolds ha h hb)

theorem setRung_regHolds {k cause : Nat} (h : RegHolds a w s) : RegHolds a w (setRung k cause s) :=
  wr_regHolds ha (.when (.when (.when (.when (wr_regHolds ha (wr_regHolds ha h))
    fun _ h => setCause_regHolds ha (setCause_regHolds ha h)) fun _ h => .upd h) fun _ h => wr_regHolds ha (.upd h))
    fun _ h => wr_regHolds ha h)

theorem railForceStop_regHolds (h : RegHolds a w s) : RegHolds a w (railForceStop s) :=
  .ite (wr_regHolds ha (wr_regHolds ha (.upd h))) (wr_regHolds ha (wr_regHolds ha (wr_regHolds ha (.upd h))))

theorem goDark_regHolds {cause : Nat} (h : RegHolds a w s) : RegHolds a w (goDark cause s) := by
  unfold goDark
  refine .ite (wr_regHolds ha (.upd ?_)) (.upd ?_)
  all_goals
    exact railForceStop_regHolds ha (wr_regHolds ha (.when (wr_regHolds ha (wr_regHolds ha (.upd h)))
      fun _ h => setRung_regHolds ha h))

theorem requireRung_regHolds {req cause : Nat} (h : RegHolds a w s) : RegHolds a w (requireRung req cause s) :=
  .ite (.ite (goDark_regHolds ha h) h) (.ite (.ite (setRung_regHolds ha h) h)
    (.ite (.ite h (.ite (setRung_regHolds ha h) (setRung_regHolds ha h))) h))

theorem traceFire_regHolds {e : Nat} (h : RegHolds a w s) : RegHolds a w (traceFire e s) := by
  have he : eventTouched (LEx_TRACE_STATE e).addr = true := by
    unfold LEx_TRACE_STATE
    split
    · decide
    · decide
  exact .ite (.ite (.upd (wr_regHolds ha h he)) (.upd (wr_regHolds ha h he))) h

theorem traceEvent_regHolds {trig arg : Nat} (h : RegHolds a w s) : RegHolds a w (traceEvent trig arg s) :=
  have one : ∀ (e : Nat) (t : State), RegHolds a w t → RegHolds a w (if (traceOf t e).w2 / 2 ^ 28 = trig ∧
      (trig ≠ 1 ∨ (traceOf t e).w2 / 2 ^ 16 % 256 = arg) then traceFire e t else t) :=
    fun _ _ h => .ite (traceFire_regHolds ha h) h
  one 1 _ (one 0 _ h)

theorem aliveStop_regHolds {src fn : Nat} (h : RegHolds a w s) : RegHolds a w (aliveStop src fn s) :=
  .ite (wr_regHolds ha (.upd (setReg_regHolds ha (wr_regHolds ha (wr_regHolds ha h))))) h

theorem histPush_regHolds {e : HistEntry} (h : RegHolds a w s) : RegHolds a w (histPush e s) := wr_regHolds ha (.upd h)

theorem histRecord_regHolds {e : HistEntry} {drop frozen : Bool} (h : RegHolds a w s) : RegHolds a w (histRecord e drop frozen s) := by
  unfold histRecord
  refine wr_regHolds ha (.ite (wr_regHolds ha h) (.ite (.upd ?_) ?_))
  all_goals exact histPush_regHolds ha (.upd h)

theorem attnFault_regHolds {eff : Nat} (h : RegHolds a w s) : RegHolds a w (attnFault eff s) :=
  .when (.when h fun _ h => setCause_regHolds ha h) fun _ h => setCause_regHolds ha h

omit ha in
theorem srcStat_touched {src : Nat} (h : sourceAssigned src = true) : eventTouched (FCR_SRCn_STAT src) = true := by
  obtain ⟨r, hr, he⟩ := List.any_eq_true.mp h
  have hlt : ∀ r ∈ faultSources, r.1 < 256 := by decide
  have hs : src < 256 := of_decide_eq_true he ▸ hlt r hr
  have hd : FCR_SRCn_STAT src / 0x10000 = 0xF := by
    rw [FCR_SRCn_STAT]
    omega
  rw [eventTouched, hd]
  rfl

theorem handleEvent_regHolds {src sev detail : Nat} {drop : Bool} (h : RegHolds a w s) :
    RegHolds a w (handleEvent src sev detail drop s) := by
  unfold handleEvent
  cases hs : sourceAssigned src with
  | false => exact h
  | true =>
    have hb := srcStat_touched hs
    refine .ite h (attnFault_regHolds ha (histRecord_regHolds ha (.when (.when (requireRung_regHolds ha (wr_regHolds ha
      (wr_regHolds ha (wr_regHolds ha (wr_regHolds ha (wr_regHolds ha (.upd (traceEvent_regHolds ha h)) hb) hb) hb))))
      fun _ h => aliveStop_regHolds ha h) fun _ h => ?_)))
    exact setReg_regHolds ha (setReg_regHolds ha (setReg_regHolds ha (setReg_regHolds ha (wr_regHolds ha (.upd h)))))

/-- An event leaves the registers of the other blocks alone. -/
theorem handleEvent_reg (src sev detail : Nat) (drop : Bool) (s : State) : (handleEvent src sev detail drop s).reg a = s.reg a :=
  handleEvent_regHolds (w := s.reg a) ha rfl

end

/-- A field of such a register reads through an event as before. -/
theorem raise_rd {f : Fld} (src detail : Nat) (s : State) (hf : eventTouched f.addr = false := by decide) :
    (raise src detail s).rd f = s.rd f :=
  congrArg (fun w : Word => bits w f.msb f.lsb) (handleEvent_reg hf src 0 detail false s)

theorem raise_bit {f : Fld} (src detail : Nat) (s : State) (hf : eventTouched f.addr = false := by decide) :
    (raise src detail s).bit f = s.bit f := by
  rw [State.bit, raise_rd src detail s hf, State.bit]

theorem raise_ccx (src detail : Nat) (s : State) : (raise src detail s).ccx = s.ccx := by
  obtain ⟨_, _, _, _, _, hccx, _⟩ := KeptFrom.parts (handleEvent_kept (s₀ := s) (src := src) (sev := 0) (detail := detail) (drop := false) rfl)
  exact hccx

theorem raise_now (src detail : Nat) (s : State) : (raise src detail s).now = s.now := by
  obtain ⟨_, hnow, _⟩ := KeptFrom.parts (handleEvent_kept (s₀ := s) (src := src) (sev := 0) (detail := detail) (drop := false) rfl)
  exact hnow

end

end Sys2Proof.Machine
end

section
/-!
PROOF. The control cores: their beats and losses, and the bits of CCX_CTRL.
-/
namespace Sys2Proof.Machine

/-! ### What an event leaves of the cores -/

theorem coreFld_cases (k : Nat) : coreFld k = CCX_STAT_CCA_STATE ∨ coreFld k = CCX_STAT_CCB_STATE := by
  unfold coreFld
  split
  · exact .inl rfl
  · exact .inr rfl

theorem coreFld_apart (k : Nat) : eventTouched (coreFld k).addr = false := by
  rcases coreFld_cases k with h | h
  · rw [h]
    decide
  · rw [h]
    decide

theorem raise_coreState (src detail : Nat) (s : State) (k : Nat) : coreState (raise src detail s) k = coreState s k :=
  raise_rd src detail s (coreFld_apart k)

theorem raise_activeCore (src detail : Nat) (s : State) : activeCore (raise src detail s) = activeCore s :=
  raise_rd src detail s

theorem takeAct_rd (s : State) (l : List Nat) (f : Fld) : (s.takeAct l).rd f = s.rd f := rfl

/-! ### Beats and losses -/

section
variable {core : Fin 2} {tie : Bool} {s t u : State}

theorem coreBeat_off (h : coreState s core.val = 0) : execCoreBeat core s = s := if_pos h

theorem coreBeat_on (h : coreState s core.val ≠ 0) (ht : t = s.takeAct [CCX_CFG]) : execCoreBeat core s
    = if core.val = 0 then { t with ccx := { t.ccx with beatA := t.now } } else { t with ccx := { t.ccx with beatB := t.now } } := by
  subst ht
  exact if_neg h

theorem coreHb_still (ht : t = s.takeAct [CCX_CFG]) (h : coreState s core.val < 2) : execCoreHbTimeout core tie s = t := by
  subst ht
  exact if_pos h

/-- A running core is lost; `u` is the state after the report. -/
theorem coreHb_lost (ht : t = s.takeAct [CCX_CFG]) (h : 2 ≤ coreState s core.val) (hu : u = raise 0x72 core.val t) :
    execCoreHbTimeout core tie s = if core.val = activeCore s then
        (if tie = true ∧ s.ccx.tookAt = some s.now then u else activeLost tie core.val u)
      else if tie = true ∧ s.ccx.swapAt = some s.now ∧ coreState s core.val = 4 then activeLost tie core.val (unswap core.val u)
      else standbyLost core.val u := by
  subst ht hu
  exact if_neg (Nat.not_lt.mpr h)

/-- What the loss of the active core leads to goes by what stood before its report. -/
theorem activeLost_raised {k : Nat} (ht : t = s.takeAct [CCX_CFG]) (hu : u = raise 0x72 core.val t) :
    activeLost tie k u = if coreState s (1 - k) = 4 then takeover k u
      else if tie = true ∧ s.ccx.lostAt = some s.now ∧ coreState s (1 - k) = 2 then takeover k (backInStandby k u)
      else pairRestart u := by
  subst hu
  rw [activeLost, raise_coreState, raise_ccx, raise_now, ht]
  rfl

section
variable (ht : t = s.takeAct [CCX_CFG]) (h : 2 ≤ coreState s core.val) (hu : u = raise 0x72 core.val t)
include ht h hu

theorem coreHb_taken (ha : core.val = activeCore s) (hti : tie = true) (hn : s.ccx.tookAt = some s.now) :
    execCoreHbTimeout core tie s = u := by
  rw [coreHb_lost ht h hu, if_pos ha, if_pos ⟨hti, hn⟩]

theorem coreHb_activeLost (ha : core.val = activeCore s) (hn : (tie && decide (s.ccx.tookAt = some s.now)) = false) :
    execCoreHbTimeout core tie s = activeLost tie core.val u := by
  rw [coreHb_lost ht h hu, if_pos ha, if_neg]
  rintro ⟨h1, h2⟩
  rw [h1, decide_eq_true h2] at hn
  exact Bool.false_ne_true hn.symm

theorem coreHb_swapped (ha : core.val ≠ activeCore s) (hti : tie = true) (hn : s.ccx.swapAt = some s.now) (h4 : coreState s core.val = 4) :
    execCoreHbTimeout core tie s = activeLost tie core.val (unswap core.val u) := by
  rw [coreHb_lost ht h hu, if_neg ha, if_pos ⟨hti, hn, h4⟩]

theorem coreHb_standbyLost (ha : core.val ≠ activeCore s) (hn : (tie && decide (s.ccx.swapAt = some s.now)) = false) :
    execCoreHbTimeout core tie s = standbyLost core.val u := by
  rw [coreHb_lost ht h hu, if_neg ha, if_neg]
  rintro ⟨h1, h2, _⟩
  rw [h1, decide_eq_true h2] at hn
  exact Bool.false_ne_true hn.symm

end

theorem staleWrite_current {e : BitVec 15} (h : e.toNat = s.rd CCX_STAT_CEPOCH) : execStaleWriteReject core e s = s := if_pos h

theorem staleWrite_demotes {e : BitVec 15} (h : e.toNat ≠ s.rd CCX_STAT_CEPOCH) (h3 : coreState s core.val ≠ 3)
    (ht : t = raise 0x76 core.val (s.bump CCX_COUNT0_STALE_REJECT)) :
    execStaleWriteReject core e s = if core.val = activeCore s then t.wr (coreFld core.val) 2
      else drainWait (dropStandins (t.wr (coreFld core.val) 2)) := by
  have ha : activeCore t = activeCore s := by
    rw [ht, raise_activeCore, activeCore, activeCore, State.bump, State.bumpBy, State.rd_wr_addr _ _ _ _ (by decide)]
  rw [execStaleWriteReject, if_neg h, if_neg h3, ← ht]
  simp only [ha]

theorem coreRestart_apart (h : coreState s core.val ≠ 1) : execCoreRestartDone core s = s := if_pos (.inl h)

theorem coreRestart_goes (h : coreState s core.val = 1) (hb : s.bit PMU_STAT_BOOT_DONE = true) : execCoreRestartDone core s
    = if s.cmd.busyAll then startCkpt { (((bumpCepoch 2 s).wr CCX_STAT_ACTIVE core.val).wr (coreFld core.val) 5) with
          cmd := { ((bumpCepoch 2 s).wr CCX_STAT_ACTIVE core.val).cmd with busyAll := false } }
      else s.wr (coreFld core.val) 2 := by
  refine if_neg ?_
  rintro (h' | h')
  · exact h' h
  · exact Bool.false_ne_true ((congrArg (!·) hb).symm.trans h')

theorem coreRestart_first (h : coreState s core.val = 1) (hb : s.bit PMU_STAT_BOOT_DONE = true) (hall : s.cmd.busyAll = true)
    (hu : u = ((bumpCepoch 2 s).wr CCX_STAT_ACTIVE core.val).wr (coreFld core.val) 5) :
    execCoreRestartDone core s = startCkpt { u with cmd := { u.cmd with busyAll := false } } := by
  have hc : u.cmd = ((bumpCepoch 2 s).wr CCX_STAT_ACTIVE core.val).cmd := by
    rw [hu, State.wr_cmd]
  rw [coreRestart_goes h hb, if_pos hall, hc, hu]

theorem coreRestart_second (h : coreState s core.val = 1) (hb : s.bit PMU_STAT_BOOT_DONE = true) (hall : s.cmd.busyAll = false) :
    execCoreRestartDone core s = s.wr (coreFld core.val) 2 := by
  rw [coreRestart_goes h hb, hall, if_neg Bool.false_ne_true]

theorem recoveryEnd_apart (h1 : s.ccx.recCause ≠ 0x70) (h2 : s.ccx.recCause ≠ 0x72) : execRecoveryEnd s = s :=
  if_neg fun hc => hc.1.elim h1 h2

theorem recoveryEnd_goes (h : s.ccx.recCause = 0x70) (hw : s.ccx.recWait = []) : execRecoveryEnd s = recoveryEnd s := by
  refine if_pos ⟨.inl h, ?_⟩
  rw [hw]
  rfl

/-! ### CCX_CTRL -/

/-- A register's write through its mask writes the field where the mask holds all of it. -/
theorem State.wrWord_inside (s : State) {f : Fld} (hf : f.sound = true) {v : Nat}
    (hm : (regInfo f.addr).map (fun r => BitVec.ofNat 32 r.wmask &&& f.mask) = some f.mask) :
    s.wrWord f.addr (setBits (s.reg f.addr) f.msb f.lsb v) = s.wr f v := by
  have hw : s.maskWord f.addr (setBits (s.reg f.addr) f.msb f.lsb v) = setBits (s.reg f.addr) f.msb f.lsb v := by
    unfold State.maskWord
    cases hi : regInfo f.addr with
    | none =>
      rw [hi] at hm
      cases hm
    | some r =>
      rw [hi] at hm
      have h0 : BitVec.ofNat 32 r.wmask &&& f.mask = f.mask := Option.some.inj hm
      obtain ⟨h1, h2⟩ := of_decide_eq_true hf
      refine BitVec.eq_of_getLsbD_eq fun i hi => ?_
      have hb := congrArg (fun w => w.getLsbD i) h0
      simp only [BitVec.getLsbD_and, getLsbD_mask hf] at hb
      rw [BitVec.getLsbD_or, BitVec.getLsbD_and, BitVec.getLsbD_and, BitVec.getLsbD_not, getLsbD_setBits _ h1 h2]
      by_cases hin : f.lsb ≤ i ∧ i ≤ f.msb
      · rw [decide_eq_true hin, Bool.and_true] at hb
        simp [hin, hb]
      · cases hbit : (BitVec.ofNat 32 r.wmask).getLsbD i with
        | false => simp [hin, hi]
        | true => simp [hin]
  rw [State.wrWord, hw]
  rfl

theorem andThen_ok (g : State → State × Status) : andThen (s, .ok) g = g s := by
  have hw : went (s, Status.ok) = true := rfl
  rw [andThen, if_pos hw]
  refine Prod.ext rfl ?_
  by_cases h : (g s).2 = .ok
  · exact (if_pos h).trans h.symm
  · exact if_neg h

theorem onHit_goes {f : Fld} {x m : Word} {g : State → State × Status} (h : hits f x m = true) : onHit f x m g s = g s := if_pos h

/-- A 1 written to a bit of CCX_CTRL that keeps no value, as the register's own effects see it. -/
def ccxBit (f : Fld) : Bool :=
  ctrlField f && decide (f.addr = CCX_CTRL)
    && decide (((regInfo f.addr).map (fun r => BitVec.ofNat 32 r.wmask &&& f.mask)).getD 0#32 = 0#32)
    && decide (fv (setBits 0#32 f.msb f.lsb 1) f ≠ 0)

section
variable {f : Fld} {r : State × Status} (hf : ccxBit f = true)
include hf

theorem ccxBit_parts : ctrlField f = true ∧ f.addr = CCX_CTRL
    ∧ ((regInfo f.addr).map (fun r => BitVec.ofNat 32 r.wmask &&& f.mask)).getD 0#32 = 0#32
    ∧ fv (setBits 0#32 f.msb f.lsb 1) f ≠ 0 := by
  simpa only [ccxBit, Bool.and_eq_true, decide_eq_true_eq, and_assoc] using hf

theorem ccxBit_hits (u : State) : hits f (setBits (u.reg CCX_CTRL) f.msb f.lsb 1) f.mask = true := by
  obtain ⟨hc, _, _, h1⟩ := ccxBit_parts hf
  exact (hits_setBits (ctrlField_sound hc) _ _ _).trans (decide_eq_true h1)

theorem ccxBit_apart {g : Fld} (hg : g.apart f = true) (u : State) : hits g (setBits (u.reg CCX_CTRL) f.msb f.lsb 1) f.mask = false :=
  hits_apart (ctrlField_sound (ccxBit_parts hf).1) hg _ _

theorem ccxBit_keeps (hs : s.canonical = true) : s.wrWord CCX_CTRL (setBits (s.reg CCX_CTRL) f.msb f.lsb 1) = s := by
  obtain ⟨hc, ha, hm, _⟩ := ccxBit_parts hf
  rw [← ha]
  exact State.wrWord_outside hs (ctrlField_sound hc) hm

theorem ccxBit_row (hr : ccxWrite CCX_CTRL (setBits (s.reg CCX_CTRL) f.msb f.lsb 1) f.mask s = r) (hg : went r = true ∨ r.1 = s) :
    writeField f 1 s = answered r := by
  obtain ⟨hc, ha, _, _⟩ := ccxBit_parts hf
  have hh : regHook f.addr (setBits (s.reg f.addr) f.msb f.lsb 1) f.mask s = r := by
    rw [ha]
    exact (regHook_ccx (by decide)).trans hr
  rw [writeField_hook hc hh, answer_whole hg]

end

theorem ccxCkpt_row (hs : s.canonical = true) : execCcxCkpt s = answered (ccxCkpt s, .ok) := by
  have hf : ccxBit CCX_CTRL_CKPT = true := by decide
  refine ccxBit_row hf ?_ (.inl rfl)
  rw [ccxWrite, if_pos rfl, ccxBit_keeps hf hs, onHit_goes (ccxBit_hits hf s), andThen_apart (onHit_apart (ccxBit_apart hf (by decide) s)),
    andThen_apart (onHit_apart (ccxBit_apart hf (by decide) s)), andThen_apart (onHit_apart (ccxBit_apart hf (by decide) s))]

theorem ccxSwap_cases : went (ccxSwap s) = true ∨ (ccxSwap s).1 = s := by
  rw [ccxSwap]
  split
  · exact .inr rfl
  · exact .inl rfl

theorem ccxRstCore_cases (k : Nat) : went (ccxRstCore k s) = true ∨ (ccxRstCore k s).1 = s := by
  rw [ccxRstCore]
  split
  · exact .inr rfl
  · exact .inl rfl

theorem ccxSwap_row (hs : s.canonical = true) : execCcxSwap s = groupsAfter (answered (ccxSwap s)) := by
  have hf : ccxBit CCX_CTRL_SWAP = true := by decide
  refine congrArg groupsAfter (ccxBit_row hf ?_ ccxSwap_cases)
  rw [ccxWrite, if_pos rfl, ccxBit_keeps hf hs, onHit_apart (ccxBit_apart hf (by decide) s),
    andThen_apart (onHit_apart (ccxBit_apart hf (by decide) s)), andThen_apart (onHit_apart (ccxBit_apart hf (by decide) s)), andThen_ok,
    onHit_goes (ccxBit_hits hf s)]

theorem rstCca_row (hs : s.canonical = true) : writeField CCX_CTRL_RST_CCA 1 s = answered (ccxRstCore 0 s) := by
  have hf : ccxBit CCX_CTRL_RST_CCA = true := by decide
  refine ccxBit_row hf ?_ (ccxRstCore_cases 0)
  rw [ccxWrite, if_pos rfl, ccxBit_keeps hf hs, onHit_apart (ccxBit_apart hf (by decide) s), andThen_ok,
    onHit_goes (ccxBit_hits hf s), andThen_same fun _ => onHit_apart (ccxBit_apart hf (by decide) s),
    andThen_same fun _ => onHit_apart (ccxBit_apart hf (by decide) s)]

theorem rstCcb_row (hs : s.canonical = true) : writeField CCX_CTRL_RST_CCB 1 s = answered (ccxRstCore 1 s) := by
  have hf : ccxBit CCX_CTRL_RST_CCB = true := by decide
  refine ccxBit_row hf ?_ (ccxRstCore_cases 1)
  rw [ccxWrite, if_pos rfl, ccxBit_keeps hf hs, onHit_apart (ccxBit_apart hf (by decide) s),
    andThen_apart (onHit_apart (ccxBit_apart hf (by decide) s)), andThen_ok,
    onHit_goes (ccxBit_hits hf s), andThen_same fun _ => onHit_apart (ccxBit_apart hf (by decide) s)]

theorem ccxRst_row (hs : s.canonical = true) : execCcxRstCore core s = groupsAfter (answered (ccxRstCore core.val s)) := by
  rw [execCcxRstCore]
  match core with
  | 0 => exact congrArg groupsAfter (rstCca_row hs)
  | 1 => exact congrArg groupsAfter (rstCcb_row hs)

theorem ccxRst_active (h : core.val = activeCore s) : ccxRstCore core.val s = (s, .busy) := if_pos h

theorem ccxRst_resets (h : core.val ≠ activeCore s) (h3 : coreState s core.val ≠ 3) (hu : u = s.wr (coreFld core.val) 2) :
    ccxRstCore core.val s = ({ u with ccx := { u.ccx with standins := [], applied := [] } }, .ok) := by
  rw [ccxRstCore, if_neg h, if_neg h3, hu]
  rfl

theorem autoBaste_row : execCcxAutoBaste s = answered (s.wr CCX_CTRL_AUTO_BASTE 1, .ok) := by
  have hf : ctrlField CCX_CTRL_AUTO_BASTE = true := by decide
  refine writeField_goes hf ((regHook_ccx (by decide)).trans ((ccxWrite_apart (hits_apart (by decide) (by decide) _ _)
    (hits_apart (by decide) (by decide) _ _) (hits_apart (by decide) (by decide) _ _) (hits_apart (by decide) (by decide) _ _)).trans ?_))
  exact congrArg (·, Status.ok) (State.wrWord_inside s (f := CCX_CTRL_AUTO_BASTE) (by decide) (by decide))

end

/-- Settles O46: the losses by the core's state and what fell into the same cycle, CCX_CTRL bit by bit. -/
theorem controlCores : Obligations.ControlCores := by
  unfold Obligations.ControlCores
  intro core tie s t hp
  refine ⟨?_, fun h ht => ⟨fun hc => ?_, fun hc => ?_⟩, fun ht => ⟨fun h => ?_, fun u h hu => ⟨?_, ?_, ?_, ?_, ?_, ?_⟩⟩, ?_, ?_, ?_, ?_, ?_,
    ?_, ?_, fun hs => ⟨?_, ?_, ?_, ?_, ?_, ?_⟩⟩
  · exact fun h => exec_runs hp rfl (coreBeat_off h)
  · exact exec_runs hp rfl ((coreBeat_on h ht).trans (if_pos (congrArg Fin.val hc)))
  · exact exec_runs hp rfl ((coreBeat_on h ht).trans (if_neg (by rw [hc]; decide)))
  · exact exec_runs hp rfl (coreHb_still ht h)
  · exact fun ha hti hn => exec_runs hp rfl (coreHb_taken ht h hu ha hti hn)
  · exact fun ha hn h4 => exec_runs hp rfl ((coreHb_activeLost ht h hu ha hn).trans ((activeLost_raised ht hu).trans (if_pos h4)))
  · intro ha hti hn hl h2
    have hna : (tie && decide (s.ccx.tookAt = some s.now)) = false := by
      rw [decide_eq_false hn, Bool.and_false]
    refine exec_runs hp rfl ((coreHb_activeLost ht h hu ha hna).trans ((activeLost_raised ht hu).trans ((if_neg ?_).trans
      (if_pos ⟨hti, hl, h2⟩))))
    rw [h2]
    decide
  · intro ha hna h4 hl
    refine exec_runs hp rfl ((coreHb_activeLost ht h hu ha hna).trans ((activeLost_raised ht hu).trans ((if_neg h4).trans (if_neg ?_))))
    rintro ⟨h1, h2, _⟩
    rw [h1, decide_eq_true h2] at hl
    exact Bool.false_ne_true hl.symm
  · exact fun ha hti hn h4 => exec_runs hp rfl (coreHb_swapped ht h hu ha hti hn h4)
  · exact fun ha hn => exec_runs hp rfl (coreHb_standbyLost ht h hu ha hn)
  · exact fun e h => exec_runs hp rfl (staleWrite_current h)
  · intro e h h3 ht
    exact ⟨fun ha => exec_runs hp rfl ((staleWrite_demotes h h3 ht).trans (if_pos ha)),
      fun ha => exec_runs hp rfl ((staleWrite_demotes h h3 ht).trans (if_neg ha))⟩
  · exact fun h => exec_runs hp rfl (coreRestart_apart h)
  · exact fun u h hb hall hu => exec_runs hp rfl (coreRestart_first h hb hall hu)
  · exact fun h hb hall => exec_runs hp rfl (coreRestart_second h hb hall)
  · exact fun h1 h2 => exec_runs hp rfl (recoveryEnd_apart h1 h2)
  · exact fun h hw => exec_runs hp rfl (recoveryEnd_goes h hw)
  · exact exec_runs hp rfl (ccxCkpt_row hs)
  · intro h
    refine exec_runs hp rfl ((ccxSwap_row hs).trans (congrArg (fun r => groupsAfter (answered r)) (if_pos ?_)))
    rw [h]
    rfl
  · exact fun _ => exec_runs hp rfl (ccxSwap_row hs)
  · exact fun h => exec_runs hp rfl ((ccxRst_row hs).trans (congrArg (fun r => groupsAfter (answered r)) (ccxRst_active h)))
  · exact fun h h3 u hu => exec_runs hp rfl ((ccxRst_row hs).trans (congrArg (fun r => groupsAfter (answered r)) (ccxRst_resets h h3 hu)))
  · exact exec_runs hp rfl autoBaste_row

end Sys2Proof.Machine
end

section
/-!
PROOF. Write groups, checkpoints and basting.
-/
namespace Sys2Proof.Machine

/-! ### Write groups -/

section
variable {core : Fin 2} {e : BitVec 15} {j : Word} {ws : List RegWrite} {r : Option Reply} {s t : State} {g h : Group}

theorem writeGroup_stale (he : e.toNat ≠ s.rd CCX_STAT_CEPOCH) : execWriteGroupApply core e j ws r s = execStaleWriteReject core e s :=
  if_pos he

theorem mustWait_applied (l : List Group) (g : Group) : mustWait g { s with ccx := { s.ccx with applied := l } } = mustWait g s := rfl

theorem meetTwin_none (hn : twinIn g.jseq s.ccx.standins = none) : meetTwin g s
    = if coreState s (1 - activeCore s) = 4 then { s with ccx := { s.ccx with applied := s.ccx.applied ++ [g] } } else s := by
  simp only [meetTwin, hn]

theorem compareGroups_equal : compareGroups g g s
    = { s with ccx := { s.ccx with standins := withoutJ g.jseq s.ccx.standins, applied := withoutJ g.jseq s.ccx.applied } } := if_pos rfl

theorem meetTwin_equal (hn : twinIn g.jseq s.ccx.standins = some g) : meetTwin g s
    = { s with ccx := { s.ccx with standins := withoutJ g.jseq s.ccx.standins, applied := withoutJ g.jseq s.ccx.applied } } := by
  simp only [meetTwin, hn, compareGroups_equal]

section
variable (hg : g = ⟨j.toNat, ws, r⟩) (he : e.toNat = s.rd CCX_STAT_CEPOCH)
include hg he

theorem writeGroup_active (ha : core.val = activeCore s) : execWriteGroupApply core e j ws r s = endActive g s := by
  subst hg
  rw [execWriteGroupApply, if_neg (not_not.mpr he), if_pos ha]

theorem writeGroup_standby (ha : core.val ≠ activeCore s) (h4 : coreState s core.val = 4) :
    execWriteGroupApply core e j ws r s = endStandin g s := by
  subst hg
  rw [execWriteGroupApply, if_neg (not_not.mpr he), if_neg ha, if_pos h4]

omit hg in
theorem writeGroup_discarded (ha : core.val ≠ activeCore s) (h4 : coreState s core.val ≠ 4) :
    execWriteGroupApply core e j ws r s = s := by
  rw [execWriteGroupApply, if_neg (not_not.mpr he), if_neg ha, if_neg h4]

end

theorem endActive_applies (ht : meetTwin g s = t) (hw : mustWait g t = false) : endActive g s = drainWait (applyGroup g t) := by
  rw [endActive, ht, hw]
  exact congrArg drainWait (if_neg Bool.false_ne_true)

theorem endActive_waits (ht : meetTwin g s = t) (hw : mustWait g t = true) :
    endActive g s = drainWait { t with ccx := { t.ccx with grpWait := t.ccx.grpWait ++ [g] } } := by
  rw [endActive, ht, hw]
  exact congrArg drainWait (if_pos rfl)

/-- Keeping a group for its twin changes no other group's turn. -/
theorem mustWait_kept (ht : t = if coreState s (1 - activeCore s) = 4 then { s with ccx := { s.ccx with applied := s.ccx.applied ++ [g] } }
    else s) : mustWait g t = mustWait g s := by
  rw [ht]
  split
  · exact mustWait_applied _ g
  · rfl

theorem endStandin_compares (hn : twinIn g.jseq s.ccx.applied = some h) : endStandin g s = compareGroups h g s := by
  simp only [endStandin, hn]

theorem endStandin_kept (hn : twinIn g.jseq s.ccx.applied = none) :
    endStandin g s = { s with ccx := { s.ccx with standins := s.ccx.standins ++ [g] } } := by
  simp only [endStandin, hn]

end

/-! ### Checkpoints -/

section
variable {s t : State} {body : List Word} {l : List JEntry} {k : CkptSlot} {n : Nat}

theorem checkpointCommit_none (h : s.bit CCX_CKPT_WRITING = false) : execCheckpointCommit body s = s := if_pos (congrArg (!·) h)

/-- The registers of a commit of slot `n`, with its VALID bit `f`. -/
def commitRegs (n : Nat) (f : Fld) (j words : Nat) (t : State) : State :=
  (((((t.wr CCX_CKPT_WRITING 0).wr CCX_CKPT_NEWEST n).wr f 1).setReg CCX_JBASE (BitVec.ofNat 32 j)).wr CCX_JFILL_WORDS words).wr
    DEV_GUARANTEE_CKPT_COMMITTED 1

theorem commitRegs_ccx (n : Nat) (f : Fld) (j words : Nat) (t : State) : (commitRegs n f j words t).ccx = t.ccx := by
  rw [commitRegs, State.wr_ccx, State.wr_ccx, State.setReg_ccx, State.wr_ccx, State.wr_ccx, State.wr_ccx]

theorem checkpointCommit_eq {v w : State} (hw : s.bit CCX_CKPT_WRITING = true) (hn : n = s.rd CCX_CKPT_TARGET)
    (hl : l = entriesAfter s.ccx.writingJ s.ccx.journal)
    (hk : k = writtenSlot s.ccx.writingJ (s.rd CCX_STAT_CEPOCH) ((body.map BitVec.toNat).take 32760))
    (ht : t = { s with ccx := { s.ccx with journal := l, basteHold := false, slot0 := if n = 0 then k else s.ccx.slot0,
                                           slot1 := if n = 0 then s.ccx.slot1 else k } })
    (hv : v = commitRegs n (if n = 0 then CCX_CKPT_VALID0 else CCX_CKPT_VALID1) s.ccx.writingJ (journalWords l) t)
    (hw' : w = if v.ccx.ckClean then v.wr DEV_GUARANTEE_JOURNAL_UNBROKEN 1 else v) :
    execCheckpointCommit body s = if 32768 ≤ w.rd CCX_JFILL_WORDS ∨ (!w.ccx.ckClean) = true then startCkpt w else w := by
  subst hn hl hk ht hv hw'
  refine if_neg ?_
  rw [hw]
  exact Bool.false_ne_true

/-- A commit of a journal that is half empty at most, with every entry since its index. -/
theorem checkpointCommit_goes {f : Fld} (hw : s.bit CCX_CKPT_WRITING = true) (hn : n = s.rd CCX_CKPT_TARGET)
    (hl : l = entriesAfter s.ccx.writingJ s.ccx.journal)
    (hk : k = writtenSlot s.ccx.writingJ (s.rd CCX_STAT_CEPOCH) ((body.map BitVec.toNat).take 32760))
    (ht : t = { s with ccx := { s.ccx with journal := l, basteHold := false, slot0 := if n = 0 then k else s.ccx.slot0,
                                           slot1 := if n = 0 then s.ccx.slot1 else k } })
    (hf : f = if n = 0 then CCX_CKPT_VALID0 else CCX_CKPT_VALID1) (hj : journalWords l < 32768) (hc : s.ccx.ckClean = true) :
    execCheckpointCommit body s
      = (commitRegs n f s.ccx.writingJ (journalWords l) t).wr DEV_GUARANTEE_JOURNAL_UNBROKEN 1 := by
  subst hf
  have hclean : (commitRegs n (if n = 0 then CCX_CKPT_VALID0 else CCX_CKPT_VALID1) s.ccx.writingJ (journalWords l) t).ccx.ckClean = true := by
    rw [commitRegs_ccx, ht]
    exact hc
  have hfill : ((commitRegs n (if n = 0 then CCX_CKPT_VALID0 else CCX_CKPT_VALID1) s.ccx.writingJ (journalWords l) t).wr
      DEV_GUARANTEE_JOURNAL_UNBROKEN 1).rd CCX_JFILL_WORDS = journalWords l := by
    rw [commitRegs, State.rd_wr_addr _ _ _ _ (by decide), State.rd_wr_addr _ _ _ _ (by decide),
      State.rd_wr_same _ _ _ (by decide) (by decide)]
    exact Nat.mod_eq_of_lt (Nat.lt_trans hj (by decide))
  refine (checkpointCommit_eq hw hn hl hk ht rfl (if_pos hclean).symm).trans (if_neg ?_)
  rw [hfill, State.wr_ccx, hclean]
  rintro (h | h)
  · exact absurd hj (Nat.not_lt.mpr h)
  · exact Bool.false_ne_true h

theorem target_cases (s : State) : s.rd CCX_CKPT_TARGET = 0 ∨ s.rd CCX_CKPT_TARGET = 1 := by
  have hlt : s.rd CCX_CKPT_TARGET < 2 := Nat.mod_lt _ (by decide)
  omega

theorem writtenSlot_committed (j e : Nat) (b : List Nat) : slotCommitted (writtenSlot j e b) = true :=
  Bool.and_eq_true_iff.mpr ⟨decide_eq_true ⟨rfl, rfl, rfl⟩, rfl⟩

end

/-! ### Basting -/

section
variable {core : Fin 2} {s t u : State}

theorem basteStart_none (h : newestSlot s = none) : execBasteStart core [] s = s := by
  simp only [execBasteStart, h]

theorem basteStart_loads {m : Nat} (h : newestSlot s = some m) (h2 : coreState s core.val = 2) (ha : s.bit CCX_CTRL_AUTO_BASTE = true)
    (hr : activeRuns s = true) (hh : s.ccx.basteHold = false)
    (ht : t = ((s.wr (coreFld core.val) 3).wr CCX_BASTE_RESULT 1).wr CCX_BASTE_CORE core.val)
    (hu : u = t.wr CCX_BASTE_LEFT
      (min 0xFFFFFF (entriesAfter (if m = 0 then s.ccx.slot0.jck else s.ccx.slot1.jck) t.ccx.journal).length)) :
    execBasteStart core [] s = { u with ccx := { u.ccx with basteSlot := m } } := by
  subst ht hu
  have hc : ¬ (coreState s core.val ≠ 2 ∨ (!s.bit CCX_CTRL_AUTO_BASTE) = true ∨ (!activeRuns s) = true ∨ s.ccx.basteHold = true) := by
    rw [ha, hr, hh]
    rintro (h | h | h | h)
    · exact h h2
    · exact Bool.false_ne_true h
    · exact Bool.false_ne_true h
    · exact Bool.false_ne_true h
  have hue : ueIn [] (slotAddr m) 0x20000 = false := rfl
  simp only [execBasteStart, h, if_neg hc, noteErrs_nil, hue, Bool.false_eq_true, if_false]

theorem basteJoin_joins (h3 : coreState s core.val = 3) (h1 : s.rd CCX_BASTE_RESULT = 1) : execBasteJoin core [] s
    = ((s.wr (coreFld core.val) 4).wr CCX_BASTE_RESULT 2).wr CCX_BASTE_LEFT 0 := by
  have hue : ueIn [] 0x1A90000 0x40000 = false := rfl
  rw [execBasteJoin, if_neg (fun hc => hc.elim (fun h => h h3) fun h => h h1), hue, noteErrs_nil, if_neg Bool.false_ne_true]

theorem basteJoin_apart (h3 : coreState s core.val ≠ 3) : execBasteJoin core [] s = s := if_pos (.inl h3)

end

/-- Settles O47: the groups by the core that ends them and by their twin, the commit by its slot, the baste by the core's state. -/
theorem groupsAndCheckpoints : Obligations.GroupsAndCheckpoints := by
  unfold Obligations.GroupsAndCheckpoints
  refine ⟨fun core e j ws r s t g hp hg => ⟨?_, fun he => ⟨?_, ?_, ?_, ?_, ?_⟩⟩, fun core s t hp => ⟨?_, ?_, ?_, ?_, ?_, ?_, ?_, ?_⟩⟩
  · exact fun he => exec_runs hp rfl (writeGroup_stale he)
  · intro ha hn ht
    have hm : meetTwin g s = t := (meetTwin_none hn).trans ht.symm
    have hk : mustWait g t = mustWait g s := mustWait_kept ht
    exact ⟨fun hw => exec_runs hp rfl ((writeGroup_active hg he ha).trans (endActive_applies hm (hk.trans hw))),
      fun hw => exec_runs hp rfl ((writeGroup_active hg he ha).trans (endActive_waits hm (hk.trans hw)))⟩
  · intro l a ha hn hl haa ht hw
    subst hl haa
    exact exec_runs hp rfl ((writeGroup_active hg he ha).trans (endActive_applies ((meetTwin_equal hn).trans ht.symm) hw))
  · exact fun h ha h4 hn => exec_runs hp rfl ((writeGroup_standby hg he ha h4).trans (endStandin_compares hn))
  · exact fun ha h4 hn => exec_runs hp rfl ((writeGroup_standby hg he ha h4).trans (endStandin_kept hn))
  · exact fun ha h4 => exec_runs hp rfl (writeGroup_discarded he ha h4)
  · exact fun body h => exec_runs hp rfl (checkpointCommit_none h)
  · intro body l k x n f hw hn hl hk h0 h1 ht hj hc
    refine exec_runs hp rfl (checkpointCommit_goes hw hn hl hk (f := f) ?_ ?_ hj hc)
    · rcases target_cases s with h | h
      · rw [ht, (h0 (hn.trans h)).1, hn.trans h]
        rfl
      · rw [ht, (h1 (hn.trans h)).1, hn.trans h]
        rfl
    · rcases target_cases s with h | h
      · rw [(h0 (hn.trans h)).2, if_pos (hn.trans h)]
      · rw [(h1 (hn.trans h)).2, if_neg (by rw [hn, h]; decide)]
  · exact writtenSlot_committed
  · exact fun h => exec_runs hp rfl (basteStart_none h)
  · exact fun m u h h2 ha hr hh ht hu => exec_runs hp rfl (basteStart_loads h h2 ha hr hh ht hu)
  · exact fun h3 h1 => exec_runs hp rfl (basteJoin_joins h3 h1)
  · exact fun h3 => exec_runs hp rfl (basteJoin_apart h3)
  · exact exec_runs hp rfl rfl

end Sys2Proof.Machine
end

section
/-!
PROOF. CRC_RUN and the registers of the check-value units.
-/
namespace Sys2Proof.Machine

/-! ### CRC_RUN -/

section
variable {o : Outst} {c : Cmd} {s t u : State} {n k : Nat}

theorem crcRun_undefined (ho : o.cmd = c) (h : 4 ≤ c.p0 / 4096) : crcRun o t = ans t .badParam := by
  subst ho
  exact if_pos (.inr (.inl h))

/-- The operand names an operation on one of the units that run. -/
theorem crcRun_named (ho : o.cmd = c) {op : Nat} (h4 : op < 4) (hn : n < 3) (hc : c.p0 = 4096 * op + n) :
    o.cmd.p0 / 4096 = op ∧ o.cmd.p0 % 4 = n ∧ ¬ (o.cmd.p0 / 4 % 1024 ≠ 0 ∨ 4 ≤ op ∨ (n = 3 ∧ op ≠ 3)) := by
  rw [ho, hc]
  omega

theorem crcRun_busy (ho : o.cmd = c) (hn : n < 3) (hb : (t.bit (CRC_Un_BIND_EN n) || memRunning t n) = true)
    (hc : c.p0 = n ∨ c.p0 = 4096 + n ∨ c.p0 = 8192 + n) : crcRun o t = ans t .busy := by
  obtain ⟨op, h3, hop⟩ : ∃ op, op < 3 ∧ c.p0 = 4096 * op + n := by
    obtain h | h | h := hc
    · exact ⟨0, by decide, by omega⟩
    · exact ⟨1, by decide, by omega⟩
    · exact ⟨2, by decide, by omega⟩
  obtain ⟨h1, h2, hok⟩ := crcRun_named ho (by omega) hn hop
  simp only [crcRun, h1, h2]
  rw [if_neg hok, if_pos ⟨Nat.ne_of_lt h3, hb⟩]

section
variable (ho : o.cmd = c) (hn : n < 3) (hb : (t.bit (CRC_Un_BIND_EN n) || memRunning t n) = false)
include ho hn

theorem crcRun_read (hc : c.p0 = 12288 + n) : crcRun o t = okW t [unitValue t n, unitResult t n] := by
  obtain ⟨h1, h2, hok⟩ := crcRun_named (op := 3) ho (by decide) hn hc
  simp only [crcRun, h1, h2]
  rw [if_neg hok, if_neg fun h => h.1 rfl]

include hb

theorem crcRun_init (hc : c.p0 = n) : crcRun o t = ok (unitInit n t) := by
  obtain ⟨h1, h2, hok⟩ := crcRun_named (op := 0) ho (by decide) hn (by omega)
  simp only [crcRun, h1, h2, hb]
  rw [if_neg hok, if_neg fun h => Bool.false_ne_true h.2]

theorem crcRun_feed (hc : c.p0 = 4096 + n) (h0 : 1 ≤ c.w 1) (h1 : c.w 1 ≤ 2040)
    (hu : u = unitFeed n ((bytesOfWords ((c.words.drop 1).map BitVec.toNat)).take (c.w 1)) t) :
    crcRun o t = okW u [unitResult u n] := by
  obtain ⟨h2, h3, hok⟩ := crcRun_named (op := 1) ho (by decide) hn (by omega)
  have hk : ¬ (o.cmd.w 1 = 0 ∨ 2040 < o.cmd.w 1) := by rw [ho]; omega
  simp only [crcRun, h2, h3, hb]
  rw [if_neg hok, if_neg fun h => Bool.false_ne_true h.2, if_neg hk, hu, ho]

theorem crcRun_mem (hc : c.p0 = 8192 + n) (h0 : 1 ≤ c.w 2) (h1 : c.w 2 ≤ 16777216) (hr : memRangeOk (c.w 1) (c.w 2) t = true)
    (hs : ¬ (inSurface (c.w 1) = true ∧ smemOff t = true)) :
    crcRun o t = answerLater (holdCmd o (setMemRun n (some o) t)) := by
  obtain ⟨h2, h3, hok⟩ := crcRun_named (op := 2) ho (by decide) hn (by omega)
  have hk : ¬ (o.cmd.w 2 = 0 ∨ 16777216 < o.cmd.w 2) := by rw [ho]; omega
  simp only [crcRun, h2, h3, hb]
  rw [if_neg hok, if_neg fun h => Bool.false_ne_true h.2, if_neg hk, ho, hr, if_neg (by decide), if_neg hs]

end

end

/-! ### The end of a MEM run -/

section
variable {m : Fin 3} {errs mine : List EccErr} {s u v : State} {o : Outst} {a k : Nat}

theorem crcMemRunEnd_idle (h : storeGet none s.integ.memRuns m.val = none) : execCrcMemRunEnd m errs s = s := by
  simp only [execCrcMemRunEnd, h]

variable (h : storeGet none s.integ.memRuns m.val = some o) (ha : a = o.cmd.w 1) (hk : k = o.cmd.w 2)
  (hm : mine = if inSurface a then readErrs errs a k s
    else errs.filter (fun e => inSram e.addr && decide (a / 8 ≤ e.addr / 8 ∧ e.addr < a + k))
      ++ leftBad (fun w => decide (a / 8 ≤ w ∧ w * 8 < a + k)) errs s)
  (hu : u = setMemRun m.val none (fbRegionUe mine (noteErrs mine s)))
include h ha hk hm hu

theorem crcMemRunEnd_fails (he : mine.any (fun e => e.ue) = true) : execCrcMemRunEnd m errs s = finishSt o .internalError u := by
  subst ha hk hu
  simp only [execCrcMemRunEnd, h, ← hm]
  exact if_pos he

theorem crcMemRunEnd_answers (he : mine.any (fun e => e.ue) = false) (hv : v = unitFeed m.val (memBytes s a k) u) :
    execCrcMemRunEnd m errs s = finish o ⟨.ok, [unitResult v m.val], none⟩ { v with freeCtr := v.freeCtr + (k + 7) / 4 } := by
  subst ha hk hu hv
  simp only [execCrcMemRunEnd, h, ← hm]
  rw [if_neg (by rw [he]; exact Bool.false_ne_true)]
  rfl

end

/-! ### Registers of the units -/

section
variable {n k ch : Nat} {s t : State} {v x m : Word}

/-- The unit of a register, and the register's place among the unit's. -/
theorem crcUnit_place (j : Nat) (hk : k < 3) (hj : j < 0x20) : (CRC_Un_CFG 0 ≤ CRC_Un_CFG k + j ∧ CRC_Un_CFG k + j < CRC_Un_CFG 4) ∧
    (CRC_Un_CFG k + j - CRC_Un_CFG 0) / 0x20 = k ∧ (CRC_Un_CFG k + j) % 0x20 = j := by
  unfold CRC_Un_CFG
  omega

theorem crcWrite_cfg (hk : k < 3) (hm : actsOn (CRC_Un_CFG_ALG k) m = true) :
    crcWrite (CRC_Un_CFG k) x m s = crcCfgWrite k (fv x (CRC_Un_CFG_ALG k)) s := by
  obtain ⟨h1, h2, h3⟩ := crcUnit_place 0 hk (by decide)
  rw [Nat.add_zero] at h1 h2 h3
  rw [crcWrite, if_pos h1, if_pos h3, h2, if_pos hm]

theorem crcWrite_bind (hk : k < 3) (hm : m ≠ 0#32) : crcWrite (CRC_Un_BIND k) x m s = crcBindWrite k x.toNat s := by
  obtain ⟨h1, h2, h3⟩ := crcUnit_place 4 hk (by decide)
  rw [show CRC_Un_BIND k = CRC_Un_CFG k + 4 by unfold CRC_Un_BIND CRC_Un_CFG; omega, crcWrite, if_pos h1, if_neg (by omega), if_pos h3,
    h2, if_neg hm]

theorem crcWrite_value (hk : k < 3) : crcWrite (CRC_Un_VALUE k) x m s = crcValueWrite k x.toNat s := by
  obtain ⟨h1, h2, h3⟩ := crcUnit_place 8 hk (by decide)
  rw [show CRC_Un_VALUE k = CRC_Un_CFG k + 8 by unfold CRC_Un_VALUE CRC_Un_CFG; omega, crcWrite, if_pos h1, if_neg (by omega),
    if_neg (by omega), h2]

theorem crcRegs_open : ∀ i : Fin 3, openReg (CRC_Un_CFG i.val) = true ∧ openReg (CRC_Un_VALUE i.val) = true
    ∧ openReg (CRC_Un_BIND i.val) = true ∧ CRC_Un_CFG i.val / 0x10000 = 0x12 ∧ CRC_Un_VALUE i.val / 0x10000 = 0x12
    ∧ CRC_Un_BIND i.val / 0x10000 = 0x12 ∧ actsOn (CRC_Un_CFG_ALG i.val) 0xFFFFFFFF#32 = true := by
  decide

/-- A write of all bits of an open register is its hook, where that answers and writes, or refuses and writes nothing. -/
theorem writeWord_open {a : Nat} {h : State × Status} (ho : openReg a = true) (hh : regHook a v 0xFFFFFFFF#32 s = h)
    (hw : went h = true ∨ h.1 = s) : writeWord a v s = answered h := by
  rw [writeWord, regWrite_open ho (allBits _ _).symm hh, answer_whole hw]

theorem crcCfgWrite_cases {w : Nat} : went (crcCfgWrite k w s) = true ∨ (crcCfgWrite k w s).1 = s := by
  rw [crcCfgWrite]
  split
  · exact .inr rfl
  · split
    · exact .inr rfl
    · exact .inl rfl

theorem crcValueWrite_cases {w : Nat} : went (crcValueWrite k w s) = true ∨ (crcValueWrite k w s).1 = s := by
  rw [crcValueWrite]
  split
  · exact .inr rfl
  · split
    · exact .inr rfl
    · split
      · exact .inr rfl
      · exact .inl rfl

theorem crcBindWrite_cases {w : Nat} : went (crcBindWrite k w s) = true ∨ (crcBindWrite k w s).1 = s := by
  simp only [crcBindWrite]
  split
  · exact .inr rfl
  · split
    · exact .inr rfl
    · split
      · exact .inr rfl
      · exact .inl rfl

theorem crcCfg_row {i : Fin 4} (hk : i.val < 3) : execCrcCfgWrite i v s = answered (crcCfgWrite i.val (fv v (CRC_Un_CFG_ALG i.val)) s) := by
  obtain ⟨ho, -, -, hb, -, -, hm⟩ := crcRegs_open ⟨i.val, hk⟩
  exact writeWord_open ho ((regHook_crc hb).trans (crcWrite_cfg hk hm)) crcCfgWrite_cases

theorem crcValue_row {i : Fin 4} (hk : i.val < 3) : execCrcValueWrite i v s = answered (crcValueWrite i.val v.toNat s) := by
  obtain ⟨-, ho, -, -, hb, -, -⟩ := crcRegs_open ⟨i.val, hk⟩
  exact writeWord_open ho ((regHook_crc hb).trans (crcWrite_value hk)) crcValueWrite_cases

theorem crcBind_row {i : Fin 4} (hk : i.val < 3) : execCrcBindWrite i v s = answered (crcBindWrite i.val v.toNat s) := by
  obtain ⟨-, -, ho, -, -, hb, -⟩ := crcRegs_open ⟨i.val, hk⟩
  exact writeWord_open ho ((regHook_crc hb).trans (crcWrite_bind hk (by decide))) crcBindWrite_cases

theorem crcCfg_busy {w : Nat} (hk : k < 3) (hb : unitBusy s k = true) : crcCfgWrite k w s = (s, .busy) := by
  rw [crcCfgWrite, if_neg (by omega), if_pos hb]

theorem crcValue_busy {w : Nat} (hk : k < 3) (hb : unitBusy s k = true) : crcValueWrite k w s = (s, .busy) := by
  rw [crcValueWrite, if_neg (by omega), if_pos hb]

theorem crcBind_reserved {w : Nat} (hk : k < 3) (hw : w % 256 = 255) : crcBindWrite k w s = (s, .badParam) := by
  simp only [crcBindWrite]
  rw [if_neg (by omega), if_pos (.inl hw)]

section
variable (hk : k < 3) (hb : unitBusy s k = false)
include hk hb

theorem crcCfg_goes {w : Nat} (ht : t = s.wr (CRC_Un_CFG_ALG k) w) : crcCfgWrite k w s = (unitInit k t, .ok) := by
  rw [crcCfgWrite, if_neg (by omega), hb, if_neg Bool.false_ne_true, ht]

theorem crcValue_wide {w : Nat} (hw : 2 ^ algWidth (unitAlg s k) ≤ w) : crcValueWrite k w s = (s, .badParam) := by
  rw [crcValueWrite, if_neg (by omega), hb, if_neg Bool.false_ne_true, if_pos hw]

theorem crcValue_goes (hw : v.toNat < 2 ^ algWidth (unitAlg s k)) : crcValueWrite k v.toNat s = (s.setReg (CRC_Un_VALUE k) v, .ok) := by
  rw [crcValueWrite, if_neg (by omega), hb, if_neg Bool.false_ne_true, if_neg (Nat.not_le.mpr hw), setUnitValue, BitVec.ofNat_toNat,
    BitVec.setWidth_eq]

/-- A bind that names no channel twice in its direction, of channels without an open transfer. -/
theorem crcBind_goes (hch : ch = v.toNat % 256) (h255 : ch ≠ 255) (hq : chanBusy s ch = false)
    (ho : s.bit (CRC_Un_BIND_EN k) = true → chanBusy s (s.rd (CRC_Un_BIND_CHAN k)) = false)
    (hd : 2 ^ 31 ≤ v.toNat → ∀ m < 3, m ≠ k → s.bit (CRC_Un_BIND_EN m) = true → s.rd (CRC_Un_BIND_DIR m) = v.toNat / 2 ^ 30 % 2 →
      s.rd (CRC_Un_BIND_CHAN m) ≠ ch) (ht : t = s.wrWord (CRC_Un_BIND k) v) :
    crcBindWrite k v.toNat s = (if (decide (2 ^ 31 ≤ v.toNat) && !t.bit (CRC_Un_BIND_CHAIN k)) = true then unitInit k t else t, .ok) := by
  have hen : decide (v.toNat / 2 ^ 31 % 2 = 1) = decide (2 ^ 31 ≤ v.toNat) := by
    have := v.isLt
    exact decide_eq_decide.mpr (by omega)
  have htk : (decide (2 ^ 31 ≤ v.toNat) && (List.range 3).any (fun m => decide (m ≠ k) && s.bit (CRC_Un_BIND_EN m)
      && decide (s.rd (CRC_Un_BIND_DIR m) = v.toNat / 2 ^ 30 % 2 ∧ s.rd (CRC_Un_BIND_CHAN m) = v.toNat % 256))) = false := by
    rw [Bool.eq_false_iff]
    intro h
    obtain ⟨he, h⟩ := Bool.and_eq_true_iff.mp h
    obtain ⟨m, hm, h⟩ := List.any_eq_true.mp h
    obtain ⟨h, h2⟩ := Bool.and_eq_true_iff.mp h
    obtain ⟨hmk, hbit⟩ := Bool.and_eq_true_iff.mp h
    obtain ⟨hdir, hchan⟩ := of_decide_eq_true h2
    exact hd (of_decide_eq_true he) m (List.mem_range.mp hm) (of_decide_eq_true hmk) hbit hdir (hchan.trans hch.symm)
  have hold : (s.bit (CRC_Un_BIND_EN k) && chanBusy s (s.rd (CRC_Un_BIND_CHAN k))) = false := by
    cases h : s.bit (CRC_Un_BIND_EN k)
    · rfl
    · exact ho h
  subst hch ht
  simp only [crcBindWrite, hen, htk]
  rw [if_neg (by omega), if_neg (by rw [or_iff_left Bool.false_ne_true]; exact h255), hb, hq, hold, if_neg (by decide),
    BitVec.ofNat_toNat, BitVec.setWidth_eq]

end

end

/-- Settles O48: CRC_RUN by its operation, the end of a run by its errors, the registers of a unit by whether it is busy. -/
theorem checkUnits : Obligations.CheckUnits := by
  unfold Obligations.CheckUnits
  refine ⟨fun c s t n => ⟨?_, fun m errs hp hn => ?_⟩, fun n v s hp k hk h3 => ?_⟩
  · intro h ht h3
    subst ht
    refine ⟨fun hbind hrun => ?_, fun hb hc => ?_, fun hc => ?_, fun hc => ?_⟩
    · have hb : ((admitted .crcRun c s).bit (CRC_Un_BIND_EN n) || memRunning (admitted .crcRun c s) n) = false := by
        rw [hbind, hrun]
        rfl
      refine ⟨fun hc => ?_, fun u k hc hk h1 h2 hu => ?_, fun hc h1 h2 hr hs => ?_⟩
      · exact exec_admits h rfl (crcRun_init (o := issued .crcRun c s) rfl h3 hb hc)
      · subst hk
        exact exec_admits h rfl (crcRun_feed (o := issued .crcRun c s) rfl h3 hb hc h1 h2 hu)
      · exact exec_admits_later h rfl (crcRun_mem (o := issued .crcRun c s) rfl h3 hb hc h1 h2 hr hs)
    · exact exec_admits h rfl (crcRun_busy (o := issued .crcRun c s) rfl h3 (Bool.or_eq_true_iff.mpr hb) hc)
    · exact exec_admits h rfl (crcRun_read (o := issued .crcRun c s) rfl h3 hc)
    · exact exec_admits h rfl (crcRun_undefined (o := issued .crcRun c s) rfl hc)
  · subst hn
    refine ⟨fun h => exec_runs hp rfl (crcMemRunEnd_idle h), fun o a k mine u h ha hk hsurf hsram hu => ?_⟩
    have hm : mine = if inSurface a then readErrs errs a k s
        else errs.filter (fun e => inSram e.addr && decide (a / 8 ≤ e.addr / 8 ∧ e.addr < a + k))
          ++ leftBad (fun w => decide (a / 8 ≤ w ∧ w * 8 < a + k)) errs s := by
      split
      · exact hsurf ‹_›
      · exact hsram (Bool.eq_false_iff.mpr ‹_›)
    exact ⟨fun he => exec_runs hp rfl (crcMemRunEnd_fails h ha hk hm hu he),
      fun v he hv => exec_runs hp rfl (crcMemRunEnd_answers h ha hk hm hu he hv)⟩
  · subst hk
    refine ⟨fun hb => ⟨?_, ?_⟩, fun hb => ⟨?_, ?_, ?_, ?_⟩, fun hv => ?_⟩
    · exact exec_runs hp rfl ((crcCfg_row h3).trans (congrArg answered (crcCfg_busy h3 hb)))
    · exact exec_runs hp rfl ((crcValue_row h3).trans (congrArg answered (crcValue_busy h3 hb)))
    · exact fun t ht => exec_runs hp rfl ((crcCfg_row h3).trans (congrArg answered (crcCfg_goes h3 hb ht)))
    · exact fun hv => exec_runs hp rfl ((crcValue_row h3).trans (congrArg answered (crcValue_goes h3 hb hv)))
    · exact fun hv => exec_runs hp rfl ((crcValue_row h3).trans (congrArg answered (crcValue_wide h3 hb hv)))
    · intro ch hch h255 hq ho hd t ht
      have he := (crcBind_row h3).trans (congrArg answered (crcBind_goes h3 hb hch h255 hq ho hd ht))
      refine ⟨fun hc => exec_runs hp rfl (he.trans ?_), fun hc h31 => exec_runs hp rfl (he.trans ?_)⟩
      · rw [if_neg]
        intro hi
        obtain ⟨h1, h2⟩ := Bool.and_eq_true_iff.mp hi
        rw [Bool.not_eq_true'] at h2
        obtain hc | hc := hc
        · exact Bool.false_ne_true (h2.symm.trans hc)
        · exact Nat.not_le.mpr hc (of_decide_eq_true h1)
      · rw [if_pos (Bool.and_eq_true_iff.mpr ⟨decide_eq_true h31, congrArg (!·) hc⟩)]
        rfl
    · exact exec_runs hp rfl ((crcBind_row h3).trans (congrArg answered (crcBind_reserved h3 hv)))

end Sys2Proof.Machine
end

section
/-!
PROOF. The memory scans.
-/
namespace Sys2Proof.Machine

/-! ### The reads of the scans -/

section
variable {s t : State} {err : Option Bool} {raced : Bool} {i n a : Nat}

theorem sramScan_off (h : s.bit CRC_SCAN_CTRL_SRAM_EN = false) : execSramScanRead err raced s = s := if_pos (congrArg (!·) h)

theorem surfScan_off (h : s.bit CRC_SCAN_CTRL_SURF_EN = false ∨ smemOff s = true) : execSurfScanRead err raced s = s :=
  if_pos (h.elim (fun h => .inl (congrArg (!·) h)) (fun h => .inr (.inl h)))

/-- What a scan does with a word that reads `err`, by the report `f` of an error. -/
def scanned (f : Bool → State → State) (raced : Bool) (err : Option Bool) (t : State) : State :=
  match err with
  | none => t
  | some ue => (f ue t).when (!ue && !raced) (fun u => u.bump CRC_SCAN_COUNT_SCRUBBED)

section
variable (f : Bool → State → State)

theorem scanned_clean (raced : Bool) (t : State) : scanned f raced none t = t := rfl

theorem scanned_ue (raced : Bool) (t : State) : scanned f raced (some true) t = f true t := rfl

theorem scanned_scrubs (t : State) : scanned f false (some false) t = (f false t).bump CRC_SCAN_COUNT_SCRUBBED := rfl

theorem scanned_raced (t : State) : scanned f true (some false) t = f false t := rfl

end

theorem sramScan_on (h : s.bit CRC_SCAN_CTRL_SRAM_EN = true) (hi : i = s.integ.sramPos)
    (hlo : i + 1 < 1572864 → t = { s with integ := { s.integ with sramPos := i + 1 } })
    (hhi : 1572864 ≤ i + 1 → t = { s with integ := { s.integ with sramPos := 0 } }.bump CRC_SCAN_STAT_SRAM_PASSES) :
    execSramScanRead err raced s = scanned (fun ue => sramErr ⟨0x1000000 + 8 * i, ue⟩) raced
      (if storeGet false s.smem.sramBad (0x200000 + i) then some true else err) t := by
  subst hi
  rw [execSramScanRead, h, if_neg (by decide)]
  obtain hl | hl := Nat.lt_or_ge (s.integ.sramPos + 1) 1572864
  · rw [hlo hl]
    simp only [decide_eq_false (Nat.not_le.mpr hl), State.when, if_neg Bool.false_ne_true]
    rfl
  · rw [hhi hl]
    simp only [decide_eq_true hl, State.when, if_true]
    rfl

theorem surfScan_on (h : s.bit CRC_SCAN_CTRL_SURF_EN = true) (hoff : smemOff s = false) (hn : n = s.rd CRC_SCAN_LEN_VALUE * 8)
    (hi : i = s.integ.surfPos) (hin : i < n) (ha : a = s.rd CRC_SCAN_START_VALUE * 64 + 8 * i)
    (hlo : i + 1 < n → t = { s with integ := { s.integ with surfPos := i + 1 } })
    (hhi : i + 1 = n → t = { s with integ := { s.integ with surfPos := 0 } }.bump CRC_SCAN_STAT_SURF_PASSES) :
    execSurfScanRead err raced s = scanned (fun ue => smemErr ⟨a, ue⟩) raced
      (if storeGet false s.smem.bad (a / 8) then some true else err) t := by
  have hgo : ¬ ((!s.bit CRC_SCAN_CTRL_SURF_EN) = true ∨ smemOff s = true ∨ n = 0) := by
    rw [h, hoff]
    simp only [Bool.not_true, Bool.false_eq_true, false_or]
    omega
  have hmod : s.integ.surfPos % n = i := by
    rw [← hi]
    exact Nat.mod_eq_of_lt hin
  rw [execSurfScanRead, ← hn, if_neg hgo, hmod, ha]
  obtain hl | hl := Nat.lt_or_ge (i + 1) n
  · rw [hlo hl]
    simp only [decide_eq_false (Nat.not_le.mpr hl), State.when, if_neg Bool.false_ne_true]
    rfl
  · rw [hhi (by omega)]
    simp only [decide_eq_true hl, State.when, if_true]
    rfl

end

/-! ### Region checks -/

section
variable {s t u : State} {r : Fin 17} {crc : Word}

theorem regionCheck_idle (h : s.bit CRC_SCAN_CTRL_SRAM_EN = false ∨ regionChecked s r.val = false) : execRegionCheckEnd r crc s = s := by
  refine if_pos (Bool.or_eq_true_iff.mpr ?_)
  exact h.imp (congrArg (!·)) (congrArg (!·))

theorem regionCheck_eq (hen : s.bit CRC_SCAN_CTRL_SRAM_EN = true) (hc : regionChecked s r.val = true)
    (ht : t = s.setReg (CRC_Un_VALUE 3) (BitVec.ofNat 32 (crc.toNat ^^^ 0xFFFFFFFF))) :
    execRegionCheckEnd r crc s = if crc.toNat = regionRef s r.val then t else regionMismatch r.val t := by
  subst ht
  rw [execRegionCheckEnd, hen, hc]
  exact if_neg Bool.false_ne_true

theorem regionMismatch_eq {k : Nat}
    (hu : u = raise 0x26 (regionBase k) (((t.bump CRC_SCAN_COUNT_MISMATCH).wr CRC_SCAN_LAST_REGION k).wr CRC_SCAN_LAST_VALID 1)) :
    regionMismatch k t = if k < 8 then needGone 0x26 ((u.clrBit PXA_STAT_PAT_VALID k).setReg (PXA_PATn_CRC k) 0#32)
      else if k < 16 then bufferFails ((k - 8) / 2) (k % 2) u else fbClear 0x26 u := by
  subst hu
  rfl

end

/-! ### The control of the scans -/

section
variable {s t : State} {v : Word}

theorem scanCtrl_row : execCrcScanCtrlWrite v s = answered (crcScanCtrlWrite v.toNat s) := by
  have hh : regHook CRC_SCAN_CTRL v 0xFFFFFFFF#32 s = crcScanCtrlWrite v.toNat s := by
    rw [regHook_crc (by decide), crcWrite, if_neg (by decide), if_pos rfl, if_pos (by decide)]
  refine writeWord_open (by decide) hh ?_
  simp only [crcScanCtrlWrite]
  split
  · exact .inr rfl
  · split
    · exact .inr rfl
    · exact .inl rfl

theorem scanCtrl_untrained (hv : v.toNat / 2 % 2 = 1) (h : s.bit DEV_CONFIG_SMEM_TRAINED = false) :
    crcScanCtrlWrite v.toNat s = (s, .busy) := by
  simp only [crcScanCtrlWrite, decide_eq_true hv, h]
  exact if_pos rfl

theorem scanCtrl_apart (hv : v.toNat / 2 % 2 = 0) :
    crcScanCtrlWrite v.toNat s = ((s.wr CRC_SCAN_CTRL_SURF_EN 0).wr CRC_SCAN_CTRL_SRAM_EN (v.toNat % 2), .ok) := by
  simp only [crcScanCtrlWrite, hv, show decide ((0 : Nat) = 1) = false from rfl, Bool.false_and, if_neg Bool.false_ne_true]
  rfl

section
variable (hv : v.toNat / 2 % 2 = 1) (h : s.bit DEV_CONFIG_SMEM_TRAINED = true)
include hv h

theorem scanCtrl_outside (hr : inUsable s (s.rd CRC_SCAN_START_VALUE * 64) (s.rd CRC_SCAN_LEN_VALUE * 64) = false) :
    crcScanCtrlWrite v.toNat s = (s, .badAddress) := by
  simp only [crcScanCtrlWrite, decide_eq_true hv, h, hr]
  rw [if_neg (by decide), if_pos (by decide)]

theorem scanCtrl_surface (hr : inUsable s (s.rd CRC_SCAN_START_VALUE * 64) (s.rd CRC_SCAN_LEN_VALUE * 64) = true)
    (ht : s.bit CRC_SCAN_CTRL_SURF_EN = true → t = s)
    (ht' : s.bit CRC_SCAN_CTRL_SURF_EN = false → t = { s with integ := { s.integ with surfPos := 0 } }) :
    crcScanCtrlWrite v.toNat s = ((t.wr CRC_SCAN_CTRL_SURF_EN 1).wr CRC_SCAN_CTRL_SRAM_EN (v.toNat % 2), .ok) := by
  simp only [crcScanCtrlWrite, decide_eq_true hv, h, hr]
  rw [if_neg (by decide), if_neg (by decide)]
  cases hb : s.bit CRC_SCAN_CTRL_SURF_EN
  · rw [ht' hb, if_pos (by decide)]
    rfl
  · rw [ht hb, if_neg (by decide)]
    rfl

end

end

/-- Settles O49: the reads of a scan by what the word reads, a region's check by its reference, the control by the surface range. -/
theorem memoryScans : Obligations.MemoryScans := by
  unfold Obligations.MemoryScans
  intro s t err raced hp
  refine ⟨fun h => exec_runs hp rfl (sramScan_off h), fun i hen hi hlo hhi => ⟨fun hbad => ?_, fun hbad => ?_⟩,
    fun h => exec_runs hp rfl (surfScan_off h), fun i n a hen hoff hn hi hin ha hlo hhi => ⟨fun hbad => ?_, fun hbad => ?_⟩,
    fun r crc ht => ⟨fun h => exec_runs hp rfl (regionCheck_idle h), fun hen hc => ?_⟩,
    fun v => ⟨fun hv h => ?_, fun hv h hr => ?_, fun hv h hr ht ht' => ?_, fun hv => ?_⟩⟩
  · refine exec_runs hp rfl ((sramScan_on hen hi hlo hhi).trans ?_)
    rw [hbad]
    exact scanned_ue ..
  · have he : ∀ err raced, execSramScanRead err raced s = scanned (fun ue => sramErr ⟨0x1000000 + 8 * i, ue⟩) raced err t := by
      intro err raced
      rw [sramScan_on hen hi hlo hhi, hbad, if_neg Bool.false_ne_true]
    exact ⟨exec_runs hp rfl ((he none raced).trans (scanned_clean ..)), exec_runs hp rfl ((he (some true) raced).trans (scanned_ue ..)),
      exec_runs hp rfl ((he (some false) false).trans (scanned_scrubs ..)),
      exec_runs hp rfl ((he (some false) true).trans (scanned_raced ..))⟩
  · refine exec_runs hp rfl ((surfScan_on hen hoff hn hi hin ha hlo hhi).trans ?_)
    rw [hbad]
    exact scanned_ue ..
  · have he : ∀ err raced, execSurfScanRead err raced s = scanned (fun ue => smemErr ⟨a, ue⟩) raced err t := by
      intro err raced
      rw [surfScan_on hen hoff hn hi hin ha hlo hhi, hbad, if_neg Bool.false_ne_true]
    exact ⟨exec_runs hp rfl ((he none raced).trans (scanned_clean ..)), exec_runs hp rfl ((he (some true) raced).trans (scanned_ue ..)),
      exec_runs hp rfl ((he (some false) false).trans (scanned_scrubs ..)),
      exec_runs hp rfl ((he (some false) true).trans (scanned_raced ..))⟩
  · refine ⟨fun heq => exec_runs hp rfl ((regionCheck_eq hen hc ht).trans (if_pos heq)), fun u hne hu => ?_⟩
    have he := (regionCheck_eq hen hc ht).trans ((if_neg hne).trans (regionMismatch_eq hu))
    exact ⟨fun h8 => exec_runs hp rfl (he.trans (if_pos h8)),
      fun h8 h16 => exec_runs hp rfl (he.trans ((if_neg (Nat.not_lt.mpr h8)).trans (if_pos h16))),
      fun h16 => exec_runs hp rfl (he.trans ((if_neg (by omega)).trans (if_neg (by omega))))⟩
  · exact exec_runs hp rfl (scanCtrl_row.trans (congrArg answered (scanCtrl_untrained hv h)))
  · exact exec_runs hp rfl (scanCtrl_row.trans (congrArg answered (scanCtrl_outside hv h hr)))
  · exact exec_runs hp rfl (scanCtrl_row.trans (congrArg answered (scanCtrl_surface hv h hr ht ht')))
  · exact exec_runs hp rfl (scanCtrl_row.trans (congrArg answered (scanCtrl_apart hv)))

end Sys2Proof.Machine
end

section
/-!
PROOF. Training, refresh and self-refresh of surface memory.
-/
namespace Sys2Proof.Machine

section
variable {s t u : State}

/-! ### The start of a training -/

theorem smemTrain_busy (h : s.bit SMEM_STAT_TRAINING = true ∨ smemInUse s = true) : smemTrain s = (s, .busy) := if_pos h

section
variable (ht : s.bit SMEM_STAT_TRAINING = false) (hu : smemInUse s = false)
include ht hu

theorem smemTrain_noSize (h0 : s.rd SMEM_CFG_SIZE = 0) : smemTrain s = (s, .badParam) := by
  rw [smemTrain, ht, hu, if_neg (by simp), if_pos h0]

theorem smemTrain_starts (h0 : s.rd SMEM_CFG_SIZE ≠ 0) :
    smemTrain s = ((((((s.wr SMEM_STAT_TRAIN_ERR 0).wr SMEM_STAT_TRAINED 0).wr SMEM_STAT_TRAINING 1).wr
      CRC_SCAN_CTRL_SURF_EN 0).wr DEV_CONFIG_SMEM_TRAINED 0).setReg SMEM_USABLE 0#32, .ok) := by
  rw [smemTrain, ht, hu, if_neg (by simp), if_neg h0]

end

/-- The row of TRAIN: GUARD keeps its value. -/
theorem smemTrain_row (hoff : blockOff s SMEM_CTRL = false) {r : State × Status} (hr : smemTrain s = r)
    (hg : went r = true → r.1.canonical = true ∧ r.1.rd SMEM_CTRL_GUARD = s.rd SMEM_CTRL_GUARD) (hw : went r = true ∨ r.1 = s) :
    execSmemTrain s = answered r := by
  have hclr : cntClr SMEM_CTRL (setBits (s.reg SMEM_CTRL) 0 0 1) SMEM_CTRL_TRAIN.mask s = s := by
    refine (congrArg (fun c => _) rfl).trans (if_neg ?_)
    exact Bool.eq_false_iff.mp (hits_apart (f := SMEM_CTRL_TRAIN) (g := SMEM_CTRL_CNT_CLR) (by decide) (by decide) _ _)
  have hh : regHook SMEM_CTRL (setBits (s.reg SMEM_CTRL) 0 0 1) SMEM_CTRL_TRAIN.mask
      (cntClr SMEM_CTRL (setBits (s.reg SMEM_CTRL) 0 0 1) SMEM_CTRL_TRAIN.mask s) = r := by
    have hhit : hits SMEM_CTRL_TRAIN (setBits (s.reg SMEM_CTRL) 0 0 1) SMEM_CTRL_TRAIN.mask = true :=
      (hits_setBits (f := SMEM_CTRL_TRAIN) (by decide) _ _ _).trans (by decide)
    rw [hclr, regHook_smem (by decide), smemRegWrite, if_pos rfl, hhit, if_pos rfl, hr]
    refine andThen_same fun hgo => ?_
    obtain ⟨hc, hrd⟩ := hg hgo
    have hx : fv (setBits (s.reg SMEM_CTRL) 0 0 1) SMEM_CTRL_GUARD = s.rd SMEM_CTRL_GUARD :=
      fv_setBits_apart (f := SMEM_CTRL_TRAIN) (g := SMEM_CTRL_GUARD) (by decide) rfl (by decide) 1
    rw [hx, ← hrd, State.wr_rd_self hc (by decide)]
  rw [execSmemTrain, writeField_ctrl (by decide) (by decide) (by decide) hoff rfl hh, answer_whole hw]

/-! ### The end of a training -/

section
variable {fail : Fin 8} {rd wr : BitVec 8}

theorem training_idle (h : s.bit SMEM_STAT_TRAINING = false) : execTrainingComplete fail rd wr s = s := if_pos (congrArg (!·) h)

variable (h : s.bit SMEM_STAT_TRAINING = true)
include h

theorem training_succeeds {z : Nat} (hf : fail.val = 0) (ht : t = (s.wr SMEM_STAT_TRAINING 0).wr SMEM_STAT_TRAIN_ERR 0)
    (hz : z = t.rd SMEM_CFG_SIZE)
    (hu : u = (((((t.wr SMEM_STAT_TRAINED 1).wr DEV_CONFIG_SMEM_TRAINED 1).wr DEV_CONFIG_SMEM_SIZE z).wr SMEM_EYE_RD_EYE rd.toNat).wr
      SMEM_EYE_WR_EYE wr.toNat).wr SMEM_STAT_SR 0) :
    execTrainingComplete fail rd wr s
      = { u with smem := { u.smem with rate := smemRates.getD (u.rd SMEM_CFG_RATE) 0 } }.setReg
          SMEM_USABLE (BitVec.ofNat 32 (0x3800000 * 2 ^ z)) := by
  subst ht hz hu
  rw [execTrainingComplete, h, if_neg (by decide), hf, if_pos rfl]

theorem training_fails (hf : fail.val ≠ 0) (ht : t = (s.wr SMEM_STAT_TRAINING 0).wr SMEM_STAT_TRAIN_ERR fail.val) :
    execTrainingComplete fail rd wr s
      = (((t.wr SMEM_STAT_TRAINED 0).wr DEV_CONFIG_SMEM_TRAINED 0).wr DEV_CONFIG_SMEM_SIZE 0).wr SMEM_STAT_SR 1 := by
  subst ht
  rw [execTrainingComplete, h, if_neg (by decide), if_neg hf]

end

/-! ### Refresh -/

section
variable {code : BitVec 3} {drift : Nat}

theorem mr4Read_off (h : smemOff s = true ∨ s.bit SMEM_STAT_SR = true) : execMr4Read code s = s := if_pos h

theorem dqsOsc_off (h : smemOff s = true ∨ s.bit SMEM_STAT_SR = true) : execDqsOscRead drift s = s :=
  if_pos (h.imp_right .inl)

theorem dqsOsc_near (h : drift ≤ 32) : execDqsOscRead drift s = s := if_pos (.inr (.inr h))

section
variable (hoff : smemOff s = false) (hsr : s.bit SMEM_STAT_SR = false)
include hoff hsr

theorem mr4Read_on {b : Bool} (hb : decide (code.toNat = 0 ∨ code.toNat = 7) = b)
    (ht : t = (s.wr SMEM_STAT_MR4_RATE code.toNat).wr SMEM_STAT_MR4_LIMIT (boolNat b)) :
    execMr4Read code s = { t with smem := { t.smem with refresh := mr4Interval code.toNat } } := by
  subst hb ht
  rw [execMr4Read, hoff, hsr, if_neg (by simp)]

theorem dqsOsc_far (h : 32 < drift) : execDqsOscRead drift s = { s with smem := { s.smem with recentred := s.smem.recentred + 1 } } := by
  refine if_neg ?_
  rw [hoff, hsr]
  simpa using h

end

theorem selfRefreshExit_goes (hoff : smemOff s = false) (h : s.bit SMEM_STAT_TRAINED = true) :
    execSelfRefreshExit s = s.wr SMEM_STAT_SR 0 := by
  rw [execSelfRefreshExit, hoff, h, if_neg (by simp)]

theorem selfRefreshExit_stays (h : smemOff s = true ∨ s.bit SMEM_STAT_TRAINED = false) : execSelfRefreshExit s = s :=
  if_pos (h.imp_right (congrArg (!·)))

end

end

/-- Settles O50: the start of a training by its refusals, its end by the failing step, refresh by the clock and SR. -/
theorem memoryTraining : Obligations.MemoryTraining := by
  unfold Obligations.MemoryTraining
  intro s t hp
  refine ⟨fun hs hu ht h0 hoff => ?_, fun hoff h => ?_, fun hoff ht hu h0 => ?_,
    fun fail rd wr => ⟨fun h => exec_runs hp rfl (training_idle h), fun z u h hf ht hz hu => ?_, fun h hf ht => ?_⟩,
    fun code hoff hsr => ⟨fun hc ht => ?_, fun h1 h6 ht => ?_⟩, fun code drift h => ⟨?_, ?_⟩,
    fun drift hoff hsr => ⟨fun h => ?_, fun h => ?_⟩, fun hoff h => ?_, fun h => ?_⟩
  · refine exec_runs hp rfl (smemTrain_row hoff (smemTrain_starts ht hu h0) (fun _ => ⟨?_, ?_⟩) (.inl rfl))
    · exact (State.setReg_keeps (Keeps.refl false _)).canonical
        (wr_canonical (wr_canonical (wr_canonical (wr_canonical (wr_canonical hs _ _) _ _) _ _) _ _) _ _)
    · rw [State.rd, State.reg_setReg, if_neg (by decide), ← State.rd]
      iterate 5 rw [State.rd_wr_addr _ _ _ _ (by decide)]
  · exact exec_runs hp rfl (smemTrain_row hoff (smemTrain_busy h) (fun hw => absurd hw Bool.false_ne_true) (.inr rfl))
  · exact exec_runs hp rfl (smemTrain_row hoff (smemTrain_noSize ht hu h0) (fun hw => absurd hw Bool.false_ne_true) (.inr rfl))
  · exact exec_runs hp rfl (training_succeeds h hf ht hz hu)
  · exact exec_runs hp rfl (training_fails h hf ht)
  · refine exec_runs hp rfl ((mr4Read_on hoff hsr (decide_eq_true hc) ht).trans ?_)
    obtain hc | hc := hc
    · rw [hc]
      rfl
    · rw [hc]
      rfl
  · exact exec_runs hp rfl (mr4Read_on hoff hsr (decide_eq_false (by omega)) ht)
  · exact exec_runs hp rfl (mr4Read_off h)
  · exact exec_runs hp rfl (dqsOsc_off h)
  · exact exec_runs hp rfl (dqsOsc_near h)
  · exact exec_runs hp rfl (dqsOsc_far hoff hsr h)
  · exact exec_runs hp rfl (selfRefreshExit_goes hoff h)
  · exact exec_runs hp rfl (selfRefreshExit_stays h)

end Sys2Proof.Machine
end

section
/-!
PROOF. Calibration: runs, records and measurements.
-/
namespace Sys2Proof.Machine

/-! ### The run as a unit -/

section
variable {s t : State} {k result : Nat} {w : Option Outst}

theorem calRuns_iff : calRuns s k = true ↔ calUnit s k = 1 ∨ calUnit s k = 2 := decide_eq_true_iff

theorem calEnable_starts (h : calUnit s k = 0) : calEnable k none s = (calStart k none s, some .ok) := by
  simp only [calEnable, h]

theorem calEnable_waits {o : Outst} (h : calUnit s k = 0) : calEnable k (some o) s = (holdCmd o (calStart k (some o) s), none) := by
  simp only [calEnable, h]

theorem calEnable_pends (h : calUnit s k = 3) : calEnable k w s = (s.wr (calPendFld k) 1, some .acceptedPending) := by
  simp only [calEnable, h]

theorem calEnable_runs (h : calRuns s k = true) : calEnable k w s = (s, some .ok) := by
  obtain h | h := calRuns_iff.mp h
  · simp only [calEnable, h]
  · simp only [calEnable, h]

theorem calDisable_off (h : calUnit s k = 0) : calDisable k s = s := by
  simp only [calDisable, h]

theorem calDisable_pends (h : calUnit s k = 3) : calDisable k s = s.wr (calPendFld k) 0 := by
  simp only [calDisable, h]

theorem calDisable_runs (h : calRuns s k = true) : calDisable k s = (s.wr (CAL_Tt_STAT_RESULT k) 6).wr (calUnitFld k) 3 := by
  obtain h | h := calRuns_iff.mp h
  · simp only [calDisable, h, calStop]
  · simp only [calDisable, h, calStop]

theorem calRunOf_setCalRun (r : CalRun) : calRunOf (setCalRun k r s) k = r :=
  (storeGet_storeSet ..).trans (if_pos rfl)

end

/-! ### CAL_RUN -/

section
variable {o : Outst} {c : Cmd} {t : State} {k : Nat}

theorem calRun_refused (ho : o.cmd = c) (hk : k < 7) (hc : c.p0 = 7 ∨ c.p0 = 0xC000 + k) : calRun o t = ans t .badParam := by
  subst ho
  refine if_pos ?_
  obtain hc | hc := hc
  · exact .inl (by rw [hc])
  · refine .inr (.inr ?_)
    rw [hc, decide_eq_true (by omega), decide_eq_true (by omega)]
    rfl

theorem calRun_formed (hk : k < 7) {b : Bool} (hb : b = false) : ¬ (k = 7 ∨ 0 ≠ 0 ∨ b = true) := by
  rintro (h | h | h)
  · exact Nat.ne_of_lt hk h
  · exact h rfl
  · exact Bool.false_ne_true (hb.symm.trans h)

variable (ho : o.cmd = c) (hk : k < 7)
include ho hk

/-- An ENABLE, with the command where it waits for the run's end. -/
theorem calRun_enables {b : Bool} (hc : c.p0 = (if b then 0x4000 + k else k)) :
    calRun o t = ((calEnable k (if b then some o else none) t).1,
      (calEnable k (if b then some o else none) t).2.map (fun st => ⟨st, [], none⟩)) := by
  subst ho
  have hm : o.cmd.p0 % 8 = k ∧ o.cmd.p0 / 8 % 2048 = 0 ∧ o.cmd.p0 / 2 ^ 15 ≠ 1 ∧ (o.cmd.p0 / 2 ^ 14 % 2 = 1 ↔ b = true) := by
    rw [hc]
    cases b
    · simp only [Bool.false_eq_true, if_false, iff_false]
      omega
    · simp only [if_true, iff_true]
      omega
  obtain ⟨h8, hz, hs, hw⟩ := hm
  have hw : decide (o.cmd.p0 / 2 ^ 14 % 2 = 1) = b := by
    rw [Bool.eq_iff_iff, decide_eq_true_iff]
    exact hw
  simp only [calRun, h8, hz, hw, decide_eq_false hs]
  rw [if_neg (calRun_formed hk (Bool.false_and b))]
  rfl

theorem calRun_starts (hc : c.p0 = k) (h : calUnit t k = 0) : calRun o t = (calStart k none t, some ⟨.ok, [], none⟩) := by
  rw [calRun_enables ho hk (b := false) hc, if_neg Bool.false_ne_true, calEnable_starts h]
  rfl

theorem calRun_waits (hc : c.p0 = 0x4000 + k) (h : calUnit t k = 0) : calRun o t = answerLater (holdCmd o (calStart k (some o) t)) := by
  rw [calRun_enables ho hk (b := true) hc, if_pos rfl, calEnable_waits h]
  rfl

/-- An ENABLE of a run that is not OFF, in either form. -/
theorem calRun_enabled (hc : c.p0 = k ∨ c.p0 = 0x4000 + k) {u : State} {st : Status} (h : ∀ w, calEnable k w t = (u, some st)) :
    calRun o t = (u, some ⟨st, [], none⟩) := by
  obtain hc | hc := hc
  · rw [calRun_enables ho hk (b := false) hc, h]
    rfl
  · rw [calRun_enables ho hk (b := true) hc, h]
    rfl

theorem calRun_disables (hc : c.p0 = 0x8000 + k) : calRun o t = ok (calDisable k t) := by
  subst ho
  have h8 : o.cmd.p0 % 8 = k := by omega
  have hz : o.cmd.p0 / 8 % 2048 = 0 := by omega
  have hs : o.cmd.p0 / 2 ^ 15 = 1 := by omega
  have hw : o.cmd.p0 / 2 ^ 14 % 2 ≠ 1 := by omega
  simp only [calRun, h8, hz, decide_eq_true hs, decide_eq_false hw]
  rw [if_neg (calRun_formed hk (Bool.and_false true)), if_pos trivial]

end

/-! ### The ends of a run -/

section
variable {f : Fin 7} {s t u v w x : State} {k : Nat}

theorem calTimeout_idle (h : calRuns s f.val = false) : execCalRunTimeout f s = s :=
  if_neg (by rw [h]; exact Bool.false_ne_true)

theorem calTimeout_stops (h : calRuns s f.val = true) :
    execCalRunTimeout f s = (s.wr (CAL_Tt_STAT_RESULT f.val) 5).wr (calUnitFld f.val) 3 := if_pos h

theorem calRunOff_idle (h : calUnit s f.val ≠ 3 ∨ calWaits s f.val = true) : execCalRunOff f s = s := by
  refine if_neg ?_
  rintro ⟨h3, hw⟩
  rw [Bool.not_eq_true'] at hw
  exact h.elim (absurd h3) (fun h => Bool.false_ne_true (hw.symm.trans h))

theorem calRunOff_goes (h3 : calUnit s f.val = 3) (hw : calWaits s f.val = false) : execCalRunOff f s = calOff f.val s :=
  if_pos ⟨h3, congrArg (!·) hw⟩

section
variable {r : CalRun} (hr : r = calRunOf s k) (h0 : r.disag + r.range = 0 → u = s.bump CAL_COUNT_RUNS)
  (h1 : r.disag + r.range ≠ 0 → u = raise 0x66 k ((s.bump CAL_COUNT_RUNS).bump CAL_COUNT_DISAGREE)) (ha0 : r.applied = 0 → v = u)
  (ha1 : r.applied ≠ 0 → v = (u.wr (CAL_Tt_STAT_T_REF k) (ofSigned 16 r.temp)).wr (CAL_Tt_STAT_VALID k) 1)
  (hw : w = setCalRun k calRunIdle (v.wr (calUnitFld k) 0))
include hr h0 h1 ha0 ha1 hw

/-- The state that a run leaves before it answers. -/
theorem calOff_state :
    setCalRun k calRunIdle ((((s.bump CAL_COUNT_RUNS).when (decide ((calRunOf s k).disag + (calRunOf s k).range ≠ 0))
        (fun v => raise 0x66 k (v.bump CAL_COUNT_DISAGREE))).when (decide ((calRunOf s k).applied ≠ 0))
        (fun v => (v.wr (CAL_Tt_STAT_T_REF k) (ofSigned 16 (calRunOf s k).temp)).wr (CAL_Tt_STAT_VALID k) 1)).wr (calUnitFld k) 0) = w := by
  rw [hw, ← hr]
  have hu : (s.bump CAL_COUNT_RUNS).when (decide (r.disag + r.range ≠ 0)) (fun v => raise 0x66 k (v.bump CAL_COUNT_DISAGREE)) = u := by
    by_cases h : r.disag + r.range = 0
    · rw [h0 h, State.when, decide_eq_false (not_not_intro h), if_neg Bool.false_ne_true]
    · rw [h1 h, State.when, decide_eq_true h, if_pos rfl]
  rw [hu]
  by_cases h : r.applied = 0
  · rw [ha0 h, State.when, decide_eq_false (not_not_intro h), if_neg Bool.false_ne_true]
  · rw [ha1 h, State.when, decide_eq_true h, if_pos rfl]

theorem calOff_quiet (hn : r.wait = none) :
    calOff k s = if w.bit (calPendFld k) then calStart k none (w.wr (calPendFld k) 0) else w := by
  have hn : (calRunOf s k).wait = none := by rw [← hr, hn]
  simp only [calOff, calOff_state hr h0 h1 ha0 ha1 hw, hn]

theorem calOff_answers {o : Outst} (ho : r.wait = some o) (hx0 : r.disag + r.range = 0 → x = finish o ⟨.ok, [], none⟩ w)
    (hx1 : r.disag + r.range ≠ 0 → x = finish o ⟨.calDisagree, [(w.reg (CAL_Tt_STAT k)).toNat], none⟩ w) :
    calOff k s = if x.bit (calPendFld k) then calStart k none (x.wr (calPendFld k) 0) else x := by
  have ho : (calRunOf s k).wait = some o := by rw [← hr, ho]
  have hx : finish o (if decide ((calRunOf s k).disag + (calRunOf s k).range ≠ 0) = true
      then ⟨.calDisagree, [(w.reg (CAL_Tt_STAT k)).toNat], none⟩ else ⟨.ok, [], none⟩) w = x := by
    rw [← hr]
    by_cases h : r.disag + r.range = 0
    · rw [hx0 h, decide_eq_false (not_not_intro h), if_neg Bool.false_ne_true]
    · rw [hx1 h, decide_eq_true h, if_pos rfl]
  simp only [calOff, calOff_state hr h0 h1 ha0 ha1 hw, ho, hx]

end

end

/-! ### Records -/

section
variable {o : Outst} {c : Cmd} {t u : State} {ws : List Nat}

theorem calRead_record (ho : o.cmd = c) (h : c.p0 < 7)
    (hw : ws = [0x01000000 + c.p0 * 65536 + (calEntries t c.p0).length, t.rd (CAL_Tt_STAT_T_REF c.p0)] ++ packHalves (calEntries t c.p0)) :
    calRead o t = okW t (ws ++ [crc32 (bytesOfWords ws)]) := by
  subst ho hw
  exact if_neg (Nat.not_le.mpr h)

theorem calRead_unknown (ho : o.cmd = c) (h : 7 ≤ c.p0) : calRead o t = ans t .badParam := by
  subst ho
  exact if_pos h

theorem calWrite_unknown (ho : o.cmd = c) (h : 7 ≤ c.p0) : calWrite o t = ans t .badParam := by
  subst ho
  exact if_pos h

section
variable (ho : o.cmd = c) (h : c.p0 < 7)
include ho h

theorem calWrite_busy (hu : calUnit t c.p0 ≠ 0) : calWrite o t = ans t .busy := by
  subst ho
  exact (if_neg (Nat.not_le.mpr h)).trans (if_pos hu)

variable (hu : calUnit t c.p0 = 0) (hw : ws = c.words.map BitVec.toNat)
include hu hw

theorem calWrite_badLength (hl : ws.length ≠ 3 + ws.getD 0 0 % 4096 / 2) : calWrite o t = ans t .badLength := by
  subst ho hw
  exact (if_neg (Nat.not_le.mpr h)).trans ((if_neg (not_not_intro hu)).trans (if_pos hl))

variable (hl : ws.length = 3 + ws.getD 0 0 % 4096 / 2)
include hl

theorem calWrite_eq : calWrite o t = if (!calRecordOk c.p0 ws) = true then ans t .badParam
    else ok ((((calTake c.p0 (unpackHalves ((ws.drop 2).take (ws.length - 3))) t).wr (CAL_Tt_STAT_T_REF c.p0) (ws.getD 1 0)).wr
      (CAL_Tt_STAT_VALID c.p0) 1).wr (CAL_Tt_STAT_RESULT c.p0) 7) := by
  subst ho hw
  exact (if_neg (Nat.not_le.mpr h)).trans ((if_neg (not_not_intro hu)).trans (if_neg (not_not_intro hl)))

theorem calWrite_unsound (hr : calRecordOk c.p0 ws = false) : calWrite o t = ans t .badParam :=
  (calWrite_eq ho h hu hw hl).trans (if_pos (congrArg (!·) hr))

theorem calWrite_takes (hr : calRecordOk c.p0 ws = true)
    (ht : u = calTake c.p0 (unpackHalves ((ws.drop 2).take (ws.length - 3))) t) :
    calWrite o t = ok (((u.wr (CAL_Tt_STAT_T_REF c.p0) (ws.getD 1 0)).wr (CAL_Tt_STAT_VALID c.p0) 1).wr (CAL_Tt_STAT_RESULT c.p0) 7) := by
  rw [calWrite_eq ho h hu hw hl, hr, if_neg (by decide), ht]

end

end

/-! ### The measurements of the lanes -/

section
variable {p : Port} {m0 m1 : SliceMeas} {s u : State} {k : Nat}

theorem laneMeasure_idle (hk : k = 4 + p.num) (h : calRuns s k = false) : execCalLaneMeasure p m0 m1 s = s := by
  subst hk
  exact if_pos (congrArg (!·) h)

/-- The lane at the run's position: skipped where its port is not in L0; after the second one the run is done. -/
theorem laneMeasure_runs (hk : k = 4 + p.num) (h : calRuns s k = true) {i : Nat} (hi : (calRunOf s k).pos = i)
    (hu : u = if s.rd (HLx_STAT_LINK p.num) = 5 then laneStep p.num (2 * p.num + i) m0 m1 s
      else setCalRun k { calRunOf s k with pos := i + 1 } s) :
    execCalLaneMeasure p m0 m1 s = if 2 ≤ i + 1 then calDone k u else u := by
  subst hk hi hu
  simp only [execCalLaneMeasure]
  rw [if_neg (by rw [h]; decide)]

end

/-! ### The measurements of the converters -/

section
variable {s t u : State} {i : Nat}

theorem converterSet_idle {m : ConvMeas} (h : calRuns s 6 = false) : execCalConverterSet m s = s := if_pos (congrArg (!·) h)

/-- The end of a converter's measurement: the run is done when no step can follow. -/
def converterEnd (u : State) : State := if 5 ≤ convNext u (calRunOf u 6).pos then calDone 6 u else u

section
variable (h : calRuns s 6 = true) (hi : i = convNext s (calRunOf s 6).pos)
include h hi

theorem converterSet_trim {s0 t0 r0 r1 : Nat} :
    execCalConverterSet (.trim s0 t0 r0 r1) s = converterEnd (if i < 4
      then convStep i s0 t0 r0 r1 (setCalRun 6 { calRunOf s 6 with pos := i } s) else setCalRun 6 { calRunOf s 6 with pos := i } s) := by
  subst hi
  simp only [execCalConverterSet]
  rw [if_neg (by rw [h]; decide)]
  rfl

theorem converterSet_skew {a b : Int} :
    execCalConverterSet (.skew a b) s = converterEnd (if i = 4
      then skewStep a b (setCalRun 6 { calRunOf s 6 with pos := i } s) else setCalRun 6 { calRunOf s 6 with pos := i } s) := by
  subst hi
  simp only [execCalConverterSet]
  rw [if_neg (by rw [h]; decide)]
  rfl

end

theorem converterEnd_goesOn (h : convNext u (calRunOf u 6).pos < 5) : converterEnd u = u := if_neg (Nat.not_le.mpr h)

theorem converterEnd_done (h : 5 ≤ convNext u (calRunOf u 6).pos) : converterEnd u = calDone 6 u := if_pos h

/-- No step follows the last one. -/
theorem convNext_end {n : Nat} (h : 5 ≤ n) : convNext u n = 5 := by
  have hn : (List.range 5).find? (fun j => decide (n ≤ j) && convCan u j) = none := by
    refine List.find?_eq_none.mpr fun j hj => ?_
    have hj : j < 5 := List.mem_range.mp hj
    rw [decide_eq_false (by omega)]
    exact Bool.false_ne_true
  rw [convNext, hn]
  rfl

/-- The step that is next can run, so it is its own next one. -/
theorem convNext_self {n : Nat} (hi : i = convNext s n) (h5 : i < 5) : convNext s i = i := by
  cases hf : (List.range 5).find? (fun j => decide (n ≤ j) && convCan s j) with
  | none =>
    rw [convNext, hf] at hi
    exact absurd h5 (by rw [hi]; decide)
  | some j =>
    rw [convNext, hf] at hi
    change i = j at hi
    subst hi
    have hc : convCan s i = true := (Bool.and_eq_true_iff.mp (List.find?_some (p := fun j => decide (n ≤ j) && convCan s j) hf)).2
    have hs : (List.range 5).find? (fun j => decide (i ≤ j) && convCan s j) = some i := by
      refine List.find?_range_eq_some.mpr ⟨?_, List.mem_range.mpr h5, fun j hj => ?_⟩
      · rw [hc, decide_eq_true (Nat.le_refl i)]
        rfl
      · rw [decide_eq_false (Nat.not_le.mpr hj)]
        rfl
    rw [convNext, hs]
    rfl

theorem convNext_setCalRun (r : CalRun) (n : Nat) : convNext (setCalRun 6 r s) n = convNext s n := rfl

section
variable (hi : i = convNext s (calRunOf s 6).pos) (hu : u = setCalRun 6 { calRunOf s 6 with pos := i } s)
include hi hu

/-- A measurement of another kind than the next step's takes no step. -/
theorem converterEnd_skipped (h5 : i < 5) : converterEnd u = u := by
  refine converterEnd_goesOn ?_
  rw [hu, calRunOf_setCalRun, convNext_setCalRun, convNext_self hi h5]
  exact h5

omit hi in
theorem converterEnd_last (h5 : 5 ≤ i) : converterEnd u = calDone 6 u := by
  refine converterEnd_done ?_
  rw [hu, calRunOf_setCalRun, convNext_end h5]

end

/-- After the skew's step no other is left. -/
theorem skewStep_pos {a b : Int} (s : State) : (calRunOf (skewStep a b s) 6).pos = (calRunOf s 6).pos + 1 := by
  have hw : ∀ (kind : Nat) (t : State), (calRunOf (calStep 6 kind t) 6).pos = (calRunOf t 6).pos + 1 := by
    intro kind t
    rw [calStep, State.when]
    split
    · exact congrArg CalRun.pos (calRunOf_setCalRun _)
    · exact congrArg CalRun.pos (calRunOf_setCalRun _)
  simp only [skewStep]
  split
  · exact hw 1 s
  · split
    · exact hw 2 s
    · exact hw 0 _

end

/-- Settles O51: a run by its state, its end by what its steps were, records by their form, measurements by the next step. -/
theorem calibration : Obligations.Calibration := by
  unfold Obligations.Calibration
  refine ⟨fun c s t k hk => ⟨fun h ht => ?_, fun u hu => ?_, fun f hp hf => ?_⟩,
    fun c s t => ⟨fun ws h ht hc hw => ?_, fun h hc => ?_, fun ws u h ht hw => ?_, fun hp p m0 m1 k hk => ?_, fun hp => ?_⟩⟩
  · subst ht
    refine ⟨fun hc hu => ?_, fun hc hu => ?_, fun hc hu => ?_, fun hc hu => ?_, fun hc hu => ?_, fun hc hu => ?_, fun hc hu => ?_,
      fun hc => ?_⟩
    · exact exec_admits h rfl (calRun_starts (o := issued .calRun c s) rfl hk hc hu)
    · exact exec_admits_later h rfl (calRun_waits (o := issued .calRun c s) rfl hk hc hu)
    · exact exec_admits h rfl (calRun_enabled (o := issued .calRun c s) rfl hk hc fun _ => calEnable_pends hu)
    · exact exec_admits h rfl (calRun_enabled (o := issued .calRun c s) rfl hk hc fun _ => calEnable_runs hu)
    · exact exec_admits h rfl ((calRun_disables (o := issued .calRun c s) rfl hk hc).trans (congrArg ok (calDisable_runs hu)))
    · exact exec_admits h rfl ((calRun_disables (o := issued .calRun c s) rfl hk hc).trans (congrArg ok (calDisable_pends hu)))
    · exact exec_admits h rfl ((calRun_disables (o := issued .calRun c s) rfl hk hc).trans (congrArg ok (calDisable_off hu)))
    · exact exec_admits h rfl (calRun_refused (o := issued .calRun c s) rfl hk hc)
  · subst hu
    rfl
  · subst hf
    refine ⟨fun h => exec_runs hp rfl (calTimeout_stops h), fun h => exec_runs hp rfl (calTimeout_idle h),
      fun h => exec_runs hp rfl (calRunOff_idle h), fun r u v w h3 hw hr h0 h1 ha0 ha1 hw' => ⟨fun hn hb => ?_, fun hn hb => ?_,
        fun o x ho hx0 hx1 => ⟨fun hb => ?_, fun hb => ?_⟩⟩⟩
    · exact exec_runs hp rfl ((calRunOff_goes h3 hw).trans ((calOff_quiet hr h0 h1 ha0 ha1 hw' hn).trans
        (if_neg (by rw [hb]; exact Bool.false_ne_true))))
    · exact exec_runs hp rfl ((calRunOff_goes h3 hw).trans ((calOff_quiet hr h0 h1 ha0 ha1 hw' hn).trans (if_pos hb)))
    · exact exec_runs hp rfl ((calRunOff_goes h3 hw).trans ((calOff_answers hr h0 h1 ha0 ha1 hw' ho hx0 hx1).trans
        (if_neg (by rw [hb]; exact Bool.false_ne_true))))
    · exact exec_runs hp rfl ((calRunOff_goes h3 hw).trans ((calOff_answers hr h0 h1 ha0 ha1 hw' ho hx0 hx1).trans (if_pos hb)))
  · subst ht
    exact exec_admits h rfl (calRead_record (o := issued .calRead c s) rfl hc hw)
  · exact exec_admits h rfl (calRead_unknown (o := issued .calRead c s) rfl hc)
  · subst ht
    refine ⟨fun hc => ?_, fun hc hu => ?_, fun hc hu hl => ?_, fun hc hu hl => ⟨fun hr => ?_, fun hr hv => ?_⟩⟩
    · exact exec_admits h rfl (calWrite_unknown (o := issued .calWrite c s) rfl hc)
    · exact exec_admits h rfl (calWrite_busy (o := issued .calWrite c s) rfl hc hu)
    · exact exec_admits h rfl (calWrite_badLength (o := issued .calWrite c s) rfl hc hu hw hl)
    · exact exec_admits h rfl (calWrite_unsound (o := issued .calWrite c s) rfl hc hu hw hl hr)
    · exact exec_admits h rfl (calWrite_takes (o := issued .calWrite c s) rfl hc hu hw hl hr hv)
  · refine ⟨fun h => exec_runs hp rfl (laneMeasure_idle hk h), fun h hl h0 => ?_, fun h hl h1 => ?_, fun h hl h0 => ?_,
      fun h hl h1 => ?_⟩
    · exact exec_runs hp rfl ((laneMeasure_runs hk h h0 (if_neg hl).symm).trans (if_neg (by decide)))
    · exact exec_runs hp rfl ((laneMeasure_runs hk h h1 (if_neg hl).symm).trans (if_pos (by decide)))
    · exact exec_runs hp rfl ((laneMeasure_runs hk h h0 (if_pos hl).symm).trans (if_neg (by decide)))
    · exact exec_runs hp rfl ((laneMeasure_runs hk h h1 (if_pos hl).symm).trans (if_pos (by decide)))
  · refine ⟨fun h m => exec_runs hp rfl (converterSet_idle h), fun s0 t0 r0 r1 i u h hi h4 hu => ?_, fun a b u h hi hu => ?_,
      fun m i u h hi hu => ⟨fun h5 => ?_, fun a b h4 hm => ?_, fun s0 t0 r0 r1 h4 hm => ?_⟩⟩
    · have he : execCalConverterSet (.trim s0 t0 r0 r1) s = converterEnd u := by
        rw [converterSet_trim h hi, if_pos h4, hu]
      exact ⟨fun hn => exec_runs hp rfl (he.trans (converterEnd_goesOn hn)), fun hn => exec_runs hp rfl (he.trans (converterEnd_done hn))⟩
    · have hn : 5 ≤ convNext u (calRunOf u 6).pos := by
        rw [hu, skewStep_pos, calRunOf_setCalRun, convNext_end (Nat.le_refl 5)]
      exact exec_runs hp rfl ((converterSet_skew h hi.symm).trans (by rw [if_pos rfl, ← hu, converterEnd_done hn]))
    · cases m with
      | trim s0 t0 r0 r1 =>
        exact exec_runs hp rfl ((converterSet_trim h hi).trans (by rw [if_neg (by omega), ← hu, converterEnd_last hu h5]))
      | skew a b =>
        exact exec_runs hp rfl ((converterSet_skew h hi).trans (by rw [if_neg (by omega), ← hu, converterEnd_last hu h5]))
    · subst hm
      exact exec_runs hp rfl ((converterSet_skew h hi).trans (by rw [if_neg (by omega), ← hu, converterEnd_skipped hi hu (by omega)]))
    · subst hm
      exact exec_runs hp rfl ((converterSet_trim h hi).trans (by rw [if_neg (by omega), ← hu, converterEnd_skipped hi hu (by omega)]))

end Sys2Proof.Machine
end

section
/-!
PROOF. POWER_ENTER, POWER_QUERY and VSCALE.
-/
namespace Sys2Proof.Machine

/-! ### POWER_ENTER and POWER_QUERY -/

section
variable {o : Outst} {c : Cmd} {t u w : State} {i : Nat}

theorem powerQuery_words (ho : o.cmd = c) (h : c.p0 = 0) : powerQuery o t = okW t [(t.reg PMU_STAT).toNat, (t.reg PMU_OP).toNat,
    (t.reg PMU_WAKE_STAT).toNat, (t.reg PMU_REFUSE).toNat, (t.reg PMU_RST_CAUSE).toNat] := by
  subst ho
  exact if_neg (not_not_intro h)

theorem powerQuery_refused (ho : o.cmd = c) (h : c.p0 ≠ 0) : powerQuery o t = ans t .badParam := by
  subst ho
  exact if_pos h

theorem powerEnter_undefined (ho : o.cmd = c) (h : 3 ≤ c.p0) : powerEnter o t = ans t .badParam := by
  subst ho
  exact if_pos h

section
variable (ho : o.cmd = c) (hu : u = t.wr PMU_WAKE_EN_SRC (c.w 1 % 256 ||| 0x81))
include ho hu

theorem powerEnter_there (h3 : c.p0 < 3) (h : c.p0 = u.rd PMU_STAT_STATE) : powerEnter o t = ok u := by
  subst ho hu
  exact (if_neg (Nat.not_le.mpr h3)).trans (if_pos h)

theorem powerEnter_wakes (h0 : c.p0 = 0) (h : u.rd PMU_STAT_STATE = 1) :
    powerEnter o t = ok { u with pmu := { u.pmu with waking := true } } := by
  subst ho hu
  exact (if_neg (by omega)).trans ((if_neg (by omega)).trans (if_pos h0))

section
variable (h1 : 1 ≤ c.p0) (h2 : c.p0 ≤ 2) (h : c.p0 ≠ u.rd PMU_STAT_STATE)
include h1 h2 h

theorem powerEnter_arms (hr : refuser c.p0 u = none) (hw : w = u.wr PMU_STAT_ARM c.p0) :
    powerEnter o t = ok { w with pmu := { w.pmu with reply := some (c.ch, c.seq.toNat) } } := by
  subst ho hu hw
  simp only [powerEnter, hr]
  exact (if_neg (by omega)).trans ((if_neg h).trans (if_neg (by omega)))

theorem powerEnter_refused (hr : refuser c.p0 u = some i) :
    powerEnter o t = (raise 0x64 i ((u.bump PMU_REFUSE_REFUSALS).wr PMU_REFUSE_LAST i), some ⟨.powerRefused, [i], none⟩) := by
  subst ho hu
  simp only [powerEnter, hr]
  exact (if_neg (by omega)).trans ((if_neg h).trans (if_neg (by omega)))

end

end

end

/-! ### VSCALE -/

section
variable {o : Outst} {c : Cmd} {s t u v : State}

theorem vscale_undefined (ho : o.cmd = c) (h : 4 ≤ c.p0) : vscale o t = ans t .badParam := by
  subst ho
  exact if_pos h

section
variable (ho : o.cmd = c) (h4 : c.p0 < 4)
include ho h4

theorem vscale_busy (h : t.bit PMU_OP_CHANGING = true ∨ t.rd PMU_STAT_STATE ≠ 0) : vscale o t = ans t .busy := by
  subst ho
  exact (if_neg (Nat.not_le.mpr h4)).trans (if_pos h)

variable (hc : t.bit PMU_OP_CHANGING = false) (hs : t.rd PMU_STAT_STATE = 0) (hu : u = t.wr PMU_OP_TARGET c.p0)
include hc hs hu

theorem vscale_same (h : c.p0 = t.rd PMU_OP_V_OK) : vscale o t = okW u [(u.reg PMU_OP).toNat] := by
  subst ho hu
  rw [vscale, if_neg (Nat.not_le.mpr h4), hc, hs, if_neg (by simp), if_pos h]

variable (hv : v = (holdCmd o { u with pmu := { u.pmu with vscale := some o, vselOld := u.rd PMU_OP_VSEL } }).wr PMU_OP_CHANGING 1)
include hv

theorem vscale_raises (h : t.rd PMU_OP_V_OK < c.p0) : vscale o t = answerLater (driveVsel (10 * (c.p0 + 1)) v) := by
  subst ho hu hv
  rw [vscale, if_neg (Nat.not_le.mpr h4), hc, hs, if_neg (by simp), if_neg (Nat.ne_of_gt h)]
  exact congrArg answerLater (if_pos h)

theorem vscale_lowers (h : c.p0 < t.rd PMU_OP_V_OK) : vscale o t = answerLater (v.wr PMU_OP_BYPASS 1) := by
  subst ho hu hv
  rw [vscale, if_neg (Nat.not_le.mpr h4), hc, hs, if_neg (by simp), if_neg (Nat.ne_of_lt h)]
  exact congrArg answerLater (if_neg (Nat.not_lt.mpr (Nat.le_of_lt h)))

end

/-! ### The end of a VSCALE -/

theorem vscaleSettled_goes (h : raiseWaits s = true) :
    execVscaleSettled s = (s.wr PMU_OP_V_OK (s.rd PMU_OP_TARGET)).wr PMU_OP_BYPASS 1 := if_pos h

theorem vscaleSettled_idle (h : raiseWaits s = false) : execVscaleSettled s = s := if_neg (by rw [h]; exact Bool.false_ne_true)

theorem vscaleTimeout_idle (h : raiseWaits s = false) : execVscaleTimeout s = s := if_neg (by rw [h]; exact Bool.false_ne_true)

theorem vscaleTimeout_refuses (h : raiseWaits s = true) (ho : s.pmu.vscale = some o)
    (hu : u = raise 0x64 0x0D ((((driveVsel s.pmu.vselOld s).wr PMU_OP_CHANGING 0).bump PMU_REFUSE_REFUSALS).wr PMU_REFUSE_LAST 0x0D))
    (hv : v = { u with pmu := { u.pmu with vscale := none } }) :
    execVscaleTimeout s = finish o ⟨.powerRefused, [0x0D], none⟩ v := by
  subst hu hv
  simp only [execVscaleTimeout, ho]
  exact if_pos h

theorem vscaleEnd_answers (ho : s.pmu.vscale = some o) (hu : u = s.wr PMU_OP_CHANGING 0)
    (hv : v = { u with pmu := { u.pmu with vscale := none } }) :
    vscaleEnd s = finish o ⟨.ok, [(v.reg PMU_OP).toNat], none⟩ v := by
  subst hu hv
  simp only [vscaleEnd, ho]

theorem relock_idle (h : s.bit PMU_OP_BYPASS = false) : execCorePllRelock s = s := if_pos (congrArg (!·) h)

theorem relock_alone (hb : s.bit PMU_OP_BYPASS = true) (h : s.bit PMU_OP_CHANGING = false) :
    execCorePllRelock s = (s.wr PMU_OP_BYPASS 0).wr PMU_STAT_VCORE_PG 1 := by
  rw [execCorePllRelock, hb, if_neg (by decide), h]
  exact if_neg Bool.false_ne_true

theorem setOp_vscale (op : Nat) (s : State) : (setOp op s).pmu.vscale = s.pmu.vscale := by
  rw [setOp, State.wr_pmu, State.wr_pmu, driveVsel]
  exact congrArg (·.vscale) (State.wr_pmu ..)

theorem relock_answers {op : Nat} (hb : s.bit PMU_OP_BYPASS = true) (hc : s.bit PMU_OP_CHANGING = true) (ho : s.pmu.vscale = some o)
    (hop : op = s.rd PMU_OP_TARGET)
    (h1 : s.rd PMU_OP_VSEL = 10 * (op + 1) → u = ((s.wr PMU_OP_BYPASS 0).wr PMU_OP_F_OP op).wr PMU_OP_CHANGING 0)
    (h2 : s.rd PMU_OP_VSEL ≠ 10 * (op + 1) →
      u = (((driveVsel (10 * (op + 1)) (s.wr PMU_OP_BYPASS 0)).wr PMU_OP_V_OK op).wr PMU_OP_F_OP op).wr PMU_OP_CHANGING 0)
    (hv : v = { u with pmu := { u.pmu with vscale := none } }) :
    execCorePllRelock s = finish o ⟨.ok, [(v.reg PMU_OP).toNat], none⟩ v := by
  subst hop
  have hsel : (s.wr PMU_OP_BYPASS 0).rd PMU_OP_VSEL = s.rd PMU_OP_VSEL := State.rd_wr_field _ _ _ _ (by decide) (by decide) (by decide)
  have he : execCorePllRelock s = vscaleEnd (if (s.wr PMU_OP_BYPASS 0).rd PMU_OP_VSEL = 10 * (s.rd PMU_OP_TARGET + 1)
      then (s.wr PMU_OP_BYPASS 0).wr PMU_OP_F_OP (s.rd PMU_OP_TARGET) else setOp (s.rd PMU_OP_TARGET) (s.wr PMU_OP_BYPASS 0)) := by
    rw [execCorePllRelock, hb, if_neg (by decide)]
    exact if_pos hc
  rw [he, hsel]
  by_cases hq : s.rd PMU_OP_VSEL = 10 * (s.rd PMU_OP_TARGET + 1)
  · rw [if_pos hq]
    exact vscaleEnd_answers (by rw [State.wr_pmu, State.wr_pmu, ho]) (h1 hq) hv
  · rw [if_neg hq]
    exact vscaleEnd_answers (by rw [setOp_vscale, State.wr_pmu, ho]) (h2 hq) hv

end

/-- Settles O52: POWER_ENTER by the state asked for and its refusers, VSCALE by the operating point, its end by how it was confirmed. -/
theorem powerCommands : Obligations.PowerCommands := by
  unfold Obligations.PowerCommands
  refine fun c s t => ⟨fun u h ht hu => ⟨fun h3 => ?_, fun h3 hs => ?_, fun h0 hs => ?_, fun h1 h2 hs => ⟨fun w hr hw => ?_, fun i hr => ?_⟩⟩,
    fun h ht => ⟨fun h0 => ?_, fun h0 => ?_⟩,
    fun u v h ht hu hv => ⟨fun h4 => ?_, fun h4 hb => ?_, fun hc hs => ⟨fun h4 he => ?_, fun h4 he => ?_, fun he h4 => ?_⟩⟩,
    fun hp => ⟨fun h => ?_, fun h => ⟨?_, ?_⟩, fun o u v h ho hu hv => ?_, fun h => ?_, fun hb h => ?_,
      fun o op u v hb hc ho hop h1 h2 hv => ?_⟩⟩
  · subst ht
    exact exec_admits h rfl (powerEnter_undefined (o := issued .powerEnter c s) rfl h3)
  · subst ht
    exact exec_admits h rfl (powerEnter_there (o := issued .powerEnter c s) rfl hu h3 hs)
  · subst ht
    exact exec_admits h rfl (powerEnter_wakes (o := issued .powerEnter c s) rfl hu h0 hs)
  · subst ht
    exact exec_admits h rfl (powerEnter_arms (o := issued .powerEnter c s) rfl hu h1 h2 hs hr hw)
  · subst ht
    exact exec_admits h rfl (powerEnter_refused (o := issued .powerEnter c s) rfl hu h1 h2 hs hr)
  · subst ht
    exact exec_admits h rfl (powerQuery_words (o := issued .powerQuery c s) rfl h0)
  · subst ht
    exact exec_admits h rfl (powerQuery_refused (o := issued .powerQuery c s) rfl h0)
  · subst ht
    exact exec_admits h rfl (vscale_undefined (o := issued .vscale c s) rfl h4)
  · subst ht
    exact exec_admits h rfl (vscale_busy (o := issued .vscale c s) rfl h4 hb)
  · subst ht
    exact exec_admits h rfl (vscale_same (o := issued .vscale c s) rfl h4 hc hs hu he)
  · subst ht
    exact exec_admits_later h rfl (vscale_raises (o := issued .vscale c s) rfl h4 hc hs hu hv he)
  · subst ht
    exact exec_admits_later h rfl (vscale_lowers (o := issued .vscale c s) rfl h4 hc hs hu hv he)
  · exact exec_runs hp rfl (vscaleSettled_goes h)
  · exact exec_runs hp rfl (vscaleSettled_idle h)
  · exact exec_runs hp rfl (vscaleTimeout_idle h)
  · exact exec_runs hp rfl (vscaleTimeout_refuses h ho hu hv)
  · exact exec_runs hp rfl (relock_idle h)
  · exact exec_runs hp rfl (relock_alone hb h)
  · exact exec_runs hp rfl (relock_answers hb hc ho hop h1 h2 hv)

end Sys2Proof.Machine
end

section
/-!
PROOF. The entry into D1 and D2, and the wake.
-/
namespace Sys2Proof.Machine

section
variable {s t u v w : State} {i : Nat}

/-! ### The entry -/

theorem powerDown_unarmed (h : s.rd PMU_STAT_ARM = 0) : execPowerDownStart s = s := if_pos (.inl h)

theorem powerDown_waits (h : replyDue s = true) : execPowerDownStart s = s := if_pos (.inr (.inr h))

section
variable (ha : s.rd PMU_STAT_ARM ≠ 0) (hd : s.pmu.down = false) (hr : replyDue s = false)
include ha hd hr

theorem powerDown_due : ¬ (s.rd PMU_STAT_ARM = 0 ∨ s.pmu.down = true ∨ replyDue s = true) := by
  rw [hd, hr]
  simpa using ha

theorem powerDown_aborts (hi : aborts (s.rd PMU_STAT_ARM) s = some i) : execPowerDownStart s = abortEntry i s := by
  simp only [execPowerDownStart, hi]
  exact if_neg (powerDown_due ha hd hr)

theorem powerDown_enters {ask : List Nat} (hi : aborts (s.rd PMU_STAT_ARM) s = none)
    (hask : ask = if s.rd PMU_STAT_ARM = 2 then (List.range 2).filter (fun p => decide (linkOf s p = 5 ∨ linkOf s p = 6)) else [])
    (hu : u = s.forL ask (fun p v => askL2 p (if linkOf v p = 6 then leaveL1 p v else v))) :
    execPowerDownStart s = sleepSteps
      { u with pmu := { u.pmu with down := true, askedL2 := ask.foldl (fun n p => n + 2 ^ p) 0 } } := by
  subst hask hu
  simp only [execPowerDownStart, hi]
  exact if_neg (powerDown_due ha hd hr)

end

theorem sleepSteps_asleep (h : s.rd PMU_STAT_STATE ≠ 0) : sleepSteps s = s := if_neg h

theorem sleepSteps_awake (h : s.rd PMU_STAT_STATE = 0) (ht : t = (abandonComp s).wr SMEM_STAT_SR 1)
    (hu : u = { t with pmu := { t.pmu with opBefore := s.rd PMU_OP_V_OK, srBefore := s.bit SMEM_STAT_SR } }) :
    sleepSteps s = ((driveVsel 10 u).wr PMU_OP_V_OK 0).wr PMU_OP_F_OP 0 := by
  subst ht hu
  exact if_pos h

/-! ### Its completion -/

theorem complete_unarmed (h : s.rd PMU_STAT_ARM = 0) : execPowerDownComplete s = s := if_pos (.inl h)

section
variable (ha : s.rd PMU_STAT_ARM ≠ 0) (hd : s.pmu.down = true)
include ha hd

theorem complete_due : ¬ (s.rd PMU_STAT_ARM = 0 ∨ (!s.pmu.down) = true) := by
  rw [hd]
  simpa using ha

theorem complete_aborts (hi : aborts (s.rd PMU_STAT_ARM) s = some i) : execPowerDownComplete s = abortEntry i s := by
  simp only [execPowerDownComplete, hi]
  exact if_neg (complete_due ha hd)

variable (hi : aborts (s.rd PMU_STAT_ARM) s = none)
include hi

theorem complete_waits (hp : ∃ p < 2, s.pmu.askedL2 / 2 ^ p % 2 = 1 ∧ linkOf s p ≠ 7) : execPowerDownComplete s = s := by
  obtain ⟨p, h2, hp⟩ := hp
  simp only [execPowerDownComplete, hi]
  exact (if_neg (complete_due ha hd)).trans (if_pos (List.any_eq_true.mpr ⟨p, List.mem_range.mpr h2, decide_eq_true hp⟩))

theorem complete_goes (hp : ∀ p < 2, s.pmu.askedL2 / 2 ^ p % 2 = 1 → linkOf s p = 7)
    (hu : u = (s.wr PMU_STAT_STATE (s.rd PMU_STAT_ARM)).wr PMU_STAT_ARM 0)
    (hv : v = { u with pmu := { u.pmu with down := false, askedL2 := 0, reply := none } })
    (hw : w = (v.wr SMC_STAT_SAFE_OFF 0).wr SMC_STAT_LIMP_REQ 1) :
    execPowerDownComplete s
      = if s.rd PMU_STAT_ARM = 2 then { w with smc := { w.smc with alive := false } } else refreshCeiling 0 v := by
  have hany : (List.range 2).any (fun p => decide (s.pmu.askedL2 / 2 ^ p % 2 = 1 ∧ linkOf s p ≠ 7)) = false :=
    List.any_eq_false.mpr fun p h2 => by
      rw [decide_eq_false fun h => h.2 (hp p (List.mem_range.mp h2) h.1)]
      exact Bool.false_ne_true
  subst hu hv hw
  simp only [execPowerDownComplete, hi, hany]
  rw [if_neg (complete_due ha hd), if_neg Bool.false_ne_true]

end

/-! ### The return from D1 -/

theorem returnToD0_idle (h : s.pmu.waking = false ∨ s.rd PMU_STAT_STATE ≠ 1 ∨ s.rd PMU_STAT_ARM ≠ 0) : execReturnToD0 s = s := by
  refine if_neg ?_
  rintro ⟨hw, hst, ha⟩
  obtain h | h | h := h
  · exact Bool.false_ne_true (h.symm.trans hw)
  · exact h hst
  · exact h ha

theorem returnToD0_goes (hw : s.pmu.waking = true) (hst : s.rd PMU_STAT_STATE = 1) (ha : s.rd PMU_STAT_ARM = 0)
    (hu : u = ((driveVsel (10 * (s.pmu.opBefore + 1)) (s.wr PMU_STAT_STATE 0)).wr PMU_OP_V_OK s.pmu.opBefore).wr
      PMU_OP_F_OP s.pmu.opBefore)
    (h1 : u.bit CKU_GATE_SMEM = true → v = u)
    (h0 : u.bit CKU_GATE_SMEM = false → v = u.wr SMEM_STAT_SR (boolNat s.pmu.srBefore)) :
    execReturnToD0 s = refreshCeiling 0 { v with pmu := { v.pmu with waking := false, hit := none } } := by
  have hv : leaveSleep (s.wr PMU_STAT_STATE 0) = v := by
    have he : leaveSleep (s.wr PMU_STAT_STATE 0) = if u.bit CKU_GATE_SMEM then u else u.wr SMEM_STAT_SR (boolNat s.pmu.srBefore) := by
      rw [leaveSleep, State.wr_pmu, setOp, ← hu]
    rw [he]
    cases hb : u.bit CKU_GATE_SMEM
    · rw [h0 hb, if_neg Bool.false_ne_true]
    · rw [h1 hb, if_pos rfl]
  subst hv
  exact if_pos ⟨hw, hst, ha⟩

/-! ### Wake sources -/

section
variable {n : Nat}

theorem wakeFire_apart (h : s.pmu.off = true ∨ s.bitOf PMU_WAKE_EN_SRC n = false) : wakeFire n s = s :=
  if_pos (h.imp_right (congrArg (!·)))

section
variable (hoff : s.pmu.off = false) (hen : s.bitOf PMU_WAKE_EN_SRC n = true)
include hoff hen

theorem wakeFire_enabled : ¬ (s.pmu.off = true ∨ (!s.bitOf PMU_WAKE_EN_SRC n) = true) := by
  rw [hoff, hen]
  decide

theorem wakeFire_idle (ha : s.rd PMU_STAT_ARM = 0) (hst : s.rd PMU_STAT_STATE = 0) : wakeFire n s = s := by
  refine (if_neg (wakeFire_enabled hoff hen)).trans ((if_neg (not_not_intro ha)).trans ((if_neg ?_).trans (if_neg ?_)))
  · rw [hst]
    decide
  · rw [hst]
    decide

variable (ht : t = s.setBit PMU_WAKE_STAT_SRC n)
include ht

theorem wakeFire_aborts (ha : s.rd PMU_STAT_ARM ≠ 0) : wakeFire n s = abortEntry (0x10 + n) t := by
  subst ht
  exact (if_neg (wakeFire_enabled hoff hen)).trans (if_pos ha)

theorem wakeFire_wakes (ha : s.rd PMU_STAT_ARM = 0) (hst : s.rd PMU_STAT_STATE = 1) :
    wakeFire n s = { t with pmu := { t.pmu with waking := true } } := by
  subst ht
  exact (if_neg (wakeFire_enabled hoff hen)).trans ((if_neg (not_not_intro ha)).trans (if_pos hst))

theorem wakeFire_resets (ha : s.rd PMU_STAT_ARM = 0) (hst : s.rd PMU_STAT_STATE = 2) : wakeFire n s = engineReset 5 t := by
  subst ht
  refine (if_neg (wakeFire_enabled hoff hen)).trans ((if_neg (not_not_intro ha)).trans ((if_neg ?_).trans (if_pos hst)))
  rw [hst]
  decide

end

theorem pmuTimer_idle (h : s.rd PMU_TIMER_MS = 0 ∨ s.rd PMU_STAT_STATE = 0) : execPmuTimerExpiry s = s :=
  if_neg fun hn => h.elim hn.1 hn.2

theorem pmuTimer_fires (hm : s.rd PMU_TIMER_MS ≠ 0) (hst : s.rd PMU_STAT_STATE ≠ 0) : execPmuTimerExpiry s = wakeFire 5 s :=
  if_pos ⟨hm, hst⟩

end

end

/-- Settles O53: the entry and its completion by what aborts them, the wake by the state it meets. -/
theorem powerDown : Obligations.PowerDown := by
  unfold Obligations.PowerDown
  refine fun s t => ⟨fun hp h => ⟨?_, ?_⟩, fun hp h => ?_, fun hp i ha hi => ⟨fun hd hr => ?_, fun hd => ?_⟩,
    fun hp ask u ha hd hr hi hn h2 hu => ?_, fun h => sleepSteps_asleep h, fun u h ht hu => sleepSteps_awake h ht hu,
    fun hp ha hd hi hq => ?_, fun hp u v ha hd hi hq hu hv => ⟨fun h2 => ?_, fun w h2 hw => ?_⟩,
    fun hp hw hst ha u v hu h1 h0 => ?_, fun hp h => ?_,
    fun n => ⟨fun h => ?_, fun hoff hen ht => ⟨fun ha => ?_, fun ha hst => ?_, fun ha hst => ?_, fun ha hst => ?_⟩⟩,
    fun h => ?_, fun hm hst0 hoff hen ht => ⟨fun ha => ?_, fun ha hst => ?_, fun ha hst => ?_⟩⟩
  · exact exec_runs hp rfl (powerDown_unarmed h)
  · exact exec_runs hp rfl (complete_unarmed h)
  · exact exec_runs hp rfl (powerDown_waits h)
  · exact exec_runs hp rfl (powerDown_aborts ha hd hr hi)
  · exact exec_runs hp rfl (complete_aborts ha hd hi)
  · have hask : ask = if s.rd PMU_STAT_ARM = 2 then (List.range 2).filter (fun p => decide (linkOf s p = 5 ∨ linkOf s p = 6)) else [] := by
      split
      · exact h2 ‹_›
      · exact hn ‹_›
    exact exec_runs hp rfl (powerDown_enters ha hd hr hi hask hu)
  · exact exec_runs hp rfl (complete_waits ha hd hi hq)
  · exact exec_runs hp rfl ((complete_goes ha hd hi hq hu hv rfl).trans (if_neg h2))
  · exact exec_runs hp rfl ((complete_goes ha hd hi hq hu hv hw).trans (if_pos h2))
  · exact exec_runs hp rfl (returnToD0_goes hw hst ha hu h1 h0)
  · exact exec_runs hp rfl (returnToD0_idle h)
  · exact congrArg Host.Outcome.next (wakeFire_apart h)
  · exact congrArg Host.Outcome.next (wakeFire_aborts hoff hen ht ha)
  · exact congrArg Host.Outcome.next (wakeFire_wakes hoff hen ht ha hst)
  · exact congrArg Host.Outcome.next (wakeFire_resets hoff hen ht ha hst)
  · exact congrArg Host.Outcome.next (wakeFire_idle hoff hen ha hst)
  · exact congrArg Host.Outcome.next (pmuTimer_idle h)
  · exact congrArg Host.Outcome.next ((pmuTimer_fires hm hst0).trans (wakeFire_aborts hoff hen ht ha))
  · exact congrArg Host.Outcome.next ((pmuTimer_fires hm hst0).trans (wakeFire_wakes hoff hen ht ha hst))
  · exact congrArg Host.Outcome.next ((pmuTimer_fires hm hst0).trans (wakeFire_resets hoff hen ht ha hst))

end Sys2Proof.Machine
end

section
/-!
PROOF. Reset sources, power pins and boot.
-/
namespace Sys2Proof.Machine

section
variable {s t u v : State}

/-! ### Reset sources -/

theorem resetN_off (h : s.pmu.off = true) : execResetNLow s = s := if_pos h

theorem resetN_resets (h : s.pmu.off = false) : execResetNLow s = engineReset 2 s := if_neg (by rw [h]; exact Bool.false_ne_true)

theorem swrst_row : execSwrst s = answered (engineReset 3 s, .ok) := by
  have hh : hits PMU_CTRL_SWRST (setBits (s.reg PMU_CTRL) PMU_CTRL_SWRST.msb PMU_CTRL_SWRST.lsb 1) PMU_CTRL_SWRST.mask = true :=
    (hits_setBits (f := PMU_CTRL_SWRST) (by decide) _ _ _).trans (by decide)
  refine writeField_goes (by decide) ((regHook_pmu (by decide)).trans ?_)
  exact (if_pos rfl).trans (congrArg (·, Status.ok) (if_pos hh))

theorem vcorePg_settling (h : s.now < s.pmu.vselAt + s.rd PMU_CFG_VSETTLE * 10000) : execVcorePgLow s = s := if_pos h

theorem vcorePg_drops (h : s.pmu.vselAt + s.rd PMU_CFG_VSETTLE * 10000 ≤ s.now) :
    execVcorePgLow s = raise 0x65 (s.rd PMU_OP_VSEL) ((s.wr PMU_STAT_VCORE_PG 0).wr PMU_OP_BYPASS 1) := if_neg (Nat.not_lt.mpr h)

theorem vcorePgReset_high (h : s.bit PMU_STAT_VCORE_PG = true) : execVcorePgReset s = s := if_pos h

theorem vcorePgReset_low (h : s.bit PMU_STAT_VCORE_PG = false) : execVcorePgReset s = engineReset 4 s :=
  if_neg (by rw [h]; exact Bool.false_ne_true)

/-! ### PWR_EN -/

section
variable (ht : t = s.wr PMU_STAT_PWR_EN 1)
include ht

theorem pwrEnHigh_boots (h : s.pmu.off = true) : execPwrEnHigh s = engineReset 1 t := by
  subst ht
  exact if_pos h

theorem pwrEnHigh_on (h : s.pmu.off = false) :
    execPwrEnHigh s = if s.rd PMU_STAT_STATE ≠ 0 then wakeFire 0 t else t := by
  subst ht
  exact if_neg (by rw [h]; exact Bool.false_ne_true)

end

section
variable (ht : t = s.wr PMU_STAT_PWR_EN 0)
include ht

theorem pwrEnLow_off (h : s.pmu.off = true) : execPwrEnLow s = t := by
  subst ht
  exact if_pos h

theorem pwrEnLow_goes (h : s.pmu.off = false)
    (hu : u = if s.rd PMU_STAT_STATE = 2 then loseRetained t else
      ((fanDisable (lvlDisable (railForceStop (goDark 0 t))).1).1.forN 8 (fun n w => (sqDisable n w).1)).wr SMEM_STAT_SR 1)
    (hv : v = (u.wr SMC_STAT_SAFE_OFF 0).wr SMC_STAT_LIMP_REQ 1) :
    execPwrEnLow s = { v with smc := { v.smc with alive := false }, pmu := { v.pmu with off := true, released := false } } := by
  subst ht hu hv
  rw [execPwrEnLow, if_neg (by rw [h]; exact Bool.false_ne_true)]

end

/-! ### Boot -/

theorem forN_two (s : State) (g : Nat → State → State) : s.forN 2 g = g 1 (g 0 s) := rfl

theorem release_held {m : Bool} (h : s.pmu.released = true ∨ s.pmu.off = true ∨ s.bit PMU_STAT_PWR_EN = false) :
    execInternalResetRelease m s = s :=
  if_pos (h.imp_right (Or.imp_right fun h => .inr (congrArg (!·) h)))

theorem release_testMode : execInternalResetRelease true s = s := if_pos (.inr (.inr (.inl rfl)))

theorem release_goes (hr : s.pmu.released = false) (hoff : s.pmu.off = false) (hen : s.bit PMU_STAT_PWR_EN = true)
    (hu : u = { s with pmu := { s.pmu with released := true }, smc := { s.smc with startAt := s.now } }) :
    execInternalResetRelease false s = (portEnable 1 (portEnable 0
      (((u.wr PMU_STAT_VCORE_PG 1).wr CKU_STAT_REF_OK 1).wr CKU_STAT_LOCK 0x1F)).1).1 := by
  have hgo : ¬ (s.pmu.released = true ∨ s.pmu.off = true ∨ false = true ∨ (!s.bit PMU_STAT_PWR_EN) = true) := by
    rw [hr, hoff, hen]
    decide
  subst hu
  rw [execInternalResetRelease, if_neg hgo, forN_two]

theorem boot_done {r : Bool} (h : s.bit PMU_STAT_BOOT_DONE = true ∨ s.bit PMU_STAT_BOOT_ERR = true) : execCoreBootDone r s = s :=
  if_pos (.inr (.inr h))

section
variable (hp : isPowered s = true) (hd : s.bit PMU_STAT_BOOT_DONE = false) (he : s.bit PMU_STAT_BOOT_ERR = false)
include hp hd he

theorem boot_due : ¬ ((!s.pmu.released) = true ∨ s.pmu.off = true ∨ s.bit PMU_STAT_BOOT_DONE = true ∨ s.bit PMU_STAT_BOOT_ERR = true) := by
  simp only [isPowered, Bool.and_eq_true, Bool.not_eq_true'] at hp
  obtain ⟨⟨hr, hoff⟩, -⟩ := hp
  rw [hr, hoff, hd, he]
  decide

theorem boot_fails : execCoreBootDone false s = ((s.wr PMU_STAT_BOOT_ERR 1).wr CCX_STAT_CCA_STATE 0).wr CCX_STAT_CCB_STATE 0 := by
  rw [execCoreBootDone, if_neg (boot_due hp hd he), if_neg Bool.false_ne_true]

theorem boot_starts (ht : t = ((s.wr PMU_STAT_BOOT_DONE 1).wr CCX_STAT_CCA_STATE 5).wr CCX_STAT_CCB_STATE 4)
    (hu : u = { t with ccx := { t.ccx with beatA := t.now, beatB := t.now } }) :
    execCoreBootDone true s = if u.bit PMU_CFG_AUTO_RUN then scnStart (u.wr SCN_CTRL_RUN 1) else u := by
  subst ht hu
  rw [execCoreBootDone, if_neg (boot_due hp hd he), if_pos rfl]

end

end

/-- Settles O54: each reset source by its condition, PWR_EN by the state it meets, boot by the ROM check. -/
theorem resetsAndBoot : Obligations.ResetsAndBoot := by
  unfold Obligations.ResetsAndBoot
  refine ⟨fun s t => ⟨rfl, fun h => ?_, fun h => ?_, fun hp => ?_, fun hp h => ?_, fun hp h => ?_, fun hp h => ?_, fun hp h => ?_,
      fun ht => ⟨fun h => ?_, fun h hst => ?_, fun h hst => ?_⟩, fun ht => ⟨fun h => ?_, fun u v h h2 hn hv => ?_⟩⟩,
    fun s t => ⟨fun h m => ?_, congrArg Host.Outcome.next release_testMode, fun u hr hoff hen hu => ?_, fun hp h r => ?_,
      fun hp hd he => ⟨?_, fun u ht hu => ⟨fun ha => ?_, fun ha => ?_⟩⟩⟩⟩
  · exact congrArg Host.Outcome.next (resetN_off h)
  · exact congrArg Host.Outcome.next (resetN_resets h)
  · exact exec_runs hp rfl swrst_row
  · exact exec_runs hp rfl (vcorePg_settling h)
  · exact exec_runs hp rfl (vcorePg_drops h)
  · exact exec_runs hp rfl (vcorePgReset_high h)
  · exact exec_runs hp rfl (vcorePgReset_low h)
  · exact congrArg Host.Outcome.next (pwrEnHigh_boots ht h)
  · exact congrArg Host.Outcome.next ((pwrEnHigh_on ht h).trans (if_neg (not_not_intro hst)))
  · exact congrArg Host.Outcome.next ((pwrEnHigh_on ht h).trans (if_pos hst))
  · exact congrArg Host.Outcome.next (pwrEnLow_off ht h)
  · have hu : u = if s.rd PMU_STAT_STATE = 2 then loseRetained t else
        ((fanDisable (lvlDisable (railForceStop (goDark 0 t))).1).1.forN 8 (fun n w => (sqDisable n w).1)).wr SMEM_STAT_SR 1 := by
      split
      · exact h2 ‹_›
      · exact hn ‹_›
    exact congrArg Host.Outcome.next (pwrEnLow_goes ht h hu hv)
  · exact congrArg Host.Outcome.next (release_held h)
  · exact congrArg Host.Outcome.next (release_goes hr hoff hen hu)
  · exact exec_runs hp rfl (boot_done h)
  · exact exec_runs hp rfl (boot_fails hp hd he)
  · exact exec_runs hp rfl ((boot_starts hp hd he ht hu).trans (if_pos ha))
  · exact exec_runs hp rfl ((boot_starts hp hd he ht hu).trans (if_neg (by rw [ha]; exact Bool.false_ne_true)))

end Sys2Proof.Machine
end

section
/-!
PROOF. Firmware patches, and the clock unit.
-/
namespace Sys2Proof.Machine

/-! ### FW_PATCH_LOAD -/

/-- What a chunk does once it is in its place: `b` are the bytes staged with it. -/
def patchChunk (last : Bool) (b : List Nat) (s : State) : Res :=
  if 65536 < b.length then ans s .badLength
  else if last then
    match patchCheck b s with
    | some code => ({ s with pmu := { s.pmu with patch := none } }, some ⟨.tableRejected, [code], none⟩)
    | none => ok { s with pmu := { s.pmu with patch := some ⟨b, true⟩ } }
  else ok { s with pmu := { s.pmu with patch := some ⟨b, false⟩ } }

section
variable {o : Outst} {c : Cmd} {t : State} {old b : List Nat} {last : Bool} {code : Nat}

theorem patchChunk_long (h : 65536 < b.length) : patchChunk last b t = ans t .badLength := if_pos h

theorem patchChunk_more (h : b.length ≤ 65536) : patchChunk false b t = ok { t with pmu := { t.pmu with patch := some ⟨b, false⟩ } } :=
  (if_neg (Nat.not_lt.mpr h)).trans (if_neg Bool.false_ne_true)

theorem patchChunk_sound (h : b.length ≤ 65536) (hc : patchCheck b t = none) :
    patchChunk true b t = ok { t with pmu := { t.pmu with patch := some ⟨b, true⟩ } } := by
  simp only [patchChunk, hc]
  rw [if_neg (Nat.not_lt.mpr h), if_pos trivial]

theorem patchChunk_unsound (h : b.length ≤ 65536) (hc : patchCheck b t = some code) :
    patchChunk true b t = ({ t with pmu := { t.pmu with patch := none } }, some ⟨.tableRejected, [code], none⟩) := by
  simp only [patchChunk, hc]
  rw [if_neg (Nat.not_lt.mpr h), if_pos trivial]

section
variable (ho : o.cmd = c) (h0 : t.pmu.patch = none → old = []) (h1 : ∀ p, t.pmu.patch = some p → old = p.bytes)
include ho h0 h1

theorem fwPatchLoad_eq : fwPatchLoad o t = if c.p0 % 2 ^ 15 ≠ 0 ∨ (c.w 1 ≠ 0 ∧ c.w 1 ≠ old.length) then ans t .badParam
    else patchChunk (decide (2 ^ 15 ≤ c.p0)) ((if c.w 1 = 0 then [] else old) ++ bytesOfWords ((c.words.drop 1).map BitVec.toNat)) t := by
  subst ho
  cases hp : t.pmu.patch with
  | none =>
    rw [h0 hp]
    simp only [fwPatchLoad, hp]
    rfl
  | some p =>
    rw [h1 p hp]
    simp only [fwPatchLoad, hp]
    rfl

theorem fwPatchLoad_refused (h : c.p0 ≠ 0 ∧ c.p0 ≠ 0x8000 ∨ c.w 1 ≠ 0 ∧ c.w 1 ≠ old.length) : fwPatchLoad o t = ans t .badParam := by
  have hlt : c.p0 < 65536 := c.param0.isLt
  refine (fwPatchLoad_eq ho h0 h1).trans (if_pos (h.imp_left ?_))
  omega

theorem fwPatchLoad_chunk (hw : c.w 1 = 0 ∨ c.w 1 = old.length)
    (hb0 : c.w 1 = 0 → b = bytesOfWords ((c.words.drop 1).map BitVec.toNat))
    (hb1 : c.w 1 ≠ 0 → b = old ++ bytesOfWords ((c.words.drop 1).map BitVec.toNat))
    (hp : c.p0 = if last then 0x8000 else 0) : fwPatchLoad o t = patchChunk last b t := by
  have hpl : c.p0 % 2 ^ 15 = 0 ∧ decide (2 ^ 15 ≤ c.p0) = last := by
    rw [hp]
    cases last
    · exact ⟨by decide, by decide⟩
    · exact ⟨by decide, by decide⟩
  obtain ⟨hm, hl⟩ := hpl
  have hbytes : (if c.w 1 = 0 then [] else old) ++ bytesOfWords ((c.words.drop 1).map BitVec.toNat) = b := by
    split
    · exact (List.nil_append _).trans (hb0 ‹_›).symm
    · exact (hb1 ‹_›).symm
  rw [fwPatchLoad_eq ho h0 h1, if_neg (by omega), hl, hbytes]

end

end

/-! ### Activation -/

section
variable {o : Outst} {c : Cmd} {p : Patch} {s t u : State}

theorem fwPatchActivate_undefined (ho : o.cmd = c) (h : c.p0 ≠ 0) : fwPatchActivate o t = ans t .badParam := by
  subst ho
  exact if_pos h

theorem fwPatchActivate_busy (ho : o.cmd = c) (h0 : c.p0 = 0)
    (h : t.pmu.patch.any (fun p => p.verified) = false ∨ pairReady t = false ∨ t.bit CCX_CKPT_WRITING = true) :
    fwPatchActivate o t = ans t .busy := by
  subst ho
  exact (if_neg (not_not_intro h0)).trans (if_pos (h.imp (congrArg (!·)) (Or.imp_left (congrArg (!·)))))

theorem fwPatchActivate_goes (ho : o.cmd = c) (h0 : c.p0 = 0) (hp : t.pmu.patch = some p) (hv : p.verified = true)
    (hr : pairReady t = true) (hw : t.bit CCX_CKPT_WRITING = false) :
    fwPatchActivate o t = answerLater (patchCkpt { t with pmu := { t.pmu with activate := some o, actCkpt := false } }) := by
  have hany : t.pmu.patch.any (fun p => p.verified) = true := by
    rw [hp]
    exact hv
  subst ho
  rw [fwPatchActivate, if_neg (not_not_intro h0), hany, hr, hw, if_neg (by decide)]

theorem patchRestart_idle (h : s.pmu.activate = none) : execPatchRestartDone s = s := by
  simp only [execPatchRestartDone, h]

theorem patchRestart_answers (ho : s.pmu.activate = some o) (hp : s.pmu.patch = some p) (hc : s.pmu.actCkpt = true)
    (hw : s.bit CCX_CKPT_WRITING = false) (ht : t = (bumpCepoch 2 s).wr DEV_FW_PATCH_LVL (le32 p.bytes 4))
    (hu : u = { t with pmu := { t.pmu with activate := none, actCkpt := false, patch := none } }) :
    execPatchRestartDone s = replyTo o ⟨.ok, [(u.reg DEV_FW).toNat], none⟩ u := by
  subst ht hu
  simp only [execPatchRestartDone, ho, hp]
  exact if_pos ⟨hc, congrArg (!·) hw⟩

end

/-- Settles O56: a chunk by its place and its length, the activation by what it waits for. -/
theorem firmwarePatch : Obligations.FirmwarePatch := by
  unfold Obligations.FirmwarePatch
  refine fun c s t => ⟨fun old b h ht h0 h1 hb0 hb1 => ⟨fun hbad => ?_, fun hw => ⟨fun hc hl => ?_, fun hc hl => ?_,
      fun hc hl => ⟨fun hk => ?_, fun code hk => ?_⟩⟩⟩,
    fun h ht => ⟨fun hc => ?_, fun hc hb => ?_, fun p hc hp hv hr hw => ?_⟩, fun hp h => ?_, fun hp o p u ho hpat hc hw ht hu => ?_⟩
  · subst ht
    exact exec_admits h rfl (fwPatchLoad_refused (o := issued .fwPatchLoad c s) rfl h0 h1 hbad)
  · subst ht
    exact exec_admits h rfl ((fwPatchLoad_chunk (o := issued .fwPatchLoad c s) (last := false) rfl h0 h1 hw hb0 hb1 hc).trans
      (patchChunk_more hl))
  · subst ht
    obtain hc | hc := hc
    · exact exec_admits h rfl ((fwPatchLoad_chunk (o := issued .fwPatchLoad c s) (last := false) rfl h0 h1 hw hb0 hb1 hc).trans
        (patchChunk_long hl))
    · exact exec_admits h rfl ((fwPatchLoad_chunk (o := issued .fwPatchLoad c s) (last := true) rfl h0 h1 hw hb0 hb1 hc).trans
        (patchChunk_long hl))
  · subst ht
    exact exec_admits h rfl ((fwPatchLoad_chunk (o := issued .fwPatchLoad c s) (last := true) rfl h0 h1 hw hb0 hb1 hc).trans
      (patchChunk_sound hl hk))
  · subst ht
    exact exec_admits h rfl ((fwPatchLoad_chunk (o := issued .fwPatchLoad c s) (last := true) rfl h0 h1 hw hb0 hb1 hc).trans
      (patchChunk_unsound hl hk))
  · subst ht
    exact exec_admits h rfl (fwPatchActivate_undefined (o := issued .fwPatchActivate c s) rfl hc)
  · subst ht
    exact exec_admits h rfl (fwPatchActivate_busy (o := issued .fwPatchActivate c s) rfl hc hb)
  · subst ht
    exact exec_admits_later h rfl (fwPatchActivate_goes (o := issued .fwPatchActivate c s) rfl hc hp hv hr hw)
  · exact exec_runs hp rfl (patchRestart_idle h)
  · exact exec_runs hp rfl (patchRestart_answers ho hpat hc hw ht hu)

/-! ### REF and the clock gates -/

section
variable {s t u : State} {v : Word}

theorem refLoss_again (h : s.bit CKU_STAT_BACKUP = true) : execRefLoss s = s := if_pos h

theorem refRestore_goes (h : s.bit CKU_STAT_BACKUP = true) : execRefRestore s = (s.wr CKU_STAT_REF_OK 1).wr CKU_STAT_BACKUP 0 := if_pos h

theorem refRestore_idle (h : s.bit CKU_STAT_BACKUP = false) : execRefRestore s = s := if_neg (by rw [h]; exact Bool.false_ne_true)

theorem refLoss_goes {down : Nat → State → State} (hd : down = fun p u => if u.rd (HLx_STAT_UNIT p) = 0 then u else linkDown p 5 u)
    (h : s.bit CKU_STAT_BACKUP = false) (ht : t = ((s.wr CKU_STAT_REF_OK 0).wr CKU_STAT_BACKUP 1).bump CKU_STAT_REF_LOSSES) :
    execRefLoss s = down 1 (down 0 t) := by
  subst ht
  rw [execRefLoss, if_neg (by rw [h]; exact Bool.false_ne_true), ← hd, forN_two]

/-- A user of a domain that a write of CKU_GATE would stop. -/
def gateUsed (v : Nat) (s : State) : Bool :=
  (decide (v % 2 = 1) && !s.bit CKU_GATE_CMP && (decide (s.rd DEV_LADDER_RUNG ≤ 1) || commitAhead s))
    || (decide (v / 2 % 2 = 1) && !s.bit CKU_GATE_SMEM && (surfaceUsed s || s.bit SMEM_STAT_TRAINING))
    || (decide (v / 4 % 2 = 1) && !s.bit CKU_GATE_ADCP && (List.range 8).any (sqOnPair s))

/-- The gates stored, with what the stop of CMP abandons. -/
def gateStored (v : Word) (s : State) : State :=
  if decide (v.toNat % 2 = 1) && !s.bit CKU_GATE_CMP then abandonComp (s.wrWord CKU_GATE v) else s.wrWord CKU_GATE v

theorem gateWrite_eq : gateWrite v.toNat s = if gateUsed v.toNat s then (s, .busy)
    else (if decide (v.toNat / 2 % 2 = 1) && !s.bit CKU_GATE_SMEM then (gateStored v s).wr SMEM_STAT_SR 1 else gateStored v s, .ok) := by
  have hv : BitVec.ofNat 32 v.toNat = v := by rw [BitVec.ofNat_toNat, BitVec.setWidth_eq]
  simp only [gateWrite, hv]
  rfl

theorem gate_row : execCkuGateWrite v s = answered (gateWrite v.toNat s) := by
  have hh : regHook CKU_GATE v 0xFFFFFFFF#32 s = gateWrite v.toNat s := (regHook_cku (by decide)).trans (if_pos rfl)
  refine writeWord_open (by decide) hh ?_
  rw [gateWrite_eq]
  split
  · exact .inr rfl
  · exact .inl rfl

theorem gate_busy (h : gateUsed v.toNat s = true) : execCkuGateWrite v s = answered (s, .busy) := by
  rw [gate_row, gateWrite_eq, if_pos h]

theorem gateUsed_smem (hv : v.toNat / 2 % 2 = 1) (hg : s.bit CKU_GATE_SMEM = false)
    (h : surfaceUsed s = true ∨ s.bit SMEM_STAT_TRAINING = true) : gateUsed v.toNat s = true := by
  rw [gateUsed, decide_eq_true hv, hg, Bool.or_eq_true_iff.mpr h]
  simp

theorem gateUsed_cmp (hv : v.toNat % 2 = 1) (hg : s.bit CKU_GATE_CMP = false)
    (h : s.rd DEV_LADDER_RUNG ≤ 1 ∨ commitAhead s = true) : gateUsed v.toNat s = true := by
  rw [gateUsed, decide_eq_true hv, hg, Bool.or_eq_true_iff.mpr (h.imp_left decide_eq_true)]
  simp

theorem gateUsed_adcp {n : Nat} (hn : n < 8) (hv : v.toNat / 4 % 2 = 1) (hg : s.bit CKU_GATE_ADCP = false) (h : sqOnPair s n = true) :
    gateUsed v.toNat s = true := by
  have ha : (List.range 8).any (sqOnPair s) = true := List.any_eq_true.mpr ⟨n, List.mem_range.mpr hn, h⟩
  rw [gateUsed, decide_eq_true hv, hg, ha]
  simp

/-- A gate bit is set that was clear. -/
theorem stops_iff {k : Nat} {f : Fld} : (decide (k = 1) && !s.bit f) = true ↔ k = 1 ∧ s.bit f = false := by
  rw [Bool.and_eq_true, decide_eq_true_iff, Bool.not_eq_true']

theorem gateUsed_none (hc : v.toNat % 2 = 1 → s.bit CKU_GATE_CMP = false → 1 < s.rd DEV_LADDER_RUNG ∧ commitAhead s = false)
    (hm : v.toNat / 2 % 2 = 1 → s.bit CKU_GATE_SMEM = false → surfaceUsed s = false ∧ s.bit SMEM_STAT_TRAINING = false)
    (ha : v.toNat / 4 % 2 = 1 → s.bit CKU_GATE_ADCP = false → ∀ n < 8, sqOnPair s n = false) : gateUsed v.toNat s = false := by
  refine Bool.eq_false_iff.mpr fun h => ?_
  obtain h | h := Bool.or_eq_true_iff.mp h
  · obtain h | h := Bool.or_eq_true_iff.mp h
    · obtain ⟨h1, h2⟩ := Bool.and_eq_true_iff.mp h
      obtain ⟨hr, hq⟩ := hc (stops_iff.mp h1).1 (stops_iff.mp h1).2
      rw [hq, decide_eq_false (Nat.not_le.mpr hr)] at h2
      exact Bool.false_ne_true h2
    · obtain ⟨h1, h2⟩ := Bool.and_eq_true_iff.mp h
      obtain ⟨hr, hq⟩ := hm (stops_iff.mp h1).1 (stops_iff.mp h1).2
      rw [hr, hq] at h2
      exact Bool.false_ne_true h2
  · obtain ⟨h1, h2⟩ := Bool.and_eq_true_iff.mp h
    obtain ⟨n, hn, hq⟩ := List.any_eq_true.mp h2
    exact Bool.false_ne_true ((ha (stops_iff.mp h1).1 (stops_iff.mp h1).2 n (List.mem_range.mp hn)).symm.trans hq)

/-- The gates are stored, where no domain that stops has users. -/
theorem gate_stored (hn : gateUsed v.toNat s = false)
    (h1 : v.toNat % 2 = 1 → s.bit CKU_GATE_CMP = false → u = abandonComp (s.wrWord CKU_GATE v))
    (h0 : v.toNat % 2 = 0 ∨ s.bit CKU_GATE_CMP = true → u = s.wrWord CKU_GATE v) :
    execCkuGateWrite v s
      = answered (if decide (v.toNat / 2 % 2 = 1) && !s.bit CKU_GATE_SMEM then u.wr SMEM_STAT_SR 1 else u, .ok) := by
  have hu : gateStored v s = u := by
    rw [gateStored]
    split
    · obtain ⟨hv, hg⟩ := stops_iff.mp ‹_›
      exact (h1 hv hg).symm
    · refine (h0 ?_).symm
      have hs : ¬ (v.toNat % 2 = 1 ∧ s.bit CKU_GATE_CMP = false) := fun h => ‹¬ _› (stops_iff.mpr h)
      cases hg : s.bit CKU_GATE_CMP
      · exact .inl (Nat.mod_two_ne_one.mp fun h => hs ⟨h, hg⟩)
      · exact .inr rfl
  rw [gate_row, gateWrite_eq, hn, if_neg Bool.false_ne_true, hu]

/-! ### Measurements -/

theorem rangeOk_meas : rangeOk CKU_MEAS v = decide (v.toNat / 2 ^ 28 < 12) := by
  have hd : fv v CKU_MEAS_DOMAIN = v.toNat / 2 ^ 28 := by
    have hlt := v.isLt
    change v.toNat / 2 ^ 28 % 2 ^ 4 = v.toNat / 2 ^ 28
    omega
  have he : rangeOk CKU_MEAS v = (decide (0 ≤ fv v CKU_MEAS_DOMAIN ∧ fv v CKU_MEAS_DOMAIN ≤ 11) && true && true) := rfl
  rw [he, hd, Bool.and_true, Bool.and_true]
  exact decide_eq_decide.mpr (by omega)

/-- What a write of CKU_MEAS comes to. -/
theorem meas_row : execCkuMeasWrite v s = answered (measWrite v.toNat s) := by
  obtain ⟨r, hi, hrw, hc⟩ : ∃ r, regInfo CKU_MEAS = some r ∧ r.acc = .rw ∧ r.cmask = 0 := ⟨_, rfl, rfl, rfl⟩
  have hh : regHook CKU_MEAS v 0xFFFFFFFF#32 s = measWrite v.toNat s :=
    (regHook_cku (by decide)).trans ((if_neg (by decide)).trans ((if_pos rfl).trans (if_pos (by decide))))
  have hb : blockOff s CKU_MEAS = false := blockOff_elsewhere (by decide) (by decide)
  have hclr : cntClr CKU_MEAS v 0xFFFFFFFF#32 s = s := rfl
  have hden : layerDenied none CKU_MEAS = false := rfl
  have htrim : trimBusy CKU_MEAS s = false := rfl
  have hmod : v.toNat / 2 ^ 28 % 16 = v.toNat / 2 ^ 28 := Nat.mod_eq_of_lt (by have := v.isLt; omega)
  refine congrArg answered ?_
  rw [regWrite_reg (by decide) (by decide) (by decide) (by decide) hi hb, allBits, regApply, hden, hrw, rangeOk_meas, htrim, hclr, hh]
  by_cases h : v.toNat / 2 ^ 28 < 12
  · have hw : measWrite v.toNat s = (s.wr CKU_MEAS_DOMAIN (v.toNat / 2 ^ 28), .ok) := by
      rw [measWrite, hmod, if_neg (Nat.not_le.mpr h)]
    rw [hw, decide_eq_true h]
    simp only [hc, reduceCtorEq, Bool.false_eq_true, false_and, if_false, Bool.not_true, if_true]
    rfl
  · have hw : measWrite v.toNat s = (s, .badParam) := by
      rw [measWrite, hmod, if_pos (Nat.not_lt.mp h)]
    rw [hw, decide_eq_false h]
    rfl

theorem meas_unnamed (h : 12 ≤ v.toNat / 2 ^ 28) : execCkuMeasWrite v s = answered (s, .badParam) := by
  have hmod : v.toNat / 2 ^ 28 % 16 = v.toNat / 2 ^ 28 := Nat.mod_eq_of_lt (by have := v.isLt; omega)
  rw [meas_row, measWrite, hmod, if_pos h]

theorem meas_starts (h : v.toNat / 2 ^ 28 < 12) : execCkuMeasWrite v s = answered (s.wr CKU_MEAS_DOMAIN (v.toNat / 2 ^ 28), .ok) := by
  have hmod : v.toNat / 2 ^ 28 % 16 = v.toNat / 2 ^ 28 := Nat.mod_eq_of_lt (by have := v.isLt; omega)
  rw [meas_row, measWrite, hmod, if_neg (Nat.not_le.mpr h)]

theorem measStopped_iff {d : Nat} (hd : d = s.rd CKU_MEAS_DOMAIN) :
    measStopped s = true ↔ d = 0 ∨ (d = 6 ∧ cmpOff s = true) ∨ (d = 8 ∧ smemOff s = true) := by
  subst hd
  simp only [measStopped, Bool.or_eq_true, Bool.and_eq_true, decide_eq_true_eq, or_assoc]

theorem measDone_stopped {f : BitVec 18} (h : measStopped s = true) : execCkuMeasDone f s = s.wr CKU_MEAS_FREQ 0 := by
  rw [execCkuMeasDone, if_pos h]

theorem measDone_found {f : BitVec 18} (h : measStopped s = false) : execCkuMeasDone f s = s.wr CKU_MEAS_FREQ f.toNat := by
  rw [execCkuMeasDone, h, if_neg Bool.false_ne_true]

end

/-- Settles O57: REF by the oscillator that runs, the gates by the users of what they stop, measurements by the domain. -/
theorem clocks : Obligations.Clocks := by
  unfold Obligations.Clocks
  refine fun s t hp => ⟨fun h => ⟨?_, ?_⟩, fun h => ?_, fun down hd h ht => ?_,
    fun v => ⟨fun hv hg h => ?_, fun hv hg h => ?_, fun n hn hv hg h => ?_, fun u hc hm ha h1 h0 => ⟨fun hv hg => ?_, fun hv => ?_⟩,
      fun h => ?_, fun h => ?_⟩, fun f d hd => ⟨fun h => ?_, fun hn h6 h8 => ?_⟩⟩
  · exact exec_runs hp rfl (refLoss_again h)
  · exact exec_runs hp rfl (refRestore_goes h)
  · exact exec_runs hp rfl (refRestore_idle h)
  · exact exec_runs hp rfl (refLoss_goes hd h ht)
  · exact exec_runs hp rfl (gate_busy (gateUsed_smem hv hg h))
  · exact exec_runs hp rfl (gate_busy (gateUsed_cmp hv hg h))
  · exact exec_runs hp rfl (gate_busy (gateUsed_adcp hn hv hg h))
  · refine exec_runs hp rfl ((gate_stored (gateUsed_none hc hm ha) h1 h0).trans ?_)
    rw [if_pos (stops_iff.mpr ⟨hv, hg⟩)]
  · refine exec_runs hp rfl ((gate_stored (gateUsed_none hc hm ha) h1 h0).trans ?_)
    rw [if_neg]
    intro hs
    obtain ⟨h2, hg⟩ := stops_iff.mp hs
    obtain hv | hv := hv
    · exact absurd (hv.symm.trans h2) (by decide)
    · exact Bool.false_ne_true (hg.symm.trans hv)
  · exact exec_runs hp rfl (meas_unnamed h)
  · exact exec_runs hp rfl (meas_starts h)
  · exact exec_runs hp rfl (measDone_stopped ((measStopped_iff hd).mpr h))
  · refine exec_runs hp rfl (measDone_found (Bool.eq_false_iff.mpr fun h => ?_))
    obtain h | ⟨h, hoff⟩ | ⟨h, hoff⟩ := (measStopped_iff hd).mp h
    · exact hn h
    · exact Bool.false_ne_true ((h6 h).symm.trans hoff)
    · exact Bool.false_ne_true ((h8 h).symm.trans hoff)

end Sys2Proof.Machine
end

section
/-!
PROOF. Runs, windows, groups and the events of the rail complete with their own effect.
-/
namespace Sys2Proof.Machine

/-! ### Cases of the units' lemmas -/

section
variable {s t u v : State}

theorem tempMeasure_one {o : Outst} {c : Cmd} (ho : o.cmd = c) (h : c.p0 < 72) (hc : winOpenAt t c.p0 = false) :
    tempMeasure o t
      = answerLater (holdCmd o (openWins true [c.p0] { t with thm := { t.thm with waits := t.thm.waits ++ [⟨o, [(c.p0, 1)]⟩] } })) := by
  have hs : sensorsOf c.p0 = [c.p0] := if_neg (by omega)
  have he := tempMeasure_closed (t := t) (k := c.p0) ho rfl (.inl h)
    (by rw [hs]; exact fun i hi => List.mem_singleton.mp hi ▸ hc) rfl
  rw [hs] at he
  exact he

/-- The selected reference has no result. -/
theorem xchkEnd_noReference {counts : List (Fin 72 × BitVec 20)} (h : s.rd THM_STAT_XCHK_RESULT = 1)
    (h1 : strictMono ((ntcPoints s).map (fun x => x.1)) = true) (h2 : strictMono ((ntcPoints s).map (fun x => x.2)) = true)
    (hn : s.rdAct THM_XCHK_CFG_NTC_SEL = 1) (hg : storeGet false s.thm.ntcGot 0 = false) : execXchkEnd counts s = xchkResult 6 s := by
  have hsel : xchkSel s = [0] := by
    rw [xchkSel, hn]
    decide
  have hgot : xchkGot s = [] := by
    rw [xchkGot, hsel, List.filter_cons_of_neg (by rw [hg]; exact Bool.false_ne_true), List.filter_nil]
  refine xchkEnd_missing h ?_ ?_
  · rw [xchkCurve_of h1 h2, xchkTemps, hgot]
    exact Bool.false_ne_true
  · rw [hgot, hsel]
    exact Nat.zero_lt_one

theorem readErrs_clean {a k : Nat} (hb : s.smem.bad = []) : readErrs [] a k s = [] := by
  rw [readErrs, hb]
  rfl

/-- A MEM run over surface memory without an uncorrectable word. -/
theorem crcMemRunEnd_clean {m : Fin 3} {o : Outst} (h : storeGet none s.integ.memRuns m.val = some o) (hs : inSurface (o.cmd.w 1) = true)
    (hb : s.smem.bad = []) (hu : u = setMemRun m.val none s) (hv : v = unitFeed m.val (memBytes s (o.cmd.w 1) (o.cmd.w 2)) u) :
    execCrcMemRunEnd m [] s
      = finish o ⟨.ok, [unitResult v m.val], none⟩ { v with freeCtr := v.freeCtr + (o.cmd.w 2 + 7) / 4 } := by
  refine crcMemRunEnd_answers (mine := []) (u := u) h rfl rfl ?_ ?_ rfl hv
  · rw [hs, if_pos rfl, readErrs_clean hb]
  · rw [noteErrs_nil, fbRegionUe_nil, hu]

/-- A bind that stays off, of channels without an open transfer. -/
theorem crcBind_off {k : Nat} {x : Word} (hk : k < 3) (hb : unitBusy s k = false) (h31 : x.toNat < 2 ^ 31) (h255 : x.toNat % 256 ≠ 255)
    (hq : chanBusy s (x.toNat % 256) = false) (hen : s.bit (CRC_Un_BIND_EN k) = false) :
    crcBindWrite k x.toNat s = (s.wrWord (CRC_Un_BIND k) x, .ok) := by
  refine (crcBind_goes hk hb rfl h255 hq (fun h => absurd (hen.symm.trans h) Bool.false_ne_true)
    (fun h => absurd h31 (Nat.not_lt.mpr h)) rfl).trans ?_
  rw [decide_eq_false (Nat.not_le.mpr h31), Bool.false_and, if_neg Bool.false_ne_true]

/-- The active core's group, without a group of the other core or one that waits. -/
theorem writeGroup_alone {core : Fin 2} {e : BitVec 15} {j : Word} {ws : List RegWrite} {r : Option Reply}
    (he : e.toNat = s.rd CCX_STAT_CEPOCH) (ha : core.val = activeCore s) (h4 : coreState s (1 - activeCore s) ≠ 4)
    (hs : s.ccx.standins = []) (hw : s.ccx.grpWait = []) :
    execWriteGroupApply core e j ws r s = drainWait (applyGroup ⟨j.toNat, ws, r⟩ s) := by
  have hn : twinIn j.toNat s.ccx.standins = none := by
    rw [hs]
    rfl
  have hm : mustWait ⟨j.toNat, ws, r⟩ s = false := by
    rw [mustWait, hs, hw]
    rfl
  exact (writeGroup_active rfl he ha).trans (endActive_applies ((meetTwin_none hn).trans (if_neg h4)) hm)

end

/-! ### The obligation -/

/-- Settles O58: each clause is the case of the unit's own lemma that its conditions select. -/
theorem ownEffects : Obligations.OwnEffects := by
  unfold Obligations.OwnEffects
  intro s hp
  refine ⟨?_, ?_, ?_, ?_, ?_, ?_, ?_, ?_, ?_, ?_, ?_, ?_, ?_, ?_, ?_, ?_, ?_, ?_, ?_, ?_, ?_, ?_, ?_, ?_, ?_, ?_, ?_, ?_, ?_, ?_, ?_, ?_,
    ?_, ?_, ?_, ?_⟩
  · intro c t h ht hc hw
    subst ht
    exact exec_admits_later h rfl (tempMeasure_one (o := issued .tempMeasure c s) rfl hc hw)
  · exact fun h => exec_runs hp rfl (if_pos h)
  · exact fun k n hw hx => exec_runs hp rfl (thmConversion_one hw hx)
  · exact fun hs h hc => exec_runs hp rfl (xchkRun_row hs (xchkRun_closed h hc rfl))
  · exact fun counts h h1 h2 hn hg => exec_runs hp rfl (xchkEnd_noReference h h1 h2 hn hg)
  · exact fun n mask tie => exec_runs hp rfl (thmBrokenClear_row n mask tie)
  · intro c t h ht hc hu
    subst ht
    exact exec_admits h rfl (calRun_starts (o := issued .calRun c s) rfl hc rfl hu)
  · intro c t h ht hc
    subst ht
    exact exec_admits h rfl (calRead_record (o := issued .calRead c s) rfl hc rfl)
  · intro c t ws u h ht hw hc hu hl hr hv
    subst ht
    exact exec_admits h rfl (calWrite_takes (o := issued .calWrite c s) rfl hc hu hw hl hr hv)
  · exact fun p m0 m1 hu hl h0 => exec_runs hp rfl ((laneMeasure_runs rfl (calRuns_iff.mpr (.inr hu)) h0 (if_pos hl).symm).trans
      (if_neg (by decide)))
  · intro a b hu hi
    have hn : 5 ≤ convNext (skewStep a b (setCalRun 6 { calRunOf s 6 with pos := 4 } s))
        (calRunOf (skewStep a b (setCalRun 6 { calRunOf s 6 with pos := 4 } s)) 6).pos := by
      rw [skewStep_pos, calRunOf_setCalRun, convNext_end (Nat.le_refl 5)]
    exact exec_runs hp rfl ((converterSet_skew (calRuns_iff.mpr (.inr hu)) hi.symm).trans (by rw [if_pos rfl, converterEnd_done hn]))
  · exact fun f hu => exec_runs hp rfl (calTimeout_stops (calRuns_iff.mpr (.inr hu)))
  · exact fun f h3 hw => exec_runs hp rfl (calRunOff_goes h3 hw)
  · intro c t h ht hc hbind hrun
    subst ht
    have hb : ((admitted .crcRun c s).bit (CRC_Un_BIND_EN c.p0) || memRunning (admitted .crcRun c s) c.p0) = false := by
      rw [hbind, hrun]
      rfl
    exact exec_admits h rfl (crcRun_init (o := issued .crcRun c s) rfl hc hb rfl)
  · exact fun m o u v h hs hb hu hv => exec_runs hp rfl (crcMemRunEnd_clean h hs hb hu hv)
  · exact fun n v t h3 hb ht => exec_runs hp rfl ((crcCfg_row h3).trans (congrArg answered (crcCfg_goes h3 hb ht)))
  · exact fun n v h3 hb hv => exec_runs hp rfl ((crcValue_row h3).trans (congrArg answered (crcValue_goes h3 hb hv)))
  · exact fun n v h3 hb h31 h255 hq hen => exec_runs hp rfl ((crcBind_row h3).trans
      (congrArg answered (crcBind_off h3 hb h31 h255 hq hen)))
  · exact fun core e j ws r he ha h4 hn => exec_runs hp rfl ((writeGroup_standby rfl he ha h4).trans (endStandin_kept hn))
  · exact fun core e j ws r he ha h4 hs hw => exec_runs hp rfl (writeGroup_alone he ha h4 hs hw)
  · intro body l k t hw h0 hl hj hc hk ht
    exact exec_runs hp rfl (checkpointCommit_goes hw h0.symm hl hk ht rfl hj hc)
  · intro core m t u h h2 ha hr hh ht hu
    refine exec_runs hp rfl (basteStart_loads h h2 ha hr hh ht (hu.trans ?_))
    rw [ht, State.wr_ccx, State.wr_ccx, State.wr_ccx]
  · exact fun core h3 h1 => exec_runs hp rfl (basteJoin_joins h3 h1)
  · exact exec_runs hp rfl rfl
  · exact fun k since h1 h2 => exec_runs hp rfl (crossing_rise h1 h2)
  · exact fun k t f h1 h2 hf hr ht hff => (phaseTrip hp h1 h2 hf ht rfl hff).1 hr
  · exact fun k h1 h2 => exec_runs hp rfl (persist_stops h1 h2 rfl)
  · intro ha hu hs hn hr
    refine exec_runs hp rfl ((autoStart_eq rfl).trans (if_pos ⟨ha, hu, hs, congrArg (!·) hn, ?_⟩))
    rw [decide_eq_true hr, Bool.true_and]
  · exact fun x hx hu hq hr hn => exec_runs hp rfl (railOn_goes hx hu hq hr hn)
  · exact fun h => exec_runs hp rfl (if_pos h)
  · intro f hu hs ho hn hf
    obtain ⟨hpend, _⟩ := stopComplete_kept (v := _) rfl (fun h => absurd (ho.symm.trans h) Bool.false_ne_true) (fun _ => rfl) rfl rfl
    refine exec_runs hp rfl ((stopComplete_eq hu hs hf rfl (fun h => absurd (ho.symm.trans h) Bool.false_ne_true)
      fun _ => rfl).trans ((unitOff_eq rfl rfl).trans (if_neg ?_)))
    exact fun h => Bool.false_ne_true (hn.symm.trans (hpend.symm.trans h))
  · intro b k hb hr hc hk ho hl hf hu
    have hk1 : k ≤ 1 := hb ▸ boolNat_le b
    obtain ⟨hlost, hfrozen⟩ := senseOk_bits hk
    exact ⟨fun h => exec_runs hp rfl ((senseLost_goes hb hr h (.inl hlost)).trans
        (senseFails_switches (fr := false) hk1 rfl hc ho hl hf hu hk)),
      fun h => exec_runs hp rfl ((senseFrozen_goes hb hr h (.inl hfrozen)).trans
        (senseFails_switches (fr := true) hk1 rfl hc ho hl hf hu hk))⟩
  · exact fun hn hd => exec_runs hp rfl (loopIntSat_reports hn hd)
  · exact fun b k t hb hr hk hn ho ht => exec_runs hp rfl (railOv_trips hb hr hk hn ho ht)
  · exact fun hu hn hd => exec_runs hp rfl (railUv_reports hu hn hd)
  · exact fun h hr => exec_runs hp rfl (holdExpiry_ends h hr)

end Sys2Proof.Machine
end
